-- ==== Sys2Proof/Word.lean ====
section
/-! DEFINITION. The words of the LC-16's lines: bytes, pin sets, and characters of a port line. -/

namespace Sys2Proof

/-- One byte on a port line (R185: 8 data bits). -/
abbrev Byte := BitVec 8

/-- A pin set (00_scope, Pin sets): bit k − 1 stands for pin k, pins 1 to 10. -/
abbrev PinSet := BitVec 10

/-- A set of attention flags or a mask, bits as the layout of R197 numbers them. -/
abbrev FlagSet := BitVec 9

end Sys2Proof
end

