-- ==== Sys2Proof/Config.lean ====
section
/-! DEFINITION. The names the manual gives to values: ports, modes, states, causes, kinds, outcomes.
Each inductive lists its names in the order of the table or list of the rule that defines them, since the
position of a name there is its byte on a line (R197, encodings). No free value is needed (INVENTORY.md). -/

namespace Sys2Proof

/-- A port (00_scope, The parties). Console port Cn serves pair n; pairs are counted from 0 here. -/
inductive Port where
  | dk
  | mc
  | console (pair : Fin 8)
deriving DecidableEq, Repr

/-- The lane of a pair: the odd (left) or the even (right) one. -/
inductive Side where
  | odd
  | even
deriving DecidableEq, Repr

/-- The outcome of a reply (R188). -/
inductive ReplyOutcome where
  | ok | woke | frame | unknown | denied | range | state | empty | full | busy
deriving DecidableEq, Repr

/-- Session state (R1). -/
inductive SessionState where
  | closed | opened | closing | parked
deriving DecidableEq, Repr

/-- Park cause (R1). -/
inductive ParkCause where
  | none | desk | console | noCredit
deriving DecidableEq, Repr

/-- Closing reason (R1). -/
inductive ClosingReason where
  | none | noCredit
deriving DecidableEq, Repr

/-- Lane light (R1, R16). -/
inductive Light where
  | off | dim | full
deriving DecidableEq, Repr

/-- A wake mask (R1): any combination of the four conditions. -/
structure WakeMask where
  credit : Bool
  ball : Bool
  console : Bool
  band : Bool
deriving DecidableEq, Repr

/-- The empty wake mask. -/
def WakeMask.empty : WakeMask := ⟨false, false, false, false⟩

/-- Pinsetter state (R21). -/
inductive PsState where
  | off | warming | ready | cycling | handSet | fault | lockout
deriving DecidableEq, Repr

/-- Kind of cycle (R21). -/
inductive CycleKind where
  | first | final
deriving DecidableEq, Repr

/-- Phase of a cycle (R21). -/
inductive CyclePhase where
  | beforeRead | afterRead
deriving DecidableEq, Repr

/-- Origin of a cycle (R21). -/
inductive CycleOrigin where
  | ball | followOn | manual | wake | reball
deriving DecidableEq, Repr

/-- Fault reason (R21, R33). -/
inductive FaultReason where
  | jam | timeout | noRead
deriving DecidableEq, Repr

/-- Step a delivery has reached (R22). -/
inductive DeliveryStep where
  | awaitingDeck | awaitingRead
deriving DecidableEq, Repr

/-- Class of a delivery, fixed at DECK (R22). -/
inductive DeliveryClass where
  | scored | practice | early | unscored | unpaid
deriving DecidableEq, Repr

/-- A tone of the lane horn (R43). -/
inductive Tone where
  | foul | call
deriving DecidableEq, Repr

/-- Lamp mode (R43). -/
inductive LampMode where
  | off | steady | flash
deriving DecidableEq, Repr

/-- Lift state (R46). -/
inductive LiftState where
  | off | running | fullPause | stall
deriving DecidableEq, Repr

/-- Roster slot state (R65). -/
inductive SlotState where
  | empty | queued | up | done
deriving DecidableEq, Repr

/-- Game stage (R64). -/
inductive GameStage where
  | waiting | started | inProgress
deriving DecidableEq, Repr

/-- Handicap field of a slot (R64): absent, PENDING, or a value 0 to 300. -/
inductive Handicap where
  | absent
  | pending
  | value (n : Nat)
deriving DecidableEq, Repr

/-- Average source (R64). -/
inductive AverageSource where
  | entry | range | none | pending
deriving DecidableEq, Repr

/-- Fetch field (R64). -/
inductive FetchState where
  | none | requested | deferred
deriving DecidableEq, Repr

/-- Pair mode (R66). -/
inductive PairMode where
  | opened | alternate
deriving DecidableEq, Repr

/-- Rack of a ball (R86, R90). -/
inductive Rack where
  | fresh | standing
deriving DecidableEq, Repr

/-- Kind of a frame (R87). -/
inductive FrameKind where
  | incomplete | strike | spare | opened
deriving DecidableEq, Repr

/-- Kind of a session's meter (R156). -/
inductive MeterKind where
  | games | time
deriving DecidableEq, Repr

/-- Mode of a session's meter (R156). -/
inductive MeterMode where
  | prepaid | tab
deriving DecidableEq, Repr

/-- Phase of a meter (R156, R158). -/
inductive MeterPhase where
  | front | metered | back
deriving DecidableEq, Repr

/-- A declined charge (R156). -/
inductive Declined where
  | game | unit
deriving DecidableEq, Repr

/-- Reason of a mechanic call (R170). -/
inductive CallReason where
  | pinsetterFault | returnOverdue | liftStall | handSet | bowlerCall
deriving DecidableEq, Repr

/-- Reason of a refused correction (R121). -/
inductive RefuseReason where
  | notFound | notSubset | shape | conflict
deriving DecidableEq, Repr

/-- Outcome field of a slip (R170). -/
inductive SlipOutcome where
  | none
  | granted
  | declined
  | applied
  | refused (why : RefuseReason)
deriving DecidableEq, Repr

/-- Origin of a slip (R170): the port that took it, or PART. -/
inductive Origin where
  | port (p : Port)
  | part
deriving DecidableEq, Repr

/-- State of a slip (R170). -/
inductive SlipState where
  | free
  | held (p : Port)
  | posted (p : Port)
deriving DecidableEq, Repr

/-- Last link error (R192). -/
inductive LinkError where
  | none | truncated | overrun
deriving DecidableEq, Repr

/-- What the configuration memory did with a store (R201): it took the whole image, it did not answer and
the image is as it was, or it did not answer and the image is left failing its check. -/
inductive StoreResult where
  | written | untouched | spoiled
deriving DecidableEq, Repr

/-- Event flags of the desk port, R193; the constructor's bit is `DkFlag.bit`. -/
inductive DkFlag where
  | laneClosing | laneParked | unpaidDelivery | settingsDefaulted | storeDone | signal
deriving DecidableEq, Repr

/-- Event flags of the mechanic port (R193). -/
inductive McFlag where
  | pinsetterFault | returnOverdue | returnRecovered | returnWriteOff | liftStall | backlogFull | signal
deriving DecidableEq, Repr

/-- Event flags of a console port (R193). -/
inductive ConsoleFlag where
  | frameChanged | turnChanged | laneStateChanged | foul | earlyBall | signal
deriving DecidableEq, Repr

/-- One character received on a port line: its eight data bits, and whether its stop bit was found in the
mark condition (R185). -/
structure LineChar where
  data : Byte
  stopOk : Bool
deriving DecidableEq, Repr

end Sys2Proof
end

