-- ==== Sys2Proof/Syntax.lean ====
section
/-! DEFINITION. The commands of the LC-16: one constructor per row of spec/opcode_table.json, in the table's
order. A request carries the port it is sent at and its parameters as the line carries them, in the order its
rule lists them (R197); `Option` is a value that may be absent. A lane, pair or other named number of a
request is the number on the line (1 to 16, 1 to 8, …), so that a request out of range is a request too.
An event of the machinery names its lane or pair by index, counted from 0: no other lane has a sensor. -/

namespace Sys2Proof

/-- The commands. -/
inductive Instr where
  /-- R3. -/
  | openLane (p : Port) (lane kind mode credit cls : Nat)
  /-- R4. -/
  | closeLane (p : Port) (lane : Nat)
  /-- R8. -/
  | parkLane (p : Port) (lane mask : Nat)
  /-- R14. -/
  | resumeLane (p : Port) (lane : Nat)
  /-- R17. -/
  | setLaneSettings (p : Port) (scope lane : Nat) (cls foul mask lamps : Option Nat)
  /-- R191. -/
  | readLaneStatus (p : Port) (lane : Nat)
  /-- R191. -/
  | readLaneSummary (p : Port)
  /-- R38. -/
  | lockout (p : Port) (lane : Nat)
  /-- R39. -/
  | unlock (p : Port) (lane : Nat)
  /-- R40. -/
  | manualCycle (p : Port) (lane kind : Nat)
  /-- R37. -/
  | clearFault (p : Port) (lane choice : Nat)
  /-- R36. -/
  | pinsSet (p : Port) (lane : Nat)
  /-- R41. -/
  | setPinsetterTimers (p : Port) (warmUp cycle travel window : Option Nat)
  /-- R62. -/
  | readReturn (p : Port) (pair : Nat)
  /-- R54. -/
  | clearOverdue (p : Port) (pair lane : Nat)
  /-- R59. -/
  | liftRestart (p : Port) (pair : Nat)
  /-- R61. -/
  | setReturnSettings (p : Port) (timeout idle : Option Nat)
  /-- R67. -/
  | addBowler (p : Port) (pair slot number : Nat)
  /-- R68. -/
  | removeBowler (p : Port) (pair slot : Nat)
  /-- R69. -/
  | away (p : Port) (pair slot : Nat)
  /-- R70. -/
  | back (p : Port) (pair slot : Nat)
  /-- R71. -/
  | setPairMode (p : Port) (pair mode : Nat)
  /-- R83. -/
  | setPairSettings (p : Port) (pair : Nat) (games base percent cap : Option Nat)
  /-- R82. -/
  | readRoster (p : Port) (pair : Nat)
  /-- R109. -/
  | readFrameSheet (p : Port) (pair slot game : Nat)
  /-- R115. -/
  | reball (p : Port) (lane : Nat)
  /-- R121. -/
  | applyCorrection (p : Port) (slip : Nat)
  /-- R137. -/
  | supplyBowler (p : Port) (number average : Nat) (override : Option Nat)
  /-- R140. -/
  | unknownBowler (p : Port) (number : Nat)
  /-- R141. -/
  | updateBowler (p : Port) (number average : Nat) (override : Option Nat)
  /-- R142. -/
  | dropBowler (p : Port) (number : Nat)
  /-- R143. -/
  | setRangeEntry (p : Port) (index enabled first last average : Nat)
  /-- R144. -/
  | readBowler (p : Port) (number : Nat)
  /-- R136. -/
  | readFetchQueue (p : Port)
  /-- R149. -/
  | setClock (p : Port) (hour minute second : Nat)
  /-- R152. -/
  | setTariffLayout (p : Port) (dayStart bands length : Nat)
  /-- R153. -/
  | setPrices (p : Port) (cls band : Nat) (game unit : Option Nat)
  /-- R155. -/
  | setBillingSettings (p : Port) (unit front back : Option Nat)
  /-- R154. -/
  | readTariff (p : Port)
  /-- R165. -/
  | addCredit (p : Port) (lane amount : Nat)
  /-- R168. -/
  | readMeter (p : Port) (lane : Nat)
  /-- R174. -/
  | takeSlip (p : Port)
  /-- R175. -/
  | writeSlip (p : Port) (slip kind lane : Nat) (body : List Byte)
  /-- R176. -/
  | postSlip (p : Port) (slip dest : Nat)
  /-- R177. -/
  | fetchSlip (p : Port)
  /-- R178. -/
  | setOutcome (p : Port) (slip outcome : Nat)
  /-- R179. -/
  | returnSlip (p : Port) (slip : Nat)
  /-- R182. -/
  | readSlipPool (p : Port)
  /-- R192. -/
  | readPort (p : Port)
  /-- R194. -/
  | setMask (p : Port) (set : Nat)
  /-- R194. -/
  | clearAttention (p : Port) (set : Nat)
  /-- R195. -/
  | signal (p : Port) (target : Nat)
  /-- R202. -/
  | sectionRestart (p : Port)
  /-- R201. -/
  | storeSettings (p : Port)
  /-- R186: a complete frame that is answered FRAME, echoing `code`. -/
  | badFrame (p : Port) (code : Byte)
  /-- R188: a good frame whose first body byte is no request's code. -/
  | unknownCode (p : Port) (code : Byte)
  /-- R186, R187: the characters received on the line since the last frame ended, the last of them the one
  that completes the frame. -/
  | frameReceived (p : Port) (chars : List LineChar)
  /-- R186: more than 5 ms passes inside a frame. -/
  | frameTruncated (p : Port)
  /-- R187: the check byte of the last reply frame is sent. -/
  | replyEnd (p : Port)
  /-- R196. -/
  | portBreak (p : Port)
  /-- R200: power-up, or RESET is released; the RATE strap and the rack full and overload inputs of the
  eight pairs as they are then (R185, R63), pair n in bit n − 1. -/
  | powerReset (rateHigh : Bool) (rackFull overload : BitVec 8)
  /-- R200: the load ends; whether the configuration memory answered. -/
  | settingsLoadEnd (answers : Bool)
  /-- R201: the write ends; what the configuration memory did. -/
  | storeEnd (result : StoreResult)
  /-- R23. -/
  | release (lane : Fin 16)
  /-- R25. -/
  | deck (lane : Fin 16)
  /-- R42. -/
  | foul (lane : Fin 16)
  /-- R31: the state of the ten sense lines. -/
  | psRead (lane : Fin 16) (sensed : PinSet)
  /-- R34. -/
  | psDone (lane : Fin 16)
  /-- R33. -/
  | psJam (lane : Fin 16)
  /-- R49. -/
  | liftArrive (pair : Fin 8)
  /-- R57. -/
  | rackFullOn (pair : Fin 8)
  /-- R57. -/
  | rackFullOff (pair : Fin 8)
  /-- R58. -/
  | liftOverload (pair : Fin 8)
  /-- R24. -/
  | travelTimeout (lane : Fin 16)
  /-- R33. -/
  | cycleTimeout (lane : Fin 16)
  /-- R30. -/
  | warmUpEnd (lane : Fin 16)
  /-- R42. -/
  | waitingFoulExpiry (lane : Fin 16)
  /-- R43. -/
  | hornEnd (lane : Fin 16)
  /-- R53: the records of one pair, by sequence number, whose age reaches the return timeout at this moment. -/
  | recordOverdue (pair : Fin 8) (seqs : List (BitVec 16))
  /-- R60. -/
  | liftIdleExpiry (pair : Fin 8)
  /-- R151: the clock reaches the first second of the minute that begins band `band`, 1 to 8. -/
  | bandEdge (band : Nat)
  /-- R158. -/
  | frontGraceEnd (lane : Fin 16)
  /-- R162, R161. -/
  | unitEnd (lane : Fin 16)
  /-- R164. -/
  | backGraceExpiry (lane : Fin 16)
  /-- R45. -/
  | liftOverloadLow (pair : Fin 8)
  /-- R200. -/
  | resetAssertedOrPowerLoss
  /-- R196. -/
  | lineReturnsToMark (p : Port)
deriving DecidableEq, Repr

end Sys2Proof
end

