-- ==== Sys2Proof/WellFormed.lean ====
section
/-! DEFINITION. Which commands the outside can send: every parameter of a request fits the bytes R197 gives
it, a frame that is answered FRAME or UNKNOWN is one, and an event of the part's timers names what it says. -/

namespace Sys2Proof

/-- Fits one byte. -/
abbrev fits8 (n : Nat) : Bool := n < 256
/-- Fits two bytes. -/
abbrev fits16 (n : Nat) : Bool := n < 65536
/-- Fits four bytes. -/
abbrev fits32 (n : Nat) : Bool := n < 4294967296
/-- A value that may be absent. -/
def optFits (fits : Nat → Bool) : Option Nat → Bool
  | none => true
  | some n => fits n

/-- The known request codes (R188). -/
abbrev knownCode (code : Byte) : Bool := 0x10 ≤ code.toNat && code.toNat ≤ 0x45

/-- A command the outside can send. -/
def wellFormed : Instr → Bool
  | .openLane _ l k m c cl => fits8 l && fits8 k && fits8 m && fits32 c && fits8 cl
  | .closeLane _ l => fits8 l
  | .parkLane _ l m => fits8 l && fits8 m
  | .resumeLane _ l => fits8 l
  | .setLaneSettings _ sc l c f m p =>
    fits8 sc && fits8 l && optFits fits8 c && optFits fits8 f && optFits fits8 m && optFits fits8 p
  | .readLaneStatus _ l => fits8 l
  | .readLaneSummary _ => true
  | .lockout _ l => fits8 l
  | .unlock _ l => fits8 l
  | .manualCycle _ l k => fits8 l && fits8 k
  | .clearFault _ l c => fits8 l && fits8 c
  | .pinsSet _ l => fits8 l
  | .setPinsetterTimers _ w c t f => optFits fits8 w && optFits fits8 c && optFits fits8 t && optFits fits8 f
  | .readReturn _ p => fits8 p
  | .clearOverdue _ p l => fits8 p && fits8 l
  | .liftRestart _ p => fits8 p
  | .setReturnSettings _ t i => optFits fits8 t && optFits fits16 i
  | .addBowler _ p sl n => fits8 p && fits8 sl && fits16 n
  | .removeBowler _ p sl => fits8 p && fits8 sl
  | .away _ p sl => fits8 p && fits8 sl
  | .back _ p sl => fits8 p && fits8 sl
  | .setPairMode _ p m => fits8 p && fits8 m
  | .setPairSettings _ p g b pc c =>
    fits8 p && optFits fits8 g && optFits fits16 b && optFits fits8 pc && optFits fits16 c
  | .readRoster _ p => fits8 p
  | .readFrameSheet _ p sl g => fits8 p && fits8 sl && fits8 g
  | .reball _ l => fits8 l
  | .applyCorrection _ n => fits8 n
  | .supplyBowler _ n a o => fits16 n && fits16 a && optFits fits16 o
  | .unknownBowler _ n => fits16 n
  | .updateBowler _ n a o => fits16 n && fits16 a && optFits fits16 o
  | .dropBowler _ n => fits16 n
  | .setRangeEntry _ i e f l a => fits8 i && fits8 e && fits16 f && fits16 l && fits16 a
  | .readBowler _ n => fits16 n
  | .readFetchQueue _ => true
  | .setClock _ h m s => fits8 h && fits8 m && fits8 s
  | .setTariffLayout _ d n l => fits16 d && fits8 n && fits16 l
  | .setPrices _ c b g u => fits8 c && fits8 b && optFits fits16 g && optFits fits16 u
  | .setBillingSettings _ u f b => optFits fits16 u && optFits fits16 f && optFits fits16 b
  | .readTariff _ => true
  | .addCredit _ l a => fits8 l && fits32 a
  | .readMeter _ l => fits8 l
  | .takeSlip _ => true
  | .writeSlip _ n k l b => fits8 n && fits8 k && fits8 l && b.length == 6
  | .postSlip _ n d => fits8 n && fits8 d
  | .fetchSlip _ => true
  | .setOutcome _ n o => fits8 n && fits8 o
  | .returnSlip _ n => fits8 n
  | .readSlipPool _ => true
  | .readPort _ => true
  | .setMask _ m => fits16 m
  | .clearAttention _ m => fits16 m
  | .signal _ t => fits8 t
  | .sectionRestart _ => true
  | .storeSettings _ => true
  | .badFrame _ _ => true
  | .unknownCode _ c => !knownCode c
  | .frameReceived _ cs => !cs.isEmpty
  | .frameTruncated _ => true
  | .replyEnd _ => true
  | .portBreak _ => true
  | .powerReset _ _ _ => true
  | .settingsLoadEnd _ => true
  | .storeEnd _ => true
  | .release _ => true
  | .deck _ => true
  | .foul _ => true
  | .psRead _ _ => true
  | .psDone _ => true
  | .psJam _ => true
  | .liftArrive _ => true
  | .rackFullOn _ => true
  | .rackFullOff _ => true
  | .liftOverload _ => true
  | .travelTimeout _ => true
  | .cycleTimeout _ => true
  | .warmUpEnd _ => true
  | .waitingFoulExpiry _ => true
  | .hornEnd _ => true
  | .recordOverdue _ qs => !qs.isEmpty && decide qs.Nodup
  | .liftIdleExpiry _ => true
  | .bandEdge b => 1 ≤ b && b ≤ 8
  | .frontGraceEnd _ => true
  | .unitEnd _ => true
  | .backGraceExpiry _ => true
  | .liftOverloadLow _ => true
  | .resetAssertedOrPowerLoss => true
  | .lineReturnsToMark _ => true

end Sys2Proof
end

