-- ==== Sys2Proof/Decode.lean ====
section
/-! DEFINITION. Commands that a word spells by the bits of spec/opcode_table.json. No row of this table gives
bits (the LC-16 is a block, and its requests are read from frames by Machine/Line.lean), so none is spelled. -/

namespace Sys2Proof

/-- No row of the table has bits: no word spells a command. -/
def decodeTableWord (_nbits _w : Nat) : Option Instr := none

end Sys2Proof
end

