-- ==== Sys2Proof/Machine/State.lean ====
section
/-! DEFINITION. The state of the LC-16 as the manual gives it, block by block, and State.reset.
Lanes, pairs and slots are indexed from 0 (lane n is index n − 1). Quantities are Nat: the operations keep them
in their stated ranges. Timers and ages are milliseconds; meters count seconds (R158). -/

namespace Sys2Proof.Machine

/-- Why a command stops the machine: no rule of the spec stops it, so there is no fault. -/
inductive Fault
deriving DecidableEq, Repr

/-- Why a command has no meaning in the model. -/
inductive Refusal where
  /-- Raised by an arm of `exec` whose command has no meaning yet; safe: the run ends there. -/
  | notModelled (mnemonic : String)
deriving DecidableEq, Repr

/-! ## Session Unit (01) -/

/-- The four lane settings (R17). -/
structure LaneSettings where
  priceClass : Nat
  foulDetection : Bool
  parkMask : WakeMask
  pinLamps : Bool
deriving DecidableEq, Repr

/-- A park that waits for a cycle to end (R10). -/
structure PendingPark where
  mask : WakeMask
  cause : ParkCause
deriving DecidableEq, Repr

/-- The session record of a lane (R1). -/
structure Session where
  state : SessionState
  wakeMask : WakeMask
  parkCause : ParkCause
  pendingPark : Option PendingPark
  closingReason : ClosingReason
  light : Light
  settings : LaneSettings
deriving DecidableEq, Repr

/-! ## Pinsetter Supervisor (02) -/

/-- The marks of a delivery (R22). -/
structure Marks where
  foul : Bool
  deckMissed : Bool
  releaseMissed : Bool
  senseOdd : Bool
deriving DecidableEq, Repr

/-- The place of a scored ball: slot, game number, frame and ball (R22). -/
structure Place where
  slot : Fin 12
  game : Nat
  frame : Nat
  ball : Nat
deriving DecidableEq, Repr

/-- A delivery (R22), with its travel timer (R24) and whether a CLOSE LANE of its lane was taken since its
DECK (R31). -/
structure Delivery where
  step : DeliveryStep
  release : Option Nat
  cls : Option DeliveryClass
  place : Option Place
  practice : Option Nat
  pre : Option PinSet
  counted : Option PinSet
  marks : Marks
  travel : Nat
  laneClosed : Bool
deriving DecidableEq, Repr

/-- A cycle in flight (R21), with its timer, the pre-ball set of its ball and whether that ball ended the
turn, which a fault records (R33). -/
structure Cycle where
  kind : CycleKind
  phase : CyclePhase
  origin : CycleOrigin
  followOn : Bool
  result : Option PinSet
  restore : Option PinSet
  timer : Nat
  pre : Option PinSet
  turnEnded : Bool
deriving DecidableEq, Repr

/-- A fault record (R21, R33). -/
structure FaultRec where
  reason : FaultReason
  phase : CyclePhase
  origin : CycleOrigin
  kind : CycleKind
  pre : Option PinSet
  read : Option PinSet
  turnEnded : Bool
  followOn : Bool
  replaced : Option PinSet
deriving DecidableEq, Repr

/-- A warm-up in progress: its timer and a restore held until it ends (R30, R34). -/
structure WarmUp where
  timer : Nat
  restore : Option PinSet
deriving DecidableEq, Repr

/-- A hand-set target, and the moment from which its lamps flash (R43). -/
structure HandSet where
  target : PinSet
  since : Nat
deriving DecidableEq, Repr

/-- The latest release: its moment, and whether its delivery has a FOUL mark (R21, R42). -/
structure LastRelease where
  moment : Nat
  fouled : Bool
deriving DecidableEq, Repr

/-- A tone sounding, with its time left (R43). -/
structure Horn where
  tone : Tone
  left : Nat
deriving DecidableEq, Repr

/-- The Supervisor's record of a lane (R21). The lamp mode and image are a view (`lampMode`, `lampImage`). -/
structure Supervisor where
  state : PsState
  cycle : Option Cycle
  warmUp : Option WarmUp
  standing : Option PinSet
  delivery : Option Delivery
  last : Option Delivery
  practice : Nat
  fault : Option FaultRec
  handSet : Option HandSet
  servicePower : Bool
  waitingFoul : Option Nat
  lastRelease : Option LastRelease
  horn : Option Horn
  strayReleases : Nat
  strayFouls : Nat
  earlyBalls : Nat
  unscoredBalls : Nat
  closedUnpaid : Nat
deriving DecidableEq, Repr

/-- What a frame recorded before a ball (R112, prior frames). -/
structure PriorFrame where
  frame : Nat
  kind : FrameKind
  score : Option Nat
  cumulative : Option Nat
deriving DecidableEq, Repr

/-- A valid Reball Snapshot (R112). An invalid one is absent: its other fields are dropped (R114). -/
structure Snapshot where
  slot : Fin 12
  game : Nat
  frame : Nat
  ball : Nat
  prior : List PriorFrame
  bonus : Nat
  pre : PinSet
  turnEnded : Bool
  nextLane : Option Side
  madeUp : Option (Fin 12)
  gameStarted : Bool
  gameFinished : Bool
deriving DecidableEq, Repr

/-! ## Meter Unit (08) -/

/-- A time unit running or frozen: its length and, for a TAB session, its fixed price (R156). -/
structure TimeUnit where
  length : Nat
  price : Option Nat
deriving DecidableEq, Repr

/-- A meter record (R156). The class is the lane's price class setting. -/
structure Meter where
  kind : MeterKind
  mode : MeterMode
  balance : Nat
  credited : Nat
  charged : Nat
  games : Nat
  units : Nat
  phase : MeterPhase
  left : Nat
  unit : Option TimeUnit
  declined : Option Declined
  unpaid : Nat
  saturated : Bool
deriving DecidableEq, Repr

/-- What the expander chain drives to a lane (02 section 2.1): power, cycle command, lit lamps, the horn's
tone and its pitch in Hz (0 when silent), and the lane light. -/
structure LaneOut where
  power : Bool
  command : Option CycleKind
  lamps : PinSet
  tone : Option Tone
  pitch : Nat
  light : Light
deriving DecidableEq, Repr

/-- The blocks that are repeated for each lane. -/
structure Lane where
  session : Session
  sup : Supervisor
  snapshot : Option Snapshot
  meter : Option Meter
  out : LaneOut
deriving DecidableEq, Repr

/-! ## Return Monitor (03) -/

/-- A transit record (R47); the age is in milliseconds. -/
structure Transit where
  lane : Side
  seq : BitVec 16
  age : Nat
  overdue : Bool
  unpaid : Bool
deriving DecidableEq, Repr

/-- The Return Monitor's record of a pair (R46); `idle` is the idle timer, in milliseconds. -/
structure ReturnMonitor where
  transit : List Transit
  nextSeq : BitVec 16
  lift : LiftState
  rackFull : Bool
  overload : Bool
  idle : Option Nat
  episodeOdd : Bool
  episodeEven : Bool
  created : BitVec 32
  matched : BitVec 32
  writtenOff : BitVec 32
  stray : BitVec 32
deriving DecidableEq, Repr

/-! ## Frame Store (05) -/

/-- A ball entry (R86). -/
structure BallEntry where
  rack : Rack
  pre : PinSet
  after : PinSet
  down : Nat
  foul : Bool
  split : Bool
  corrected : Bool
  deckMissed : Bool
  releaseMissed : Bool
  senseOdd : Bool
deriving DecidableEq, Repr

/-- A frame record (R87). -/
structure FrameRec where
  balls : List BallEntry
  kind : FrameKind
  score : Option Nat
  cumulative : Option Nat
deriving DecidableEq, Repr

/-- A current sheet (R85): ten frame records, frame 1 first. -/
structure Sheet where
  game : Nat
  frames : List FrameRec
  awaiting : Nat
deriving DecidableEq, Repr

/-- A finished game record (R88). -/
structure GameRecord where
  game : Nat
  frames : List FrameRec
  scratch : Nat
  handicap : Nat
  total : Nat
  defaulted : Bool
  corrected : Bool
deriving DecidableEq, Repr

/-! ## Turn Unit (04) -/

/-- A roster slot (R64) with its part of the Frame Store (R85). -/
structure Slot where
  bowler : Option Nat
  state : SlotState
  away : Bool
  game : Option Nat
  stage : GameStage
  frame : Nat
  ball : Nat
  finished : Nat
  handicap : Handicap
  source : AverageSource
  fetch : FetchState
  inFlight : Bool
  sheet : Option Sheet
  retained : List GameRecord
deriving DecidableEq, Repr

/-- The four pair settings (R83). -/
structure PairSettings where
  games : Nat
  base : Nat
  percent : Nat
  cap : Nat
deriving DecidableEq, Repr

/-- The Turn Unit of a pair (R66). -/
structure TurnUnit where
  mode : PairMode
  queueOdd : List (Fin 12)
  queueEven : List (Fin 12)
  paidOdd : Bool
  paidEven : Bool
  settings : PairSettings
  slots : Vector Slot 12
deriving DecidableEq, Repr

/-- The input lines of a group on the expander chain (R20): their levels on the wires, which the outside drives,
their levels at the previous scan, and the levels last confirmed. -/
structure Scanned (n : Nat) where
  wire : BitVec n
  seen : BitVec n
  confirmed : BitVec n
deriving DecidableEq, Repr

/-- The inputs of a lane (02 section 2.1): RELEASE, DECK, FOUL, PS READ, PS DONE and PS JAM in bits 0 to 5, and the
ten sense lines of PS READ. -/
structure LaneInputs where
  lines : Scanned 6
  sense : PinSet
deriving DecidableEq, Repr

/-- The inputs of the expander chain: the lanes', and LIFT ARRIVE, RACK FULL and LIFT OVERLOAD of each pair's lift in
bits 0 to 2 (R20, R45). -/
structure Chain where
  lanes : Vector LaneInputs 16
  lifts : Vector (Scanned 3) 8
deriving DecidableEq, Repr

/-- The blocks that are repeated for each pair, with the lift motor output on the chain. -/
structure Pair where
  ret : ReturnMonitor
  turn : TurnUnit
  motor : Bool
deriving DecidableEq, Repr

/-! ## Bowler Directory (07) -/

/-- An ordinary entry (R129). -/
structure Entry where
  valid : Bool
  number : Nat
  average : Nat
  override : Option Nat
  used : Bool
  locked : Bool
deriving DecidableEq, Repr

/-- A range entry (R130). -/
structure RangeEntry where
  enabled : Bool
  first : Nat
  last : Nat
  average : Nat
deriving DecidableEq, Repr

/-- The Bowler Directory (R129, R130, R134). -/
structure Directory where
  entries : Vector Entry 112
  ranges : Vector RangeEntry 8
  fetch : List Nat
deriving DecidableEq, Repr

/-! ## Clock and tariff (08) -/

/-- The Time-of-Day Clock (R148); `ms` is the part of the running second already passed. -/
structure Clock where
  hour : Nat
  minute : Nat
  second : Nat
  unset : Bool
  ms : Nat
deriving DecidableEq, Repr

/-- The two prices of a class and band (R153). -/
structure Price where
  game : Nat
  unit : Nat
deriving DecidableEq, Repr

/-- The Tariff Table (R150, R153): `prices[c * 8 + (b − 1)]` is class c in band b, R153's "64 prices in all". `further`
holds the pairs that R199's "64 game prices and 64 unit prices" and R154's "all 64 pairs of prices" count beside those.
No class and band of R153 names one, so a request writes none and a charge reads none; the image and the tariff reply
carry them (DEDUCED, log 36). -/
structure Tariff where
  dayStart : Nat
  bands : Nat
  length : Nat
  prices : Vector Price 32
  further : Vector Price 32
deriving DecidableEq, Repr

/-- The section billing settings (R155), in seconds. -/
structure BillingSettings where
  unit : Nat
  front : Nat
  back : Nat
deriving DecidableEq, Repr

/-- The section timer settings of the pinsetters (R41): seconds, and the window in tenths. -/
structure PinsetterTimers where
  warmUp : Nat
  cycle : Nat
  travel : Nat
  window : Nat
deriving DecidableEq, Repr

/-- The section return settings (R61), in seconds. -/
structure ReturnSettings where
  timeout : Nat
  idle : Nat
deriving DecidableEq, Repr

/-! ## Slip Pool (09) -/

/-- Kind and body of a slip (R170). -/
inductive SlipBody where
  | mechCall (reason : CallReason) (detail : Nat)
  | gamesRequest (amount : Nat)
  | correction (slot game frame ball : Nat) (proposed : PinSet)
  | reballRequest (lane : Nat)
deriving DecidableEq, Repr

/-- A slip (R170); slip n is index n − 1. -/
structure Slip where
  state : SlipState
  body : Option SlipBody
  origin : Option Origin
  lane : Nat
  outcome : SlipOutcome
deriving DecidableEq, Repr

/-- A call of the part (R180); the lane by its number. -/
structure Call where
  lane : Nat
  reason : CallReason
  detail : Nat
deriving DecidableEq, Repr

/-- The Slip Pool (R170 to R172, R181): slip indexes on the lists; `posts` by `Port.index`. -/
structure SlipPool where
  slips : Vector Slip 64
  generalFree : List (Fin 64)
  reserveFree : List (Fin 64)
  posts : Vector (List (Fin 64)) 10
  backlog : List Call
deriving DecidableEq, Repr

/-! ## Port Interface (10) -/

/-- Receive mode (R186): HUNT, or FRAME with what of the frame has arrived: nothing after the start byte, or
the length and the body bytes so far. -/
inductive RxMode where
  | hunt
  | length
  | body (len : Nat) (got : List Byte)
deriving DecidableEq, Repr

/-- A reply in progress (R187). -/
structure Reply where
  code : Byte
  outcome : ReplyOutcome
  results : List Byte
deriving DecidableEq, Repr

/-- A Port Interface (R186, R187, R192, R193, R196). Frames wait in the queue as the commands they spell. -/
structure PortIf where
  rx : RxMode
  queue : List Instr
  reply : Option Reply
  lastError : LinkError
  truncated : Nat
  overrun : Nat
  framed : Nat
  events : FlagSet
  mask : FlagSet
  inSpace : Bool
deriving DecidableEq, Repr

/-! ## Settings Loader (11) -/

/-- Every setting the settings image holds (R199). -/
structure SettingsCopy where
  timers : PinsetterTimers
  ret : ReturnSettings
  billing : BillingSettings
  tariff : Tariff
  lanes : Vector LaneSettings 16
  pairs : Vector PairSettings 8
  ranges : Vector RangeEntry 8
deriving DecidableEq, Repr

/-- The settings image in the configuration memory (R199): its data bytes, and the two-byte check that follows
them. -/
structure ConfigMemory where
  data : List Byte
  check : BitVec 16
deriving DecidableEq, Repr

/-- The whole part, and the queue of commands waiting for it. -/
structure State where
  lanes : Vector Lane 16
  pairs : Vector Pair 8
  chain : Chain
  directory : Directory
  clock : Clock
  tariff : Tariff
  billing : BillingSettings
  timers : PinsetterTimers
  retSettings : ReturnSettings
  pool : SlipPool
  ports : Vector PortIf 10
  rateHigh : Bool
  loading : Bool
  storing : Option SettingsCopy
  memory : ConfigMemory
  resetHeld : Bool
  now : Nat
  pending : List Instr
deriving DecidableEq, Repr

/-! ## Values at reset -/

/-- The factory lane settings (R17). -/
def LaneSettings.factory : LaneSettings := ⟨0, false, ⟨true, false, true, false⟩, true⟩
/-- The factory pair settings (R83). -/
def PairSettings.factory : PairSettings := ⟨0, 220, 90, 100⟩
/-- The factory range entry (R147). -/
def RangeEntry.factory : RangeEntry := ⟨false, 1, 1, 0⟩
/-- The factory pinsetter timers (R41). -/
def PinsetterTimers.factory : PinsetterTimers := ⟨8, 14, 6, 10⟩
/-- The factory return settings (R61). -/
def ReturnSettings.factory : ReturnSettings := ⟨40, 120⟩
/-- The factory billing settings (R155). -/
def BillingSettings.factory : BillingSettings := ⟨300, 600, 120⟩
/-- The factory tariff (R169): one band all day, every price 0. -/
def Tariff.factory : Tariff := ⟨0, 1, 1440, Vector.replicate 32 ⟨0, 0⟩, Vector.replicate 32 ⟨0, 0⟩⟩
/-- The factory defaults of every setting (section 11.4). -/
def SettingsCopy.factory : SettingsCopy where
  timers := .factory
  ret := .factory
  billing := .factory
  tariff := .factory
  lanes := Vector.replicate 16 .factory
  pairs := Vector.replicate 8 .factory
  ranges := Vector.replicate 8 .factory

/-- The session record of a CLOSED lane with given settings (R19). -/
def Session.initial (settings : LaneSettings) : Session where
  state := .closed
  wakeMask := .empty
  parkCause := .none
  pendingPark := none
  closingReason := .none
  light := .off
  settings := settings

/-- The Supervisor's record after a power reset or a section restart (R44). -/
def Supervisor.initial : Supervisor where
  state := .off
  cycle := none
  warmUp := none
  standing := none
  delivery := none
  last := none
  practice := 1
  fault := none
  handSet := none
  servicePower := false
  waitingFoul := none
  lastRelease := none
  horn := none
  strayReleases := 0
  strayFouls := 0
  earlyBalls := 0
  unscoredBalls := 0
  closedUnpaid := 0

/-- The outputs of an idle lane. -/
def LaneOut.idle : LaneOut := ⟨false, none, 0, none, 0, .off⟩

/-- A lane after a power reset (R19, R44, R128, R169). -/
def Lane.initial (settings : LaneSettings) (out : LaneOut) : Lane where
  session := .initial settings
  sup := .initial
  snapshot := none
  meter := none
  out := out

/-- The Return Monitor after a reset, with the last confirmed levels of its inputs (R63). -/
def ReturnMonitor.initial (rackFull overload : Bool) : ReturnMonitor where
  transit := []
  nextSeq := 0
  lift := .off
  rackFull := rackFull
  overload := overload
  idle := none
  episodeOdd := false
  episodeEven := false
  created := 0
  matched := 0
  writtenOff := 0
  stray := 0

/-- An EMPTY slot (R84). R64 and R65 give its bowler, game number and handicap as absent and no ball in flight; every
other field's EMPTY value is the model's (log 10). -/
def Slot.empty : Slot where
  bowler := none
  state := .empty
  away := false
  game := none
  stage := .waiting
  frame := 1
  ball := 1
  finished := 0
  handicap := .absent
  source := .none
  fetch := .none
  inFlight := false
  sheet := none
  retained := []

/-- The Turn Unit after a reset (R84). -/
def TurnUnit.initial (settings : PairSettings) : TurnUnit where
  mode := .opened
  queueOdd := []
  queueEven := []
  paidOdd := false
  paidEven := false
  settings := settings
  slots := Vector.replicate 12 .empty

/-- A pair after a power reset. -/
def Pair.initial (rackFull overload : Bool) (settings : PairSettings) (motor : Bool) : Pair where
  ret := .initial rackFull overload
  turn := .initial settings
  motor := motor

/-- An invalid Directory entry (R147). -/
def Entry.invalid : Entry := ⟨false, 0, 0, none, false, false⟩

/-- The Directory after a power reset (R147). -/
def Directory.initial (ranges : Vector RangeEntry 8) : Directory where
  entries := Vector.replicate 112 .invalid
  ranges := ranges
  fetch := []

/-- The clock after a power reset (R169). -/
def Clock.initial : Clock := ⟨0, 0, 0, true, 0⟩

/-- A FREE slip is blank (R170). -/
def Slip.blank : Slip := ⟨.free, none, none, 0, .none⟩

/-- Slips 1 to 56, ascending. -/
def generalSlips : List (Fin 64) := (List.finRange 64).filter (·.val < 56)
/-- Slips 57 to 64, ascending. -/
def reserveSlips : List (Fin 64) := (List.finRange 64).filter (56 ≤ ·.val)

/-- The Slip Pool after a power reset (R184). -/
def SlipPool.initial : SlipPool where
  slips := Vector.replicate 64 .blank
  generalFree := generalSlips
  reserveFree := reserveSlips
  posts := Vector.replicate 10 []
  backlog := []

/-- A Port Interface after a power reset (R198). -/
def PortIf.initial : PortIf where
  rx := .hunt
  queue := []
  reply := none
  lastError := .none
  truncated := 0
  overrun := 0
  framed := 0
  events := 0
  mask := 0
  inSpace := false

/-- How many data bytes the image has (log 7): 442. -/
def imageLength : Nat := 442

/-- The settings memory before the first store: every byte all ones, which fails the check (DESIGN CHOICE, log 7). -/
def ConfigMemory.unwritten : ConfigMemory := ⟨List.replicate imageLength 0xFF, 0xFFFF⟩

/-- Every input line low, and none raised before (DESIGN CHOICE, log 9). -/
def Chain.low : Chain := ⟨Vector.replicate 16 ⟨⟨0, 0, 0⟩, 0⟩, Vector.replicate 8 ⟨0, 0, 0⟩⟩

/-- Every block at its power reset values and the settings load begun (R200), with the input levels and the
strap given, the chain's inputs, the memory and the waiting commands as given. The settings hold the factory values
until the load ends (DESIGN CHOICE, log 6). -/
def State.afterReset (rateHigh : Bool) (rackFull overload : BitVec 8) (chain : Chain) (memory : ConfigMemory)
    (pending : List Instr) : State where
  lanes := Vector.replicate 16 (.initial .factory .idle)
  pairs := Vector.ofFn fun p => .initial (rackFull.getLsbD p) (overload.getLsbD p) .factory false
  chain := chain
  directory := .initial (Vector.replicate 8 .factory)
  clock := .initial
  tariff := .factory
  billing := .factory
  timers := .factory
  retSettings := .factory
  pool := .initial
  ports := Vector.replicate 10 .initial
  rateHigh := rateHigh
  loading := true
  storing := none
  memory := memory
  resetHeld := false
  now := 0
  pending := pending

/-- The part right after a power reset: the load in progress, no command waiting. -/
def State.reset : State := State.afterReset false 0 0 .low .unwritten []

end Sys2Proof.Machine
end

