-- ==== Sys2Proof/Machine/Ops.lean ====
section
/-! DEFINITION. Numbering of ports, lanes, pairs, slots and pins, the operations that read and write the
records of State, and the reply a served request gives. -/

namespace Sys2Proof

/-- The place of a port in the part's tables, and its identity byte (R197): DK 0, MC 1, C1 to C8 2 to 9. -/
def Port.index : Port → Fin 10
  | .dk => 0
  | .mc => 1
  | .console n => ⟨n.val + 2, by omega⟩

/-- The port of an identity byte; PART (10) and above name no port. -/
def Port.ofByte? (n : Nat) : Option Port :=
  if n = 0 then some .dk
  else if n = 1 then some .mc
  else if h : n < 10 ∧ 2 ≤ n then some (.console ⟨n - 2, by omega⟩)
  else none

/-- Is the port a console? -/
def Port.isConsole : Port → Bool
  | .console _ => true
  | _ => false

/-- The ten ports, by identity. -/
def allPorts : List Port := .dk :: .mc :: (List.finRange 8).map .console

/-- The other lane of the pair. -/
def Side.other : Side → Side
  | .odd => .even
  | .even => .odd

/-- The pair of a lane: pair p holds lanes 2p − 1 and 2p. -/
def pairOf (l : Fin 16) : Fin 8 := ⟨l.val / 2, by omega⟩

/-- Whether a lane is the odd or the even lane of its pair. -/
def sideOf (l : Fin 16) : Side := if l.val % 2 = 0 then .odd else .even

/-- A lane of a pair. -/
def laneAt (p : Fin 8) : Side → Fin 16
  | .odd => ⟨2 * p.val, by omega⟩
  | .even => ⟨2 * p.val + 1, by omega⟩

/-- The other lane of a lane's pair. -/
def otherLane (l : Fin 16) : Fin 16 := laneAt (pairOf l) (sideOf l).other

/-- The home lane of a slot (00_scope, Numbering): slots 1 to 6 the odd lane, 7 to 12 the even lane. -/
def homeSide (i : Fin 12) : Side := if i.val < 6 then .odd else .even

/-- The number of a lane, as the line carries it. -/
def laneNo (l : Fin 16) : Nat := l.val + 1

/-- The lanes and the pairs, ascending. -/
def allLanes : List (Fin 16) := List.finRange 16
/-- The pairs, ascending. -/
def allPairs : List (Fin 8) := List.finRange 8
/-- The slots of a pair, ascending. -/
def allSlots : List (Fin 12) := List.finRange 12

/-- The lane a number names, when `inLanes` holds of it. -/
def laneIx (n : Nat) : Fin 16 := Fin.ofNat 16 (n - 1)
/-- The pair a number names, when `inPairs` holds of it. -/
def pairIx (n : Nat) : Fin 8 := Fin.ofNat 8 (n - 1)
/-- The slot a number names, when `inSlots` holds of it. -/
def slotIx (n : Nat) : Fin 12 := Fin.ofNat 12 (n - 1)
/-- The slip a number names, when `inSlips` holds of it. -/
def slipIx (n : Nat) : Fin 64 := Fin.ofNat 64 (n - 1)

/-- A lane number in its range. -/
def inLanes (n : Nat) : Bool := 1 ≤ n && n ≤ 16
/-- A pair number in its range. -/
def inPairs (n : Nat) : Bool := 1 ≤ n && n ≤ 8
/-- A slot number in its range. -/
def inSlots (n : Nat) : Bool := 1 ≤ n && n ≤ 12
/-- A slip number in its range. -/
def inSlips (n : Nat) : Bool := 1 ≤ n && n ≤ 64
/-- A bowler number in its range. -/
def inBowlers (n : Nat) : Bool := 1 ≤ n && n ≤ 65534

/-- The part of a wake mask's byte that R197 gives it: CREDIT bit 0, BALL 1, CONSOLE 2, BAND 3. -/
def WakeMask.ofNat (n : Nat) : WakeMask := ⟨n.testBit 0, n.testBit 1, n.testBit 2, n.testBit 3⟩

/-- The byte of a wake mask. -/
def WakeMask.toNat (m : WakeMask) : Nat :=
  m.credit.toNat + 2 * m.ball.toNat + 4 * m.console.toNat + 8 * m.band.toNat

/-- The session grants pinsetter power (R2). -/
def SessionState.grants : SessionState → Bool
  | .opened => true
  | .closing => true
  | .closed => false
  | .parked => false

/-- Ages advance in this lift state (R52). -/
def LiftState.ages : LiftState → Bool
  | .running => true
  | .stall => true
  | .off => false
  | .fullPause => false

/-- The light of a session state (R16). -/
def SessionState.light : SessionState → Light
  | .closed => .off
  | .opened => .full
  | .closing => .full
  | .parked => .dim

/-- The closing reason of a session state (R1). -/
def SessionState.reason : SessionState → ClosingReason
  | .closing => .noCredit
  | .closed => .none
  | .opened => .none
  | .parked => .none

/-- The full rack of all ten pins. -/
def fullRack : PinSet := 0x3FF

/-- How many pins a set holds. -/
def pinCount (s : PinSet) : Nat := (List.range 10).countP s.getLsbD

/-- Every pin of the first set is in the second. -/
def pinsWithin (a b : PinSet) : Bool := a &&& ~~~b == 0

/-- The first index that a test holds of. -/
def firstFin (n : Nat) (test : Fin n → Bool) : Option (Fin n) := (List.finRange n).find? test

/-- A count that runs to 65,535 and holds there. -/
def bump16 (n : Nat) : Nat := min (n + 1) 65535

namespace Machine

/-! ## Reading and writing the records -/

/-- The lane record of a lane. -/
def State.lane (s : State) (l : Fin 16) : Lane := s.lanes[l]

/-- The pair record of a pair. -/
def State.pair (s : State) (p : Fin 8) : Pair := s.pairs[p]

/-- The Port Interface of a port. -/
def State.port (s : State) (p : Port) : PortIf := s.ports[p.index]

/-- A slip of the pool. -/
def State.slip (s : State) (n : Fin 64) : Slip := s.pool.slips[n]

/-- A lane record changed. -/
def State.modLane (s : State) (l : Fin 16) (f : Lane → Lane) : State :=
  { s with lanes := s.lanes.set l (f (s.lane l)) }

/-- A pair record changed. -/
def State.modPair (s : State) (p : Fin 8) (f : Pair → Pair) : State :=
  { s with pairs := s.pairs.set p (f (s.pair p)) }

/-- A Port Interface changed. -/
def State.modPort (s : State) (p : Port) (f : PortIf → PortIf) : State :=
  { s with ports := s.ports.set p.index (f (s.port p)) }

/-- The Slip Pool changed. -/
def State.modPool (s : State) (f : SlipPool → SlipPool) : State := { s with pool := f s.pool }

/-- The Bowler Directory changed. -/
def State.modDirectory (s : State) (f : Directory → Directory) : State :=
  { s with directory := f s.directory }

/-- A lane's Supervisor record changed in a field that no flag follows. -/
def State.modSup (s : State) (l : Fin 16) (f : Supervisor → Supervisor) : State :=
  s.modLane l fun a => { a with sup := f a.sup }

/-- A lane's meter record changed, where there is one. -/
def State.modMeter (s : State) (l : Fin 16) (f : Meter → Meter) : State :=
  s.modLane l fun a => { a with meter := a.meter.map f }

/-- A pair's Return Monitor changed. -/
def State.modRet (s : State) (p : Fin 8) (f : ReturnMonitor → ReturnMonitor) : State :=
  s.modPair p fun a => { a with ret := f a.ret }

/-- The Turn Unit of a pair. -/
def State.turn (s : State) (p : Fin 8) : TurnUnit := (s.pair p).turn

/-- The Return Monitor of a pair. -/
def State.ret (s : State) (p : Fin 8) : ReturnMonitor := (s.pair p).ret

/-- The session state of a lane. -/
def State.session (s : State) (l : Fin 16) : SessionState := (s.lane l).session.state

/-- A slot of a pair. -/
def State.slot (s : State) (p : Fin 8) (i : Fin 12) : Slot := (s.turn p).slots[i]

/-- A lane's queue in its Turn Unit. -/
def TurnUnit.queue (t : TurnUnit) : Side → List (Fin 12)
  | .odd => t.queueOdd
  | .even => t.queueEven

/-- A lane's queue replaced. -/
def TurnUnit.setQueue (t : TurnUnit) (sd : Side) (q : List (Fin 12)) : TurnUnit :=
  match sd with
  | .odd => { t with queueOdd := q }
  | .even => { t with queueEven := q }

/-- A lane's paid start mark. -/
def TurnUnit.paid (t : TurnUnit) : Side → Bool
  | .odd => t.paidOdd
  | .even => t.paidEven

/-- A lane's paid start mark written. -/
def TurnUnit.setPaid (t : TurnUnit) (sd : Side) (b : Bool) : TurnUnit :=
  match sd with
  | .odd => { t with paidOdd := b }
  | .even => { t with paidEven := b }

/-- A slot changed. -/
def TurnUnit.modSlot (t : TurnUnit) (i : Fin 12) (f : Slot → Slot) : TurnUnit :=
  { t with slots := t.slots.set i (f t.slots[i]) }

/-- The slot UP on a lane: the head of its queue when that slot is UP (R66). -/
def TurnUnit.upSlot (t : TurnUnit) (sd : Side) : Option (Fin 12) :=
  match t.queue sd with
  | [] => none
  | i :: _ => if t.slots[i].state = .up then some i else none

/-- The slot UP on a lane. -/
def State.upSlot (s : State) (l : Fin 16) : Option (Fin 12) := (s.turn (pairOf l)).upSlot (sideOf l)

/-- A lane is OPEN or CLOSING. -/
def State.running (s : State) (l : Fin 16) : Bool := (s.session l).grants

/-- Pinsetter power is granted to a lane (R29). -/
def State.powerGranted (s : State) (l : Fin 16) : Bool :=
  s.running l || (s.lane l).sup.servicePower

/-! ## Served requests -/

/-- What serving a request gives: the state, and the outcome and results of its reply (R187). -/
structure Served where
  state : State
  outcome : ReplyOutcome
  results : List Byte

/-- The first of the checks, in order, that refuses (R189). -/
def firstRefusal : List (Bool × ReplyOutcome) → Option ReplyOutcome
  | [] => none
  | (true, o) :: _ => some o
  | (false, _) :: rest => firstRefusal rest

/-- A request served: refused by the first check that refuses, and then changing nothing (R188); or taken. -/
def Served.after (s : State) (checks : List (Bool × ReplyOutcome)) (taken : Served) : Served :=
  match firstRefusal checks with
  | some o => ⟨s, o, []⟩
  | none => taken

/-- A taken request answered OK without results. -/
def Served.ok (s : State) : Served := ⟨s, .ok, []⟩

/-- A console naming a lane outside its pair (R189 step 2): lanes 2n − 1 and 2n are its own. -/
def outsideLane (p : Port) (lane : Nat) : Bool :=
  match p with
  | .console n => !(lane == 2 * n.val + 1 || lane == 2 * n.val + 2)
  | _ => false

/-- A console naming a pair other than its own. -/
def outsidePair (p : Port) (pair : Nat) : Bool :=
  match p with
  | .console n => !(pair == n.val + 1)
  | _ => false

/-- All 64 pairs of prices (R154, R199): those of R153 by class and band, and the further ones (log 36). -/
def Tariff.allPrices (t : Tariff) : List Price := t.prices.toList ++ t.further.toList

/-- An optional value outside its range. -/
def optOut (ok : Nat → Bool) : Option Nat → Bool
  | none => false
  | some n => !ok n

end Machine
end Sys2Proof
end

