-- ==== Sys2Proof/Machine/Operands.lean ====
section
/-! DEFINITION. Values as bytes on a port line (R197): the encodings of numbers, names, sets, pin sets and
absent values, and the byte of each named value (its position in the list of the rule that defines it). -/

namespace Sys2Proof

/-- A number in one byte. -/
def byte1 (n : Nat) : List Byte := [BitVec.ofNat 8 n]
/-- A number in two bytes, most significant first. -/
def byte2 (n : Nat) : List Byte := [BitVec.ofNat 8 (n / 256), BitVec.ofNat 8 n]
/-- A number in four bytes, most significant first. -/
def byte4 (n : Nat) : List Byte :=
  [BitVec.ofNat 8 (n / 16777216), BitVec.ofNat 8 (n / 65536), BitVec.ofNat 8 (n / 256), BitVec.ofNat 8 n]
/-- All ones in a width of bytes: a value that is absent, unknown or withheld. -/
def ones (width : Nat) : List Byte := List.replicate width 0xFF
/-- Yes or no, set or clear. -/
def byteBool (b : Bool) : List Byte := byte1 b.toNat
/-- A one-byte value that may be absent. -/
def opt1 : Option Nat → List Byte
  | some n => byte1 n
  | none => ones 1
/-- A two-byte value that may be absent. -/
def opt2 : Option Nat → List Byte
  | some n => byte2 n
  | none => ones 2
/-- A yes or no value that may be absent. -/
def optBool : Option Bool → List Byte
  | some b => byteBool b
  | none => ones 1
/-- A pin set: pins 10 and 9, then pins 8 to 1. -/
def pinBytes (s : PinSet) : List Byte := byte2 s.toNat
/-- A pin set that may be absent or unknown. -/
def optPins : Option PinSet → List Byte
  | some s => pinBytes s
  | none => ones 2
/-- A set of named values: bit k for the k-th. -/
def byteSet (bits : List Bool) : List Byte :=
  byte1 (bits.foldr (fun b n => b.toNat + 2 * n) 0)
/-- A list: a count byte, then the items. -/
def byteList (items : List (List Byte)) : List Byte := byte1 items.length ++ items.flatten
/-- A flag set in two bytes. -/
def flagBytes (f : FlagSet) : List Byte := byte2 f.toNat

/-- A number of two bytes read. -/
def read2 (hi lo : Byte) : Nat := hi.toNat * 256 + lo.toNat
/-- A number of four bytes read. -/
def read4 (a b c d : Byte) : Nat := ((a.toNat * 256 + b.toNat) * 256 + c.toNat) * 256 + d.toNat
/-- A value that may be absent: its bit of the presence byte, and its bytes. -/
def readOpt (presence : Byte) (k : Nat) (value : Nat) : Option Nat :=
  if presence.getLsbD k then some value else none

/-- The outcome byte (R188). -/
def ReplyOutcome.code : ReplyOutcome → Nat
  | .ok => 0
  | .woke => 1
  | .frame => 2
  | .unknown => 3
  | .denied => 4
  | .range => 5
  | .state => 6
  | .empty => 7
  | .full => 8
  | .busy => 9

/-- R1. -/
def SessionState.code : SessionState → Nat
  | .closed => 0
  | .opened => 1
  | .closing => 2
  | .parked => 3

/-- R1; the cause of a pending park takes the byte of the same park cause (DEDUCED, log 44). -/
def ParkCause.code : ParkCause → Nat
  | .none => 0
  | .desk => 1
  | .console => 2
  | .noCredit => 3

/-- R1. -/
def ClosingReason.code : ClosingReason → Nat
  | .none => 0
  | .noCredit => 1

/-- R1. -/
def Light.code : Light → Nat
  | .off => 0
  | .dim => 1
  | .full => 2

/-- R21. -/
def PsState.code : PsState → Nat
  | .off => 0
  | .warming => 1
  | .ready => 2
  | .cycling => 3
  | .handSet => 4
  | .fault => 5
  | .lockout => 6

/-- R21. -/
def CycleKind.code : CycleKind → Nat
  | .first => 0
  | .final => 1

/-- R21. -/
def CyclePhase.code : CyclePhase → Nat
  | .beforeRead => 0
  | .afterRead => 1

/-- R21. -/
def CycleOrigin.code : CycleOrigin → Nat
  | .ball => 0
  | .followOn => 1
  | .manual => 2
  | .wake => 3
  | .reball => 4

/-- R22. -/
def DeliveryStep.code : DeliveryStep → Nat
  | .awaitingDeck => 0
  | .awaitingRead => 1

/-- R22. -/
def DeliveryClass.code : DeliveryClass → Nat
  | .scored => 0
  | .practice => 1
  | .early => 2
  | .unscored => 3
  | .unpaid => 4

/-- R21: SILENT, FOUL, CALL. -/
def toneCode : Option Tone → Nat
  | none => 0
  | some .foul => 1
  | some .call => 2

/-- R43. -/
def LampMode.code : LampMode → Nat
  | .off => 0
  | .steady => 1
  | .flash => 2

/-- R46. -/
def LiftState.code : LiftState → Nat
  | .off => 0
  | .running => 1
  | .fullPause => 2
  | .stall => 3

/-- R47. -/
def Side.code : Side → Nat
  | .odd => 0
  | .even => 1

/-- R64. -/
def SlotState.code : SlotState → Nat
  | .empty => 0
  | .queued => 1
  | .up => 2
  | .done => 3

/-- R64. -/
def GameStage.code : GameStage → Nat
  | .waiting => 0
  | .started => 1
  | .inProgress => 2

/-- R64. -/
def AverageSource.code : AverageSource → Nat
  | .entry => 0
  | .range => 1
  | .none => 2
  | .pending => 3

/-- R64. -/
def FetchState.code : FetchState → Nat
  | .none => 0
  | .requested => 1
  | .deferred => 2

/-- R66. -/
def PairMode.code : PairMode → Nat
  | .opened => 0
  | .alternate => 1

/-- R87. -/
def FrameKind.code : FrameKind → Nat
  | .incomplete => 0
  | .strike => 1
  | .spare => 2
  | .opened => 3

/-- R156. -/
def MeterKind.code : MeterKind → Nat
  | .games => 0
  | .time => 1

/-- R156. -/
def MeterMode.code : MeterMode → Nat
  | .prepaid => 0
  | .tab => 1

/-- R156. -/
def MeterPhase.code : MeterPhase → Nat
  | .front => 0
  | .metered => 1
  | .back => 2

/-- R156: GAME or UNIT by position among the two, Absent taking none and sent as all ones (DEDUCED, log 44). -/
def Declined.code : Declined → Nat
  | .game => 0
  | .unit => 1

/-- R170. -/
def CallReason.code : CallReason → Nat
  | .pinsetterFault => 0
  | .returnOverdue => 1
  | .liftStall => 2
  | .handSet => 3
  | .bowlerCall => 4

/-- The reason of a byte (R170). -/
def CallReason.ofByte? (n : Nat) : Option CallReason :=
  match n with
  | 0 => some .pinsetterFault
  | 1 => some .returnOverdue
  | 2 => some .liftStall
  | 3 => some .handSet
  | 4 => some .bowlerCall
  | _ => none

/-- R197, the slip. -/
def RefuseReason.code : RefuseReason → Nat
  | .notFound => 0
  | .notSubset => 1
  | .shape => 2
  | .conflict => 3

/-- R197, the slip: outcome byte and reason byte, the reason absent unless REFUSED. -/
def SlipOutcome.bytes : SlipOutcome → List Byte
  | .none => byte1 0 ++ ones 1
  | .granted => byte1 1 ++ ones 1
  | .declined => byte1 2 ++ ones 1
  | .applied => byte1 3 ++ ones 1
  | .refused w => byte1 4 ++ byte1 w.code

/-- R192. -/
def LinkError.code : LinkError → Nat
  | .none => 0
  | .truncated => 1
  | .overrun => 2

/-- Port identity (R197); PART is 10. -/
def Origin.code : Origin → Nat
  | .port p => p.index.val
  | .part => 10

namespace Machine

/-- A handicap in two bytes: PENDING as 0xFFFE, absent as all ones (R197). -/
def Handicap.bytes : Handicap → List Byte
  | .absent => ones 2
  | .pending => [0xFF, 0xFE]
  | .value n => byte2 n

end Machine
end Sys2Proof
end

