-- ==== Sys2Proof/Machine/Line.lean ====
section
/-! DEFINITION. What a port line carries (10 R186 to R188, R197): the request codes and the layouts of their
parameters, a frame body read as a command, a request written as a frame body, and exchange frames. -/

namespace Sys2Proof.Machine

/-- The widths in bytes of each request's parameters, in catalogue order (R190, R197); a presence byte stands
before the values that may be absent. -/
def requestLayouts : List (List Nat) :=
  [[1, 1, 1, 4, 1], [1], [1, 1], [1], [1, 1, 1, 1, 1, 1, 1], [1], [], [1], [1]] ++
  [[1, 1], [1, 1], [1], [1, 1, 1, 1, 1], [1], [1, 1], [1], [1, 1, 2], [1, 1, 2]] ++
  [[1, 1], [1, 1], [1, 1], [1, 1], [1, 1, 1, 2, 1, 2], [1], [1, 1, 1], [1], [1]] ++
  [[2, 2, 1, 2], [2], [2, 2, 1, 2], [2], [1, 1, 2, 2, 2], [2], [], [1, 1, 1], [2, 1, 2]] ++
  [[1, 1, 1, 2, 2], [1, 2, 2, 2], [], [1, 4], [1], [], [1, 1, 1, 1, 1, 1, 1, 1, 1], [1, 1], []] ++
  [[1, 1], [1], [], [], [2], [2], [1], [], []]

/-- A number of several bytes, most significant first. -/
def readNat (bytes : List Byte) : Nat := bytes.foldl (fun n b => n * 256 + b.toNat) 0

/-- A number in a width of bytes, most significant first. -/
def writeNat : Nat → Nat → List Byte
  | 0, _ => []
  | w + 1, n => BitVec.ofNat 8 (n / 256 ^ w) :: writeNat w n

/-- Parameters read by their widths; none where the body is not the length they call for (R186). -/
def readFields : List Nat → List Byte → Option (List Nat)
  | [], [] => some []
  | [], _ :: _ => none
  | w :: ws, b => if b.length < w then none else (readFields ws (b.drop w)).map (readNat (b.take w) :: ·)

/-- Parameters written in their widths. -/
def writeFields : List Nat → List Nat → List Byte
  | w :: ws, n :: ns => writeNat w n ++ writeFields ws ns
  | _, _ => []

/-- The presence byte of values that may be absent (R197). -/
def presenceOf (present : List Bool) : Nat := present.foldr (fun b n => b.toNat + 2 * n) 0

/-- A value that may be absent, by its bit of the presence byte (R197). -/
def optOf (presence k value : Nat) : Option Nat := if presence.testBit k then some value else none

/-- The request of a place in the catalogue, from its parameters in order (R190). -/
def requestOf (p : Port) (place : Nat) (v : Nat → Nat) : Instr :=
  match place with
  | 0 => .openLane p (v 0) (v 1) (v 2) (v 3) (v 4)
  | 1 => .closeLane p (v 0)
  | 2 => .parkLane p (v 0) (v 1)
  | 3 => .resumeLane p (v 0)
  | 4 =>
    .setLaneSettings p (v 0) (v 1) (optOf (v 2) 0 (v 3)) (optOf (v 2) 1 (v 4)) (optOf (v 2) 2 (v 5)) (optOf (v 2) 3
      (v 6))
  | 5 => .readLaneStatus p (v 0)
  | 6 => .readLaneSummary p
  | 7 => .lockout p (v 0)
  | 8 => .unlock p (v 0)
  | 9 => .manualCycle p (v 0) (v 1)
  | 10 => .clearFault p (v 0) (v 1)
  | 11 => .pinsSet p (v 0)
  | 12 => .setPinsetterTimers p (optOf (v 0) 0 (v 1)) (optOf (v 0) 1 (v 2)) (optOf (v 0) 2 (v 3)) (optOf (v 0) 3 (v 4))
  | 13 => .readReturn p (v 0)
  | 14 => .clearOverdue p (v 0) (v 1)
  | 15 => .liftRestart p (v 0)
  | 16 => .setReturnSettings p (optOf (v 0) 0 (v 1)) (optOf (v 0) 1 (v 2))
  | 17 => .addBowler p (v 0) (v 1) (v 2)
  | 18 => .removeBowler p (v 0) (v 1)
  | 19 => .away p (v 0) (v 1)
  | 20 => .back p (v 0) (v 1)
  | 21 => .setPairMode p (v 0) (v 1)
  | 22 =>
    .setPairSettings p (v 0) (optOf (v 1) 0 (v 2)) (optOf (v 1) 1 (v 3)) (optOf (v 1) 2 (v 4)) (optOf (v 1) 3 (v 5))
  | 23 => .readRoster p (v 0)
  | 24 => .readFrameSheet p (v 0) (v 1) (v 2)
  | 25 => .reball p (v 0)
  | 26 => .applyCorrection p (v 0)
  | 27 => .supplyBowler p (v 0) (v 1) (optOf (v 2) 0 (v 3))
  | 28 => .unknownBowler p (v 0)
  | 29 => .updateBowler p (v 0) (v 1) (optOf (v 2) 0 (v 3))
  | 30 => .dropBowler p (v 0)
  | 31 => .setRangeEntry p (v 0) (v 1) (v 2) (v 3) (v 4)
  | 32 => .readBowler p (v 0)
  | 33 => .readFetchQueue p
  | 34 => .setClock p (v 0) (v 1) (v 2)
  | 35 => .setTariffLayout p (v 0) (v 1) (v 2)
  | 36 => .setPrices p (v 0) (v 1) (optOf (v 2) 0 (v 3)) (optOf (v 2) 1 (v 4))
  | 37 => .setBillingSettings p (optOf (v 0) 0 (v 1)) (optOf (v 0) 1 (v 2)) (optOf (v 0) 2 (v 3))
  | 38 => .readTariff p
  | 39 => .addCredit p (v 0) (v 1)
  | 40 => .readMeter p (v 0)
  | 41 => .takeSlip p
  | 42 => .writeSlip p (v 0) (v 1) (v 2) ((List.range 6).map fun j => BitVec.ofNat 8 (v (j + 3)))
  | 43 => .postSlip p (v 0) (v 1)
  | 44 => .fetchSlip p
  | 45 => .setOutcome p (v 0) (v 1)
  | 46 => .returnSlip p (v 0)
  | 47 => .readSlipPool p
  | 48 => .readPort p
  | 49 => .setMask p (v 0)
  | 50 => .clearAttention p (v 0)
  | 51 => .signal p (v 0)
  | 52 => .sectionRestart p
  | 53 => .storeSettings p
  | _ => .unknownCode p 0

/-- The place of a request in the catalogue and the port it is sent at (R190); none for a command that is no
request. -/
def requestPlace : Instr → Option (Nat × Port)
  | .openLane p _ _ _ _ _ => some (0, p)
  | .closeLane p _ => some (1, p)
  | .parkLane p _ _ => some (2, p)
  | .resumeLane p _ => some (3, p)
  | .setLaneSettings p _ _ _ _ _ _ => some (4, p)
  | .readLaneStatus p _ => some (5, p)
  | .readLaneSummary p => some (6, p)
  | .lockout p _ => some (7, p)
  | .unlock p _ => some (8, p)
  | .manualCycle p _ _ => some (9, p)
  | .clearFault p _ _ => some (10, p)
  | .pinsSet p _ => some (11, p)
  | .setPinsetterTimers p _ _ _ _ => some (12, p)
  | .readReturn p _ => some (13, p)
  | .clearOverdue p _ _ => some (14, p)
  | .liftRestart p _ => some (15, p)
  | .setReturnSettings p _ _ => some (16, p)
  | .addBowler p _ _ _ => some (17, p)
  | .removeBowler p _ _ => some (18, p)
  | .away p _ _ => some (19, p)
  | .back p _ _ => some (20, p)
  | .setPairMode p _ _ => some (21, p)
  | .setPairSettings p _ _ _ _ _ => some (22, p)
  | .readRoster p _ => some (23, p)
  | .readFrameSheet p _ _ _ => some (24, p)
  | .reball p _ => some (25, p)
  | .applyCorrection p _ => some (26, p)
  | .supplyBowler p _ _ _ => some (27, p)
  | .unknownBowler p _ => some (28, p)
  | .updateBowler p _ _ _ => some (29, p)
  | .dropBowler p _ => some (30, p)
  | .setRangeEntry p _ _ _ _ _ => some (31, p)
  | .readBowler p _ => some (32, p)
  | .readFetchQueue p => some (33, p)
  | .setClock p _ _ _ => some (34, p)
  | .setTariffLayout p _ _ _ => some (35, p)
  | .setPrices p _ _ _ _ => some (36, p)
  | .setBillingSettings p _ _ _ => some (37, p)
  | .readTariff p => some (38, p)
  | .addCredit p _ _ => some (39, p)
  | .readMeter p _ => some (40, p)
  | .takeSlip p => some (41, p)
  | .writeSlip p _ _ _ _ => some (42, p)
  | .postSlip p _ _ => some (43, p)
  | .fetchSlip p => some (44, p)
  | .setOutcome p _ _ => some (45, p)
  | .returnSlip p _ => some (46, p)
  | .readSlipPool p => some (47, p)
  | .readPort p => some (48, p)
  | .setMask p _ => some (49, p)
  | .clearAttention p _ => some (50, p)
  | .signal p _ => some (51, p)
  | .sectionRestart p => some (52, p)
  | .storeSettings p => some (53, p)
  | _ => none

/-- The parameters of a request in the order of the line. -/
def requestFields : Instr → List Nat
  | .openLane _ lane kind mode credit cls => [lane, kind, mode, credit, cls]
  | .closeLane _ lane => [lane]
  | .parkLane _ lane mask => [lane, mask]
  | .resumeLane _ lane => [lane]
  | .setLaneSettings _ scope lane cls foul mask lamps =>
    [scope, lane, presenceOf [cls.isSome, foul.isSome, mask.isSome, lamps.isSome], cls.getD 0, foul.getD 0,
      mask.getD 0, lamps.getD 0]
  | .readLaneStatus _ lane => [lane]
  | .readLaneSummary _ => []
  | .lockout _ lane => [lane]
  | .unlock _ lane => [lane]
  | .manualCycle _ lane kind => [lane, kind]
  | .clearFault _ lane choice => [lane, choice]
  | .pinsSet _ lane => [lane]
  | .setPinsetterTimers _ warmUp cycle travel window =>
    [presenceOf [warmUp.isSome, cycle.isSome, travel.isSome, window.isSome], warmUp.getD 0, cycle.getD 0,
      travel.getD 0, window.getD 0]
  | .readReturn _ pair => [pair]
  | .clearOverdue _ pair lane => [pair, lane]
  | .liftRestart _ pair => [pair]
  | .setReturnSettings _ timeout idle => [presenceOf [timeout.isSome, idle.isSome], timeout.getD 0, idle.getD 0]
  | .addBowler _ pair slot number => [pair, slot, number]
  | .removeBowler _ pair slot => [pair, slot]
  | .away _ pair slot => [pair, slot]
  | .back _ pair slot => [pair, slot]
  | .setPairMode _ pair mode => [pair, mode]
  | .setPairSettings _ pair games base percent cap =>
    [pair, presenceOf [games.isSome, base.isSome, percent.isSome, cap.isSome], games.getD 0, base.getD 0,
      percent.getD 0, cap.getD 0]
  | .readRoster _ pair => [pair]
  | .readFrameSheet _ pair slot game => [pair, slot, game]
  | .reball _ lane => [lane]
  | .applyCorrection _ slip => [slip]
  | .supplyBowler _ number average override => [number, average, presenceOf [override.isSome], override.getD 0]
  | .unknownBowler _ number => [number]
  | .updateBowler _ number average override => [number, average, presenceOf [override.isSome], override.getD 0]
  | .dropBowler _ number => [number]
  | .setRangeEntry _ index enabled first last average => [index, enabled, first, last, average]
  | .readBowler _ number => [number]
  | .readFetchQueue _ => []
  | .setClock _ hour minute second => [hour, minute, second]
  | .setTariffLayout _ dayStart bands length => [dayStart, bands, length]
  | .setPrices _ cls band game unit => [cls, band, presenceOf [game.isSome, unit.isSome], game.getD 0, unit.getD 0]
  | .setBillingSettings _ unit front back =>
    [presenceOf [unit.isSome, front.isSome, back.isSome], unit.getD 0, front.getD 0, back.getD 0]
  | .readTariff _ => []
  | .addCredit _ lane amount => [lane, amount]
  | .readMeter _ lane => [lane]
  | .takeSlip _ => []
  | .writeSlip _ slip kind lane body => [slip, kind, lane] ++ body.map BitVec.toNat
  | .postSlip _ slip dest => [slip, dest]
  | .fetchSlip _ => []
  | .setOutcome _ slip outcome => [slip, outcome]
  | .returnSlip _ slip => [slip]
  | .readSlipPool _ => []
  | .readPort _ => []
  | .setMask _ set => [set]
  | .clearAttention _ set => [set]
  | .signal _ target => [target]
  | .sectionRestart _ => []
  | .storeSettings _ => []
  | _ => []

/-- The code of a place in the catalogue (R188). -/
def codeOf (place : Nat) : Byte := BitVec.ofNat 8 (0x10 + place)

/-- The layout of a place in the catalogue. -/
def layoutOf (place : Nat) : List Nat := requestLayouts.getD place []

/-- A frame body read as a command (R186, R188): a request; a frame answered UNKNOWN, of a code that is none; or
one answered FRAME, whose body is not the length its code calls for. -/
def parseBody (p : Port) : List Byte → Instr
  | [] => .badFrame p 0
  | c :: params =>
    if knownCode c then
      match readFields (layoutOf (c.toNat - 0x10)) params with
      | some v => requestOf p (c.toNat - 0x10) fun i => v.getD i 0
      | none => .badFrame p c
    else .unknownCode p c

/-- The code a frame carries, which its reply echoes (R186, R187). -/
def echoOf (i : Instr) : Byte :=
  match i with
  | .badFrame _ c => c
  | .unknownCode _ c => c
  | _ =>
    match requestPlace i with
    | some (k, _) => codeOf k
    | none => 0

/-- A request as the body of a frame. -/
def requestBody (i : Instr) : List Byte :=
  match requestPlace i with
  | some (k, _) => codeOf k :: writeFields (layoutOf k) (requestFields i)
  | none => []

/-- The start byte (R186). -/
def startByte : Byte := 0xA5

/-- The sum of bytes modulo 256. -/
def byteSum (bytes : List Byte) : Byte := bytes.foldl (· + ·) 0

/-- An exchange frame (R197): the check byte makes length, body and check sum to 0. -/
def frameOf (body : List Byte) : List Byte :=
  let length : Byte := BitVec.ofNat 8 body.length
  startByte :: length :: body ++ [0 - byteSum (length :: body)]

/-- A frame as it is received without a fault. -/
def frameChars (body : List Byte) : List LineChar := (frameOf body).map fun b => ⟨b, true⟩

/-- Results cut in pieces of 60 bytes (R187); no results are one empty piece. -/
def piecesOf : Nat → List Byte → List (List Byte)
  | 0, _ => []
  | n + 1, results =>
    if results.length ≤ 60 then [results] else results.take 60 :: piecesOf n (results.drop 60)

/-- The frames of a reply (R187). -/
def Reply.frames (r : Reply) : List (List Byte) :=
  (piecesOf (r.results.length + 1) r.results).map fun piece =>
    frameOf (r.code :: BitVec.ofNat 8 r.outcome.code :: piece)

end Sys2Proof.Machine
end

