-- ==== Sys2Proof/Machine/Flags.lean ====
section
/-! DEFINITION. Attention flags (R193): event flags set by the blocks, level flags that follow conditions, and
the attention line; and the writing of a lane's record and of a Turn Unit with the flags that follow a change. -/

namespace Sys2Proof

/-- The bit of a desk flag (R197, attention sets). -/
def DkFlag.bit : DkFlag → Nat
  | .laneClosing => 3
  | .laneParked => 4
  | .unpaidDelivery => 5
  | .settingsDefaulted => 6
  | .storeDone => 7
  | .signal => 8

/-- The bit of a mechanic flag (R197, attention sets). -/
def McFlag.bit : McFlag → Nat
  | .pinsetterFault => 2
  | .returnOverdue => 3
  | .returnRecovered => 4
  | .returnWriteOff => 5
  | .liftStall => 6
  | .backlogFull => 7
  | .signal => 8

/-- The bit of a console flag (R197, attention sets). -/
def ConsoleFlag.bit : ConsoleFlag → Nat
  | .frameChanged => 1
  | .turnChanged => 2
  | .laneStateChanged => 3
  | .foul => 4
  | .earlyBall => 5
  | .signal => 6

/-- The set of one flag. -/
def flagBit (k : Nat) : FlagSet := 1 <<< k

/-- A condition as the flag of a bit. -/
def flagIf (c : Bool) (k : Nat) : FlagSet := if c then flagBit k else 0

namespace Machine

/-- An event flag of a port is set (R193). -/
def State.setEvent (s : State) (p : Port) (k : Nat) : State :=
  s.modPort p fun i => { i with events := i.events ||| flagBit k }

/-- A desk event flag is set. -/
def State.flagDk (s : State) (f : DkFlag) : State := s.setEvent .dk f.bit
/-- A mechanic event flag is set. -/
def State.flagMc (s : State) (f : McFlag) : State := s.setEvent .mc f.bit
/-- An event flag is set at the console of a pair. -/
def State.flagConsole (s : State) (n : Fin 8) (f : ConsoleFlag) : State := s.setEvent (.console n) f.bit

/-- The SIGNAL flag of a port's kind (R195). -/
def signalBit : Port → Nat
  | .dk => DkFlag.signal.bit
  | .mc => McFlag.signal.bit
  | .console _ => ConsoleFlag.signal.bit

/-- SLIP_WAITING holds (R172). -/
def State.slipWaiting (s : State) (p : Port) : Bool := !(s.pool.posts[p.index]).isEmpty
/-- FETCH_WANTED holds (R134). -/
def State.fetchWanted (s : State) : Bool := !s.directory.fetch.isEmpty
/-- CLOCK_UNSET holds (R148). -/
def State.clockUnset (s : State) : Bool := s.clock.unset
/-- PINS_TO_SET holds (R35). -/
def State.pinsToSet (s : State) : Bool := allLanes.any fun l => (s.lane l).sup.state == .handSet

/-- The level flags of a port as their conditions stand (R193). -/
def State.levelFlags (s : State) (p : Port) : FlagSet :=
  flagIf (s.slipWaiting p) 0 |||
    match p with
    | .dk => flagIf s.fetchWanted 1 ||| flagIf s.clockUnset 2
    | .mc => flagIf s.pinsToSet 1
    | .console _ => 0

/-- The flags a port's kind has (R197). -/
def ownFlags : Port → FlagSet
  | .dk => 0x1FF
  | .mc => 0x1FF
  | .console _ => 0x7F

/-- The event flags a port's kind has (R193). -/
def ownEvents : Port → FlagSet
  | .dk => 0x1F8
  | .mc => 0x1FC
  | .console _ => 0x7E

/-- A port's attention set (R193). -/
def State.attention (s : State) (p : Port) : FlagSet := (s.port p).events ||| s.levelFlags p

/-- A port's attention line: at least one flag set and unmasked (R193). -/
def State.attentionLine (s : State) (p : Port) : Bool := s.attention p &&& ~~~(s.port p).mask != 0

/-- What LANE_STATE_CHANGED follows: session state, wake mask, pending park (R1) and pinsetter state (R21). -/
def Lane.watched (a : Lane) : SessionState × WakeMask × Option PendingPark × PsState :=
  (a.session.state, a.session.wakeMask, a.session.pendingPark, a.sup.state)

/-- A lane's record changed; LANE_STATE_CHANGED is set at its pair's console by a change of what it follows. -/
def State.updLane (s : State) (l : Fin 16) (f : Lane → Lane) : State :=
  if (f (s.lane l)).watched = (s.lane l).watched then s.modLane l f
  else (s.modLane l f).flagConsole (pairOf l) .laneStateChanged

/-- A lane's Supervisor record changed. -/
def State.updSup (s : State) (l : Fin 16) (f : Supervisor → Supervisor) : State :=
  s.updLane l fun a => { a with sup := f a.sup }

/-- What TURN_CHANGED follows in a slot (R82, R135). -/
def Slot.watched (x : Slot) : SlotState × Bool × GameStage × Nat × Nat × AverageSource × FetchState :=
  (x.state, x.away, x.stage, x.frame, x.ball, x.source, x.fetch)

/-- What TURN_CHANGED follows in a Turn Unit (R82): the mode, the queues, the paid start marks, the settings
and the slots. -/
def TurnUnit.sameTurns (t u : TurnUnit) : Bool :=
  t.mode == u.mode && t.queueOdd == u.queueOdd && t.queueEven == u.queueEven &&
    t.paidOdd == u.paidOdd && t.paidEven == u.paidEven && t.settings == u.settings &&
    t.slots.toList.map Slot.watched == u.slots.toList.map Slot.watched

/-- What FRAME_CHANGED follows in a slot (R110): its sheets and its handicap field. -/
def Slot.sheets (x : Slot) : Option Sheet × List GameRecord × Handicap := (x.sheet, x.retained, x.handicap)

/-- The sheets and handicaps of two Turn Units are the same. -/
def TurnUnit.sameSheets (t u : TurnUnit) : Bool :=
  t.slots.toList.map Slot.sheets == u.slots.toList.map Slot.sheets

/-- A flag set at a pair's console when a condition holds. -/
def State.flagConsoleIf (s : State) (c : Bool) (n : Fin 8) (f : ConsoleFlag) : State :=
  if c then s.flagConsole n f else s

/-- A Turn Unit changed; TURN_CHANGED and FRAME_CHANGED are set at the pair's console by a change of what they
follow (R82, R110). -/
def State.updTurn (s : State) (p : Fin 8) (f : TurnUnit → TurnUnit) : State :=
  let old := s.turn p
  let new := f old
  ((s.modPair p fun a => { a with turn := new }).flagConsoleIf (!old.sameTurns new) p .turnChanged).flagConsoleIf
    (!old.sameSheets new) p .frameChanged

/-- A slot changed. -/
def State.updSlot (s : State) (p : Fin 8) (i : Fin 12) (f : Slot → Slot) : State :=
  s.updTurn p fun t => t.modSlot i f

end Machine
end Sys2Proof
end

