-- ==== Sys2Proof/Machine/Sheets.lean ====
section
/-! DEFINITION. What the Score Unit works out from a frame sheet (05): racks, pin counts, splits, kinds,
bonuses and cumulative scores, and the checks and rescoring of a correction (R108, R122 to R124). -/

namespace Sys2Proof.Machine

/-- A frame of a new sheet (R87). -/
def FrameRec.fresh : FrameRec := ⟨[], .incomplete, none, none⟩

/-- A new sheet for a game (R75, R87). -/
def Sheet.new (game : Nat) : Sheet := ⟨game, List.replicate 10 .fresh, 0⟩

/-- A ball entry counted as a strike: ten pins down at a fresh rack (R92, R93). -/
def BallEntry.isStrike (b : BallEntry) : Bool := b.rack == .fresh && b.down == 10

/-- The rack the next ball of a frame is due at, from the balls already in it (R90). -/
def rackOf (tenth : Bool) (balls : List BallEntry) : Rack :=
  match balls with
  | [] => .fresh
  | [a] => if a.foul || (tenth && a.isStrike) then .fresh else .standing
  | a :: b :: _ =>
    if !a.isStrike then .fresh
    else if b.isStrike || b.foul then .fresh
    else .standing

/-- The pins available to a ball (R90). -/
def pinsAvailable (rack : Rack) (balls : List BallEntry) : Nat :=
  match rack, balls.getLast? with
  | .standing, some b => 10 - b.down
  | _, _ => 10

/-- The pins of a set down after a ball, by steps 1 and 2 of R91. -/
def countDown (foul : Bool) (pre after : PinSet) : Nat :=
  if foul then 0 else pinCount pre - pinCount after

/-- The neighbours of each pin (R95). -/
def neighbours : List PinSet :=
  [0b0000000110, 0b0000011101, 0b0000110011, 0b0011010010, 0b0110101110,
   0b1100010100, 0b0010001000, 0b0101011000, 0b1010110000, 0b0100100000]

/-- A set of pins with their neighbours within the standing pins. -/
def spread (standing reached : PinSet) : PinSet :=
  ((List.range 10).foldl (fun acc k => if reached.getLsbD k then acc ||| (neighbours.getD k 0) else acc) reached)
    &&& standing

/-- The lowest pin of a set, as a set. -/
def lowestPin (s : PinSet) : PinSet := s &&& (-s)

/-- The standing pins form one connected group (R95): ten steps reach every pin that can be reached. -/
def connected (s : PinSet) : Bool := (List.range 10).foldl (fun r _ => spread s r) (lowestPin s) == s

/-- The split mark (R95). -/
def isSplit (foul : Bool) (pre after : PinSet) : Bool :=
  !foul && pre == fullRack && !after.getLsbD 0 && 2 ≤ pinCount after && !connected after

/-- The kind of a frame 1 to 9 (R92). -/
def kindOfEarly (balls : List BallEntry) : FrameKind :=
  match balls with
  | [] => .incomplete
  | [a] => if a.down == 10 then .strike else .incomplete
  | a :: b :: _ => if a.down + b.down == 10 then .spare else .opened

/-- The kind of frame 10 (R93). -/
def kindOfTenth (balls : List BallEntry) : FrameKind :=
  match balls with
  | [] => .incomplete
  | [_] => .incomplete
  | [a, b] => if a.isStrike || a.down + b.down == 10 then .incomplete else .opened
  | a :: _ :: _ :: _ => if a.isStrike then .strike else .spare

/-- The kind of a frame. -/
def kindOf (tenth : Bool) (balls : List BallEntry) : FrameKind :=
  if tenth then kindOfTenth balls else kindOfEarly balls

/-- The pins of a frame's balls together. -/
def FrameRec.sum (f : FrameRec) : Nat := (f.balls.map BallEntry.down).sum

/-- The counts of the balls of later frames, in the order bowled (R97, "the next balls"). -/
def nextBalls (later : List FrameRec) : List Nat := later.flatMap fun f => f.balls.map BallEntry.down

/-- The score of a frame once every ball it needs is in the sheet (R97). Frame 10 is the one with no later
frame. -/
def frameScore (f : FrameRec) (later : List FrameRec) : Option Nat :=
  if later.isEmpty then (if f.kind = .incomplete then none else some f.sum)
  else
    match f.kind, nextBalls later with
    | .strike, a :: b :: _ => some (10 + a + b)
    | .spare, a :: _ => some (10 + a)
    | .opened, _ => some f.sum
    | _, _ => none

/-- Frames resolved from the oldest unresolved one on; the attempt stops at the first that cannot (R98). -/
def resolveFrom (before : Nat) : List FrameRec → List FrameRec
  | [] => []
  | f :: later =>
    match f.score, f.cumulative with
    | some _, some c => f :: resolveFrom c later
    | _, _ =>
      match frameScore f later with
      | some n => { f with score := some n, cumulative := some (before + n) } :: resolveFrom (before + n) later
      | none => f :: later

/-- A frame's scores absent. -/
def FrameRec.unresolved (f : FrameRec) : FrameRec := { f with score := none, cumulative := none }

/-- Every frame's score and cumulative worked out again (R108 step 5). -/
def rescore (frames : List FrameRec) : List FrameRec := resolveFrom 0 (frames.map FrameRec.unresolved)

/-- Frames of 1 to 9 that await bonus balls (R87, R98). -/
def countAwaiting (frames : List FrameRec) : Nat :=
  (frames.take 9).countP fun f => (f.kind == .strike || f.kind == .spare) && f.score.isNone

/-- A frame of a sheet by its number. -/
def frameAt (frames : List FrameRec) (n : Nat) : FrameRec := frames.getD (n - 1) .fresh

/-- A frame of a sheet changed. -/
def modFrame (frames : List FrameRec) (n : Nat) (f : FrameRec → FrameRec) : List FrameRec :=
  frames.modify (n - 1) f

/-- A ball entry made from a delivery (R86, R90, R91, R95). -/
def makeEntry (tenth : Bool) (balls : List BallEntry) (pre after : PinSet) (m : Marks) : BallEntry :=
  let rack := rackOf tenth balls
  let count := countDown m.foul pre after
  let room := pinsAvailable rack balls
  { rack := rack
    pre := pre
    after := after
    down := min count room
    foul := m.foul
    split := isSplit m.foul pre after
    corrected := false
    deckMissed := m.deckMissed
    releaseMissed := m.releaseMissed
    senseOdd := m.senseOdd || room < count }

/-- A ball written into a sheet, its frame's kind settled and the frames resolved (R89 steps 2 to 4). -/
def Sheet.addBall (sh : Sheet) (frame : Nat) (pre after : PinSet) (m : Marks) : Sheet :=
  let tenth := frame == 10
  let frames := modFrame sh.frames frame fun f =>
    let balls := f.balls ++ [makeEntry tenth f.balls pre after m]
    { f with balls := balls, kind := kindOf tenth balls }
  let frames := resolveFrom 0 frames
  { sh with frames := frames, awaiting := countAwaiting frames }

/-- A frame needs no further ball (R96): its kind is settled. -/
def Sheet.frameComplete (sh : Sheet) (frame : Nat) : Bool := (frameAt sh.frames frame).kind != .incomplete

/-- The game has finished (R96, R100): frame 10 is resolved. -/
def Sheet.gameFinished (sh : Sheet) : Bool := (frameAt sh.frames 10).score.isSome

/-- At least one ball of the sheet is scored. -/
def Sheet.hasBall (sh : Sheet) : Bool := sh.frames.any fun f => !f.balls.isEmpty

/-- What a frame records, as the Reball Snapshot keeps it (R112). -/
def priorOf (frames : List FrameRec) (n : Nat) : PriorFrame :=
  let f := frameAt frames n
  ⟨n, f.kind, f.score, f.cumulative⟩

/-- The prior frames of a ball (R112, R113): each earlier frame the ball resolves, and its own frame. -/
def priorFrames (before after : Sheet) (frame : Nat) : List PriorFrame :=
  (((List.range 10).map (· + 1)).filter fun n =>
    n == frame || (n < frame && (frameAt before.frames n).score.isNone && (frameAt after.frames n).score.isSome)).map
      (priorOf before.frames)

/-- A frame takes back its prior kind and scores (R107). -/
def restoreFrame (frames : List FrameRec) (q : PriorFrame) : List FrameRec :=
  modFrame frames q.frame fun f => { f with kind := q.kind, score := q.score, cumulative := q.cumulative }

/-- A ball taken back from a sheet (R107). -/
def Sheet.takeBack (sh : Sheet) (n : Snapshot) : Sheet :=
  let frames := modFrame sh.frames n.frame fun f => { f with balls := f.balls.take (n.ball - 1) }
  { sh with frames := n.prior.foldl restoreFrame frames, awaiting := n.bonus }

/-- A finished game's record (R100). -/
def GameRecord.finish (sh : Sheet) (h : Handicap) : GameRecord :=
  let scratch := ((frameAt sh.frames 10).cumulative).getD 0
  let handicap := match h with
    | .value n => n
    | .pending => 0
    | .absent => 0
  { game := sh.game
    frames := sh.frames
    scratch := scratch
    handicap := handicap
    total := scratch + handicap
    defaulted := h == .pending
    corrected := sh.frames.any fun f => f.balls.any BallEntry.corrected }

/-- A record joins the tail of a retained list of three, the oldest dropped first (R101). -/
def retain (list : List GameRecord) (r : GameRecord) : List GameRecord :=
  (if 3 ≤ list.length then list.drop 1 else list) ++ [r]

/-- The series total (R102). -/
def seriesTotal (list : List GameRecord) : Nat := (list.map GameRecord.total).sum

/-! ## Corrections -/

/-- An entry's pins down by steps 1 and 2 of R108. Where the after set holds more pins than the pre-ball set, as in a
correction that R124 refuses, the count is 0 (log 12). -/
def BallEntry.recount (b : BallEntry) : BallEntry := { b with down := countDown b.foul b.pre b.after }

/-- A later ball of the corrected ball's frame (R108 step 2): at rack STANDING it takes the proposed set as its
pre-ball set and is counted again. -/
def BallEntry.standOn (proposed : PinSet) (b : BallEntry) : BallEntry :=
  if b.rack = .standing then { b with pre := proposed }.recount else b

/-- The balls of a frame from the corrected one on (R108 steps 1 and 2). -/
def correctBalls (proposed : PinSet) : List BallEntry → List BallEntry
  | [] => []
  | b :: later => { b with after := proposed }.recount :: later.map (BallEntry.standOn proposed)

/-- A frame's balls with ball `n` corrected. -/
def correctedBalls (balls : List BallEntry) (n : Nat) (proposed : PinSet) : List BallEntry :=
  balls.take (n - 1) ++ correctBalls proposed (balls.drop (n - 1))

/-- Is the ball of a number a strike of its frame? -/
def strikeAt (balls : List BallEntry) (n : Nat) : Bool :=
  match balls[n - 1]? with
  | some b => b.isStrike
  | none => false

/-- What a correction may not change in a frame (R123, the table): whether ball 1 is a strike; in frame 10
whether ball 2 is a strike after a ball-1 strike, or whether balls 1 and 2 make 10 after another ball 1. -/
def shapeOf (tenth : Bool) (balls : List BallEntry) : Bool × Bool :=
  (strikeAt balls 1,
    tenth &&
      (if strikeAt balls 1 then strikeAt balls 2
       else match balls with
         | a :: b :: _ => a.down + b.down == 10
         | _ => false))

/-- The balls of a frame bowled at one rack would count more than 10 together (R123). -/
def overRack : List BallEntry → Bool
  | a :: b :: rest => (b.rack == .standing && 10 < a.down + b.down) || overRack (b :: rest)
  | _ => false

/-- The checks of R123 and R124 on a bowled ball, in order: the reason of the first that fails. -/
def correctionRefusal (tenth : Bool) (balls : List BallEntry) (n : Nat) (proposed : PinSet) : Option RefuseReason :=
  let new := correctedBalls balls n proposed
  match balls.drop (n - 1) with
  | [] => some .notFound
  | b :: later =>
    if !pinsWithin proposed b.pre then some .notSubset
    else if shapeOf tenth new != shapeOf tenth balls || overRack new then some .shape
    else if later.any fun c => c.rack == .standing && !pinsWithin c.after proposed then some .conflict
    else none

/-- The corrected ball is marked, and the split marks of the changed entries derived again (R108). -/
def markCorrected (n : Nat) (old new : List BallEntry) : List BallEntry :=
  (List.range new.length).map fun k =>
    let b := new.getD k ⟨.fresh, 0, 0, 0, false, false, false, false, false, false⟩
    let b := if k + 1 = n then { b with corrected := true } else b
    match old[k]? with
    | some a => if a.pre = b.pre ∧ a.after = b.after then b else { b with split := isSplit b.foul b.pre b.after }
    | none => b

/-- A game rescored from a corrected ball (R108, R125). -/
def correctFrames (frames : List FrameRec) (frame ball : Nat) (proposed : PinSet) : List FrameRec :=
  let tenth := frame == 10
  rescore (modFrame frames frame fun f =>
    let balls := markCorrected ball f.balls (correctedBalls f.balls ball proposed)
    { f with balls := balls, kind := kindOf tenth balls })

/-- A correction applied to a current sheet (R108). -/
def Sheet.correct (sh : Sheet) (frame ball : Nat) (proposed : PinSet) : Sheet :=
  let frames := correctFrames sh.frames frame ball proposed
  { sh with frames := frames, awaiting := countAwaiting frames }

/-- A correction applied to a retained record (R108): the handicap does not change. -/
def GameRecord.correct (r : GameRecord) (frame ball : Nat) (proposed : PinSet) : GameRecord :=
  let frames := correctFrames r.frames frame ball proposed
  let scratch := ((frameAt frames 10).cumulative).getD 0
  { r with frames := frames, scratch := scratch, total := scratch + r.handicap, corrected := true }

/-! ## Handicap -/

/-- The computed handicap (R104): base less average, times the percentage over 100, rounded down, capped. -/
def computedHandicap (average : Nat) (st : PairSettings) : Nat :=
  min st.cap ((st.base - average) * st.percent / 100)

/-- The handicap from an ordinary entry: its override where it holds one (R104). -/
def entryHandicap (average : Nat) (override : Option Nat) (st : PairSettings) : Nat :=
  match override with
  | some o => min o st.cap
  | none => computedHandicap average st

end Sys2Proof.Machine
end

