-- ==== Sys2Proof/Machine/Fetch.lean ====
section
/-! DEFINITION. The Bowler Directory's operations (07): finding records, the victim choice, the fetch queue and
its deferred numbers, lookup and renewal, the release of a cleared slot's number, and handicaps. -/

namespace Sys2Proof.Machine

/-- The valid entry that holds a number (R129: at most one). -/
def Directory.find (d : Directory) (number : Nat) : Option (Fin 112) :=
  firstFin 112 fun k => d.entries[k].valid && d.entries[k].number == number

/-- The lowest-index enabled range entry that covers a number (R130). -/
def Directory.cover (d : Directory) (number : Nat) : Option (Fin 8) :=
  firstFin 8 fun k => d.ranges[k].enabled && d.ranges[k].first ≤ number && number ≤ d.ranges[k].last

/-- An entry changed. -/
def Directory.modEntry (d : Directory) (k : Fin 112) (f : Entry → Entry) : Directory :=
  { d with entries := d.entries.set k (f d.entries[k]) }

/-- The used marks of all unlocked entries cleared (R139 step 3). -/
def Directory.clearUsed (d : Directory) : Directory :=
  { d with entries := d.entries.map fun e => if e.locked then e else { e with used := false } }

/-- The victim choice (R139): the lowest-index invalid entry, or unlocked entry with its used mark clear, or,
with the used marks of unlocked entries cleared, unlocked entry. -/
def Directory.victim (d : Directory) : Directory × Fin 112 :=
  match firstFin 112 fun k => !d.entries[k].valid with
  | some k => (d, k)
  | none =>
    match firstFin 112 fun k => !d.entries[k].locked && !d.entries[k].used with
    | some k => (d, k)
    | none => (d.clearUsed, (firstFin 112 fun k => !d.entries[k].locked).getD 0)

/-- A record written (R137 step 1): the index of the entry written, and whether it was a victim taken from
another number. -/
structure Written where
  directory : Directory
  index : Fin 112
  victim : Bool

/-- A record written to the number's entry, or to a victim; its used mark is set (R137 step 1, R131). -/
def Directory.write (d : Directory) (number average : Nat) (override : Option Nat) : Written :=
  match d.find number with
  | some k =>
    ⟨d.modEntry k fun e => { e with average := average, override := override, used := true }, k, false⟩
  | none =>
    let (d, k) := d.victim
    ⟨d.modEntry k fun _ => ⟨true, number, average, override, true, false⟩, k, d.entries[k].valid⟩

/-- The slots of the section, in order of pair and slot. -/
def sectionSlots : List (Fin 8 × Fin 12) := allPairs.flatMap fun p => allSlots.map fun i => (p, i)

/-- The slot that holds a bowler number (R67: at most one). -/
def State.findSlot (s : State) (number : Nat) : Option (Fin 8 × Fin 12) :=
  sectionSlots.find? fun a => (s.slot a.1 a.2).bowler == some number

/-- The first DEFERRED slot in order of pair and slot (R135). -/
def State.firstDeferred (s : State) : Option (Fin 8 × Fin 12) :=
  sectionSlots.find? fun a => (s.slot a.1 a.2).fetch == .deferred

/-- How many slots are DEFERRED (R136). -/
def State.deferredCount (s : State) : Nat := sectionSlots.countP fun a => (s.slot a.1 a.2).fetch == .deferred

/-- A number joins the tail of the fetch queue (R134). -/
def State.joinFetch (s : State) (number : Nat) : State :=
  s.modDirectory fun d => { d with fetch := d.fetch ++ [number] }

/-- The room in the fetch queue is filled with deferred numbers (R135). -/
def State.fillFetch : Nat → State → State
  | 0, s => s
  | fuel + 1, s =>
    if s.directory.fetch.length < 16 then
      match s.firstDeferred with
      | some (p, i) =>
        ((s.joinFetch ((s.slot p i).bowler.getD 0)).updSlot p i fun x => { x with fetch := .requested }).fillFetch fuel
      | none => s
    else s

/-- A number leaves the fetch queue, wherever it stands, and the room is filled (R134, R135). -/
def State.leaveFetch (s : State) (number : Nat) : State :=
  if number ∈ s.directory.fetch then
    (s.modDirectory fun d => { d with fetch := d.fetch.filter (· != number) }).fillFetch 16
  else s

/-- A number that no record covers: it joins the fetch queue, or is deferred when the queue is full; its slot's
source is PENDING (R132, R133). -/
def State.missFetch (s : State) (p : Fin 8) (i : Fin 12) (number : Nat) : State :=
  if s.directory.fetch.length < 16 then
    (s.joinFetch number).updSlot p i fun x => { x with source := .pending, fetch := .requested }
  else s.updSlot p i fun x => { x with source := .pending, fetch := .deferred }

/-- The lookup of a new slot's number (R132). -/
def State.lookup (s : State) (p : Fin 8) (i : Fin 12) (number : Nat) : State :=
  match s.directory.find number with
  | some k =>
    (s.modDirectory fun d => d.modEntry k fun e => { e with used := true, locked := true }).updSlot p i
      fun x => { x with source := .entry, fetch := .none }
  | none =>
    if (s.directory.cover number).isSome then s.updSlot p i fun x => { x with source := .range, fetch := .none }
    else s.missFetch p i number

/-- The renewal of a slot's average at a game start (R133). -/
def State.renew (s : State) (p : Fin 8) (i : Fin 12) : State :=
  match (s.slot p i).source, (s.slot p i).bowler with
  | .range, some number => if (s.directory.cover number).isSome then s else s.missFetch p i number
  | _, _ => s

/-- The handicap of a slot's game by its average source (R104, R105). -/
def State.handicapOf (s : State) (p : Fin 8) (i : Fin 12) : Handicap :=
  let number := (s.slot p i).bowler.getD 0
  let st := (s.turn p).settings
  match (s.slot p i).source with
  | .none => .value 0
  | .pending => .pending
  | .entry =>
    match s.directory.find number with
    | some k => .value (entryHandicap s.directory.entries[k].average s.directory.entries[k].override st)
    | none => .value 0
  | .range =>
    match s.directory.cover number with
    | some k => .value (computedHandicap s.directory.ranges[k].average st)
    | none => .value 0

/-- A PENDING handicap of a STARTED or IN_PROGRESS game is computed when its source is resolved (R106). -/
def State.settleHandicap (s : State) (p : Fin 8) (i : Fin 12) : State :=
  if (s.slot p i).stage ≠ .waiting ∧ (s.slot p i).handicap = .pending then
    s.updSlot p i fun x => { x with handicap := s.handicapOf p i }
  else s

/-- The Directory's part in the clear of a slot (R145). -/
def State.releaseNumber (s : State) (p : Fin 8) (i : Fin 12) : State :=
  match (s.slot p i).bowler, (s.slot p i).source, (s.slot p i).fetch with
  | some number, .entry, _ =>
    match s.directory.find number with
    | some k => s.modDirectory fun d => d.modEntry k fun e => { e with locked := false }
    | none => s
  | some number, .pending, .requested => s.leaveFetch number
  | _, _, _ => s

end Sys2Proof.Machine
end

