-- ==== Sys2Proof/Machine/Meter.lean ====
section
/-! DEFINITION. The clock, tariff bands and prices, and what a charge does to a meter record (08). -/

namespace Sys2Proof.Machine

/-- The minute of the day (R148). -/
def Clock.minuteOfDay (c : Clock) : Nat := c.hour * 60 + c.minute

/-- The clock one second on (R148), from 23:59:59 to 00:00:00. -/
def Clock.nextSecond (c : Clock) : Clock :=
  if c.second + 1 < 60 then { c with second := c.second + 1 }
  else if c.minute + 1 < 60 then { c with second := 0, minute := c.minute + 1 }
  else if c.hour + 1 < 24 then { c with second := 0, minute := 0, hour := c.hour + 1 }
  else { c with second := 0, minute := 0, hour := 0 }

/-- The band of a minute of the day (R150). -/
def Tariff.bandAt (t : Tariff) (minute : Nat) : Nat :=
  min t.bands ((minute + 1440 - t.dayStart) % 1440 / t.length + 1)

/-- The minute at which a band begins (R151). -/
def Tariff.bandStart (t : Tariff) (band : Nat) : Nat := (t.dayStart + (band - 1) * t.length) % 1440

/-- The band that begins at a minute, if one does (R151). -/
def Tariff.edgeAt (t : Tariff) (minute : Nat) : Option Nat :=
  ((List.range t.bands).map (· + 1)).find? fun b => t.bandStart b == minute

/-- The place of a class and band in the price table. -/
def priceIx (cls band : Nat) : Fin 32 := Fin.ofNat 32 (cls * 8 + (band - 1))

/-- The band in force. -/
def State.band (s : State) : Nat := s.tariff.bandAt s.clock.minuteOfDay

/-- A lane's prices in the band in force, by its price class setting (R159 steps 1 and 2). -/
def State.priceOf (s : State) (l : Fin 16) : Price :=
  s.tariff.prices[priceIx (s.lane l).session.settings.priceClass s.band]

/-- The highest charged (R159) and credited (R165). -/
def chargedCeiling : Nat := 9999999
/-- The highest balance (R156). -/
def balanceCeiling : Nat := 999999

/-- A charge added to charged, which holds at its ceiling (R159). -/
def Meter.addCharge (m : Meter) (price : Nat) : Meter :=
  if chargedCeiling < m.charged + price then { m with charged := chargedCeiling, saturated := true }
  else { m with charged := m.charged + price }

/-- A charge (R159 steps 3 and 4): paid or granted, or declined. -/
def Meter.charge (m : Meter) (price : Nat) : Option Meter :=
  match m.mode with
  | .prepaid => if m.balance < price then none else some ({ m with balance := m.balance - price }.addCharge price)
  | .tab => some (m.addCharge price)

/-- A new meter record (R157). -/
def Meter.fresh (kind : MeterKind) (mode : MeterMode) (credit front : Nat) : Meter where
  kind := kind
  mode := mode
  balance := credit
  credited := credit
  charged := 0
  games := 0
  units := 0
  phase := match kind with
    | .time => .front
    | .games => .metered
  left := match kind with
    | .time => front
    | .games => 0
  unit := none
  declined := none
  unpaid := 0
  saturated := false

/-- The game charge (R160): what a WAITING head's ask does to the record, or that it is declined. -/
def Meter.askGame (m : Meter) (price : Nat) : Option Meter :=
  match m.kind with
  | .time => some { m with games := bump16 m.games }
  | .games => (m.charge price).map fun m => { m with games := bump16 m.games }

/-- A time unit begins, of the length in force; a TAB unit holds its price (R161, R162). -/
def Meter.beginUnit (m : Meter) (length : Nat) (price : Option Nat) : Meter :=
  { m with units := bump16 m.units, phase := .metered, unit := some ⟨length, price⟩, left := length }

/-- A charge is declined: it is owed, and the BACK phase begins with the back grace (R163). -/
def Meter.decline (m : Meter) (what : Declined) (back : Nat) : Meter :=
  { m with declined := some what, phase := .back, left := back, unit := none }

/-- A unit start (R161 prepaid, R162 tab): the record after it, and whether the charge was declined. -/
def Meter.startUnit (m : Meter) (price length back : Nat) : Meter × Bool :=
  match m.mode with
  | .tab => (m.beginUnit length (some price), false)
  | .prepaid =>
    match m.charge price with
    | some m => (m.beginUnit length none, false)
    | none => (m.decline .unit back, true)

/-- The unit in progress ends: a TAB unit's held price is charged (R162). -/
def Meter.endUnit (m : Meter) : Meter :=
  match m.mode, m.unit with
  | .tab, some u => m.addCharge (u.price.getD 0)
  | _, _ => m

/-- The price an outstanding charge would be retried at (R166). -/
def Declined.price (d : Declined) (pr : Price) : Nat :=
  match d with
  | .game => pr.game
  | .unit => pr.unit

/-- A retry of the outstanding charge (R166): the record after it, when it is paid. -/
def Meter.retry (m : Meter) (pr : Price) (length : Nat) : Option Meter :=
  match m.declined with
  | none => none
  | some d =>
    (m.charge (Declined.price d pr)).map fun m =>
      let m := { m with declined := none }
      match m.kind with
      | .games => { m with games := bump16 m.games, phase := .metered, left := 0 }
      | .time => m.beginUnit length none

/-- CREDIT holds for a record (R12). -/
def Meter.credit (m : Meter) (pr : Price) : Bool :=
  match m.mode, m.declined with
  | .tab, _ => false
  | .prepaid, some d => Declined.price d pr ≤ m.balance
  | .prepaid, none => 0 < m.balance

/-- CREDIT holds for a lane (R12). -/
def State.creditHolds (s : State) (l : Fin 16) : Bool :=
  match (s.lane l).meter with
  | some m => m.credit (s.priceOf l)
  | none => false

/-- The part-unit charge of a TAB TIME session (R167 step 1), rounded up to a whole cent. -/
def Meter.partUnit (m : Meter) : Option Nat :=
  match m.kind, m.mode, m.unit with
  | .time, .tab, some u => some ((u.price.getD 0 * (u.length - m.left) + (u.length - 1)) / u.length)
  | _, _, _ => none

/-- The record completed at CLOSE LANE (R167 steps 1 and 2). -/
def Meter.complete (m : Meter) : Meter :=
  let m := match m.partUnit with
    | some c => m.addCharge c
    | none => m
  { m with declined := none }

/-- Credit accepted (R165): the least of the amount, the room in the balance and the room in credited. -/
def Meter.accepts (m : Meter) (amount : Nat) : Nat :=
  min amount (min (balanceCeiling - m.balance) (chargedCeiling - m.credited))

/-- Credit added (R165). -/
def Meter.addCredit (m : Meter) (accepted : Nat) : Meter :=
  { m with balance := m.balance + accepted, credited := m.credited + accepted }

/-- A running meter, one second on (R158): the phase's seconds left, where the phase counts down. -/
def Meter.counts (m : Meter) : Bool :=
  match m.phase, m.kind with
  | .front, _ => true
  | .back, _ => true
  | .metered, .time => true
  | .metered, .games => false

end Sys2Proof.Machine
end

