-- ==== Sys2Proof/Machine/Calls.lean ====
section
/-! DEFINITION. The lane horn, and the lists of the Slip Pool that the part itself moves slips on: raising a
call, the call backlog, and the return of a slip (R171, R172, R179 to R181, R183). -/

namespace Sys2Proof

/-- The detail byte of a fault reason (R170): JAM, TIMEOUT, NO_READ. -/
def FaultReason.code : FaultReason → Nat
  | .jam => 0
  | .timeout => 1
  | .noRead => 2

/-- The detail byte of a HAND_SET call (R170): BEFORE_READ, AFTER_READ, NONE. -/
def handSetDetail : Option CyclePhase → Nat
  | some .beforeRead => 0
  | some .afterRead => 1
  | none => 2

/-- The length of a tone in milliseconds (R43). -/
def Tone.length : Tone → Nat
  | .foul => 1000
  | .call => 2000

namespace Machine

/-- A tone starts on a lane's horn, for its full length, in place of any tone sounding (R43). -/
def State.sound (s : State) (l : Fin 16) (t : Tone) : State :=
  s.modSup l fun u => { u with horn := some ⟨t, t.length⟩ }

/-- The tail of a port's post list (R172). -/
def SlipPool.post (q : SlipPool) (n : Fin 64) (p : Port) : SlipPool :=
  { q with posts := q.posts.set p.index (q.posts[p.index] ++ [n]) }

/-- A slip rewritten. -/
def SlipPool.modSlip (q : SlipPool) (n : Fin 64) (f : Slip → Slip) : SlipPool :=
  { q with slips := q.slips.set n (f q.slips[n]) }

/-- The slip of a call of the part, as it is posted to MC (R180). -/
def callSlip (c : Call) : Slip where
  state := .posted .mc
  body := some (.mechCall c.reason c.detail)
  origin := some .part
  lane := c.lane
  outcome := .none

/-- A call written on a reserve slip and posted to MC (R180). -/
def SlipPool.postCall (q : SlipPool) (n : Fin 64) (c : Call) : SlipPool :=
  (q.modSlip n fun _ => callSlip c).post n .mc

/-- Two calls of one lane and reason (R181). -/
def Call.same (a b : Call) : Bool := a.lane == b.lane && a.reason == b.reason

/-- A call that finds the reserve free list empty (R181): it takes over the entry of its lane and reason,
joins the tail, or is dropped, which sets BACKLOG_FULL. -/
def State.backlogCall (s : State) (c : Call) : State :=
  if s.pool.backlog.any (Call.same c) then
    s.modPool fun q => { q with backlog := q.backlog.map fun b => if Call.same c b then { b with detail := c.detail } else b }
  else if s.pool.backlog.length < 32 then
    s.modPool fun q => { q with backlog := q.backlog ++ [c] }
  else s.flagMc .backlogFull

/-- The part raises a call (R180): posted on the head of the reserve free list, or passed to the backlog. No call is
raised during the settings load (R184, log 35). -/
def State.raiseCall (s : State) (c : Call) : State :=
  if s.loading then s
  else
    match s.pool.reserveFree with
    | n :: rest => s.modPool fun q => { q with reserveFree := rest }.postCall n c
    | [] => s.backlogCall c

/-- A reserve slip number, 57 to 64 (R170). -/
def isReserve (n : Fin 64) : Bool := 56 ≤ n.val

/-- A slip becomes FREE and blank at the tail of the free list of its number range (R171, R179). -/
def SlipPool.free (q : SlipPool) (n : Fin 64) : SlipPool :=
  let q := q.modSlip n fun _ => Slip.blank
  if isReserve n then { q with reserveFree := q.reserveFree ++ [n] }
  else { q with generalFree := q.generalFree ++ [n] }

/-- A reserve slip that comes free takes the oldest call of the backlog (R181). -/
def SlipPool.drain (q : SlipPool) : SlipPool :=
  match q.reserveFree, q.backlog with
  | n :: rest, c :: calls => { q with reserveFree := rest, backlog := calls }.postCall n c
  | _, _ => q

/-- A slip returned, by RETURN SLIP or a port break: free, and a reserve slip then carries the oldest call. -/
def SlipPool.returned (q : SlipPool) (n : Fin 64) : SlipPool :=
  if isReserve n then (q.free n).drain else q.free n

/-- The slips a port holds, ascending (R183). -/
def SlipPool.heldBy (q : SlipPool) (p : Port) : List (Fin 64) :=
  (List.finRange 64).filter fun n => q.slips[n].state == .held p

/-- A port's holding limit (R173). -/
def holdingLimit : Port → Nat
  | .dk => 24
  | .mc => 16
  | .console _ => 8

end Machine
end Sys2Proof
end

