-- ==== Sys2Proof/Machine/Lift.lean ====
section
/-! DEFINITION. The Return Monitor's operations (03): transit records, overdue episodes, the lift and its idle
timer. -/

namespace Sys2Proof.Machine

/-- The longest list of transit records (R46). -/
def transitLimit : Nat := 16
/-- The highest age, in milliseconds (R47: 65,535 s). -/
def ageLimit : Nat := 65535000

/-- A lane's overdue records (R53). -/
def ReturnMonitor.overdueCount (r : ReturnMonitor) (sd : Side) : Nat :=
  r.transit.countP fun t => t.lane == sd && t.overdue

/-- A lane's unpaid records on the list (R47). -/
def ReturnMonitor.unpaidCount (r : ReturnMonitor) (sd : Side) : Nat :=
  r.transit.countP fun t => t.lane == sd && t.unpaid

/-- A lane's episode (R53). -/
def ReturnMonitor.episode (r : ReturnMonitor) : Side → Bool
  | .odd => r.episodeOdd
  | .even => r.episodeEven

/-- A lane's episode written. -/
def ReturnMonitor.setEpisode (r : ReturnMonitor) (sd : Side) (b : Bool) : ReturnMonitor :=
  match sd with
  | .odd => { r with episodeOdd := b }
  | .even => { r with episodeEven := b }

/-- The episode rule of a lane (R53): an episode opens with the lane's first overdue record, raising a call
unless the lift is STALL, and closes with its last. -/
def State.episodeRule (s : State) (p : Fin 8) (sd : Side) : State :=
  let r := s.ret p
  let count := r.overdueCount sd
  if 0 < count ∧ r.episode sd = false then
    let s := s.modRet p fun r => r.setEpisode sd true
    if r.lift = .stall then s
    else
      let l := laneAt p sd
      ((s.raiseCall ⟨laneNo l, .returnOverdue, count⟩).flagMc .returnOverdue).sound l .call
  else if count = 0 ∧ r.episode sd = true then s.modRet p fun r => r.setEpisode sd false
  else s

/-- Neither lane of the pair is OPEN or CLOSING (R60). -/
def State.pairIdle (s : State) (p : Fin 8) : Bool :=
  !s.running (laneAt p .odd) && !s.running (laneAt p .even)

/-- The three conditions of the idle timer hold (R60). -/
def State.idleHolds (s : State) (p : Fin 8) : Bool :=
  (s.ret p).lift == .running && (s.ret p).transit.isEmpty && s.pairIdle p

/-- The idle timer follows its conditions (R60): it starts from its full length when the last of them comes to
hold, and is discarded when one fails. -/
def State.idleRule (s : State) (p : Fin 8) : State :=
  if s.idleHolds p then
    (if (s.ret p).idle.isNone then s.modRet p fun r => { r with idle := some (s.retSettings.idle * 1000) } else s)
  else s.modRet p fun r => { r with idle := none }

/-- Entry to STALL (R58): a call for the pair's odd lane, the mechanic's flag and both horns. During the settings load
a DECK can start the lift (R63, R56), and an entry to STALL is then without its call (R184, log 35). -/
def State.enterStall (s : State) (p : Fin 8) : State :=
  let s := s.modRet p fun r => { r with lift := .stall, idle := none }
  let s := (s.raiseCall ⟨laneNo (laneAt p .odd), .liftStall, 0⟩).flagMc .liftStall
  (s.sound (laneAt p .odd) .call).sound (laneAt p .even) .call

/-- A lift in OFF leaves it by the last confirmed input levels (R56). -/
def State.startLift (s : State) (p : Fin 8) : State :=
  if (s.ret p).lift = .off then
    if (s.ret p).overload then s.enterStall p
    else s.modRet p fun r => { r with lift := if r.rackFull then .fullPause else .running }
  else s

/-- A lane of the pair has become OPEN or CLOSING (R56, R60). -/
def State.liftLaneOpen (s : State) (p : Fin 8) : State := (s.startLift p).idleRule p

/-- The oldest record written off at a full list (R48). -/
def State.writeOffOldest (s : State) (p : Fin 8) : State :=
  match (s.ret p).transit with
  | [] => s
  | t :: rest =>
    let s := (s.modRet p fun r => { r with transit := rest, writtenOff := r.writtenOff + 1 }).flagMc .returnWriteOff
    if t.overdue then s.episodeRule p t.lane else s

/-- A transit record created at a DECK (R48). -/
def State.createTransit (s : State) (p : Fin 8) (sd : Side) (unpaid : Bool) : State :=
  let s := if transitLimit ≤ (s.ret p).transit.length then s.writeOffOldest p else s
  let s := s.modRet p fun r =>
    { r with
      transit := r.transit ++ [⟨sd, r.nextSeq, 0, false, unpaid⟩]
      nextSeq := r.nextSeq + 1
      created := r.created + 1 }
  (s.startLift p).idleRule p

/-- A LIFT ARRIVE matched against the list (R49). -/
def State.arrive (s : State) (p : Fin 8) : State :=
  match (s.ret p).transit with
  | [] => s.modRet p fun r => { r with stray := r.stray + 1 }
  | t :: rest =>
    let s := s.modRet p fun r => { r with transit := rest, matched := r.matched + 1 }
    let s := if t.overdue then (s.flagMc .returnRecovered).episodeRule p t.lane else s
    s.idleRule p

/-- The overdue records of the lanes in scope written off (R54). -/
def State.clearOverdue (s : State) (p : Fin 8) (scope : Side → Bool) : State :=
  let gone := fun t : Transit => t.overdue && scope t.lane
  let s := s.modRet p fun r =>
    { r with
      transit := r.transit.filter fun t => !gone t
      writtenOff := r.writtenOff + BitVec.ofNat 32 (r.transit.countP gone) }
  let s := if scope .odd then s.episodeRule p .odd else s
  let s := if scope .even then s.episodeRule p .even else s
  s.idleRule p

/-- Records made overdue, and the episode rule of both lanes (R53, R61). -/
def State.markOverdue (s : State) (p : Fin 8) (f : Transit → Transit) : State :=
  ((s.modRet p fun r => { r with transit := r.transit.map f }).episodeRule p .odd).episodeRule p .even

/-- A record whose age already reaches a new return timeout becomes overdue (R61). -/
def Transit.reach (t : Transit) (timeout : Nat) : Transit :=
  if timeout * 1000 ≤ t.age then { t with overdue := true } else t

end Sys2Proof.Machine
end

