-- ==== Sys2Proof/Machine/Pins.lean ====
section
/-! DEFINITION. The Pinsetter Supervisor's operations (02): power, cycles, hand sets, restore demands, faults,
the close of a delivery, the attribution of a foul, and the views the lamps and outputs show. -/

namespace Sys2Proof.Machine

/-- The marks of a new delivery. -/
def Marks.clear : Marks := ⟨false, false, false, false⟩

/-- A warm-up begins (R30). -/
def State.enterWarming (s : State) (l : Fin 16) : State :=
  s.updSup l fun u => { u with state := .warming, warmUp := some ⟨s.timers.warmUp * 1000, none⟩ }

/-- Power is granted to a lane: a pinsetter in OFF begins WARMING (R29). -/
def State.grantPower (s : State) (l : Fin 16) : State :=
  if (s.lane l).sup.state = .off then s.enterWarming l else s

/-- What a withdrawal of power does to a Supervisor (R29, R6). -/
def Supervisor.withdrawn (u : Supervisor) : Supervisor :=
  match u.state with
  | .ready => { u with state := .off }
  | .warming => { u with state := .off, warmUp := none, standing := none }
  | .handSet => { u with state := .off, handSet := none, standing := none }
  | .off => u
  | .cycling => u
  | .fault => u
  | .lockout => u

/-- The session's power is withdrawn, at a park or a close: service power is cleared and the pinsetter goes OFF
where R29 says so. -/
def State.withdrawPower (s : State) (l : Fin 16) : State :=
  s.updSup l fun u => { u with servicePower := false }.withdrawn

/-- A cycle commanded (R26, R34, R40). Only a ball cycle awaits a READ. -/
def newCycle (kind : CycleKind) (origin : CycleOrigin) (timeout : Nat) (pre : Option PinSet) : Cycle where
  kind := kind
  phase := if origin = .ball then .beforeRead else .afterRead
  origin := origin
  followOn := false
  result := none
  restore := none
  timer := timeout * 1000
  pre := pre
  turnEnded := false

/-- The pinsetter enters CYCLING with a cycle. -/
def State.startCycle (s : State) (l : Fin 16) (c : Cycle) : State :=
  s.updSup l fun u => { u with state := .cycling, cycle := some c, warmUp := none, handSet := none }

/-- A FINAL cycle that sets a full rack, of an origin without a ball. -/
def State.startFinal (s : State) (l : Fin 16) (origin : CycleOrigin) : State :=
  s.startCycle l (newCycle .final origin s.timers.cycle none)

/-- Entry to HAND_SET (R35): the target, the call and the CALL tone. -/
def State.enterHandSet (s : State) (l : Fin 16) (target : PinSet) (after : Option CyclePhase) : State :=
  let s := s.updSup l fun u =>
    { u with state := .handSet, cycle := none, warmUp := none, handSet := some ⟨target, s.now⟩, standing := none }
  (s.raiseCall ⟨laneNo l, .handSet, handSetDetail after⟩).sound l .call

/-- A restore demand as it is taken from READY (R34, R35): a full rack by a FINAL cycle of origin REBALL, any
other set by a hand set. -/
def State.restoreReady (s : State) (l : Fin 16) (target : PinSet) (after : Option CyclePhase) : State :=
  if target = fullRack then s.startFinal l .reball else s.enterHandSet l target after

/-- A restore demand, by the pinsetter state (R34). In WARMING a later demand replaces the one held, which R34 says of
CYCLING alone (DESIGN CHOICE, log 42). -/
def State.restoreDemand (s : State) (l : Fin 16) (target : PinSet) : State :=
  match (s.lane l).sup.state with
  | .ready => s.restoreReady l target none
  | .handSet =>
    if target = fullRack then s.startFinal l .reball
    else s.modSup l fun u => { u with handSet := some ⟨target, s.now⟩ }
  | .cycling => s.modSup l fun u => { u with cycle := u.cycle.map fun c => { c with restore := some target } }
  | .warming => s.modSup l fun u => { u with warmUp := u.warmUp.map fun w => { w with restore := some target } }
  | .fault => s.modSup l fun u => { u with fault := u.fault.map fun f => { f with replaced := some target } }
  | .off => s.modSup l fun u => { u with standing := none }
  | .lockout => s.modSup l fun u => { u with standing := none }

/-- A slot's ball in flight mark cleared when its delivery closes (R65); the slot of a delivery whose lane has
been closed since its DECK has been cleared with the mark. -/
def State.landBall (s : State) (l : Fin 16) (d : Delivery) : State :=
  match d.place, d.laneClosed with
  | some a, false => s.updSlot (pairOf l) a.slot fun x => { x with inFlight := false }
  | _, _ => s

/-- The delivery of a ball cycle whose READ has not come is closed unscored (R33, R38). -/
def State.loseBall (s : State) (l : Fin 16) : State :=
  match (s.lane l).sup.delivery with
  | some d =>
    if d.step = .awaitingRead then
      (s.modSup l fun u => { u with delivery := none, last := some d, unscoredBalls := bump16 u.unscoredBalls }).landBall l d
    else s
  | none => s

/-- A cycle awaits its READ (R31). -/
def Cycle.awaitsRead (c : Cycle) : Bool := c.origin == .ball && c.phase == .beforeRead

/-- The fault record of a cycle (R33). -/
def faultOf (c : Cycle) (reason : FaultReason) (standing : Option PinSet) : FaultRec where
  reason := reason
  phase := c.phase
  origin := c.origin
  kind := c.kind
  pre := if c.origin = .manual then standing else c.pre
  read := c.result
  turnEnded := c.turnEnded
  followOn := c.followOn
  replaced := c.restore

/-- A cycle ends in FAULT (R33), up to the entry of a pending park. -/
def State.faultCycle (s : State) (l : Fin 16) (c : Cycle) (reason : FaultReason) : State :=
  let s := if c.awaitsRead then s.loseBall l else s
  let s := s.updSup l fun u =>
    { u with state := .fault, cycle := none, fault := some (faultOf c reason u.standing), standing := none }
  ((s.raiseCall ⟨laneNo l, .pinsetterFault, reason.code⟩).flagMc .pinsetterFault).sound l .call

/-- The window within which a foul and a release belong together, in milliseconds (R41, R42). -/
def State.foulWindow (s : State) : Nat := s.timers.window * 100

/-- A moment lies within the foul window before now (R42); the window's edge is inside (log 16). -/
def State.withinWindow (s : State) (moment : Nat) : Bool := s.now - moment ≤ s.foulWindow

/-- A delivery with its FOUL mark set. -/
def Delivery.fouled (d : Delivery) : Delivery := { d with marks := { d.marks with foul := true } }

/-- A foul attributed to the delivery of the last release (R42): the delivery in flight when a release opened
it, else the last delivery when a release opened it. -/
def Supervisor.markFoul (u : Supervisor) : Supervisor :=
  let u := { u with lastRelease := u.lastRelease.map fun (r : LastRelease) => { r with fouled := true } }
  match u.delivery.bind Delivery.release with
  | some _ => { u with delivery := u.delivery.map Delivery.fouled }
  | none => { u with last := u.last.map fun (d : Delivery) => if d.release.isSome then d.fouled else d }

/-- An attributed foul (R42): the mark, the FOUL tone and the console's flag. -/
def State.attributeFoul (s : State) (l : Fin 16) : State :=
  ((s.modSup l Supervisor.markFoul).sound l .foul).flagConsole (pairOf l) .foul

/-! ## Lamps and outputs -/

/-- The lamps of a lane may be lit (R43): the setting, then the session. -/
def Lane.lampsAllowed (a : Lane) : Bool := a.session.settings.pinLamps && a.session.state.grants

/-- The lamp mode (R43). -/
def Lane.lampMode (a : Lane) : LampMode :=
  if !a.lampsAllowed then .off
  else
    match a.sup.state with
    | .handSet => .flash
    | .ready => .steady
    | .off => .off
    | .warming => .off
    | .cycling => .off
    | .fault => .off
    | .lockout => .off

/-- The pin set the lamps show (R43). -/
def Lane.lampImage (a : Lane) : PinSet :=
  match a.lampMode with
  | .off => 0
  | .flash => (a.sup.handSet.map HandSet.target).getD 0
  | .steady => a.sup.standing.getD 0

/-- The lamps lit at a moment: a flashing set for the first half of each second from its start (R43). -/
def Lane.lampsLit (a : Lane) (now : Nat) : PinSet :=
  match a.lampMode with
  | .off => 0
  | .steady => a.lampImage
  | .flash => if (now - (a.sup.handSet.map HandSet.since).getD 0) % 1000 < 500 then a.lampImage else 0

/-- The pitch of a tone in Hz, by its time left (R43): FOUL 3 kHz; CALL 1.5 kHz and 3 kHz alternating every
quarter second, 1.5 kHz first. -/
def Horn.pitch (h : Horn) : Nat :=
  match h.tone with
  | .foul => 3000
  | .call => if (Tone.length .call - h.left) / 250 % 2 = 0 then 1500 else 3000

/-- The pinsetter power output (R29). -/
def State.powerOutput (s : State) (l : Fin 16) : Bool :=
  match (s.lane l).sup.state with
  | .warming => true
  | .ready => true
  | .cycling => true
  | .handSet => true
  | .fault => s.powerGranted l
  | .off => false
  | .lockout => false

/-- What a lane's outputs are called to be (02 section 2.1). -/
def State.outputs (s : State) (l : Fin 16) : LaneOut :=
  let a := s.lane l
  { power := s.powerOutput l
    command := if a.sup.state = .cycling then a.sup.cycle.map Cycle.kind else none
    lamps := a.lampsLit s.now
    tone := a.sup.horn.map Horn.tone
    pitch := (a.sup.horn.map Horn.pitch).getD 0
    light := a.session.light }

end Sys2Proof.Machine
end

