-- ==== Sys2Proof/Machine/Park.lean ====
section
/-! DEFINITION. Changes of session state that take a lane out of play (01): CLOSING, PARKED and the pending
park. -/

namespace Sys2Proof.Machine

/-- A session takes a state, with the light and closing reason that belong to it (R1, R2, R16). -/
def Session.enter (n : Session) (st : SessionState) : Session :=
  { n with state := st, light := st.light, closingReason := st.reason }

/-- A lane's session record changed. -/
def State.updSession (s : State) (l : Fin 16) (f : Session → Session) : State :=
  s.updLane l fun a => { a with session := f a.session }

/-- A lane of the pair has become CLOSED or PARKED: the lift idle timer may start (R60). -/
def State.liftLaneStopped (s : State) (l : Fin 16) : State := s.idleRule (pairOf l)

/-- Entry to PARKED (R9). The meter and the turn queue are frozen by the state itself (R2). -/
def State.enterParked (s : State) (l : Fin 16) (mask : WakeMask) (cause : ParkCause) : State :=
  let s := s.updSession l fun n =>
    { n.enter .parked with wakeMask := mask, parkCause := cause, pendingPark := none }
  ((s.withdrawPower l).liftLaneStopped l).flagDk .laneParked

/-- A park arrives on an OPEN or CLOSING lane (R8, R10, R11): pending while the pinsetter is CYCLING, at once
otherwise. -/
def State.park (s : State) (l : Fin 16) (mask : WakeMask) (cause : ParkCause) : State :=
  if (s.lane l).sup.state = .cycling then s.updSession l fun n => { n with pendingPark := some ⟨mask, cause⟩ }
  else s.enterParked l mask cause

/-- The pending park removed without parking. -/
def State.dropPending (s : State) (l : Fin 16) : State := s.updSession l fun n => { n with pendingPark := none }

/-- The pinsetter has left CYCLING with no further cycle to run: a pending park is entered, or removed when
CREDIT is in its mask and holds (R10). -/
def State.enterPending (s : State) (l : Fin 16) : State :=
  match (s.lane l).session.pendingPark with
  | none => s
  | some k => if k.mask.credit && s.creditHolds l then s.dropPending l else s.enterParked l k.mask k.cause

/-- A cycle has ended: where the pinsetter is not CYCLING again, a pending park is taken up (R10). -/
def State.afterCycle (s : State) (l : Fin 16) : State :=
  if (s.lane l).sup.state = .cycling then s else s.enterPending l

/-- A prepaid charge declined takes the lane into CLOSING (R7, R163). -/
def State.enterClosing (s : State) (l : Fin 16) : State :=
  (s.updSession l fun n => n.enter .closing).flagDk .laneClosing

/-- The park of a lane whose back grace has expired (R11): the default park mask, cause NO_CREDIT. -/
def State.parkExhausted (s : State) (l : Fin 16) : State :=
  s.park l (s.lane l).session.settings.parkMask .noCredit

/-- A back grace of 0 ends as it begins (R163): the charge was declined at this moment, so CREDIT does not hold
and the lane parks (log 13). -/
def State.zeroBackGrace (s : State) (l : Fin 16) : State :=
  match (s.lane l).meter with
  | some m => if s.session l = .closing ∧ m.phase = .back ∧ m.left = 0 then s.parkExhausted l else s
  | none => s

end Sys2Proof.Machine
end

