-- ==== Sys2Proof/Machine/Heads.lean ====
section
/-! DEFINITION. The Turn Unit's operations (04): starting lanes, the head rules, game charges and game starts,
turn ends and the clear of a slot. -/

namespace Sys2Proof.Machine

/-- A slot's next game number (R64). -/
def nextGame : Option Nat → Nat
  | none => 1
  | some n => if n = 99 then 1 else n + 1

/-- The starting lane of a game (R79). -/
def startSide (mode : PairMode) (i : Fin 12) (game : Nat) : Side :=
  match mode with
  | .opened => homeSide i
  | .alternate => if game % 2 = 1 then homeSide i else (homeSide i).other

/-- The limit of a series is reached (R80): a setting of 0 is no limit. -/
def limitReached (games finished : Nat) : Bool := games != 0 && games ≤ finished

/-- A lane's Reball Snapshot made invalid (R114). -/
def State.dropSnapshot (s : State) (l : Fin 16) : State := s.modLane l fun a => { a with snapshot := none }

/-- The snapshots of both lanes of a pair made invalid (R114). -/
def State.dropSnapshots (s : State) (p : Fin 8) : State :=
  (s.dropSnapshot (laneAt p .odd)).dropSnapshot (laneAt p .even)

/-- A lane's snapshot made invalid when it names a slot (R103, R114). -/
def State.dropSnapshotOf (s : State) (l : Fin 16) (i : Fin 12) : State :=
  if (s.lane l).snapshot.any (·.slot == i) then s.dropSnapshot l else s

/-- Every snapshot of a pair that names a slot made invalid. -/
def State.dropSnapshotsOf (s : State) (p : Fin 8) (i : Fin 12) : State :=
  (s.dropSnapshotOf (laneAt p .odd) i).dropSnapshotOf (laneAt p .even) i

/-- The lane's snapshot is told of a game start on the lane (R75 step 5, R113). -/
def State.tellSnapshot (s : State) (l : Fin 16) : State :=
  s.modLane l fun a => { a with snapshot := a.snapshot.map fun n => { n with gameStarted := true } }

/-- The practice ball index becomes 1 (R28). -/
def State.resetPractice (s : State) (l : Fin 16) : State := s.modSup l fun u => { u with practice := 1 }

/-- A game starts for a slot becoming UP on a lane (R75): number, stage, place and sheet, then the renewal of
its average (R133) and its handicap (R105), and the lane's snapshot is told. -/
def State.startGame (s : State) (l : Fin 16) (i : Fin 12) : State :=
  let p := pairOf l
  let s := s.updSlot p i fun x =>
    { x with
      game := some (nextGame x.game), stage := .started, frame := 1, ball := 1
      sheet := some (Sheet.new (nextGame x.game)) }
  let s := s.renew p i
  let s := s.updSlot p i fun x => { x with handicap := s.handicapOf p i }
  s.tellSnapshot l

/-- A slot becomes UP at its lane's head (R73): the practice index becomes 1. -/
def State.becomeUp (s : State) (l : Fin 16) (i : Fin 12) : State :=
  (s.updSlot (pairOf l) i fun x => { x with state := .up }).resetPractice l

/-- A lane's meter record written. -/
def State.setMeter (s : State) (l : Fin 16) (m : Meter) : State := s.modMeter l fun _ => m

/-- A WAITING head asks the Meter Unit for its game charge (R74, R160): granted, it becomes UP and its game
starts; declined, the charge is outstanding and the lane enters CLOSING. -/
def State.askGame (s : State) (l : Fin 16) (i : Fin 12) : State :=
  match (s.lane l).meter with
  | none => s
  | some m =>
    match m.askGame (s.priceOf l).game with
    | some m => ((s.setMeter l m).becomeUp l i).startGame l i
    | none => ((s.setMeter l (m.decline .game s.billing.back)).enterClosing l).zeroBackGrace l

/-- A head that is not away is made UP, or waits (R73). -/
def State.raiseHead (s : State) (l : Fin 16) (i : Fin 12) : State :=
  match (s.slot (pairOf l) i).stage with
  | .started => s.becomeUp l i
  | .inProgress => s.becomeUp l i
  | .waiting =>
    if s.session l = .opened then
      if (s.turn (pairOf l)).paid (sideOf l) then
        ((s.updTurn (pairOf l) fun t => t.setPaid (sideOf l) false).becomeUp l i).startGame l i
      else s.askGame l i
    else s

/-- Away heads moved to the tail (R72 step 3). A queue in which every slot is away comes back to its first order, and
the moves through which it does so are no change of order that sets TURN_CHANGED by R82 (DESIGN CHOICE, log 43). -/
def passAway (away : Fin 12 → Bool) (q : List (Fin 12)) : List (Fin 12) :=
  if (q.dropWhile away).isEmpty then q else q.dropWhile away ++ q.takeWhile away

/-- The head rules of a lane's queue (R72). -/
def State.headRules (s : State) (l : Fin 16) : State :=
  let t := s.turn (pairOf l)
  if !s.running l then s
  else if (t.upSlot (sideOf l)).isSome then s
  else
    let q := passAway (fun i => t.slots[i].away) (t.queue (sideOf l))
    let s := s.updTurn (pairOf l) fun t => t.setQueue (sideOf l) q
    match q with
    | [] => s
    | i :: _ => if t.slots[i].away then s else s.raiseHead l i

/-- A game charge paid on retry is taken (R74): by a WAITING head that is not away, or it is kept in the lane's
paid start mark; the lane has become OPEN, and its head rules are run (R81). -/
def State.takePaid (s : State) (l : Fin 16) : State :=
  let t := s.turn (pairOf l)
  let keep := (s.updTurn (pairOf l) fun t => t.setPaid (sideOf l) true).headRules l
  match t.queue (sideOf l) with
  | [] => keep
  | i :: _ =>
    if t.slots[i].stage = .waiting ∧ t.slots[i].away = false then (s.becomeUp l i).startGame l i else keep

/-- A slot's turn leaves the queues it stands in, and is appended to the tail of a queue or to none. -/
def TurnUnit.moveTurn (t : TurnUnit) (i : Fin 12) (dest : Option Side) (st : SlotState) : TurnUnit :=
  let t := (t.setQueue .odd (t.queueOdd.filter (· != i))).setQueue .even (t.queueEven.filter (· != i))
  let t := match dest with
    | some sd => t.setQueue sd (t.queue sd ++ [i])
    | none => t
  t.modSlot i fun x => { x with state := st }

/-- Where a slot's next turn goes at a turn end (R78): a side, or none when the series limit is reached. -/
def TurnUnit.nextTurn (t : TurnUnit) (i : Fin 12) (sd : Side) (finished : Bool) : Option Side :=
  if finished then
    if limitReached t.settings.games t.slots[i].finished then none
    else some (startSide t.mode i (nextGame t.slots[i].game))
  else
    match t.mode with
    | .opened => some sd
    | .alternate => some sd.other

/-- A lane's snapshot takes the turn effect (R113 stage 3). -/
def State.turnEffect (s : State) (l : Fin 16) (next : Option Side) : State :=
  let up := s.upSlot l
  s.modLane l fun a =>
    { a with snapshot := a.snapshot.map fun n => { n with turnEnded := true, nextLane := next, madeUp := up } }

/-- A turn end on a lane (R78): the slot leaves the head, its next turn is placed, the head rules are run on the
lane and on the other lane when the turn went there, and the snapshot takes the turn effect. -/
def State.endTurn (s : State) (l : Fin 16) (i : Fin 12) (finished : Bool) : State :=
  let next := (s.turn (pairOf l)).nextTurn i (sideOf l) finished
  let s := s.updTurn (pairOf l) fun t => t.moveTurn i next (if next.isSome then .queued else .done)
  let s := (s.headRules l).turnEffect l next
  if next = some (sideOf l).other then s.headRules (otherLane l) else s

/-- The clear of a slot (R68 steps 1 to 4, R103, R145). -/
def State.clearSlot (s : State) (p : Fin 8) (i : Fin 12) : State :=
  let s := s.updTurn p fun t => t.moveTurn i none t.slots[i].state
  let s := s.releaseNumber p i
  let s := s.updSlot p i fun _ => Slot.empty
  (s.dropSnapshotsOf p i).flagConsole p .frameChanged

end Sys2Proof.Machine
end

