-- ==== Sys2Proof/Machine/Wake.lean ====
section
/-! DEFINITION. Retries, wakes and the CREDIT re-test (01 R11, R12, R15; 08 R161 to R166), and the ends of the
meter's periods. -/

namespace Sys2Proof.Machine

/-- The record after a paid retry of the outstanding charge, at the prices of this moment (R166). -/
def State.retried (s : State) (l : Fin 16) : Option Meter :=
  (s.lane l).meter.bind fun m => m.retry (s.priceOf l) s.billing.unit

/-- The Turn Unit takes a paid retry (R166): a GAMES session's head takes the game charge; on a lane that has
become OPEN the head rules are run (R81). -/
def State.turnPaid (s : State) (l : Fin 16) (m : Meter) : State :=
  match m.kind with
  | .games => s.takePaid l
  | .time => s.headRules l

/-- A retry paid on a CLOSING lane: the lane becomes OPEN (R166). -/
def State.paidRetry (s : State) (l : Fin 16) (m : Meter) : State :=
  ((s.setMeter l m).updSession l fun n => n.enter .opened).turnPaid l m

/-- A time unit starts (R161, R162); a declined one takes the lane into CLOSING (R163). -/
def State.startUnit (s : State) (l : Fin 16) : State :=
  match (s.lane l).meter with
  | none => s
  | some m =>
    let (m, declined) := m.startUnit (s.priceOf l).unit s.billing.unit s.billing.back
    if declined then (s.setMeter l m).enterClosing l else s.setMeter l m

/-- A period of a TIME session ends (R158): FRONT starts unit 0; a unit is charged and the next starts. -/
def State.endPeriod (s : State) (l : Fin 16) : State :=
  match (s.lane l).meter with
  | none => s
  | some m =>
    match m.kind, m.phase with
    | .time, .front => s.startUnit l
    | .time, .metered => (s.setMeter l m.endUnit).startUnit l
    | _, _ => s

/-- A period frozen with no seconds left ends as the meter resumes (R158). -/
def State.endFrozen (s : State) (l : Fin 16) : State :=
  match (s.lane l).meter with
  | none => s
  | some m => if m.left = 0 then s.endPeriod l else s

/-- The session of a waking lane (R15 steps 1 to 3). -/
def State.resumeSession (s : State) (l : Fin 16) (st : SessionState) : State :=
  s.updSession l fun n => { n.enter st with wakeMask := .empty, parkCause := .none }

/-- Power and lift of a waking lane (R15 step 4, R56). -/
def State.resumeMachines (s : State) (l : Fin 16) : State := (s.grantPower l).liftLaneOpen (pairOf l)

/-- The BACK phase of a wake whose retry is declined (R15): its seconds left, or a full back grace. -/
def Meter.resumeBack (m : Meter) (back : Nat) : Meter := { m with left := if m.left = 0 then back else m.left }

/-- A wake (R15). -/
def State.wake (s : State) (l : Fin 16) : State :=
  match (s.lane l).meter with
  | none => ((s.resumeSession l .opened).resumeMachines l).headRules l
  | some m =>
    match m.declined, s.retried l with
    | none, _ =>
      ((((s.resumeSession l .opened).endFrozen l).resumeMachines l).headRules l).zeroBackGrace l
    | some _, some paid =>
      (((s.setMeter l paid).resumeSession l .opened).resumeMachines l).turnPaid l paid
    | some _, none =>
      let s := (s.setMeter l (m.resumeBack s.billing.back)).resumeSession l .closing
      (((s.flagDk .laneClosing).resumeMachines l).headRules l).zeroBackGrace l

/-- A re-test of CREDIT (R12). -/
def State.retest (s : State) (l : Fin 16) : State :=
  let n := (s.lane l).session
  if s.creditHolds l then
    match n.state, n.pendingPark with
    | .parked, _ => if n.wakeMask.credit then s.wake l else s
    | .opened, some k => if k.mask.credit then s.dropPending l else s
    | .closing, some k => if k.mask.credit then s.dropPending l else s
    | _, _ => s
  else s

/-- CREDIT re-tested on every lane, in ascending order (R149, R151 to R153). -/
def State.retestAll (s : State) : State := allLanes.foldl State.retest s

/-- A BALL edge (R13): it wakes a PARKED lane with BALL in its wake mask. -/
def State.ballEdge (s : State) (l : Fin 16) : State :=
  if s.session l = .parked ∧ (s.lane l).session.wakeMask.ball = true then s.wake l else s

/-- A BAND edge of one lane (R13, R151), and its re-test of CREDIT. -/
def State.bandEdge (s : State) (l : Fin 16) : State :=
  (if s.session l = .parked ∧ (s.lane l).session.wakeMask.band = true then s.wake l else s).retest l

/-- The back grace expires (R11, R164): a retry when CREDIT is in the default park mask and holds, else a park. A park
already pending stays so at the retry, until a re-test of R12 (log 39). -/
def State.backGraceEnds (s : State) (l : Fin 16) : State :=
  let s := s.modMeter l fun m => { m with left := 0 }
  if (s.lane l).session.settings.parkMask.credit && s.creditHolds l then
    match s.retried l with
    | some m => s.paidRetry l m
    | none => s
  else s.parkExhausted l

/-! ## The timer events of a meter -/

/-- A meter of a kind of phase that is running on the lane (R158). -/
def State.meterRuns (s : State) (l : Fin 16) (test : Meter → Bool) : Bool :=
  s.running l && (s.lane l).meter.any test

/-- FRONT_GRACE_END (R158). -/
def frontGraceEnd (l : Fin 16) (s : State) : State :=
  if s.meterRuns l fun m => m.phase == .front then (s.endPeriod l).zeroBackGrace l else s

/-- UNIT_END (R161, R162). -/
def unitEnd (l : Fin 16) (s : State) : State :=
  if s.meterRuns l fun m => m.phase == .metered && m.kind == .time then (s.endPeriod l).zeroBackGrace l else s

/-- BACK_GRACE_EXPIRY (R164). -/
def backGraceExpiry (l : Fin 16) (s : State) : State :=
  if s.session l = .closing && s.meterRuns l fun m => m.phase == .back then s.backGraceEnds l else s

/-- BAND_EDGE (R151): the clock stands at the first second of the minute that begins the band (log 4), and every
lane takes the edge. -/
def bandEdge (band : Nat) (s : State) : State :=
  if 1 ≤ band ∧ band ≤ s.tariff.bands then
    let minute := s.tariff.bandStart band
    let c := s.clock
    let now := c.minuteOfDay = minute ∧ c.second = 0
    let s := if now then s else { s with clock := { c with hour := minute / 60, minute := minute % 60, second := 0 } }
    allLanes.foldl State.bandEdge s
  else s

end Sys2Proof.Machine
end

