-- ==== Sys2Proof/Machine/ScoreUnit.lean ====
section
/-! DEFINITION. The Score Unit takes a ball (05 R89, 04 R77, 06 R113), and takes it back (06 R116, R117). -/

namespace Sys2Proof.Machine

/-- The sheet a scored delivery is for, when the check of R89 holds. -/
def Slot.sheetFor (x : Slot) (a : Place) : Option Sheet :=
  if x.state ≠ .empty ∧ x.frame = a.frame ∧ x.ball = a.ball then x.sheet.filter (·.game == a.game) else none

/-- The snapshot taken at the READ of a scored ball (R113 stages 1 and 2). -/
def takeSnapshot (a : Place) (before after : Sheet) (pre : PinSet) : Snapshot where
  slot := a.slot
  game := a.game
  frame := a.frame
  ball := a.ball
  prior := priorFrames before after a.frame
  bonus := before.awaiting
  pre := pre
  turnEnded := false
  nextLane := none
  madeUp := none
  gameStarted := false
  gameFinished := after.gameFinished

/-- The slot after its ball, by the Score Unit's report (R77, R100). -/
def Slot.afterBall (x : Slot) (frame : Nat) (sh : Sheet) : Slot :=
  if sh.gameFinished then
    { x with
      sheet := none, retained := retain x.retained (GameRecord.finish sh x.handicap)
      finished := min (x.finished + 1) 255, stage := .waiting, frame := 1, ball := 1, handicap := .absent }
  else if sh.frameComplete frame then
    { x with sheet := some sh, stage := .inProgress, frame := x.frame + 1, ball := 1 }
  else { x with sheet := some sh, stage := .inProgress, ball := x.ball + 1 }

/-- What a scored ball gives the Supervisor: the state, and whether its turn has ended. -/
structure Scored where
  state : State
  turnEnded : Bool

/-- The Score Unit takes a ball whose check holds (R89): snapshot, sheet, report, turn. -/
def State.scoreBall (s : State) (l : Fin 16) (a : Place) (sh : Sheet) (pre after : PinSet) (m : Marks) : Scored :=
  let p := pairOf l
  let new := sh.addBall a.frame pre after m
  let s := s.modLane l fun b => { b with snapshot := some (takeSnapshot a sh new pre) }
  let s := s.updSlot p a.slot fun x => { x with inFlight := false }.afterBall a.frame new
  if new.frameComplete a.frame then ⟨s.endTurn l a.slot new.gameFinished, true⟩ else ⟨s, false⟩

/-- A snapshot may not be applied (R115 steps 4 to 6). -/
def reballBarred : Option Snapshot → Bool
  | none => true
  | some n => n.gameFinished || n.gameStarted

/-- The slot's sheet and place restored (R116). -/
def Slot.takeBack (x : Slot) (n : Snapshot) : Slot :=
  let sheet := x.sheet.map fun sh => sh.takeBack n
  { x with
    sheet := sheet, frame := n.frame, ball := n.ball
    stage := if sheet.any Sheet.hasBall then .inProgress else .started }

/-- Every slot UP in a lane's queue but the one named leaves UP and becomes QUEUED in its place. -/
def TurnUnit.onlyUp (t : TurnUnit) (sd : Side) (i : Fin 12) : TurnUnit :=
  { t with
    slots := Vector.ofFn fun j : Fin 12 =>
      if t.slots[j].state = .up ∧ j ≠ i ∧ j ∈ t.queue sd then { t.slots[j] with state := .queued } else t.slots[j] }

/-- The queues restored when the ball ended the turn (R117 steps 1 to 3). A slot that an append made UP on this lane
since, where the ball made none UP, leaves UP as the slot made UP does, for a lane has one slot UP (R66, log 37). -/
def TurnUnit.takeBack (t : TurnUnit) (sd : Side) (n : Snapshot) : TurnUnit :=
  let t := match n.nextLane with
    | some q => t.setQueue q ((t.queue q).filter (· != n.slot))
    | none => t
  let t := match n.madeUp with
    | some i => if i = n.slot then t else t.modSlot i fun x => { x with state := .queued }
    | none => t
  let t := t.onlyUp sd n.slot
  (t.setQueue sd (n.slot :: t.queue sd)).modSlot n.slot fun x => { x with state := .up }

/-- A snapshot applied to sheet, place and queues (R116, R117), and then invalid (R114). -/
def State.applySnapshot (s : State) (l : Fin 16) (n : Snapshot) : State :=
  let p := pairOf l
  let s := s.updSlot p n.slot fun x => x.takeBack n
  let s :=
    if n.turnEnded then
      let s := (s.updTurn p fun t => t.takeBack (sideOf l) n).resetPractice l
      if n.nextLane = some (sideOf l).other then s.headRules (otherLane l) else s
    else s
  ((s.dropSnapshot l).flagConsole p .frameChanged).flagConsole p .turnChanged

end Sys2Proof.Machine
end

