-- ==== Sys2Proof/Machine/Deliveries.lean ====
section
/-! DEFINITION. The events of a lane's machinery as its Pinsetter Supervisor takes them (02): RELEASE, DECK,
FOUL, PS READ, PS DONE, PS JAM, and the ends of the Supervisor's timers. -/

namespace Sys2Proof.Machine

/-- A delivery opened at RELEASE (R23). -/
def Delivery.opened (release : Option Nat) (travel : Nat) : Delivery where
  step := .awaitingDeck
  release := release
  cls := none
  place := none
  practice := none
  pre := none
  counted := none
  marks := Marks.clear
  travel := travel
  laneClosed := false

/-- A delivery opened at a DECK that no release preceded (R25). -/
def Delivery.missedRelease : Delivery :=
  { Delivery.opened none 0 with marks := { Marks.clear with releaseMissed := true } }

/-- A waiting foul tested against a release taken at this moment (R42). -/
def State.takeWaitingFoul (s : State) (l : Fin 16) : State :=
  match (s.lane l).sup.waitingFoul with
  | some m =>
    if s.withinWindow m then (s.modSup l fun u => { u with waitingFoul := none }).attributeFoul l else s
  | none => s

/-- RELEASE (R23, R24). -/
def release (l : Fin 16) (s : State) : State :=
  match (s.lane l).sup.delivery with
  | some _ => s.modSup l fun u => { u with strayReleases := bump16 u.strayReleases }
  | none =>
    (s.modSup l fun u =>
      { u with
        delivery := some (Delivery.opened (some s.now) (s.timers.travel * 1000))
        lastRelease := some ⟨s.now, false⟩ }).takeWaitingFoul l

/-- The delivery that takes a DECK (R25), by the delivery in flight. -/
def deckDelivery (inFlight : Option Delivery) (missed : Bool) : Delivery :=
  match inFlight with
  | some d =>
    if d.step = .awaitingDeck then
      { d with travel := 0, marks := { d.marks with deckMissed := d.marks.deckMissed || missed } }
    else Delivery.missedRelease
  | none => Delivery.missedRelease

/-- The delivery in flight that stays so beside a delivery that closes at its DECK: one that awaits its READ. -/
def stillInFlight (inFlight : Option Delivery) : Option Delivery :=
  inFlight.filter fun d => d.step == .awaitingRead

/-- The class of a delivery at its DECK (R25). -/
def deckClass (session : SessionState) (pins : PsState) (up : Option (Fin 12)) : DeliveryClass :=
  if !session.grants then .unpaid
  else
    match pins, up with
    | .ready, some _ => .scored
    | .ready, none => .practice
    | .cycling, _ => .early
    | .warming, _ => .early
    | .handSet, _ => .unscored
    | .fault, _ => .unscored
    | .lockout, _ => .unscored
    | .off, _ => .unscored

/-- The kind of the cycle of a scored ball (R26). -/
def scoredKind (frame ball : Nat) : CycleKind :=
  if frame = 10 then (if ball = 3 then .final else .first) else (if ball = 1 then .first else .final)

/-- The kind of the cycle of a practice ball (R26). -/
def practiceKind (index : Nat) : CycleKind := if index = 1 then .first else .final

/-- The snapshots a DECK of a lane makes invalid (R114): the lane's own, and the other lane's when its slot is
UP on this lane. -/
def State.deckInvalidates (s : State) (l : Fin 16) : State :=
  match s.upSlot l with
  | some i => (s.dropSnapshot l).dropSnapshotOf (otherLane l) i
  | none => s.dropSnapshot l

/-- A ball cycle starts at a DECK (R26). -/
def State.startBall (s : State) (l : Fin 16) (d : Delivery) (kind : CycleKind) : State :=
  (s.modSup l fun u => { u with delivery := some { d with step := .awaitingRead } }).startCycle l
    (newCycle kind .ball s.timers.cycle d.pre)

/-- A SCORED delivery at its DECK (R26, R76): the place it is bowled for is the slot's next ball. -/
def State.startScored (s : State) (l : Fin 16) (d : Delivery) (i : Fin 12) : State :=
  let x := s.slot (pairOf l) i
  let s := s.startBall l { d with place := some ⟨i, x.game.getD 0, x.frame, x.ball⟩ } (scoredKind x.frame x.ball)
  s.updSlot (pairOf l) i fun x => { x with inFlight := true }

/-- A PRACTICE delivery at its DECK (R26, R28). -/
def State.startPractice (s : State) (l : Fin 16) (d : Delivery) : State :=
  let n := (s.lane l).sup.practice
  s.startBall l { d with practice := some n } (practiceKind n)

/-- A delivery that closes at its DECK (R27), with the count that rises. -/
def State.closeAtDeck (s : State) (l : Fin 16) (d : Delivery) (f : Supervisor → Supervisor) : State :=
  s.modSup l fun u => f { u with delivery := stillInFlight u.delivery, last := some d }

/-- An UNPAID delivery at its DECK (R27): counted by the meter of a PARKED lane, which it may wake, or by the
Supervisor of a CLOSED one. -/
def State.unpaidBall (s : State) (l : Fin 16) (d : Delivery) : State :=
  if s.session l = .parked then
    (((s.closeAtDeck l d id).modMeter l fun m => { m with unpaid := bump16 m.unpaid }).flagDk .unpaidDelivery).ballEdge l
  else (s.closeAtDeck l d fun u => { u with closedUnpaid := bump16 u.closedUnpaid }).flagDk .unpaidDelivery

/-- A DECK (R25), or the one taken at the travel timeout (R24, `missed`). -/
def State.takeDeck (s : State) (l : Fin 16) (missed : Bool) : State :=
  let u := (s.lane l).sup
  let cls := deckClass (s.session l) u.state (s.upSlot l)
  let d := { deckDelivery u.delivery missed with cls := some cls, pre := u.standing }
  let up := s.upSlot l
  let s := (s.createTransit (pairOf l) (sideOf l) (cls == .unpaid)).deckInvalidates l
  match cls, up with
  | .scored, some i => s.startScored l d i
  | .scored, none => s.startPractice l d
  | .practice, _ => s.startPractice l d
  | .early, _ =>
    (s.closeAtDeck l d fun u => { u with earlyBalls := bump16 u.earlyBalls }).flagConsole (pairOf l) .earlyBall
  | .unscored, _ => s.closeAtDeck l d fun u => { u with unscoredBalls := bump16 u.unscoredBalls }
  | .unpaid, _ => s.unpaidBall l d

/-- DECK (R25). -/
def deck (l : Fin 16) (s : State) : State := s.takeDeck l false

/-- TRAVEL TIMEOUT (R24): the DECK of the delivery that awaits one. -/
def travelTimeout (l : Fin 16) (s : State) : State :=
  match (s.lane l).sup.delivery with
  | some d => if d.step = .awaitingDeck then s.takeDeck l true else s
  | none => s

/-- The lane's last release lies within the foul window before now (R42). -/
def State.recentRelease (s : State) (l : Fin 16) : Option LastRelease :=
  (s.lane l).sup.lastRelease.filter fun r => s.withinWindow r.moment

/-- FOUL (R42). -/
def foul (l : Fin 16) (s : State) : State :=
  if (s.lane l).session.settings.foulDetection then
    match s.recentRelease l, (s.lane l).sup.waitingFoul with
    | some r, _ => if r.fouled then s else s.attributeFoul l
    | none, none => s.modSup l fun u => { u with waitingFoul := some s.now }
    | none, some _ => s.modSup l fun u => { u with strayFouls := bump16 u.strayFouls }
  else s

/-- WAITING FOUL EXPIRY (R42). -/
def waitingFoulExpiry (l : Fin 16) (s : State) : State :=
  match (s.lane l).sup.waitingFoul with
  | some _ => s.modSup l fun u => { u with waitingFoul := none, strayFouls := bump16 u.strayFouls }
  | none => s

/-- HORN END (R43). -/
def hornEnd (l : Fin 16) (s : State) : State := s.modSup l fun u => { u with horn := none }

/-! ## The READ -/

/-- The cycle in flight on a lane. -/
def State.cycling (s : State) (l : Fin 16) : Option Cycle :=
  if (s.lane l).sup.state = .cycling then (s.lane l).sup.cycle else none

/-- A delivery counted at its READ (R31). -/
def Delivery.counts (d : Delivery) (sensed : PinSet) : Delivery :=
  let pre := d.pre.getD fullRack
  { d with
    pre := some pre
    counted := some (sensed &&& pre)
    marks := { d.marks with senseOdd := d.marks.senseOdd || !pinsWithin sensed pre } }

/-- A SCORED delivery whose ball is not scored (R31, R89): its turn is taken as not ended. -/
def State.leaveUnscored (s : State) (l : Fin 16) (d : Delivery) : Scored :=
  ⟨(s.modSup l fun u => { u with unscoredBalls := bump16 u.unscoredBalls }).landBall l d, false⟩

/-- The place and sheet a counted delivery is scored at: none where R31 or R89 leaves it unscored. -/
def State.scoredAt (s : State) (l : Fin 16) (d : Delivery) : Option (Place × Sheet) :=
  if d.laneClosed || !s.running l then none
  else d.place.bind fun a => ((s.slot (pairOf l) a.slot).sheetFor a).map fun sh => (a, sh)

/-- A counted delivery passed on by its class (R31). -/
def State.passOn (s : State) (l : Fin 16) (d : Delivery) : Scored :=
  if d.cls = some .practice then ⟨s, false⟩
  else
    match s.scoredAt l d with
    | some (a, sh) => s.scoreBall l a sh (d.pre.getD fullRack) (d.counted.getD 0) d.marks
    | none => s.leaveUnscored l d

/-- A follow-on FINAL is scheduled at the READ of a FIRST ball cycle (R32). -/
def followOnDue (c : Cycle) (d : Delivery) (turnEnded : Bool) : Bool :=
  c.kind == .first && (d.counted == some 0 || d.marks.foul || turnEnded)

/-- The practice ball index after a READ (R28). -/
def practiceAfter (d : Delivery) (followOn : Bool) (index : Nat) : Nat :=
  if d.cls = some .practice then (if d.practice = some 1 ∧ followOn = false then 2 else 1) else index

/-- The cycle after its READ (R31, R32). -/
def Cycle.afterRead (c : Cycle) (d : Delivery) (turnEnded : Bool) : Cycle :=
  { c with
    phase := .afterRead, result := d.counted, pre := d.pre, turnEnded := turnEnded
    followOn := followOnDue c d turnEnded }

/-- PS READ taken by a ball cycle (R31). -/
def State.takeRead (s : State) (l : Fin 16) (c : Cycle) (d : Delivery) : State :=
  let r := s.passOn l d
  r.state.modSup l fun u =>
    { u with
      cycle := some (c.afterRead d r.turnEnded), delivery := none, last := some d
      practice := practiceAfter d (followOnDue c d r.turnEnded) u.practice }

/-- PS READ (R31). -/
def psRead (l : Fin 16) (sensed : PinSet) (s : State) : State :=
  match s.cycling l, (s.lane l).sup.delivery with
  | some c, some d =>
    if c.awaitsRead && d.step == .awaitingRead then s.takeRead l c (d.counts sensed) else s
  | _, _ => s

/-! ## The end of a cycle -/

/-- The standing set after a DONE (R34). -/
def standingAfter (c : Cycle) (standing : Option PinSet) : Option PinSet :=
  match c.kind, c.origin with
  | .final, _ => some fullRack
  | .first, .manual => standing
  | .first, _ => c.result

/-- The FINAL cycle of origin FOLLOW_ON that follows a cycle (R34 step 2), with what its fault record will need
of the ball (log 11). -/
def followOnCycle (c : Cycle) (timeout : Nat) : Cycle :=
  { newCycle .final .followOn timeout none with result := c.result, turnEnded := c.turnEnded }

/-- What follows a completed cycle, the first that applies (R34). -/
def State.nextAfter (s : State) (l : Fin 16) (c : Cycle) : State :=
  match c.restore with
  | some target =>
    if s.powerGranted l then (s.modSup l fun u => { u with cycle := none }).restoreReady l target none
    else s.updSup l fun u => { u with state := .off, cycle := none, standing := none }
  | none =>
    if c.followOn then s.startCycle l (followOnCycle c s.timers.cycle)
    else s.updSup l fun u => { u with state := if s.powerGranted l then .ready else .off, cycle := none }

/-- A cycle completes (R34, R28), up to the entry of a pending park. -/
def State.completeCycle (s : State) (l : Fin 16) (c : Cycle) : State :=
  (s.modSup l fun u =>
    { u with
      standing := standingAfter c u.standing
      practice := if c.kind = .final then 1 else u.practice }).nextAfter l c

/-- PS DONE (R34, R33 NO_READ), and the pending park (R10). -/
def psDone (l : Fin 16) (s : State) : State :=
  match s.cycling l with
  | some c => (if c.awaitsRead then s.faultCycle l c .noRead else s.completeCycle l c).afterCycle l
  | none => s

/-- PS JAM (R33), and the pending park (R10). -/
def psJam (l : Fin 16) (s : State) : State :=
  match s.cycling l with
  | some c => (s.faultCycle l c .jam).afterCycle l
  | none => s

/-- CYCLE TIMEOUT (R33), and the pending park (R10). -/
def cycleTimeout (l : Fin 16) (s : State) : State :=
  match s.cycling l with
  | some c => (s.faultCycle l c .timeout).afterCycle l
  | none => s

/-- The set the next ball on a lane is due at (R30 step 3): the after set of the last ball of a frame that
continues at the pins it left, else the full rack. -/
def State.dueSet (s : State) (l : Fin 16) : PinSet :=
  match s.upSlot l with
  | none => fullRack
  | some i =>
    let x := s.slot (pairOf l) i
    match x.sheet with
    | none => fullRack
    | some sh =>
      let balls := (frameAt sh.frames x.frame).balls
      match balls.getLast? with
      | some b => if rackOf (x.frame == 10) balls = .standing then b.after else fullRack
      | none => fullRack

/-- A set found at the end of a warm-up (R30 step 3): the full rack by a FINAL cycle of origin WAKE, any other
by a hand set. -/
def State.setDue (s : State) (l : Fin 16) (target : PinSet) : State :=
  if target = fullRack then s.startFinal l .wake else s.enterHandSet l target none

/-- A warm-up ends (R30). -/
def State.endWarmUp (s : State) (l : Fin 16) (w : WarmUp) : State :=
  match w.restore, (s.lane l).sup.standing with
  | some target, _ => s.restoreReady l target none
  | none, some _ => s.updSup l fun u => { u with state := .ready, warmUp := none }
  | none, none => s.setDue l (s.dueSet l)

/-- WARM-UP END (R30). -/
def warmUpEnd (l : Fin 16) (s : State) : State :=
  match (s.lane l).sup.state, (s.lane l).sup.warmUp with
  | .warming, some w => s.endWarmUp l w
  | _, _ => s

end Sys2Proof.Machine
end

