-- ==== Sys2Proof/Machine/Mechanic.lean ====
section
/-! DEFINITION. The mechanic's requests to a Pinsetter Supervisor (02, R36 to R41), as they are served. -/

namespace Sys2Proof.Machine

/-- The checks of a mechanic's request that names a lane: DENIED, RANGE, BUSY. -/
def mechanicChecks (p : Port) (lane : Nat) (s : State) : List (Bool × ReplyOutcome) :=
  [(p != .mc, .denied), (!inLanes lane, .range), (s.loading, .busy)]

/-- A lane taken out of service (R38). -/
def State.lockOut (s : State) (l : Fin 16) : State :=
  if (s.lane l).sup.state = .lockout then s
  else
    let s := match s.cycling l with
      | some c => if c.awaitsRead then s.loseBall l else s
      | none => s
    (s.updSup l fun u =>
      { u with
        state := .lockout, cycle := none, warmUp := none, fault := none, handSet := none
        standing := none, servicePower := false, waitingFoul := none, practice := 1 }).enterPending l

/-- LOCKOUT (R38). -/
def serveLockout (p : Port) (lane : Nat) (s : State) : Served :=
  .after s (mechanicChecks p lane s) (.ok (s.lockOut (laneIx lane)))

/-- A lane put back in service (R39). -/
def State.unlock (s : State) (l : Fin 16) : State :=
  (s.modSup l fun u => { u with servicePower := u.servicePower || !s.running l }).enterWarming l

/-- UNLOCK (R39). -/
def serveUnlock (p : Port) (lane : Nat) (s : State) : Served :=
  .after s (mechanicChecks p lane s ++ [((s.lane (laneIx lane)).sup.state != .lockout, .state)])
    (.ok (s.unlock (laneIx lane)))

/-- The kind of a manual cycle by its byte. -/
def cycleKindOf (kind : Nat) : CycleKind := if kind = 0 then .first else .final

/-- MANUAL CYCLE (R40). -/
def serveManualCycle (p : Port) (lane kind : Nat) (s : State) : Served :=
  let l := laneIx lane
  .after s
    [(p != .mc, .denied), (!inLanes lane || 1 < kind, .range), (s.loading, .busy),
      ((s.lane l).sup.state != .ready, .state)]
    (.ok (s.startCycle l (newCycle (cycleKindOf kind) .manual s.timers.cycle none)))

/-- A CLEAR FAULT that applies the lane's Reball Snapshot (R37, R119): the choice REBALL on a ball or follow-on
cycle past its READ, with no replaced target. -/
def FaultRec.reballs (f : FaultRec) (choice : Nat) : Bool :=
  choice == 1 && f.replaced.isNone && f.phase == .afterRead && (f.origin == .ball || f.origin == .followOn)

/-- The target a fault leaves to restore (R37), of the choice KEEP. -/
def FaultRec.target (f : FaultRec) : PinSet :=
  match f.replaced, f.phase, f.origin with
  | some t, _, _ => t
  | none, .beforeRead, _ => f.pre.getD fullRack
  | none, .afterRead, .manual => if f.kind = .first then f.pre.getD fullRack else fullRack
  | none, .afterRead, .wake => fullRack
  | none, .afterRead, .reball => fullRack
  | none, .afterRead, _ =>
    if f.kind = .final || f.turnEnded || f.followOn then fullRack else f.read.getD fullRack

/-- A lane leaves FAULT with a target to restore (R37). -/
def State.leaveFault (s : State) (l : Fin 16) (target : PinSet) (phase : CyclePhase) : State :=
  let s := s.modSup l fun u => { u with fault := none }
  if s.powerGranted l then s.restoreReady l target (some phase)
  else s.updSup l fun u => { u with state := .off, standing := none }

/-- A fault cleared by a choice (R37). -/
def State.clearFault (s : State) (l : Fin 16) (choice : Nat) : State :=
  match (s.lane l).sup.fault with
  | none => s
  | some f =>
    match (s.lane l).snapshot with
    | some n =>
      if f.reballs choice then (s.applySnapshot l n).leaveFault l n.pre f.phase else s.leaveFault l f.target f.phase
    | none => s.leaveFault l f.target f.phase

/-- The reball that a CLEAR FAULT would apply is refused (R37, R119). -/
def State.faultReballBarred (s : State) (l : Fin 16) (choice : Nat) : Bool :=
  (s.lane l).sup.fault.any (·.reballs choice) && reballBarred (s.lane l).snapshot

/-- CLEAR FAULT (R37). -/
def serveClearFault (p : Port) (lane choice : Nat) (s : State) : Served :=
  let l := laneIx lane
  .after s
    [(p != .mc, .denied), (!inLanes lane || 1 < choice, .range), (s.loading, .busy),
      ((s.lane l).sup.state != .fault, .state), (s.faultReballBarred l choice, .state)]
    (.ok (s.clearFault l choice))

/-- The target of a hand set stands (R36). -/
def State.pinsStand (s : State) (l : Fin 16) : State :=
  s.updSup l fun u => { u with state := .ready, standing := u.handSet.map HandSet.target, handSet := none }

/-- PINS SET (R36). -/
def servePinsSet (p : Port) (lane : Nat) (s : State) : Served :=
  .after s (mechanicChecks p lane s ++ [((s.lane (laneIx lane)).sup.state != .handSet, .state)])
    (.ok (s.pinsStand (laneIx lane)))

/-- A number within a range. -/
def within (low high n : Nat) : Bool := low ≤ n && n ≤ high

/-- The timers with the present values written (R41). -/
def PinsetterTimers.write (t : PinsetterTimers) (warmUp cycle travel window : Option Nat) : PinsetterTimers where
  warmUp := warmUp.getD t.warmUp
  cycle := cycle.getD t.cycle
  travel := travel.getD t.travel
  window := window.getD t.window

/-- SET PINSETTER TIMERS (R41). -/
def serveSetPinsetterTimers (p : Port) (warmUp cycle travel window : Option Nat) (s : State) : Served :=
  .after s
    [(p.isConsole, .denied),
      (optOut (within 2 30) warmUp || optOut (within 6 30) cycle || optOut (within 2 10) travel ||
        optOut (within 2 20) window, .range),
      (s.loading, .busy)]
    (.ok { s with timers := s.timers.write warmUp cycle travel window })

end Sys2Proof.Machine
end

