-- ==== Sys2Proof/Machine/BallReturn.lean ====
section
/-! DEFINITION. The events of a pair's lift as its Return Monitor takes them, and the requests to it (03). -/

namespace Sys2Proof.Machine

/-- LIFT ARRIVE (R49). -/
def liftArrive (p : Fin 8) (s : State) : State := s.arrive p

/-- RACK FULL ON (R57). -/
def rackFullOn (p : Fin 8) (s : State) : State :=
  s.modRet p fun r =>
    let r := { r with rackFull := true }
    if r.lift = .running then { r with lift := .fullPause, idle := none } else r

/-- RACK FULL OFF (R57, R60). -/
def rackFullOff (p : Fin 8) (s : State) : State :=
  (s.modRet p fun r =>
    let r := { r with rackFull := false }
    if r.lift = .fullPause then { r with lift := .running } else r).idleRule p

/-- LIFT OVERLOAD (R58). During the settings load it stalls a lift that a DECK has started, with no call (R63, R184,
log 35). -/
def liftOverload (p : Fin 8) (s : State) : State :=
  let s := s.modRet p fun r => { r with overload := true }
  match (s.ret p).lift with
  | .running => s.enterStall p
  | .fullPause => s.enterStall p
  | .off => s
  | .stall => s

/-- The overload input falls: its level is kept (R45). -/
def liftOverloadLow (p : Fin 8) (s : State) : State := s.modRet p fun r => { r with overload := false }

/-- A record that reaches the return timeout (R53); its age is then the timeout at least (log 5). -/
def Transit.expire (timeout : Nat) (seqs : List (BitVec 16)) (t : Transit) : Transit :=
  if seqs.contains t.seq && !t.overdue then { t with overdue := true, age := max t.age (timeout * 1000) } else t

/-- RECORD OVERDUE (R53): the records named, while ages advance (R52). -/
def recordOverdue (p : Fin 8) (seqs : List (BitVec 16)) (s : State) : State :=
  if (s.ret p).lift.ages then s.markOverdue p (Transit.expire s.retSettings.timeout seqs) else s

/-- LIFT IDLE EXPIRY (R60). -/
def liftIdleExpiry (p : Fin 8) (s : State) : State :=
  match (s.ret p).idle with
  | some _ => s.modRet p fun r => { r with lift := .off, idle := none }
  | none => s

/-! ## Requests -/

/-- Whole seconds of a time left in milliseconds, a part of a second counted as one (log 25). -/
def secondsLeft (ms : Nat) : Nat := (ms + 999) / 1000

/-- A lane's part of the return status (R62). -/
def ReturnMonitor.laneBytes (r : ReturnMonitor) (sd : Side) : List Byte :=
  byteBool (r.episode sd) ++ byte1 (r.overdueCount sd) ++ byte1 (r.unpaidCount sd)

/-- A transit record on a line (R62): lane, number, age in whole seconds, marks. -/
def Transit.bytes (t : Transit) : List Byte :=
  byte1 t.lane.code ++ byte2 t.seq.toNat ++ byte2 (t.age / 1000) ++ byteSet [t.overdue, t.unpaid]

/-- An input level on a line: its position in R46's "Raised, low" (R197, log 38). -/
def levelByte (raised : Bool) : List Byte := byte1 (if raised then 0 else 1)

/-- The return status (R62), the odd lane before the even lane (log 14). -/
def ReturnMonitor.bytes (r : ReturnMonitor) : List Byte :=
  byte1 r.lift.code ++ levelByte r.rackFull ++ levelByte r.overload ++ byteBool r.idle.isSome ++
    opt2 (r.idle.map secondsLeft) ++ byte4 r.created.toNat ++ byte4 r.matched.toNat ++
    byte4 r.writtenOff.toNat ++ byte4 r.stray.toNat ++ byte2 r.nextSeq.toNat ++ r.laneBytes .odd ++
    r.laneBytes .even ++ byteList (r.transit.map Transit.bytes)

/-- READ RETURN (R62). -/
def serveReadReturn (p : Port) (pair : Nat) (s : State) : Served :=
  .after s [(outsidePair p pair, .denied), (!inPairs pair, .range), (s.loading, .busy)]
    ⟨s, .ok, (s.ret (pairIx pair)).bytes⟩

/-- The lane of a CLEAR OVERDUE names both lanes of the pair, or this one (R54). -/
def overdueScope (p : Fin 8) (lane : Nat) (sd : Side) : Bool := lane == 0 || lane == laneNo (laneAt p sd)

/-- How many records a CLEAR OVERDUE removes (R54). -/
def State.overdueIn (s : State) (p : Fin 8) (scope : Side → Bool) : Nat :=
  (s.ret p).transit.countP fun t => t.overdue && scope t.lane

/-- CLEAR OVERDUE (R54). -/
def serveClearOverdue (p : Port) (pair lane : Nat) (s : State) : Served :=
  let n := pairIx pair
  .after s
    [(p != .mc, .denied), (!inPairs pair || !(overdueScope n lane .odd || overdueScope n lane .even), .range),
      (s.loading, .busy)]
    ⟨s.clearOverdue n (overdueScope n lane), .ok, byte1 (s.overdueIn n (overdueScope n lane))⟩

/-- A stalled lift started again (R59, R60). -/
def State.restartLift (s : State) (p : Fin 8) : State :=
  (s.modRet p fun r => { r with lift := if r.rackFull then .fullPause else .running }).idleRule p

/-- LIFT RESTART (R59). -/
def serveLiftRestart (p : Port) (pair : Nat) (s : State) : Served :=
  let n := pairIx pair
  .after s
    [(p != .mc, .denied), (!inPairs pair, .range), (s.loading, .busy), ((s.ret n).lift != .stall, .state),
      ((s.ret n).overload, .state)]
    (.ok (s.restartLift n))

/-- A new return timeout tested against every pair's records (R61). -/
def State.applyTimeout (s : State) (timeout : Nat) : State :=
  allPairs.foldl (fun s p => s.markOverdue p (Transit.reach · timeout)) s

/-- The return settings written (R61). -/
def State.writeReturnSettings (s : State) (timeout idle : Option Nat) : State :=
  let r := s.retSettings
  let s := { s with retSettings := ⟨timeout.getD r.timeout, idle.getD r.idle⟩ }
  match timeout with
  | some t => s.applyTimeout t
  | none => s

/-- SET RETURN SETTINGS (R61). -/
def serveSetReturnSettings (p : Port) (timeout idle : Option Nat) (s : State) : Served :=
  .after s
    [(p.isConsole, .denied), (optOut (within 10 120) timeout || optOut (within 30 600) idle, .range),
      (s.loading, .busy)]
    (.ok (s.writeReturnSettings timeout idle))

end Sys2Proof.Machine
end

