-- ==== Sys2Proof/Machine/Rosters.lean ====
section
/-! DEFINITION. The roster requests, the pair settings and the roster reply, as they are served (04). -/

namespace Sys2Proof.Machine

/-- The first checks of a roster request (section 4.3, R189): DENIED, RANGE, BUSY. -/
def rosterChecks (p : Port) (pair : Nat) (inRange : Bool) (s : State) : List (Bool × ReplyOutcome) :=
  [(p == .mc || outsidePair p pair, .denied), (!(inPairs pair && inRange), .range), (s.loading, .busy)]

/-- What every taken roster request does first (section 4.3, R114): TURN_CHANGED, and both snapshots invalid. -/
def State.rosterTaken (s : State) (p : Fin 8) : State := (s.flagConsole p .turnChanged).dropSnapshots p

/-- The side whose queue a slot's turn stands in. -/
def TurnUnit.turnSide (t : TurnUnit) (i : Fin 12) : Option Side :=
  if i ∈ t.queueOdd then some .odd else if i ∈ t.queueEven then some .even else none

/-- The side whose queue a slot heads. -/
def TurnUnit.headSide (t : TurnUnit) (i : Fin 12) : Option Side :=
  if t.queueOdd.head? = some i then some .odd else if t.queueEven.head? = some i then some .even else none

/-- The head rules run on a side of a pair, if one is named. -/
def State.headRulesAt (s : State) (p : Fin 8) : Option Side → State
  | some sd => s.headRules (laneAt p sd)
  | none => s

/-- A slot takes a bowler number (R67 step 1). -/
def Slot.filled (number : Nat) : Slot := { Slot.empty with bowler := some number }

/-- A bowler added (R67). -/
def State.addBowler (s : State) (p : Fin 8) (i : Fin 12) (number : Nat) : State :=
  let s := (s.updSlot p i fun _ => Slot.filled number).lookup p i number
  let sd := startSide (s.turn p).mode i (nextGame none)
  (s.updTurn p fun t => t.moveTurn i (some sd) .queued).headRules (laneAt p sd)

/-- ADD BOWLER (R67). -/
def serveAddBowler (p : Port) (pair slot number : Nat) (s : State) : Served :=
  let n := pairIx pair
  let i := slotIx slot
  .after s
    (rosterChecks p pair (inSlots slot && inBowlers number) s ++
      [((s.slot n i).state != .empty, .state), ((s.findSlot number).isSome, .state)])
    (.ok ((s.rosterTaken n).addBowler n i number))

/-- A bowler removed (R68). -/
def State.removeBowler (s : State) (p : Fin 8) (i : Fin 12) : State :=
  (s.clearSlot p i).headRulesAt p ((s.turn p).headSide i)

/-- REMOVE BOWLER (R68). -/
def serveRemoveBowler (p : Port) (pair slot : Nat) (s : State) : Served :=
  let n := pairIx pair
  let i := slotIx slot
  .after s
    (rosterChecks p pair (inSlots slot) s ++
      [((s.slot n i).state == .empty, .state), ((s.slot n i).inFlight, .state)])
    (.ok ((s.rosterTaken n).removeBowler n i))

/-- AWAY is refused STATE for a slot (R69). -/
def Slot.mayNotLeave (x : Slot) : Bool :=
  match x.state with
  | .empty => true
  | .done => true
  | .queued => false
  | .up => x.ball != 1 || x.inFlight

/-- The away mark set (R69): an UP slot becomes QUEUED. -/
def Slot.goAway (x : Slot) : Slot :=
  { x with away := true, state := if x.state = .up then .queued else x.state }

/-- A slot sent away (R69). -/
def State.sendAway (s : State) (p : Fin 8) (i : Fin 12) : State :=
  (s.updSlot p i Slot.goAway).headRulesAt p ((s.turn p).headSide i)

/-- AWAY (R69). -/
def serveAway (p : Port) (pair slot : Nat) (s : State) : Served :=
  let n := pairIx pair
  let i := slotIx slot
  .after s (rosterChecks p pair (inSlots slot) s ++ [((s.slot n i).mayNotLeave, .state)])
    (.ok ((s.rosterTaken n).sendAway n i))

/-- A slot back (R70). -/
def State.comeBack (s : State) (p : Fin 8) (i : Fin 12) : State :=
  if (s.slot p i).away then
    (s.updSlot p i fun x => { x with away := false }).headRulesAt p ((s.turn p).turnSide i)
  else s

/-- BACK (R70). -/
def serveBack (p : Port) (pair slot : Nat) (s : State) : Served :=
  let n := pairIx pair
  let i := slotIx slot
  .after s (rosterChecks p pair (inSlots slot) s ++ [((s.slot n i).state == .empty, .state)])
    (.ok ((s.rosterTaken n).comeBack n i))

/-- A pair mode by its byte. -/
def pairModeOf (mode : Nat) : PairMode := if mode = 0 then .opened else .alternate

/-- The starting lane of a slot's game under a mode (R71): of its current game when STARTED, else of its next. -/
def Slot.gameSide (x : Slot) (mode : PairMode) (i : Fin 12) : Side :=
  match x.stage with
  | .started => startSide mode i (x.game.getD 1)
  | .inProgress => startSide mode i (x.game.getD 1)
  | .waiting => startSide mode i (nextGame x.game)

/-- A slot's turn moved to the starting lane of its game under the mode in force (R71). -/
def TurnUnit.rehome (t : TurnUnit) (i : Fin 12) : TurnUnit :=
  match t.turnSide i with
  | none => t
  | some sd =>
    let dest := t.slots[i].gameSide t.mode i
    if dest = sd then t else t.moveTurn i (some dest) .queued

/-- A pair mode taken (R71). -/
def State.setMode (s : State) (p : Fin 8) (mode : PairMode) : State :=
  let s := s.updTurn p fun t => allSlots.foldl TurnUnit.rehome { t with mode := mode }
  (s.headRules (laneAt p .odd)).headRules (laneAt p .even)

/-- A slot that holds a change of mode back (R71). -/
def Slot.holdsMode (x : Slot) : Bool := x.stage == .inProgress || x.inFlight

/-- SET PAIR MODE (R71). -/
def serveSetPairMode (p : Port) (pair mode : Nat) (s : State) : Served :=
  let n := pairIx pair
  .after s
    (rosterChecks p pair (mode ≤ 1) s ++ [((s.turn n).slots.toList.any Slot.holdsMode, .state)])
    (.ok ((s.rosterTaken n).setMode n (pairModeOf mode)))

/-- A new series limit acts on a slot (R83); a slot moved into or out of DONE makes both snapshots invalid (R114). -/
def State.limitSlot (s : State) (p : Fin 8) (i : Fin 12) : State :=
  let t := s.turn p
  let x := t.slots[i]
  let reached := limitReached t.settings.games x.finished
  match x.state with
  | .done =>
    if reached then s
    else
      let sd := startSide t.mode i (nextGame x.game)
      ((s.dropSnapshots p).updTurn p fun t => t.moveTurn i (some sd) .queued).headRules (laneAt p sd)
  | .empty => s
  | _ =>
    if reached ∧ x.stage = .waiting then
      ((s.dropSnapshots p).updTurn p fun t => t.moveTurn i none .done).headRulesAt p (t.headSide i)
    else s

/-- The pair settings with the present values written (R83). -/
def PairSettings.write (st : PairSettings) (games base percent cap : Option Nat) : PairSettings where
  games := games.getD st.games
  base := base.getD st.base
  percent := percent.getD st.percent
  cap := cap.getD st.cap

/-- Pair settings taken (R83). -/
def State.writePairSettings (s : State) (p : Fin 8) (games base percent cap : Option Nat) : State :=
  let s := (s.updTurn p fun t => { t with settings := t.settings.write games base percent cap }).flagConsole p .turnChanged
  if games.isSome then allSlots.foldl (fun s i => s.limitSlot p i) s else s

/-- A console that gives a handicap setting (R83). -/
def handicapFromConsole (p : Port) (base percent cap : Option Nat) : Bool :=
  p.isConsole && (base.isSome || percent.isSome || cap.isSome)

/-- SET PAIR SETTINGS (R83). -/
def serveSetPairSettings (p : Port) (pair : Nat) (games base percent cap : Option Nat) (s : State) : Served :=
  .after s
    [(p == .mc || outsidePair p pair || handicapFromConsole p base percent cap, .denied),
      (!inPairs pair || optOut (· ≤ 9) games || optOut (· ≤ 300) base || optOut (· ≤ 100) percent ||
        optOut (· ≤ 300) cap, .range),
      (s.loading, .busy)]
    (.ok (s.writePairSettings (pairIx pair) games base percent cap))

/-- A slot on a line: every field of R64 (R82, log 14). -/
def Slot.bytes (x : Slot) : List Byte :=
  opt2 x.bowler ++ byte1 x.state.code ++ byteBool x.away ++ opt1 x.game ++ byte1 x.stage.code ++ byte1 x.frame ++
    byte1 x.ball ++ byte1 x.finished ++ Handicap.bytes x.handicap ++ byte1 x.source.code ++ byte1 x.fetch.code ++
    byteBool x.inFlight

/-- A lane's queue on a line, by slot number, and its paid start mark (R82). -/
def TurnUnit.laneBytes (t : TurnUnit) (sd : Side) : List Byte :=
  byteList ((t.queue sd).map fun i => byte1 (i.val + 1)) ++ byteBool (t.paid sd)

/-- The roster reply (R82), the odd lane before the even lane and the slots ascending (log 14). -/
def TurnUnit.bytes (t : TurnUnit) : List Byte :=
  byte1 t.mode.code ++ byte1 t.settings.games ++ byte2 t.settings.base ++ byte1 t.settings.percent ++
    byte2 t.settings.cap ++ t.laneBytes .odd ++ t.laneBytes .even ++ (t.slots.toList.map Slot.bytes).flatten

/-- READ ROSTER (R82). -/
def serveReadRoster (p : Port) (pair : Nat) (s : State) : Served :=
  .after s [(outsidePair p pair, .denied), (!inPairs pair, .range), (s.loading, .busy)]
    ⟨s, .ok, (s.turn (pairIx pair)).bytes⟩

end Sys2Proof.Machine
end

