-- ==== Sys2Proof/Machine/Sessions.lean ====
section
/-! DEFINITION. The requests to a lane's Session Unit and the lane reads, as they are served (01, 10 R191). -/

namespace Sys2Proof.Machine

/-! ## Opening and closing -/

/-- A meter kind by its byte (R156). -/
def meterKindOf (kind : Nat) : MeterKind := if kind = 0 then .games else .time
/-- A meter mode by its byte (R156). -/
def meterModeOf (mode : Nat) : MeterMode := if mode = 0 then .prepaid else .tab

/-- OPEN LANE steps 1 and 2 (R3). -/
def Session.open (n : Session) (cls : Nat) : Session :=
  { n.enter .opened with
    wakeMask := .empty, parkCause := .none, pendingPark := none, settings := { n.settings with priceClass := cls } }

/-- The meter of an opened lane begins (R157); a front grace of 0 ends at once. -/
def State.beginMeter (s : State) (l : Fin 16) (kind : MeterKind) (mode : MeterMode) (credit : Nat) : State :=
  let m := Meter.fresh kind mode credit s.billing.front
  let s := s.modLane l fun a => { a with meter := some m }
  if kind = .time ∧ s.billing.front = 0 then s.startUnit l else s

/-- A lane opened (R3). -/
def State.openLane (s : State) (l : Fin 16) (kind : MeterKind) (mode : MeterMode) (credit cls : Nat) : State :=
  let s := ((s.updSession l fun n => n.open cls).beginMeter l kind mode credit).modSup l fun u =>
    { u with servicePower := false }
  ((((s.grantPower l).liftLaneOpen (pairOf l)).headRules l)).zeroBackGrace l

/-- An opening credit out of range (R3). -/
def creditOut (mode credit : Nat) : Bool := if mode = 0 then balanceCeiling < credit else credit != 0

/-- OPEN LANE (R3). -/
def serveOpenLane (p : Port) (lane kind mode credit cls : Nat) (s : State) : Served :=
  let l := laneIx lane
  .after s
    [(p != .dk, .denied), (!inLanes lane || 1 < kind || 1 < mode || 3 < cls || creditOut mode credit, .range),
      (s.loading, .busy), (s.clock.unset || s.session l != .closed, .state)]
    (.ok (s.openLane l (meterKindOf kind) (meterModeOf mode) credit cls))

/-- A close summary (R167), of a completed record. -/
def Meter.summary (m : Meter) : List Byte :=
  byte1 m.kind.code ++ byte1 m.mode.code ++ byte4 m.credited ++ byte4 m.charged ++ byte4 m.balance ++
    byte2 m.games ++ byte2 m.units ++ byte2 m.unpaid ++ byteBool m.saturated

/-- A lane's close summary preceded by its number (R167, R197). -/
def State.summaryOf (s : State) (l : Fin 16) : List (List Byte) :=
  match (s.lane l).meter with
  | some m => [byte1 (laneNo l) ++ m.complete.summary]
  | none => []

/-- A delivery that has taken its DECK when its lane is closed (R6, R31). -/
def Delivery.closeLane (d : Delivery) : Delivery :=
  if d.step = .awaitingRead then { d with laneClosed := true } else d

/-- The session and meter of a closed lane (R4 steps 1 and 2, R167 step 4), and the delivery awaiting its READ. -/
def State.endSession (s : State) (l : Fin 16) : State :=
  let s := s.updSession l fun n =>
    { n.enter .closed with wakeMask := .empty, parkCause := .none, pendingPark := none }
  (s.modLane l fun a => { a with meter := none }).modSup l fun u =>
    { u with delivery := u.delivery.map Delivery.closeLane }

/-- Power and lift of a closed lane, and its snapshot (R4 steps 4 and 5, R60). -/
def State.stopMachines (s : State) (l : Fin 16) : State :=
  ((s.dropSnapshot l).withdrawPower l).liftLaneStopped l

/-- A slot cleared at CLOSE LANE, when a bowler stands in it. -/
def State.vacate (s : State) (p : Fin 8) (i : Fin 12) : State :=
  if (s.slot p i).state = .empty then s else s.clearSlot p i

/-- A lane's queue emptied and its paid start mark cleared (R81). -/
def State.emptyQueue (s : State) (l : Fin 16) : State :=
  s.updTurn (pairOf l) fun t => (t.setQueue (sideOf l) []).setPaid (sideOf l) false

/-- A lane of a pair in OPEN mode closed (R4). -/
def State.closeAlone (s : State) (l : Fin 16) : State :=
  let p := pairOf l
  let s := s.endSession l
  let s := (allSlots.filter fun i => homeSide i = sideOf l).foldl (fun s i => s.vacate p i) s
  (s.emptyQueue l).stopMachines l

/-- A lane of an ALTERNATE pair closed, unless it is CLOSED (R5). -/
def State.closeOne (s : State) (l : Fin 16) : State :=
  if s.session l = .closed then s else (s.endSession l).stopMachines l

/-- Both lanes of an ALTERNATE pair closed (R5). -/
def State.closeBoth (s : State) (p : Fin 8) : State :=
  let s := (s.closeOne (laneAt p .odd)).closeOne (laneAt p .even)
  let s := allSlots.foldl (fun s i => s.vacate p i) s
  (s.emptyQueue (laneAt p .odd)).emptyQueue (laneAt p .even)

/-- The summaries of a CLOSE LANE (R4, R5). -/
def State.closeSummaries (s : State) (l : Fin 16) : List (List Byte) :=
  match (s.turn (pairOf l)).mode with
  | .opened => s.summaryOf l
  | .alternate => s.summaryOf (laneAt (pairOf l) .odd) ++ s.summaryOf (laneAt (pairOf l) .even)

/-- A lane closed by the pair's mode (R4, R5). -/
def State.closeLane (s : State) (l : Fin 16) : State :=
  match (s.turn (pairOf l)).mode with
  | .opened => s.closeAlone l
  | .alternate => s.closeBoth (pairOf l)

/-- CLOSE LANE (R4, R5). -/
def serveCloseLane (p : Port) (lane : Nat) (s : State) : Served :=
  let l := laneIx lane
  .after s
    [(p != .dk, .denied), (!inLanes lane, .range), (s.loading, .busy), (s.session l == .closed, .state)]
    ⟨s.closeLane l, .ok, byteList (s.closeSummaries l)⟩

/-! ## Parking and waking -/

/-- The park cause of a port (R8). -/
def parkCauseOf (p : Port) : ParkCause :=
  match p with
  | .dk => .desk
  | .mc => .desk
  | .console _ => .console

/-- A mask a console may not give (R8): it holds BALL or BAND. -/
def maskBarred (p : Port) (mask : Nat) : Bool :=
  p.isConsole && ((WakeMask.ofNat mask).ball || (WakeMask.ofNat mask).band)

/-- A taken PARK LANE whose CREDIT test holds (R8). -/
def State.parkWoke (s : State) (l : Fin 16) : State :=
  if s.session l = .parked then s.wake l else s.dropPending l

/-- A taken PARK LANE whose CREDIT test does not hold (R8). -/
def State.parkTaken (s : State) (l : Fin 16) (mask : WakeMask) (cause : ParkCause) : State :=
  if s.session l = .parked then s.updSession l fun n => { n with wakeMask := mask, parkCause := cause }
  else s.park l mask cause

/-- PARK LANE (R8). A mask byte above 15 is refused RANGE (log 40). -/
def serveParkLane (p : Port) (lane mask : Nat) (s : State) : Served :=
  let l := laneIx lane
  let m := WakeMask.ofNat mask
  .after s
    [(p == .mc || outsideLane p lane || maskBarred p mask, .denied), (!inLanes lane || 15 < mask, .range),
      (s.loading, .busy), (s.session l == .closed, .state)]
    (if m.credit && s.creditHolds l then ⟨s.parkWoke l, .woke, []⟩
     else .ok (s.parkTaken l m (parkCauseOf p)))

/-- RESUME LANE finds nothing to do (R14). -/
def State.resumeRefused (s : State) (p : Port) (l : Fin 16) : Bool :=
  let n := (s.lane l).session
  if p.isConsole then !(n.state == .parked && n.wakeMask.console)
  else !(n.state == .parked || (n.state.grants && n.pendingPark.isSome))

/-- RESUME LANE (R14). -/
def serveResumeLane (p : Port) (lane : Nat) (s : State) : Served :=
  let l := laneIx lane
  .after s
    [(p == .mc || outsideLane p lane, .denied), (!inLanes lane, .range), (s.loading, .busy),
      (s.resumeRefused p l, .state)]
    (.ok (s.parkWoke l))

/-! ## Lane settings -/

/-- The lanes of a scope (R17): LANE, PAIR, SECTION. -/
def scopeLanes (scope : Nat) (l : Fin 16) : List (Fin 16) :=
  match scope with
  | 0 => [l]
  | 1 => [laneAt (pairOf l) .odd, laneAt (pairOf l) .even]
  | _ => allLanes

/-- The pairs that have a lane in scope (R17). -/
def scopePairs (scope : Nat) (l : Fin 16) : List (Fin 8) :=
  match scope with
  | 0 => [pairOf l]
  | 1 => [pairOf l]
  | _ => allPairs

/-- The lane settings with the present values written (R17). -/
def LaneSettings.write (x : LaneSettings) (cls foul mask lamps : Option Nat) : LaneSettings where
  priceClass := cls.getD x.priceClass
  foulDetection := (foul.map (· == 1)).getD x.foulDetection
  parkMask := (mask.map WakeMask.ofNat).getD x.parkMask
  pinLamps := (lamps.map (· == 1)).getD x.pinLamps

/-- A lane takes its settings; a waiting foul is dropped when foul detection is off (R17, R42). -/
def State.writeLane (s : State) (l : Fin 16) (cls foul mask lamps : Option Nat) : State :=
  let s := s.modLane l fun a =>
    { a with session := { a.session with settings := a.session.settings.write cls foul mask lamps } }
  if foul = some 0 then s.modSup l fun u => { u with waitingFoul := none } else s

/-- Lane settings taken by every lane in scope, the re-test of CREDIT that a class calls for, and the flags
(R17, R18). R18 re-tests at "a change of class"; that a class written with the value the lane already holds counts as
one, and is re-tested, is the model's choice (DEDUCED, log 41). -/
def State.writeLanes (s : State) (scope : Nat) (l : Fin 16) (cls foul mask lamps : Option Nat) : State :=
  let lanes := scopeLanes scope l
  let s := lanes.foldl (fun s l => s.writeLane l cls foul mask lamps) s
  let s := if cls.isSome then lanes.foldl State.retest s else s
  (scopePairs scope l).foldl (fun s p => s.flagConsole p .laneStateChanged) s

/-- What a console may not set (R17): SECTION scope, a lane outside its pair, a price class. -/
def settingsBarred (p : Port) (scope lane : Nat) (cls : Option Nat) : Bool :=
  p.isConsole && (scope == 2 || outsideLane p lane || cls.isSome)

/-- SET LANE SETTINGS (R17). A foul detection or pin lamps byte above 1 is refused RANGE (log 40). -/
def serveSetLaneSettings (p : Port) (scope lane : Nat) (cls foul mask lamps : Option Nat) (s : State) : Served :=
  .after s
    [(p == .mc || settingsBarred p scope lane cls, .denied),
      (2 < scope || (scope != 2 && !inLanes lane) || optOut (· ≤ 3) cls || optOut (· ≤ 1) foul ||
        optOut (· ≤ 15) mask || optOut (· ≤ 1) lamps, .range),
      (s.loading, .busy)]
    (.ok (s.writeLanes scope (laneIx lane) cls foul mask lamps))

/-! ## Lane reads -/

/-- The session part of the lane status (R197). -/
def Session.bytes (n : Session) (l : Fin 16) : List Byte :=
  byte1 (laneNo l) ++ byte1 n.state.code ++ byte1 n.wakeMask.toNat ++ byte1 n.parkCause.code ++
    opt1 (n.pendingPark.map fun k => k.mask.toNat) ++ opt1 (n.pendingPark.map fun k => k.cause.code) ++
    byte1 n.closingReason.code ++ byte1 n.light.code ++ byte1 n.settings.priceClass ++
    byteSet [n.settings.foulDetection, n.settings.pinLamps] ++ byte1 n.settings.parkMask.toNat

/-- The marks of a delivery (R197). -/
def Marks.byte (m : Marks) : List Byte := byteSet [m.foul, m.deckMissed, m.releaseMissed, m.senseOdd]

/-- The pinsetter part of the lane status (R197). -/
def Supervisor.pinBytes (u : Supervisor) : List Byte :=
  byte1 u.state.code ++ opt1 (u.cycle.map fun c => c.kind.code) ++ opt1 (u.cycle.map fun c => c.phase.code) ++
    opt1 (u.cycle.map fun c => c.origin.code) ++ optBool (u.cycle.map Cycle.followOn) ++
    optPins (u.cycle.bind Cycle.result) ++ optPins (u.cycle.bind Cycle.restore) ++ optPins u.standing ++
    byte1 u.practice ++ byteBool u.servicePower

/-- The delivery in flight (R197). -/
def inFlightBytes (d : Option Delivery) : List Byte :=
  opt1 (d.map fun d => d.step.code) ++ opt1 (d.bind fun d => d.cls.map DeliveryClass.code) ++
    ((d.map fun d => d.marks.byte).getD (ones 1)) ++ optPins (d.bind Delivery.pre)

/-- The last delivery (R197). -/
def lastBytes (d : Option Delivery) : List Byte :=
  let place := d.bind Delivery.place
  opt1 (d.bind fun d => d.cls.map DeliveryClass.code) ++ ((d.map fun d => d.marks.byte).getD (ones 1)) ++
    opt1 (place.map fun a => a.slot.val + 1) ++ opt1 (place.map Place.game) ++ opt1 (place.map Place.frame) ++
    opt1 (place.map Place.ball) ++ optPins (d.bind Delivery.pre) ++ optPins (d.bind Delivery.counted)

/-- The fault record (R197): reason JAM, TIMEOUT, NO_READ. -/
def faultBytes (f : Option FaultRec) : List Byte :=
  opt1 (f.map fun f => f.reason.code) ++ opt1 (f.map fun f => f.phase.code) ++ opt1 (f.map fun f => f.origin.code) ++
    opt1 (f.map fun f => f.kind.code) ++ optBool (f.map FaultRec.turnEnded) ++ optBool (f.map FaultRec.followOn) ++
    optPins (f.bind FaultRec.pre) ++ optPins (f.bind FaultRec.read) ++ optPins (f.bind FaultRec.replaced)

/-- Tenths of a second of a time left in milliseconds, a part of a tenth counted as one (log 25). -/
def tenthsLeft (ms : Nat) : Nat := (ms + 99) / 100

/-- The age of a moment in tenths of a second, 6,553.4 s or more as 65,534 (R191). R191 gives no rounding: a part of a
tenth is dropped (log 25). -/
def ageTenths (now moment : Nat) : Nat := min ((now - moment) / 100) 65534

/-- The snapshot part of the lane status (R197, R112). -/
def snapshotBytes (n : Option Snapshot) : List Byte :=
  byteBool n.isSome ++ opt1 (n.map fun n => n.slot.val + 1) ++ opt1 (n.map Snapshot.game) ++
    opt1 (n.map Snapshot.frame) ++ opt1 (n.map Snapshot.ball) ++
    ((n.map fun n => byteSet [n.turnEnded, n.gameStarted, n.gameFinished]).getD (ones 1))

/-- The number of the slot UP on a lane, 0 for none (R197). -/
def upNumber (up : Option (Fin 12)) : Nat := (up.map fun i => i.val + 1).getD 0

/-- The lane status (R191, R197). A SILENT horn has 0 time left (log 25). -/
def State.statusBytes (s : State) (l : Fin 16) : List Byte :=
  let a := s.lane l
  let u := a.sup
  a.session.bytes l ++ u.pinBytes ++ inFlightBytes u.delivery ++ lastBytes u.last ++ faultBytes u.fault ++
    optPins (u.handSet.map HandSet.target) ++ opt2 (u.waitingFoul.map (ageTenths s.now)) ++
    opt2 (u.lastRelease.map fun r => ageTenths s.now r.moment) ++ byte1 a.lampMode.code ++ pinBytes a.lampImage ++
    byte1 (toneCode (u.horn.map Horn.tone)) ++ byte1 ((u.horn.map fun h => tenthsLeft h.left).getD 0) ++
    byte2 u.strayReleases ++ byte2 u.strayFouls ++ byte2 u.earlyBalls ++ byte2 u.unscoredBalls ++
    byte2 u.closedUnpaid ++ snapshotBytes a.snapshot ++ byte1 (s.ret (pairOf l)).lift.code ++
    byte1 (upNumber (s.upSlot l))

/-- READ LANE STATUS (R191). -/
def serveReadLaneStatus (p : Port) (lane : Nat) (s : State) : Served :=
  .after s [(outsideLane p lane, .denied), (!inLanes lane, .range), (s.loading, .busy)]
    ⟨s, .ok, s.statusBytes (laneIx lane)⟩

/-- A lane's entry of the lane summary (R191): withheld from a console of another pair. -/
def State.summaryEntry (s : State) (p : Port) (l : Fin 16) : List Byte :=
  if outsideLane p (laneNo l) then ones 4
  else
    byte1 (s.session l).code ++ byte1 (s.lane l).sup.state.code ++ byte1 (s.ret (pairOf l)).lift.code ++
      byte1 (upNumber (s.upSlot l))

/-- READ LANE SUMMARY (R191). -/
def serveReadLaneSummary (p : Port) (s : State) : Served :=
  .after s [(s.loading, .busy)] ⟨s, .ok, (allLanes.map (s.summaryEntry p)).flatten⟩

end Sys2Proof.Machine
end

