-- ==== Sys2Proof/Machine/Reballs.lean ====
section
/-! DEFINITION. REBALL, APPLY CORRECTION and READ FRAME SHEET, as they are served (05 R109, 06). -/

namespace Sys2Proof.Machine

/-! ## Reball -/

/-- The snapshot of a lane applied, with its pins (R116 to R118). -/
def State.reball (s : State) (l : Fin 16) : State :=
  match (s.lane l).snapshot with
  | some n => (s.applySnapshot l n).restoreDemand l n.pre
  | none => s

/-- A console whose pair is in ALTERNATE mode (R115 step 1). -/
def State.alternateConsole (s : State) (p : Port) : Bool :=
  match p with
  | .console n => (s.turn n).mode == .alternate
  | _ => false

/-- REBALL (R115). -/
def serveReball (p : Port) (lane : Nat) (s : State) : Served :=
  let l := laneIx lane
  .after s
    [(p == .mc || outsideLane p lane || s.alternateConsole p, .denied), (!inLanes lane, .range),
      (s.loading, .busy), (reballBarred (s.lane l).snapshot, .state)]
    (.ok (s.reball l))

/-! ## Corrections -/

/-- The fields of a CORRECTION slip (R120), with the pair its lane names. -/
structure Correction where
  pair : Fin 8
  slot : Fin 12
  game : Nat
  frame : Nat
  ball : Nat
  proposed : PinSet

/-- The correction a slip carries (R120, R121 steps 5 and 7). -/
def Slip.correction (x : Slip) : Option Correction :=
  match x.body with
  | some (.correction slot game frame ball proposed) =>
    if x.lane = 0 then none else some ⟨pairOf (laneIx x.lane), slotIx slot, game, frame, ball, proposed⟩
  | _ => none

/-- The game a correction names (R120, R122): the current sheet, or a retained record by its place. -/
inductive NamedGame where
  | current (sheet : Sheet)
  | retained (place : Nat) (record : GameRecord)

/-- The ten frames of a named game. -/
def NamedGame.frames : NamedGame → List FrameRec
  | .current sh => sh.frames
  | .retained _ r => r.frames

/-- A retained record of a game number. -/
def Slot.retainedGame (x : Slot) (game : Nat) : Option NamedGame :=
  (x.retained.findIdx? (·.game == game)).bind fun k => (x.retained[k]?).map (NamedGame.retained k)

/-- The game a selector names: 0 for the current sheet, else a game number (R109, R120). -/
def Slot.namedGame (x : Slot) (game : Nat) : Option NamedGame :=
  if x.state = .empty then none
  else
    match x.sheet with
    | some sh => if game = 0 ∨ sh.game = game then some (.current sh) else x.retainedGame game
    | none => if game = 0 then none else x.retainedGame game

/-- The checks of R122 to R124 in order: the game found, or the reason of the first that fails. -/
def Slot.checkCorrection (x : Slot) (c : Correction) : Except RefuseReason NamedGame :=
  match x.namedGame c.game with
  | none => .error .notFound
  | some g =>
    if !within 1 10 c.frame || !within 1 3 c.ball then .error .notFound
    else
      match correctionRefusal (c.frame == 10) (frameAt g.frames c.frame).balls c.ball c.proposed with
      | some why => .error why
      | none => .ok g

/-- A slot whose named game is corrected (R125). -/
def Slot.correct (x : Slot) (c : Correction) : NamedGame → Slot
  | .current sh => { x with sheet := some (sh.correct c.frame c.ball c.proposed) }
  | .retained k _ => { x with retained := x.retained.modify k fun r => r.correct c.frame c.ball c.proposed }

/-- The correction changes the pins in front of the bowler (R126). -/
def Slot.pinsChange (x : Slot) (c : Correction) : NamedGame → Bool
  | .current sh =>
    x.frame == c.frame && x.ball == c.ball + 1 &&
      rackOf (c.frame == 10) (frameAt sh.frames c.frame).balls == .standing
  | .retained _ _ => false

/-- The lane of a pair on which a slot is UP. -/
def State.laneOfUp (s : State) (p : Fin 8) (i : Fin 12) : Option (Fin 16) :=
  [laneAt p .odd, laneAt p .even].find? fun l => s.upSlot l == some i

/-- A slip's outcome written. -/
def State.writeOutcome (s : State) (n : Fin 64) (o : SlipOutcome) : State :=
  s.modPool fun q => q.modSlip n fun x => { x with outcome := o }

/-- A correction applied (R125, R126). -/
def State.applyCorrected (s : State) (c : Correction) (g : NamedGame) : State :=
  let restore := (s.slot c.pair c.slot).pinsChange c g
  let s := s.updSlot c.pair c.slot fun x => x.correct c g
  let s := (s.dropSnapshotsOf c.pair c.slot).flagConsole c.pair .frameChanged
  match restore, s.laneOfUp c.pair c.slot with
  | true, some l => s.restoreDemand l c.proposed
  | _, _ => s

/-- A correction decided (R121): the state and the outcome written on the slip. -/
def State.decideCorrection (s : State) (n : Fin 64) (c : Correction) : State × SlipOutcome :=
  match (s.slot c.pair c.slot).checkCorrection c with
  | .error why => (s.writeOutcome n (.refused why), .refused why)
  | .ok g => ((s.applyCorrected c g).writeOutcome n .applied, .applied)

/-- A slip of kind CORRECTION (R121 step 5). -/
def Slip.isCorrection (x : Slip) : Bool :=
  match x.body with
  | some (.correction ..) => true
  | _ => false

/-- The named slot's ball is in flight (R121 step 8). -/
def State.correctionInFlight (s : State) (x : Slip) : Bool :=
  x.correction.any fun c => (s.slot c.pair c.slot).inFlight

/-- A taken APPLY CORRECTION with its reply: the outcome's byte and its reason's, as a slip carries them (R197; the
choice of both bytes is the model's, log 14). -/
def State.applyCorrection (s : State) (n : Fin 64) : Served :=
  match (s.slip n).correction with
  | some c => ⟨(s.decideCorrection n c).1, .ok, (s.decideCorrection n c).2.bytes⟩
  | none => ⟨s, .state, []⟩

/-- APPLY CORRECTION (R121). -/
def serveApplyCorrection (p : Port) (slip : Nat) (s : State) : Served :=
  let n := slipIx slip
  let x := s.slip n
  .after s
    [(p != .dk, .denied), (!inSlips slip, .range), (s.loading, .busy), (x.state != .held .dk, .state),
      (!x.isCorrection, .state), (x.outcome != .none, .state), (x.lane == 0, .state),
      (s.correctionInFlight x, .state)]
    (s.applyCorrection n)

/-! ## The frame sheet reply -/

/-- A ball entry on a line (R197). -/
def BallEntry.bytes (b : BallEntry) : List Byte :=
  pinBytes b.pre ++ pinBytes b.after ++ byte1 b.down ++
    byteSet [b.rack == .standing, b.foul, b.split, b.corrected, b.deckMissed, b.releaseMissed, b.senseOdd]

/-- A frame record on a line (R197). -/
def FrameRec.bytes (f : FrameRec) : List Byte :=
  byte1 f.kind.code ++ byte1 f.balls.length ++ opt1 f.score ++ opt2 f.cumulative

/-- The part of the frame sheet reply that depends on the kind of game (R109, R197, log 14): game number, record
kind, handicap, frames awaiting bonus, scratch, total, marks. -/
def Slot.gameBytes (x : Slot) : NamedGame → List Byte
  | .current sh =>
    byte1 sh.game ++ byte1 0 ++ Handicap.bytes x.handicap ++ byte1 sh.awaiting ++ ones 2 ++ ones 2 ++ ones 1
  | .retained _ r =>
    byte1 r.game ++ byte1 1 ++ byte2 r.handicap ++ ones 1 ++ byte2 r.scratch ++ byte2 r.total ++
      byteSet [r.defaulted, r.corrected]

/-- The frame sheet reply (R109, R197). -/
def Slot.sheetBytes (x : Slot) (g : NamedGame) : List Byte :=
  opt2 x.bowler ++ byte1 x.stage.code ++ byte1 x.source.code ++ byte1 x.retained.length ++
    byte2 (seriesTotal x.retained) ++ x.gameBytes g ++ (g.frames.map FrameRec.bytes).flatten ++
    (g.frames.flatMap fun f => f.balls.map BallEntry.bytes).flatten

/-- READ FRAME SHEET (R109). -/
def serveReadFrameSheet (p : Port) (pair slot game : Nat) (s : State) : Served :=
  let x := s.slot (pairIx pair) (slotIx slot)
  .after s
    [(outsidePair p pair, .denied), (!inPairs pair || !inSlots slot || 99 < game, .range), (s.loading, .busy),
      (x.state == .empty, .state), ((x.namedGame game).isNone, .state)]
    ⟨s, .ok, ((x.namedGame game).map x.sheetBytes).getD []⟩

end Sys2Proof.Machine
end

