-- ==== Sys2Proof/Machine/Bowlers.lean ====
section
/-! DEFINITION. The desk's requests to the Bowler Directory, as they are served (07). -/

namespace Sys2Proof.Machine

/-- The first checks of a Directory request (R137, R189): DENIED, RANGE, BUSY. -/
def directoryChecks (p : Port) (inRange : Bool) (s : State) : List (Bool × ReplyOutcome) :=
  [(p != .dk, .denied), (!inRange, .range), (s.loading, .busy)]

/-- A record's values in their ranges (R137). -/
def recordIn (number average : Nat) (override : Option Nat) : Bool :=
  inBowlers number && average ≤ 300 && !optOut (· ≤ 300) override

/-- A record written, and its entry locked when the number stands on a roster (R137 steps 1 and 2). -/
def State.writeRecord (s : State) (number average : Nat) (override : Option Nat) : State :=
  let w := s.directory.write number average override
  let d := if (s.findSlot number).isSome then w.directory.modEntry w.index fun e => { e with locked := true } else w.directory
  { s with directory := d }

/-- The results of a written record (R137): the entry's index, and whether a victim was taken. -/
def Directory.writtenBytes (d : Directory) (number average : Nat) (override : Option Nat) : List Byte :=
  let w := d.write number average override
  byte1 (w.index.val + 1) ++ byteBool w.victim

/-- The slot of a supplied number takes the entry as its source (R138, R106). -/
def State.resolveEntry (s : State) (number : Nat) : State :=
  match s.findSlot number with
  | none => s
  | some (p, i) => (s.updSlot p i fun x => { x with source := .entry, fetch := .none }).settleHandicap p i

/-- A record supplied (R137). -/
def State.supply (s : State) (number average : Nat) (override : Option Nat) : State :=
  ((s.writeRecord number average override).leaveFetch number).resolveEntry number

/-- SUPPLY BOWLER (R137). -/
def serveSupplyBowler (p : Port) (number average : Nat) (override : Option Nat) (s : State) : Served :=
  .after s (directoryChecks p (recordIn number average override) s)
    ⟨s.supply number average override, .ok, s.directory.writtenBytes number average override⟩

/-- A slot of the section holds the number with average source PENDING (R140, R141). -/
def State.pendingNumber (s : State) (number : Nat) : Bool :=
  match s.findSlot number with
  | none => false
  | some (p, i) => (s.slot p i).source == .pending

/-- A number the desk has no record of (R140, R106). -/
def State.unknownNumber (s : State) (number : Nat) : State :=
  let s := s.leaveFetch number
  match s.findSlot number with
  | none => s
  | some (p, i) => (s.updSlot p i fun x => { x with source := .none, fetch := .none }).settleHandicap p i

/-- UNKNOWN BOWLER (R140). -/
def serveUnknownBowler (p : Port) (number : Nat) (s : State) : Served :=
  .after s (directoryChecks p (inBowlers number) s ++ [(!s.pendingNumber number, .state)])
    (.ok (s.unknownNumber number))

/-- UPDATE BOWLER (R141): a slot that holds the number is not PENDING, so no handicap is settled. -/
def serveUpdateBowler (p : Port) (number average : Nat) (override : Option Nat) (s : State) : Served :=
  .after s (directoryChecks p (recordIn number average override) s ++ [(s.pendingNumber number, .state)])
    ⟨(s.writeRecord number average override).resolveEntry number, .ok,
      s.directory.writtenBytes number average override⟩

/-- The entry holding a number is locked (R142). -/
def Directory.lockedNumber (d : Directory) (number : Nat) : Bool :=
  (d.find number).any fun k => d.entries[k].locked

/-- An entry dropped: its marks are cleared and its record is gone (R142). -/
def Directory.drop (d : Directory) (number : Nat) : Directory :=
  match d.find number with
  | some k => d.modEntry k fun _ => Entry.invalid
  | none => d

/-- DROP BOWLER (R142). -/
def serveDropBowler (p : Port) (number : Nat) (s : State) : Served :=
  .after s
    (directoryChecks p (inBowlers number) s ++
      [((s.directory.find number).isNone, .state), (s.directory.lockedNumber number, .state)])
    (.ok (s.modDirectory fun d => d.drop number))

/-- The place of a range entry by its number. -/
def rangeIx (n : Nat) : Fin 8 := Fin.ofNat 8 (n - 1)

/-- A range entry's values in their ranges (R143). R143 names no refusal of an enabled mark above 1; the model takes
R197's 1 or 0 as its range (log 40). -/
def rangeIn (index enabled first last average : Nat) : Bool :=
  within 1 8 index && enabled ≤ 1 && inBowlers first && inBowlers last && first ≤ last && average ≤ 300

/-- SET RANGE ENTRY (R143). -/
def serveSetRangeEntry (p : Port) (index enabled first last average : Nat) (s : State) : Served :=
  .after s (directoryChecks p (rangeIn index enabled first last average) s)
    (.ok (s.modDirectory fun d =>
      { d with ranges := d.ranges.set (rangeIx index) ⟨enabled == 1, first, last, average⟩ }))

/-- The ordinary entry in the bowler reply (R144). -/
def Directory.entryBytes (d : Directory) (number : Nat) : List Byte :=
  let k := d.find number
  let e := k.map fun k => d.entries[k]
  byteBool k.isSome ++ opt1 (k.map fun k => k.val + 1) ++ opt2 (e.map Entry.average) ++ opt2 (e.bind Entry.override) ++
    optBool (e.map Entry.used) ++ optBool (e.map Entry.locked)

/-- The range entry in the bowler reply (R144). -/
def Directory.rangeBytes (d : Directory) (number : Nat) : List Byte :=
  let k := d.cover number
  opt1 (k.map fun k => k.val + 1) ++ opt2 (k.map fun k => d.ranges[k].average)

/-- The roster place in the bowler reply (R144). -/
def State.placeBytes (s : State) (number : Nat) : List Byte :=
  let a := s.findSlot number
  let x := a.map fun a => s.slot a.1 a.2
  byteBool a.isSome ++ opt1 (a.map fun a => a.1.val + 1) ++ opt1 (a.map fun a => a.2.val + 1) ++
    opt1 (x.map fun x => x.source.code) ++ opt1 (x.map fun x => x.fetch.code)

/-- The counts of valid and of locked entries (R144). -/
def Directory.countBytes (d : Directory) : List Byte :=
  byte1 (d.entries.toList.countP Entry.valid) ++ byte1 (d.entries.toList.countP Entry.locked)

/-- READ BOWLER (R144, log 14). -/
def serveReadBowler (p : Port) (number : Nat) (s : State) : Served :=
  .after s (directoryChecks p (inBowlers number) s)
    ⟨s, .ok, s.directory.entryBytes number ++ s.directory.rangeBytes number ++ s.placeBytes number ++
      s.directory.countBytes⟩

/-- READ FETCH QUEUE (R136, log 14). -/
def serveReadFetchQueue (p : Port) (s : State) : Served :=
  .after s (directoryChecks p true s) ⟨s, .ok, byteList (s.directory.fetch.map byte2) ++ byte1 s.deferredCount⟩

end Sys2Proof.Machine
end

