-- ==== Sys2Proof/Machine/Billing.lean ====
section
/-! DEFINITION. The requests to the clock, the Tariff Table and the Meter Units, as they are served (08). -/

namespace Sys2Proof.Machine

/-- SET CLOCK (R149): the second in progress runs on, and CREDIT is re-tested on every lane. -/
def State.setClock (s : State) (hour minute second : Nat) : State :=
  { s with clock := ⟨hour, minute, second, false, s.clock.ms⟩ }.retestAll

/-- SET CLOCK (R149). -/
def serveSetClock (p : Port) (hour minute second : Nat) (s : State) : Served :=
  .after s
    [(p != .dk, .denied), (23 < hour || 59 < minute || 59 < second, .range), (s.loading, .busy)]
    (.ok (s.setClock hour minute second))

/-- A band layout the part takes (R152). -/
def layoutIn (dayStart bands length : Nat) : Bool :=
  dayStart ≤ 1425 && dayStart % 15 == 0 && (bands == 1 || bands == 2 || bands == 4 || bands == 8) &&
    within 15 1440 length && length % 15 == 0 && (bands - 1) * length < 1440

/-- The layout replaced (R152). -/
def State.setLayout (s : State) (dayStart bands length : Nat) : State :=
  { s with tariff := { s.tariff with dayStart := dayStart, bands := bands, length := length } }.retestAll

/-- SET TARIFF LAYOUT (R152). -/
def serveSetTariffLayout (p : Port) (dayStart bands length : Nat) (s : State) : Served :=
  .after s [(p != .dk, .denied), (!layoutIn dayStart bands length, .range), (s.loading, .busy)]
    (.ok (s.setLayout dayStart bands length))

/-- A price pair with the present values written (R153). -/
def Price.write (x : Price) (game unit : Option Nat) : Price := ⟨game.getD x.game, unit.getD x.unit⟩

/-- The prices of a class and band replaced (R153). -/
def State.setPrices (s : State) (cls band : Nat) (game unit : Option Nat) : State :=
  let k := priceIx cls band
  { s with tariff := { s.tariff with prices := s.tariff.prices.set k (s.tariff.prices[k].write game unit) } }.retestAll

/-- SET PRICES (R153). -/
def serveSetPrices (p : Port) (cls band : Nat) (game unit : Option Nat) (s : State) : Served :=
  .after s
    [(p != .dk, .denied),
      (3 < cls || !within 1 8 band || optOut (· ≤ 65535) game || optOut (· ≤ 65535) unit, .range),
      (s.loading, .busy)]
    (.ok (s.setPrices cls band game unit))

/-- A unit length the part takes (R155). -/
def unitIn (n : Nat) : Bool := within 60 3600 n && n % 60 == 0

/-- The billing settings with the present values written (R155). -/
def BillingSettings.write (b : BillingSettings) (unit front back : Option Nat) : BillingSettings where
  unit := unit.getD b.unit
  front := front.getD b.front
  back := back.getD b.back

/-- SET BILLING SETTINGS (R155). -/
def serveSetBillingSettings (p : Port) (unit front back : Option Nat) (s : State) : Served :=
  .after s
    [(p != .dk, .denied), (optOut unitIn unit || optOut (· ≤ 1800) front || optOut (· ≤ 1800) back, .range),
      (s.loading, .busy)]
    (.ok { s with billing := s.billing.write unit front back })

/-- The tariff reply (R154, log 14), with all 64 pairs of prices: R153's by class and band, then the further ones
(log 36). -/
def State.tariffBytes (s : State) : List Byte :=
  byte1 s.clock.hour ++ byte1 s.clock.minute ++ byte1 s.clock.second ++ byteBool s.clock.unset ++
    byte2 s.clock.minuteOfDay ++ byte1 s.band ++ byte2 s.tariff.dayStart ++ byte1 s.tariff.bands ++
    byte2 s.tariff.length ++ (s.tariff.allPrices.flatMap fun x => byte2 x.game ++ byte2 x.unit) ++
    byte2 s.billing.unit ++ byte2 s.billing.front ++ byte2 s.billing.back

/-- READ TARIFF (R154). -/
def serveReadTariff (_ : Port) (s : State) : Served := .after s [(s.loading, .busy)] ⟨s, .ok, s.tariffBytes⟩

/-- The lane's session is TAB (R165). -/
def State.tabSession (s : State) (l : Fin 16) : Bool := (s.lane l).meter.any fun m => m.mode == .tab

/-- What an ADD CREDIT accepts on a lane (R165). -/
def State.accepted (s : State) (l : Fin 16) (amount : Nat) : Nat :=
  match (s.lane l).meter with
  | some m => m.accepts amount
  | none => 0

/-- The balance of a lane right after a credit (R165, log 15). -/
def State.creditedBalance (s : State) (l : Fin 16) (amount : Nat) : Nat :=
  match (s.lane l).meter with
  | some m => m.balance + m.accepts amount
  | none => 0

/-- What follows a credit, by the session state (R165). -/
def State.afterCredit (s : State) (l : Fin 16) : State :=
  match s.session l with
  | .opened => s.retest l
  | .parked => s.retest l
  | .closed => s
  | .closing =>
    match s.retried l with
    | some m => (s.paidRetry l m).retest l
    | none => s.retest l

/-- Credit added to a lane (R165). -/
def State.addCredit (s : State) (l : Fin 16) (amount : Nat) : State :=
  (s.modMeter l fun m => m.addCredit (m.accepts amount)).afterCredit l

/-- ADD CREDIT (R165). -/
def serveAddCredit (p : Port) (lane amount : Nat) (s : State) : Served :=
  let l := laneIx lane
  .after s
    [(p != .dk, .denied), (!inLanes lane || !within 1 chargedCeiling amount, .range), (s.loading, .busy),
      (s.session l == .closed, .state), (s.tabSession l, .state)]
    ⟨s.addCredit l amount, .ok, byte4 (s.accepted l amount) ++ byte4 (s.creditedBalance l amount)⟩

/-- The fields of a meter record on a line (R156, R168, log 14). -/
def Meter.bytes (m : Meter) (cls : Nat) : List Byte :=
  byte1 m.kind.code ++ byte1 m.mode.code ++ byte1 cls ++ byte4 m.balance ++ byte4 m.credited ++ byte4 m.charged ++
    byte2 m.games ++ byte2 m.units ++ byte1 m.phase.code ++ byte2 m.left ++ opt2 (m.unit.map TimeUnit.length) ++
    opt2 (m.unit.bind TimeUnit.price) ++ opt1 (m.declined.map Declined.code) ++ byte2 m.unpaid ++
    byteBool m.saturated

/-- The price an outstanding charge would be retried at, and whether the balance pays it (R168). -/
def Meter.retryBytes (m : Meter) (pr : Price) : List Byte :=
  opt2 (m.declined.map fun d => Declined.price d pr) ++
    optBool (m.declined.map fun d => decide (Declined.price d pr ≤ m.balance))

/-- The meter reply (R168, log 14). -/
def State.meterBytes (s : State) (l : Fin 16) : List Byte :=
  let pr := s.priceOf l
  let m := (s.lane l).meter
  byte1 (s.session l).code ++ byteBool m.isSome ++
    (m.map fun m => m.bytes (s.lane l).session.settings.priceClass).getD [] ++ byte1 s.band ++ byte2 pr.game ++
    byte2 pr.unit ++ (m.map fun m => m.retryBytes pr).getD (ones 3) ++ opt2 (m.bind Meter.partUnit)

/-- READ METER (R168). -/
def serveReadMeter (p : Port) (lane : Nat) (s : State) : Served :=
  .after s [(outsideLane p lane, .denied), (!inLanes lane, .range), (s.loading, .busy)]
    ⟨s, .ok, s.meterBytes (laneIx lane)⟩

end Sys2Proof.Machine
end

