-- ==== Sys2Proof/Machine/Slips.lean ====
section
/-! DEFINITION. The slip requests, as they are served (09). -/

namespace Sys2Proof.Machine

/-- The port holds its limit (R173). -/
def State.holdsLimit (s : State) (p : Port) : Bool := holdingLimit p ≤ (s.pool.heldBy p).length

/-- The shared refusals of a request on a named slip (R173), after DENIED: RANGE, BUSY, STATE. -/
def slipChecks (p : Port) (slip : Nat) (inRange : Bool) (s : State) : List (Bool × ReplyOutcome) :=
  [(!(inSlips slip && inRange), .range), (s.loading, .busy), ((s.slip (slipIx slip)).state != .held p, .state)]

/-- The slip a port takes (R174). -/
def takenSlip (p : Port) : Slip := { Slip.blank with state := .held p, origin := some (.port p) }

/-- A slip taken from the head of the general free list (R174). -/
def State.takeSlip (s : State) (p : Port) : Served :=
  match s.pool.generalFree with
  | n :: rest =>
    ⟨s.modPool fun q => { q with generalFree := rest }.modSlip n fun _ => takenSlip p, .ok, byte1 (n.val + 1)⟩
  | [] => ⟨s, .empty, []⟩

/-- TAKE SLIP (R174). -/
def serveTakeSlip (p : Port) (s : State) : Served :=
  .after s [(s.loading, .busy), (s.holdsLimit p, .full), (s.pool.generalFree.isEmpty, .empty)] (s.takeSlip p)

/-- The detail of a call in its range (R170). -/
def detailIn (reason : CallReason) (detail : Nat) : Bool :=
  match reason with
  | .pinsetterFault => detail ≤ 2
  | .returnOverdue => within 1 16 detail
  | .liftStall => detail == 0
  | .handSet => detail ≤ 2
  | .bowlerCall => true

/-- A slip's body read from its kind byte and six bytes (R197), with every field in its range (R175). -/
def slipBodyOf (kind : Nat) (body : List Byte) : Option SlipBody :=
  match kind, body with
  | 0, [r, d, _, _, _, _] =>
    (CallReason.ofByte? r.toNat).bind fun r => if detailIn r d.toNat then some (.mechCall r d.toNat) else none
  | 1, [a, b, c, d, _, _] =>
    if within 1 9999999 (read4 a b c d) then some (.gamesRequest (read4 a b c d)) else none
  | 2, [sl, g, f, b, hi, lo] =>
    if inSlots sl.toNat && g.toNat ≤ 99 && within 1 10 f.toNat && within 1 3 b.toNat && hi.toNat < 4 then
      some (.correction sl.toNat g.toNat f.toNat b.toNat (BitVec.ofNat 10 (read2 hi lo)))
    else none
  | 3, [l, _, _, _, _, _] => if inLanes l.toNat then some (.reballRequest l.toNat) else none
  | _, _ => none

/-- A call reason that the part alone writes (R175). -/
def partReason : Option SlipBody → Bool
  | some (.mechCall .bowlerCall _) => false
  | some (.mechCall _ _) => true
  | _ => false

/-- What a console may not name on a slip (R175). -/
def slipLaneBarred (p : Port) (lane : Nat) (body : Option SlipBody) : Bool :=
  p.isConsole &&
    ((lane != 0 && outsideLane p lane) ||
      match body with
      | some (.reballRequest l) => outsideLane p l
      | _ => false)

/-- WRITE SLIP (R175). -/
def serveWriteSlip (p : Port) (slip kind lane : Nat) (body : List Byte) (s : State) : Served :=
  let n := slipIx slip
  let b := slipBodyOf kind body
  .after s
    (slipChecks p slip (b.isSome && lane ≤ 16) s ++
      [(partReason b, .denied), (slipLaneBarred p lane b, .denied), ((s.slip n).origin == some .part, .state),
        ((s.slip n).outcome != .none, .state)])
    (.ok (s.modPool fun q => q.modSlip n fun x => { x with body := b, lane := lane }))

/-- A slip posted (R176). -/
def State.postSlip (s : State) (n : Fin 64) (dest : Port) : State :=
  s.modPool fun q => (q.modSlip n fun x => { x with state := .posted dest }).post n dest

/-- POST SLIP (R176). -/
def servePostSlip (p : Port) (slip dest : Nat) (s : State) : Served :=
  let n := slipIx slip
  .after s
    (slipChecks p slip (dest ≤ 9) s ++
      [(p.isConsole && 1 < dest, .denied), ((s.slip n).body.isNone, .state)])
    (.ok (s.postSlip n ((Port.ofByte? dest).getD .dk)))

/-- The state and the holder or destination of a slip on a line (R197). -/
def slipStateBytes : SlipState → List Byte
  | .free => byte1 0 ++ ones 1
  | .held p => byte1 1 ++ byte1 p.index.val
  | .posted p => byte1 2 ++ byte1 p.index.val

/-- The kind byte of a slip's body (R197). -/
def SlipBody.kind : SlipBody → Nat
  | .mechCall .. => 0
  | .gamesRequest .. => 1
  | .correction .. => 2
  | .reballRequest .. => 3

/-- The six bytes of a slip's body, the unused ones 0 (R197). -/
def SlipBody.bytes : SlipBody → List Byte
  | .mechCall r d => byte1 r.code ++ byte1 d ++ [0, 0, 0, 0]
  | .gamesRequest a => byte4 a ++ [0, 0]
  | .correction sl g f b set => byte1 sl ++ byte1 g ++ byte1 f ++ byte1 b ++ pinBytes set
  | .reballRequest l => byte1 l ++ [0, 0, 0, 0, 0]

/-- A whole slip on a line (R197). -/
def Slip.bytes (x : Slip) (n : Fin 64) : List Byte :=
  byte1 (n.val + 1) ++ slipStateBytes x.state ++ opt1 (x.body.map SlipBody.kind) ++ opt1 (x.origin.map Origin.code) ++
    byte1 x.lane ++ x.outcome.bytes ++ (x.body.map SlipBody.bytes).getD (ones 6)

/-- A slip fetched from the head of the port's post list (R177). -/
def State.fetchSlip (s : State) (p : Port) : Served :=
  match s.pool.posts[p.index] with
  | n :: rest =>
    let s := s.modPool fun q => { q with posts := q.posts.set p.index rest }.modSlip n fun x => { x with state := .held p }
    ⟨s, .ok, (s.slip n).bytes n⟩
  | [] => ⟨s, .empty, []⟩

/-- FETCH SLIP (R177). -/
def serveFetchSlip (p : Port) (s : State) : Served :=
  .after s [(s.loading, .busy), (s.holdsLimit p, .full), ((s.pool.posts[p.index]).isEmpty, .empty)] (s.fetchSlip p)

/-- An outcome a party writes, by its byte (R178). -/
def partyOutcome (outcome : Nat) : SlipOutcome := if outcome = 1 then .granted else .declined

/-- An outcome that APPLY CORRECTION has written (R178). -/
def settledOutcome : SlipOutcome → Bool
  | .applied => true
  | .refused _ => true
  | .none => false
  | .granted => false
  | .declined => false

/-- SET OUTCOME (R178). -/
def serveSetOutcome (p : Port) (slip outcome : Nat) (s : State) : Served :=
  let n := slipIx slip
  .after s
    ((p.isConsole, .denied) :: slipChecks p slip (within 1 2 outcome) s ++
      [((s.slip n).body.isNone, .state), (settledOutcome (s.slip n).outcome, .state)])
    (.ok (s.writeOutcome n (partyOutcome outcome)))

/-- RETURN SLIP (R179). -/
def serveReturnSlip (p : Port) (slip : Nat) (s : State) : Served :=
  .after s (slipChecks p slip true s) (.ok (s.modPool fun q => q.returned (slipIx slip)))

/-- A list of slips on a line, by number. -/
def slipNumbers (l : List (Fin 64)) : List Byte := byteList (l.map fun n => byte1 (n.val + 1))

/-- The holder of a slip, if it is held. -/
def slipHolder : SlipState → Option Port
  | .held p => some p
  | _ => none

/-- The held slips on a line, each with its holder (R182), by ascending number (log 14). -/
def SlipPool.heldBytes (q : SlipPool) : List Byte :=
  byteList ((List.finRange 64).filterMap fun n =>
    (slipHolder q.slips[n].state).map fun p => byte1 (n.val + 1) ++ byte1 p.index.val)

/-- A call on a line (R182). -/
def Call.bytes (c : Call) : List Byte := byte1 c.lane ++ byte1 c.reason.code ++ byte1 c.detail

/-- The slip pool reply (R182). R182 says "both free lists" and "for each port" and gives neither an order: the general
free list stands before the reserve list, and the ports stand as DK, MC, C1 to C8 (DESIGN CHOICE, log 14). -/
def SlipPool.bytes (q : SlipPool) : List Byte :=
  slipNumbers q.generalFree ++ slipNumbers q.reserveFree ++
    (allPorts.flatMap fun p => slipNumbers q.posts[p.index] ++ byte1 (q.heldBy p).length) ++ q.heldBytes ++
    byteList (q.backlog.map Call.bytes)

/-- READ SLIP POOL (R182). -/
def serveReadSlipPool (p : Port) (s : State) : Served :=
  .after s [(p.isConsole, .denied), (s.loading, .busy)] ⟨s, .ok, s.pool.bytes⟩

/-- The slips a broken port holds returned, ascending (R183). -/
def SlipPool.returnHeld (q : SlipPool) (p : Port) : SlipPool := (q.heldBy p).foldl SlipPool.returned q

/-- The pool after a section restart (R184): the part's calls on the mechanic's post list stay. -/
def SlipPool.restarted (q : SlipPool) : SlipPool :=
  let kept := (q.posts[Port.mc.index]).filter fun n => q.slips[n].origin == some .part && isReserve n
  { slips := Vector.ofFn fun n => if n ∈ kept then q.slips[n] else Slip.blank
    generalFree := generalSlips
    reserveFree := reserveSlips.filter (· ∉ kept)
    posts := (Vector.replicate 10 []).set Port.mc.index kept
    backlog := [] }

end Sys2Proof.Machine
end

