-- ==== Sys2Proof/Machine/Attention.lean ====
section
/-! DEFINITION. The requests to a Port Interface, and the events of its line other than received frames
(10 R186, R192 to R196). -/

namespace Sys2Proof.Machine

/-- The READ PORT reply (R192, log 14). -/
def State.portBytes (s : State) (p : Port) : List Byte :=
  let i := s.port p
  byte1 p.index.val ++ flagBytes (s.attention p) ++ flagBytes i.mask ++ byteBool (s.attentionLine p) ++
    byte1 i.queue.length ++ byte1 i.lastError.code ++ byte2 i.truncated ++ byte2 i.overrun ++ byte2 i.framed

/-- READ PORT (R192). -/
def serveReadPort (p : Port) (s : State) : Served := .after s [(s.loading, .busy)] ⟨s, .ok, s.portBytes p⟩

/-- A set that names a flag the port's kind does not have (R194). -/
def foreignFlags (p : Port) (set : Nat) : Bool :=
  512 ≤ set || BitVec.ofNat 9 set &&& ~~~(ownFlags p) != 0

/-- A taken SET MASK or CLEAR ATTENTION with the attention set after it (R194). -/
def State.withAttention (s : State) (p : Port) : Served := ⟨s, .ok, flagBytes (s.attention p)⟩

/-- SET MASK (R194). -/
def serveSetMask (p : Port) (set : Nat) (s : State) : Served :=
  .after s [(foreignFlags p set, .range), (s.loading, .busy)]
    ((s.modPort p fun i => { i with mask := BitVec.ofNat 9 set }).withAttention p)

/-- CLEAR ATTENTION (R194): the event flags are cleared; a level flag follows its condition. -/
def serveClearAttention (p : Port) (set : Nat) (s : State) : Served :=
  .after s [(foreignFlags p set, .range), (s.loading, .busy)]
    ((s.modPort p fun i => { i with events := i.events &&& ~~~(BitVec.ofNat 9 set) }).withAttention p)

/-- SIGNAL (R195). A console's unknown target is DENIED before it is RANGE (DEDUCED, log 24). -/
def serveSignal (p : Port) (target : Nat) (s : State) : Served :=
  let t := (Port.ofByte? target).getD .dk
  .after s [(p.isConsole && 1 < target, .denied), (9 < target, .range), (s.loading, .busy)]
    (.ok (s.setEvent t (signalBit t)))

/-- A Port Interface at a break (R196 steps 1 to 5); the reply in progress is completed. -/
def PortIf.broken (i : PortIf) : PortIf :=
  { i with
    rx := .hunt, queue := [], lastError := .none, truncated := 0, overrun := 0, framed := 0
    mask := 0, events := 0, inSpace := true }

/-- PORT BREAK (R196): a line still in space is the same break. -/
def portBreak (p : Port) (s : State) : State :=
  if (s.port p).inSpace then s else (s.modPort p PortIf.broken).modPool fun q => q.returnHeld p

/-- LINE RETURNS TO MARK (R196). -/
def lineReturnsToMark (p : Port) (s : State) : State := s.modPort p fun i => { i with inSpace := false }

/-- FRAME TRUNCATED (R186). -/
def frameTruncated (p : Port) (s : State) : State :=
  if (s.port p).inSpace then s
  else s.modPort p fun i => { i with rx := .hunt, lastError := .truncated, truncated := bump16 i.truncated }

end Sys2Proof.Machine
end

