-- ==== Sys2Proof/Machine/Image.lean ====
section
/-! DEFINITION. The settings image in the configuration memory (11 R199): its data bytes in the order of R199's table,
each value in the width R197 gives its range, most significant byte first (log 7), and its two-byte check. -/

namespace Sys2Proof.Machine

/-- The widths in bytes of the image's values: pinsetter timers, return settings, billing settings, tariff layout and
prices, lane settings, pair settings and range entries. -/
def imageLayout : List Nat :=
  [1, 1, 1, 1] ++ [1, 2] ++ [2, 2, 2] ++ [2, 1, 2] ++ List.replicate 128 2 ++ List.replicate 64 1 ++
    (List.replicate 8 [1, 2, 1, 2]).flatten ++ (List.replicate 8 [1, 2, 2, 2]).flatten

/-- A price pair's values. -/
def Price.fields (x : Price) : List Nat := [x.game, x.unit]
/-- A lane's settings' values (R17). -/
def LaneSettings.fields (x : LaneSettings) : List Nat :=
  [x.priceClass, x.foulDetection.toNat, x.parkMask.toNat, x.pinLamps.toNat]
/-- A pair's settings' values (R83). -/
def PairSettings.fields (x : PairSettings) : List Nat := [x.games, x.base, x.percent, x.cap]
/-- A range entry's values (R143). -/
def RangeEntry.fields (x : RangeEntry) : List Nat := [x.enabled.toNat, x.first, x.last, x.average]

/-- The settings of the section that stand before the prices. -/
def SettingsCopy.sectionFields (c : SettingsCopy) : List Nat :=
  [c.timers.warmUp, c.timers.cycle, c.timers.travel, c.timers.window, c.ret.timeout, c.ret.idle, c.billing.unit,
    c.billing.front, c.billing.back, c.tariff.dayStart, c.tariff.bands, c.tariff.length]

/-- Every value of the image, in order. -/
def SettingsCopy.fields (c : SettingsCopy) : List Nat :=
  c.sectionFields ++ (c.tariff.allPrices.flatMap Price.fields ++ (c.lanes.toList.flatMap LaneSettings.fields ++
    (c.pairs.toList.flatMap PairSettings.fields ++ c.ranges.toList.flatMap RangeEntry.fields)))

/-- The data bytes of the image of a copy of the settings. -/
def SettingsCopy.image (c : SettingsCopy) : List Byte := writeFields imageLayout c.fields

/-- The settings that an image's values spell. -/
def SettingsCopy.ofFields (v : Nat → Nat) : SettingsCopy where
  timers := ⟨v 0, v 1, v 2, v 3⟩
  ret := ⟨v 4, v 5⟩
  billing := ⟨v 6, v 7, v 8⟩
  tariff :=
    ⟨v 9, v 10, v 11, Vector.ofFn fun k : Fin 32 => ⟨v (12 + 2 * k), v (13 + 2 * k)⟩,
      Vector.ofFn fun k : Fin 32 => ⟨v (76 + 2 * k), v (77 + 2 * k)⟩⟩
  lanes := Vector.ofFn fun l : Fin 16 =>
    ⟨v (140 + 4 * l), v (141 + 4 * l) == 1, WakeMask.ofNat (v (142 + 4 * l)), v (143 + 4 * l) == 1⟩
  pairs := Vector.ofFn fun p : Fin 8 => ⟨v (204 + 4 * p), v (205 + 4 * p), v (206 + 4 * p), v (207 + 4 * p)⟩
  ranges := Vector.ofFn fun r : Fin 8 => ⟨v (236 + 4 * r) == 1, v (237 + 4 * r), v (238 + 4 * r), v (239 + 4 * r)⟩

/-- The settings an image spells; none where it is not the length of one. -/
def SettingsCopy.ofImage (data : List Byte) : Option SettingsCopy :=
  (readFields imageLayout data).map fun v => .ofFields fun i => v.getD i 0

/-- The sum of the data bytes modulo 65,536 (R199). -/
def imageSum (data : List Byte) : BitVec 16 := data.foldl (fun n b => n + b.setWidth 16) 0

/-- The image's check is good (R199). -/
def ConfigMemory.good (m : ConfigMemory) : Bool := imageSum m.data == m.check

/-- The memory with the image of a copy and its check (R201). -/
def SettingsCopy.written (c : SettingsCopy) : ConfigMemory := ⟨c.image, imageSum c.image⟩

/-- The memory left partly written (R201): its image fails its check. Which bytes were written the manual leaves open
(log 7). -/
def ConfigMemory.spoiled (m : ConfigMemory) : ConfigMemory := { m with check := imageSum m.data + 1 }

end Sys2Proof.Machine
end

