-- ==== Sys2Proof/Machine/Settings.lean ====
section
/-! DEFINITION. The Settings Loader, the power reset and the section restart (11). -/

namespace Sys2Proof.Machine

/-- Every setting as it stands (R199, R201). -/
def State.settings (s : State) : SettingsCopy where
  timers := s.timers
  ret := s.retSettings
  billing := s.billing
  tariff := s.tariff
  lanes := s.lanes.map fun a => a.session.settings
  pairs := s.pairs.map fun a => a.turn.settings
  ranges := s.directory.ranges

/-- A lane takes its settings from a copy. -/
def Lane.withSettings (a : Lane) (x : LaneSettings) : Lane := { a with session := { a.session with settings := x } }

/-- A pair takes its settings from a copy. -/
def Pair.withSettings (a : Pair) (x : PairSettings) : Pair := { a with turn := { a.turn with settings := x } }

/-- Each block takes its settings from a copy (R200). -/
def State.takeSettings (s : State) (c : SettingsCopy) : State :=
  { s with
    timers := c.timers
    retSettings := c.ret
    billing := c.billing
    tariff := c.tariff
    lanes := Vector.zipWith Lane.withSettings s.lanes c.lanes
    pairs := Vector.zipWith Pair.withSettings s.pairs c.pairs
    directory := { s.directory with ranges := c.ranges } }

/-- Pinsetter timers in their ranges (R41). -/
def PinsetterTimers.good (t : PinsetterTimers) : Bool :=
  within 2 30 t.warmUp && within 6 30 t.cycle && within 2 10 t.travel && within 2 20 t.window

/-- Return settings in their ranges (R61). -/
def ReturnSettings.good (r : ReturnSettings) : Bool := within 10 120 r.timeout && within 30 600 r.idle

/-- Billing settings in their ranges (R155). -/
def BillingSettings.good (b : BillingSettings) : Bool := unitIn b.unit && b.front ≤ 1800 && b.back ≤ 1800

/-- A tariff in its ranges (R152, R153), the further prices in the range of a price. -/
def Tariff.good (t : Tariff) : Bool :=
  layoutIn t.dayStart t.bands t.length && t.allPrices.all fun x => x.game ≤ 65535 && x.unit ≤ 65535

/-- Pair settings in their ranges (R83). -/
def PairSettings.good (x : PairSettings) : Bool := x.games ≤ 9 && x.base ≤ 300 && x.percent ≤ 100 && x.cap ≤ 300

/-- A range entry in its ranges (R143, R199). -/
def RangeEntry.good (x : RangeEntry) : Bool :=
  inBowlers x.first && inBowlers x.last && x.first ≤ x.last && x.average ≤ 300

/-- Every value of an image in its range (R199). -/
def SettingsCopy.good (c : SettingsCopy) : Bool :=
  c.timers.good && c.ret.good && c.billing.good && c.tariff.good &&
    c.lanes.toList.all (fun x => x.priceClass ≤ 3) && c.pairs.toList.all PairSettings.good &&
    c.ranges.toList.all RangeEntry.good

/-- The settings a load finds (R199, R200): none where the image fails its check, a value is out of range or the
memory does not answer. A byte that no value of its field is written as is out of range (log 40). -/
def ConfigMemory.load (m : ConfigMemory) (answers : Bool) : Option SettingsCopy :=
  if answers && m.good then (SettingsCopy.ofImage m.data).filter fun c => c.good && c.image == m.data else none

/-- SETTINGS LOAD END (R200). -/
def settingsLoadEnd (answers : Bool) (s : State) : State :=
  if s.loading then
    match s.memory.load answers with
    | some c => { s.takeSettings c with loading := false }
    | none => { s.takeSettings .factory with loading := false }.flagDk .settingsDefaulted
  else s

/-- The memory after a store is stopped (R201): a partly written image fails its check. -/
def State.memoryStopped (s : State) : ConfigMemory :=
  if s.storing.isSome then s.memory.spoiled else s.memory

/-- RESET ASSERTED OR POWER LOSS (R200, R201). -/
def resetAsserted (s : State) : State :=
  { s with resetHeld := true, storing := none, memory := s.memoryStopped }

/-- Lines whose levels are taken as scanned and confirmed. -/
def Scanned.settled {n : Nat} (x : Scanned n) : Scanned n := ⟨x.wire, x.wire, x.wire⟩

/-- A lift's lines with rack full and overload at given levels on the wires. -/
def Scanned.withLift (x : Scanned 3) (rackFull overload : Bool) : Scanned 3 :=
  { x with wire := (x.wire &&& 1) ||| (if rackFull then 2 else 0) ||| (if overload then 4 else 0) }

/-- The chain's inputs at a power reset: every level as the first confirmed scan finds it (R63; for the other inputs
log 9). -/
def Chain.atReset (c : Chain) (rackFull overload : BitVec 8) : Chain where
  lanes := c.lanes.map fun x => { x with lines := x.lines.settled }
  lifts := Vector.ofFn fun p => (c.lifts[p].withLift (rackFull.getLsbD p) (overload.getLsbD p)).settled

/-- POWER RESET (R200). -/
def powerReset (rateHigh : Bool) (rackFull overload : BitVec 8) (s : State) : State :=
  State.afterReset rateHigh rackFull overload (s.chain.atReset rackFull overload) s.memoryStopped s.pending

/-- STORE SETTINGS (R201). -/
def serveStoreSettings (p : Port) (s : State) : Served :=
  .after s [(p != .dk, .denied), (s.loading, .busy), (s.storing.isSome, .busy)]
    (.ok { s with storing := some s.settings })

/-- The memory after a store of a copy, by what the memory did (R201). -/
def ConfigMemory.store (m : ConfigMemory) (copy : SettingsCopy) : StoreResult → ConfigMemory
  | .written => copy.written
  | .untouched => m
  | .spoiled => m.spoiled

/-- STORE END (R201). -/
def storeEnd (result : StoreResult) (s : State) : State :=
  match s.storing with
  | some copy => { s with storing := none, memory := s.memory.store copy result }.flagDk .storeDone
  | none => s

/-! ## Section restart -/

/-- A lane after a section restart (R19, R44, R128, R169). -/
def Lane.restarted (a : Lane) : Lane := .initial a.session.settings a.out

/-- A pair after a section restart (R63, R84, R111). -/
def Pair.restarted (a : Pair) : Pair := .initial a.ret.rackFull a.ret.overload a.turn.settings a.motor

/-- The Directory after a section restart (R147). -/
def Directory.restarted (d : Directory) : Directory :=
  { d with entries := d.entries.map fun e => { e with used := false, locked := false }, fetch := [] }

/-- A Port Interface after a section restart (R198). -/
def PortIf.restarted (i : PortIf) : PortIf :=
  { i with
    rx := .hunt, queue := [], lastError := .none, truncated := 0, overrun := 0, framed := 0, events := 0 }

/-- The part after a section restart (R202). -/
def State.restarted (s : State) : State :=
  { s with
    lanes := s.lanes.map Lane.restarted
    pairs := s.pairs.map Pair.restarted
    directory := s.directory.restarted
    pool := s.pool.restarted
    ports := s.ports.map PortIf.restarted }

/-- SECTION RESTART (R202). -/
def serveSectionRestart (p : Port) (s : State) : Served :=
  .after s [(p != .dk, .denied), (s.loading, .busy)] (.ok s.restarted)

end Sys2Proof.Machine
end

