-- ==== Sys2Proof/Machine/Serve.lean ====
section
/-! DEFINITION. How a Port Interface serves frames (10 R186 to R189): the request served, its reply, the receive
queue, and the receiver of the line's characters. -/

namespace Sys2Proof.Machine

/-- A frame served at this moment (R187, R189): its checks, its effects and its results. -/
def serve (i : Instr) (s : State) : Served :=
  match i with
  | .openLane p lane kind mode credit cls => serveOpenLane p lane kind mode credit cls s
  | .closeLane p lane => serveCloseLane p lane s
  | .parkLane p lane mask => serveParkLane p lane mask s
  | .resumeLane p lane => serveResumeLane p lane s
  | .setLaneSettings p scope lane cls foul mask lamps => serveSetLaneSettings p scope lane cls foul mask lamps s
  | .readLaneStatus p lane => serveReadLaneStatus p lane s
  | .readLaneSummary p => serveReadLaneSummary p s
  | .lockout p lane => serveLockout p lane s
  | .unlock p lane => serveUnlock p lane s
  | .manualCycle p lane kind => serveManualCycle p lane kind s
  | .clearFault p lane choice => serveClearFault p lane choice s
  | .pinsSet p lane => servePinsSet p lane s
  | .setPinsetterTimers p warmUp cycle travel window => serveSetPinsetterTimers p warmUp cycle travel window s
  | .readReturn p pair => serveReadReturn p pair s
  | .clearOverdue p pair lane => serveClearOverdue p pair lane s
  | .liftRestart p pair => serveLiftRestart p pair s
  | .setReturnSettings p timeout idle => serveSetReturnSettings p timeout idle s
  | .addBowler p pair slot number => serveAddBowler p pair slot number s
  | .removeBowler p pair slot => serveRemoveBowler p pair slot s
  | .away p pair slot => serveAway p pair slot s
  | .back p pair slot => serveBack p pair slot s
  | .setPairMode p pair mode => serveSetPairMode p pair mode s
  | .setPairSettings p pair games base percent cap => serveSetPairSettings p pair games base percent cap s
  | .readRoster p pair => serveReadRoster p pair s
  | .readFrameSheet p pair slot game => serveReadFrameSheet p pair slot game s
  | .reball p lane => serveReball p lane s
  | .applyCorrection p slip => serveApplyCorrection p slip s
  | .supplyBowler p number average override => serveSupplyBowler p number average override s
  | .unknownBowler p number => serveUnknownBowler p number s
  | .updateBowler p number average override => serveUpdateBowler p number average override s
  | .dropBowler p number => serveDropBowler p number s
  | .setRangeEntry p index enabled first last average => serveSetRangeEntry p index enabled first last average s
  | .readBowler p number => serveReadBowler p number s
  | .readFetchQueue p => serveReadFetchQueue p s
  | .setClock p hour minute second => serveSetClock p hour minute second s
  | .setTariffLayout p dayStart bands length => serveSetTariffLayout p dayStart bands length s
  | .setPrices p cls band game unit => serveSetPrices p cls band game unit s
  | .setBillingSettings p unit front back => serveSetBillingSettings p unit front back s
  | .readTariff p => serveReadTariff p s
  | .addCredit p lane amount => serveAddCredit p lane amount s
  | .readMeter p lane => serveReadMeter p lane s
  | .takeSlip p => serveTakeSlip p s
  | .writeSlip p slip kind lane body => serveWriteSlip p slip kind lane body s
  | .postSlip p slip dest => servePostSlip p slip dest s
  | .fetchSlip p => serveFetchSlip p s
  | .setOutcome p slip outcome => serveSetOutcome p slip outcome s
  | .returnSlip p slip => serveReturnSlip p slip s
  | .readSlipPool p => serveReadSlipPool p s
  | .readPort p => serveReadPort p s
  | .setMask p set => serveSetMask p set s
  | .clearAttention p set => serveClearAttention p set s
  | .signal p target => serveSignal p target s
  | .sectionRestart p => serveSectionRestart p s
  | .storeSettings p => serveStoreSettings p s
  | .badFrame _ _ => ⟨s, .frame, []⟩
  | _ => ⟨s, .unknown, []⟩

/-- A Port Interface whose reply begins (R187); a reply of outcome FRAME raises the framed count (R186). -/
def PortIf.answer (i : PortIf) (code : Byte) (outcome : ReplyOutcome) (results : List Byte) : PortIf :=
  { i with
    reply := some ⟨code, outcome, results⟩
    framed := if outcome = .frame then bump16 i.framed else i.framed }

/-- A frame served at a port, and its reply begun (R187). -/
def State.serveAt (s : State) (p : Port) (i : Instr) : State :=
  let r := serve i s
  r.state.modPort p fun x => x.answer (echoOf i) r.outcome r.results

/-- A Port Interface that a third waiting frame finds (R187). -/
def PortIf.overran (x : PortIf) : PortIf := { x with lastError := .overrun, overrun := bump16 x.overrun }

/-- The receive mode of a port written. -/
def State.setRx (s : State) (p : Port) (m : RxMode) : State := s.modPort p fun x => { x with rx := m }

/-- What a complete frame finds (R187): it is served at once, waits, or is discarded. -/
def State.takeFrame (s : State) (p : Port) (i : Instr) : State :=
  if (s.port p).reply.isNone && (s.port p).queue.isEmpty then s.serveAt p i
  else if (s.port p).queue.length < 2 then s.modPort p fun x => { x with queue := x.queue ++ [i] }
  else s.modPort p PortIf.overran

/-- A complete frame arrives (R187), and with its end the interface is in HUNT (R186). -/
def State.receive (s : State) (p : Port) (i : Instr) : State :=
  if s.resetHeld || (s.port p).inSpace then s else (s.takeFrame p i).setRx p .hunt

/-- A complete body and its check byte (R186): good, or answered FRAME. -/
def frameEnd (p : Port) (length : Nat) (body : List Byte) (check : Byte) : Instr :=
  if byteSum (BitVec.ofNat 8 length :: body) + check = 0 then parseBody p body else .badFrame p (body.headD 0)

/-- A good character received on a port line (R186). -/
def State.receiveByte (s : State) (p : Port) (b : Byte) : State :=
  match (s.port p).rx with
  | .hunt => if b = startByte then s.setRx p .length else s
  | .length =>
    if 1 ≤ b.toNat ∧ b.toNat ≤ 62 then s.setRx p (.body b.toNat [])
    else (s.setRx p .hunt).receive p (.badFrame p 0)
  | .body length got =>
    if got.length < length then s.setRx p (.body length (got ++ [b]))
    else (s.setRx p .hunt).receive p (frameEnd p length got b)

/-- A character received on a port line: one whose stop bit is not found is discarded (R185). -/
def State.receiveChar (s : State) (p : Port) (c : LineChar) : State :=
  if c.stopOk then s.receiveByte p c.data else s

/-- FRAME RECEIVED (R186, R187): the characters of the line, in order; none while the line stands in space. -/
def frameReceived (p : Port) (chars : List LineChar) (s : State) : State :=
  if (s.port p).inSpace then s else chars.foldl (fun s c => s.receiveChar p c) s

/-- The reply in progress of a port is over. -/
def State.endReply (s : State) (p : Port) : State := s.modPort p fun x => { x with reply := none }

/-- REPLY END (R187): the oldest waiting frame is served. -/
def replyEnd (p : Port) (s : State) : State :=
  if (s.port p).reply.isSome then
    match (s.port p).queue with
    | [] => s.endReply p
    | i :: rest => ((s.endReply p).modPort p fun x => { x with queue := rest }).serveAt p i
  else s

end Sys2Proof.Machine
end

