-- ==== Sys2Proof/Machine/Requests.lean ====
section
/-! DEFINITION. The meanings of the request commands and of the frames that are no request: a complete frame that
spells the command arrives at its port (R187, log 1). What serving it does is `serve` and the definition it names. -/

namespace Sys2Proof.Machine

/-- What a command answers. -/
abbrev Result := Host.Outcome State Fault Refusal

/-- OPEN_LANE (R3). -/
def execOpenLane (p : Port) (lane kind mode credit cls : Nat) (s : State) : Result :=
  .next (s.receive p (.openLane p lane kind mode credit cls))

/-- CLOSE_LANE (R4). -/
def execCloseLane (p : Port) (lane : Nat) (s : State) : Result :=
  .next (s.receive p (.closeLane p lane))

/-- PARK_LANE (R8). -/
def execParkLane (p : Port) (lane mask : Nat) (s : State) : Result :=
  .next (s.receive p (.parkLane p lane mask))

/-- RESUME_LANE (R14). -/
def execResumeLane (p : Port) (lane : Nat) (s : State) : Result :=
  .next (s.receive p (.resumeLane p lane))

/-- SET_LANE_SETTINGS (R17). -/
def execSetLaneSettings (p : Port) (scope lane : Nat) (cls foul mask lamps : Option Nat) (s : State) : Result :=
  .next (s.receive p (.setLaneSettings p scope lane cls foul mask lamps))

/-- READ_LANE_STATUS (R191). -/
def execReadLaneStatus (p : Port) (lane : Nat) (s : State) : Result :=
  .next (s.receive p (.readLaneStatus p lane))

/-- READ_LANE_SUMMARY (R191). -/
def execReadLaneSummary (p : Port) (s : State) : Result :=
  .next (s.receive p (.readLaneSummary p))

/-- LOCKOUT (R38). -/
def execLockout (p : Port) (lane : Nat) (s : State) : Result :=
  .next (s.receive p (.lockout p lane))

/-- UNLOCK (R39). -/
def execUnlock (p : Port) (lane : Nat) (s : State) : Result :=
  .next (s.receive p (.unlock p lane))

/-- MANUAL_CYCLE (R40). -/
def execManualCycle (p : Port) (lane kind : Nat) (s : State) : Result :=
  .next (s.receive p (.manualCycle p lane kind))

/-- CLEAR_FAULT (R37). -/
def execClearFault (p : Port) (lane choice : Nat) (s : State) : Result :=
  .next (s.receive p (.clearFault p lane choice))

/-- PINS_SET (R36). -/
def execPinsSet (p : Port) (lane : Nat) (s : State) : Result :=
  .next (s.receive p (.pinsSet p lane))

/-- SET_PINSETTER_TIMERS (R41). -/
def execSetPinsetterTimers (p : Port) (warmUp cycle travel window : Option Nat) (s : State) : Result :=
  .next (s.receive p (.setPinsetterTimers p warmUp cycle travel window))

/-- READ_RETURN (R62). -/
def execReadReturn (p : Port) (pair : Nat) (s : State) : Result :=
  .next (s.receive p (.readReturn p pair))

/-- CLEAR_OVERDUE (R54). -/
def execClearOverdue (p : Port) (pair lane : Nat) (s : State) : Result :=
  .next (s.receive p (.clearOverdue p pair lane))

/-- LIFT_RESTART (R59). -/
def execLiftRestart (p : Port) (pair : Nat) (s : State) : Result :=
  .next (s.receive p (.liftRestart p pair))

/-- SET_RETURN_SETTINGS (R61). -/
def execSetReturnSettings (p : Port) (timeout idle : Option Nat) (s : State) : Result :=
  .next (s.receive p (.setReturnSettings p timeout idle))

/-- ADD_BOWLER (R67). -/
def execAddBowler (p : Port) (pair slot number : Nat) (s : State) : Result :=
  .next (s.receive p (.addBowler p pair slot number))

/-- REMOVE_BOWLER (R68). -/
def execRemoveBowler (p : Port) (pair slot : Nat) (s : State) : Result :=
  .next (s.receive p (.removeBowler p pair slot))

/-- AWAY (R69). -/
def execAway (p : Port) (pair slot : Nat) (s : State) : Result :=
  .next (s.receive p (.away p pair slot))

/-- BACK (R70). -/
def execBack (p : Port) (pair slot : Nat) (s : State) : Result :=
  .next (s.receive p (.back p pair slot))

/-- SET_PAIR_MODE (R71). -/
def execSetPairMode (p : Port) (pair mode : Nat) (s : State) : Result :=
  .next (s.receive p (.setPairMode p pair mode))

/-- SET_PAIR_SETTINGS (R83). -/
def execSetPairSettings (p : Port) (pair : Nat) (games base percent cap : Option Nat) (s : State) : Result :=
  .next (s.receive p (.setPairSettings p pair games base percent cap))

/-- READ_ROSTER (R82). -/
def execReadRoster (p : Port) (pair : Nat) (s : State) : Result :=
  .next (s.receive p (.readRoster p pair))

/-- READ_FRAME_SHEET (R109). -/
def execReadFrameSheet (p : Port) (pair slot game : Nat) (s : State) : Result :=
  .next (s.receive p (.readFrameSheet p pair slot game))

/-- REBALL (R115). -/
def execReball (p : Port) (lane : Nat) (s : State) : Result :=
  .next (s.receive p (.reball p lane))

/-- APPLY_CORRECTION (R121). -/
def execApplyCorrection (p : Port) (slip : Nat) (s : State) : Result :=
  .next (s.receive p (.applyCorrection p slip))

/-- SUPPLY_BOWLER (R137). -/
def execSupplyBowler (p : Port) (number average : Nat) (override : Option Nat) (s : State) : Result :=
  .next (s.receive p (.supplyBowler p number average override))

/-- UNKNOWN_BOWLER (R140). -/
def execUnknownBowler (p : Port) (number : Nat) (s : State) : Result :=
  .next (s.receive p (.unknownBowler p number))

/-- UPDATE_BOWLER (R141). -/
def execUpdateBowler (p : Port) (number average : Nat) (override : Option Nat) (s : State) : Result :=
  .next (s.receive p (.updateBowler p number average override))

/-- DROP_BOWLER (R142). -/
def execDropBowler (p : Port) (number : Nat) (s : State) : Result :=
  .next (s.receive p (.dropBowler p number))

/-- SET_RANGE_ENTRY (R143). -/
def execSetRangeEntry (p : Port) (index enabled first last average : Nat) (s : State) : Result :=
  .next (s.receive p (.setRangeEntry p index enabled first last average))

/-- READ_BOWLER (R144). -/
def execReadBowler (p : Port) (number : Nat) (s : State) : Result :=
  .next (s.receive p (.readBowler p number))

/-- READ_FETCH_QUEUE (R136). -/
def execReadFetchQueue (p : Port) (s : State) : Result :=
  .next (s.receive p (.readFetchQueue p))

/-- SET_CLOCK (R149). -/
def execSetClock (p : Port) (hour minute second : Nat) (s : State) : Result :=
  .next (s.receive p (.setClock p hour minute second))

/-- SET_TARIFF_LAYOUT (R152). -/
def execSetTariffLayout (p : Port) (dayStart bands length : Nat) (s : State) : Result :=
  .next (s.receive p (.setTariffLayout p dayStart bands length))

/-- SET_PRICES (R153). -/
def execSetPrices (p : Port) (cls band : Nat) (game unit : Option Nat) (s : State) : Result :=
  .next (s.receive p (.setPrices p cls band game unit))

/-- SET_BILLING_SETTINGS (R155). -/
def execSetBillingSettings (p : Port) (unit front back : Option Nat) (s : State) : Result :=
  .next (s.receive p (.setBillingSettings p unit front back))

/-- READ_TARIFF (R154). -/
def execReadTariff (p : Port) (s : State) : Result :=
  .next (s.receive p (.readTariff p))

/-- ADD_CREDIT (R165). -/
def execAddCredit (p : Port) (lane amount : Nat) (s : State) : Result :=
  .next (s.receive p (.addCredit p lane amount))

/-- READ_METER (R168). -/
def execReadMeter (p : Port) (lane : Nat) (s : State) : Result :=
  .next (s.receive p (.readMeter p lane))

/-- TAKE_SLIP (R174). -/
def execTakeSlip (p : Port) (s : State) : Result :=
  .next (s.receive p (.takeSlip p))

/-- WRITE_SLIP (R175). -/
def execWriteSlip (p : Port) (slip kind lane : Nat) (body : List Byte) (s : State) : Result :=
  .next (s.receive p (.writeSlip p slip kind lane body))

/-- POST_SLIP (R176). -/
def execPostSlip (p : Port) (slip dest : Nat) (s : State) : Result :=
  .next (s.receive p (.postSlip p slip dest))

/-- FETCH_SLIP (R177). -/
def execFetchSlip (p : Port) (s : State) : Result :=
  .next (s.receive p (.fetchSlip p))

/-- SET_OUTCOME (R178). -/
def execSetOutcome (p : Port) (slip outcome : Nat) (s : State) : Result :=
  .next (s.receive p (.setOutcome p slip outcome))

/-- RETURN_SLIP (R179). -/
def execReturnSlip (p : Port) (slip : Nat) (s : State) : Result :=
  .next (s.receive p (.returnSlip p slip))

/-- READ_SLIP_POOL (R182). -/
def execReadSlipPool (p : Port) (s : State) : Result :=
  .next (s.receive p (.readSlipPool p))

/-- READ_PORT (R192). -/
def execReadPort (p : Port) (s : State) : Result :=
  .next (s.receive p (.readPort p))

/-- SET_MASK (R194). -/
def execSetMask (p : Port) (set : Nat) (s : State) : Result :=
  .next (s.receive p (.setMask p set))

/-- CLEAR_ATTENTION (R194). -/
def execClearAttention (p : Port) (set : Nat) (s : State) : Result :=
  .next (s.receive p (.clearAttention p set))

/-- SIGNAL (R195). -/
def execSignal (p : Port) (target : Nat) (s : State) : Result :=
  .next (s.receive p (.signal p target))

/-- SECTION_RESTART (R202). -/
def execSectionRestart (p : Port) (s : State) : Result :=
  .next (s.receive p (.sectionRestart p))

/-- STORE_SETTINGS (R201). -/
def execStoreSettings (p : Port) (s : State) : Result :=
  .next (s.receive p (.storeSettings p))

/-- BAD_FRAME (R186). -/
def execBadFrame (p : Port) (code : Byte) (s : State) : Result :=
  .next (s.receive p (.badFrame p code))

/-- UNKNOWN_CODE (R188). -/
def execUnknownCode (p : Port) (code : Byte) (s : State) : Result :=
  .next (s.receive p (.unknownCode p code))

end Sys2Proof.Machine
end

