-- ==== Sys2Proof/Machine/Events.lean ====
section
/-! DEFINITION. The meanings of the events: of the lines, the machinery, the part's timers and clock, the settings
memory and the RESET pin. While RESET is held the part takes none but the reset's own (R200, log 18). -/

namespace Sys2Proof.Machine

/-- An event taken, unless RESET is held (R200). -/
def State.unlessHeld (s : State) (f : State → State) : State := if s.resetHeld then s else f s

/-- FRAME_RECEIVED (R187). -/
def execFrameReceived (p : Port) (chars : List LineChar) (s : State) : Result :=
  .next (s.unlessHeld (frameReceived p chars))

/-- FRAME_TRUNCATED (R186). -/
def execFrameTruncated (p : Port) (s : State) : Result :=
  .next (s.unlessHeld (frameTruncated p))

/-- REPLY_END (R187). -/
def execReplyEnd (p : Port) (s : State) : Result :=
  .next (s.unlessHeld (replyEnd p))

/-- PORT_BREAK (R196). -/
def execPortBreak (p : Port) (s : State) : Result :=
  .next (s.unlessHeld (portBreak p))

/-- POWER_RESET (R200). -/
def execPowerReset (rateHigh : Bool) (rackFull overload : BitVec 8) (s : State) : Result :=
  .next (powerReset rateHigh rackFull overload s)

/-- SETTINGS_LOAD_END (R200). -/
def execSettingsLoadEnd (answers : Bool) (s : State) : Result :=
  .next (s.unlessHeld (settingsLoadEnd answers))

/-- STORE_END (R201). -/
def execStoreEnd (result : StoreResult) (s : State) : Result :=
  .next (s.unlessHeld (storeEnd result))

/-- RELEASE (R23). -/
def execRelease (lane : Fin 16) (s : State) : Result :=
  .next (s.unlessHeld (release lane))

/-- DECK (R25). -/
def execDeck (lane : Fin 16) (s : State) : Result :=
  .next (s.unlessHeld (deck lane))

/-- FOUL (R42). -/
def execFoul (lane : Fin 16) (s : State) : Result :=
  .next (s.unlessHeld (foul lane))

/-- PS_READ (R31). -/
def execPsRead (lane : Fin 16) (sensed : PinSet) (s : State) : Result :=
  .next (s.unlessHeld (psRead lane sensed))

/-- PS_DONE (R34). -/
def execPsDone (lane : Fin 16) (s : State) : Result :=
  .next (s.unlessHeld (psDone lane))

/-- PS_JAM (R33). -/
def execPsJam (lane : Fin 16) (s : State) : Result :=
  .next (s.unlessHeld (psJam lane))

/-- LIFT_ARRIVE (R49). -/
def execLiftArrive (pair : Fin 8) (s : State) : Result :=
  .next (s.unlessHeld (liftArrive pair))

/-- RACK_FULL_ON (R57). -/
def execRackFullOn (pair : Fin 8) (s : State) : Result :=
  .next (s.unlessHeld (rackFullOn pair))

/-- RACK_FULL_OFF (R57). -/
def execRackFullOff (pair : Fin 8) (s : State) : Result :=
  .next (s.unlessHeld (rackFullOff pair))

/-- LIFT_OVERLOAD (R58). -/
def execLiftOverload (pair : Fin 8) (s : State) : Result :=
  .next (s.unlessHeld (liftOverload pair))

/-- TRAVEL_TIMEOUT (R24). -/
def execTravelTimeout (lane : Fin 16) (s : State) : Result :=
  .next (s.unlessHeld (travelTimeout lane))

/-- CYCLE_TIMEOUT (R33). -/
def execCycleTimeout (lane : Fin 16) (s : State) : Result :=
  .next (s.unlessHeld (cycleTimeout lane))

/-- WARM_UP_END (R30). -/
def execWarmUpEnd (lane : Fin 16) (s : State) : Result :=
  .next (s.unlessHeld (warmUpEnd lane))

/-- WAITING_FOUL_EXPIRY (R42). -/
def execWaitingFoulExpiry (lane : Fin 16) (s : State) : Result :=
  .next (s.unlessHeld (waitingFoulExpiry lane))

/-- HORN_END (R43). -/
def execHornEnd (lane : Fin 16) (s : State) : Result :=
  .next (s.unlessHeld (hornEnd lane))

/-- RECORD_OVERDUE (R53). -/
def execRecordOverdue (pair : Fin 8) (seqs : List (BitVec 16)) (s : State) : Result :=
  .next (s.unlessHeld (recordOverdue pair seqs))

/-- LIFT_IDLE_EXPIRY (R60). -/
def execLiftIdleExpiry (pair : Fin 8) (s : State) : Result :=
  .next (s.unlessHeld (liftIdleExpiry pair))

/-- BAND_EDGE (R151). -/
def execBandEdge (band : Nat) (s : State) : Result :=
  .next (s.unlessHeld (bandEdge band))

/-- FRONT_GRACE_END (R158). -/
def execFrontGraceEnd (lane : Fin 16) (s : State) : Result :=
  .next (s.unlessHeld (frontGraceEnd lane))

/-- UNIT_END (R162). -/
def execUnitEnd (lane : Fin 16) (s : State) : Result :=
  .next (s.unlessHeld (unitEnd lane))

/-- BACK_GRACE_EXPIRY (R164). -/
def execBackGraceExpiry (lane : Fin 16) (s : State) : Result :=
  .next (s.unlessHeld (backGraceExpiry lane))

/-- LIFT_OVERLOAD_LOW (R45). -/
def execLiftOverloadLow (pair : Fin 8) (s : State) : Result :=
  .next (s.unlessHeld (liftOverloadLow pair))

/-- RESET_ASSERTED_OR_POWER_LOSS (R200). -/
def execResetAssertedOrPowerLoss (s : State) : Result :=
  .next (resetAsserted s)

/-- LINE_RETURNS_TO_MARK (R196). -/
def execLineReturnsToMark (p : Port) (s : State) : Result :=
  .next (s.unlessHeld (lineReturnsToMark p))

end Sys2Proof.Machine
end

