-- ==== Sys2Proof/Machine/Dispatch.lean ====
section
/-! DEFINITION. The dispatch of a command to its meaning, one arm per command of the opcode table. -/

namespace Sys2Proof.Machine

def exec (i : Instr) (s : State) : Host.Outcome State Fault Refusal :=
  match i with
  | .openLane p lane kind mode credit cls => Sys2Proof.Machine.execOpenLane p lane kind mode credit cls s
  | .closeLane p lane => Sys2Proof.Machine.execCloseLane p lane s
  | .parkLane p lane mask => Sys2Proof.Machine.execParkLane p lane mask s
  | .resumeLane p lane => Sys2Proof.Machine.execResumeLane p lane s
  | .setLaneSettings p scope lane cls foul mask lamps => Sys2Proof.Machine.execSetLaneSettings p scope lane cls foul mask lamps s
  | .readLaneStatus p lane => Sys2Proof.Machine.execReadLaneStatus p lane s
  | .readLaneSummary p => Sys2Proof.Machine.execReadLaneSummary p s
  | .lockout p lane => Sys2Proof.Machine.execLockout p lane s
  | .unlock p lane => Sys2Proof.Machine.execUnlock p lane s
  | .manualCycle p lane kind => Sys2Proof.Machine.execManualCycle p lane kind s
  | .clearFault p lane choice => Sys2Proof.Machine.execClearFault p lane choice s
  | .pinsSet p lane => Sys2Proof.Machine.execPinsSet p lane s
  | .setPinsetterTimers p warmUp cycle travel window => Sys2Proof.Machine.execSetPinsetterTimers p warmUp cycle travel window s
  | .readReturn p pair => Sys2Proof.Machine.execReadReturn p pair s
  | .clearOverdue p pair lane => Sys2Proof.Machine.execClearOverdue p pair lane s
  | .liftRestart p pair => Sys2Proof.Machine.execLiftRestart p pair s
  | .setReturnSettings p timeout idle => Sys2Proof.Machine.execSetReturnSettings p timeout idle s
  | .addBowler p pair slot number => Sys2Proof.Machine.execAddBowler p pair slot number s
  | .removeBowler p pair slot => Sys2Proof.Machine.execRemoveBowler p pair slot s
  | .away p pair slot => Sys2Proof.Machine.execAway p pair slot s
  | .back p pair slot => Sys2Proof.Machine.execBack p pair slot s
  | .setPairMode p pair mode => Sys2Proof.Machine.execSetPairMode p pair mode s
  | .setPairSettings p pair games base percent cap => Sys2Proof.Machine.execSetPairSettings p pair games base percent cap s
  | .readRoster p pair => Sys2Proof.Machine.execReadRoster p pair s
  | .readFrameSheet p pair slot game => Sys2Proof.Machine.execReadFrameSheet p pair slot game s
  | .reball p lane => Sys2Proof.Machine.execReball p lane s
  | .applyCorrection p slip => Sys2Proof.Machine.execApplyCorrection p slip s
  | .supplyBowler p number average override => Sys2Proof.Machine.execSupplyBowler p number average override s
  | .unknownBowler p number => Sys2Proof.Machine.execUnknownBowler p number s
  | .updateBowler p number average override => Sys2Proof.Machine.execUpdateBowler p number average override s
  | .dropBowler p number => Sys2Proof.Machine.execDropBowler p number s
  | .setRangeEntry p index enabled first last average => Sys2Proof.Machine.execSetRangeEntry p index enabled first last average s
  | .readBowler p number => Sys2Proof.Machine.execReadBowler p number s
  | .readFetchQueue p => Sys2Proof.Machine.execReadFetchQueue p s
  | .setClock p hour minute second => Sys2Proof.Machine.execSetClock p hour minute second s
  | .setTariffLayout p dayStart bands length => Sys2Proof.Machine.execSetTariffLayout p dayStart bands length s
  | .setPrices p cls band game unit => Sys2Proof.Machine.execSetPrices p cls band game unit s
  | .setBillingSettings p unit front back => Sys2Proof.Machine.execSetBillingSettings p unit front back s
  | .readTariff p => Sys2Proof.Machine.execReadTariff p s
  | .addCredit p lane amount => Sys2Proof.Machine.execAddCredit p lane amount s
  | .readMeter p lane => Sys2Proof.Machine.execReadMeter p lane s
  | .takeSlip p => Sys2Proof.Machine.execTakeSlip p s
  | .writeSlip p slip kind lane body => Sys2Proof.Machine.execWriteSlip p slip kind lane body s
  | .postSlip p slip dest => Sys2Proof.Machine.execPostSlip p slip dest s
  | .fetchSlip p => Sys2Proof.Machine.execFetchSlip p s
  | .setOutcome p slip outcome => Sys2Proof.Machine.execSetOutcome p slip outcome s
  | .returnSlip p slip => Sys2Proof.Machine.execReturnSlip p slip s
  | .readSlipPool p => Sys2Proof.Machine.execReadSlipPool p s
  | .readPort p => Sys2Proof.Machine.execReadPort p s
  | .setMask p set => Sys2Proof.Machine.execSetMask p set s
  | .clearAttention p set => Sys2Proof.Machine.execClearAttention p set s
  | .signal p target => Sys2Proof.Machine.execSignal p target s
  | .sectionRestart p => Sys2Proof.Machine.execSectionRestart p s
  | .storeSettings p => Sys2Proof.Machine.execStoreSettings p s
  | .badFrame p code => Sys2Proof.Machine.execBadFrame p code s
  | .unknownCode p code => Sys2Proof.Machine.execUnknownCode p code s
  | .frameReceived p chars => Sys2Proof.Machine.execFrameReceived p chars s
  | .frameTruncated p => Sys2Proof.Machine.execFrameTruncated p s
  | .replyEnd p => Sys2Proof.Machine.execReplyEnd p s
  | .portBreak p => Sys2Proof.Machine.execPortBreak p s
  | .powerReset rateHigh rackFull overload => Sys2Proof.Machine.execPowerReset rateHigh rackFull overload s
  | .settingsLoadEnd answers => Sys2Proof.Machine.execSettingsLoadEnd answers s
  | .storeEnd result => Sys2Proof.Machine.execStoreEnd result s
  | .release lane => Sys2Proof.Machine.execRelease lane s
  | .deck lane => Sys2Proof.Machine.execDeck lane s
  | .foul lane => Sys2Proof.Machine.execFoul lane s
  | .psRead lane sensed => Sys2Proof.Machine.execPsRead lane sensed s
  | .psDone lane => Sys2Proof.Machine.execPsDone lane s
  | .psJam lane => Sys2Proof.Machine.execPsJam lane s
  | .liftArrive pair => Sys2Proof.Machine.execLiftArrive pair s
  | .rackFullOn pair => Sys2Proof.Machine.execRackFullOn pair s
  | .rackFullOff pair => Sys2Proof.Machine.execRackFullOff pair s
  | .liftOverload pair => Sys2Proof.Machine.execLiftOverload pair s
  | .travelTimeout lane => Sys2Proof.Machine.execTravelTimeout lane s
  | .cycleTimeout lane => Sys2Proof.Machine.execCycleTimeout lane s
  | .warmUpEnd lane => Sys2Proof.Machine.execWarmUpEnd lane s
  | .waitingFoulExpiry lane => Sys2Proof.Machine.execWaitingFoulExpiry lane s
  | .hornEnd lane => Sys2Proof.Machine.execHornEnd lane s
  | .recordOverdue pair seqs => Sys2Proof.Machine.execRecordOverdue pair seqs s
  | .liftIdleExpiry pair => Sys2Proof.Machine.execLiftIdleExpiry pair s
  | .bandEdge band => Sys2Proof.Machine.execBandEdge band s
  | .frontGraceEnd lane => Sys2Proof.Machine.execFrontGraceEnd lane s
  | .unitEnd lane => Sys2Proof.Machine.execUnitEnd lane s
  | .backGraceExpiry lane => Sys2Proof.Machine.execBackGraceExpiry lane s
  | .liftOverloadLow pair => Sys2Proof.Machine.execLiftOverloadLow pair s
  | .resetAssertedOrPowerLoss => Sys2Proof.Machine.execResetAssertedOrPowerLoss s
  | .lineReturnsToMark p => Sys2Proof.Machine.execLineReturnsToMark p s

end Sys2Proof.Machine
end

