-- ==== Sys2Proof/Machine/Tick.lean ====
section
/-! DEFINITION. One millisecond of the part's time base (02 R20, 08 R148): the outputs are written to the chain and its
inputs scanned, the timers and ages advance, and the expiries that fall due and the events of the confirmed inputs join
the queue of commands (log 2). -/

namespace Sys2Proof.Machine

/-- The outputs written to the chain on a scan, as the state calls for them (R20, log 21). -/
def State.driveOutputs (s : State) : State :=
  { s with
    lanes := Vector.ofFn fun l => { s.lane l with out := s.outputs l }
    pairs := s.pairs.map fun a => { a with motor := a.ret.lift == .running } }

/-! ## The scan of the inputs -/

/-- The lines at one level on this scan and the one before (R20). -/
def Scanned.steady {n : Nat} (x : Scanned n) : BitVec n := ~~~(x.wire ^^^ x.seen)

/-- The levels confirmed with this scan (R20): a line's level on it where the scan before found the same, else the
level confirmed before. -/
def Scanned.confirms {n : Nat} (x : Scanned n) : BitVec n := (x.wire &&& x.steady) ||| (x.confirmed &&& ~~~x.steady)

/-- The lines whose rise this scan confirms. -/
def Scanned.rises {n : Nat} (x : Scanned n) : BitVec n := x.confirms &&& ~~~x.confirmed
/-- The lines whose fall this scan confirms. -/
def Scanned.falls {n : Nat} (x : Scanned n) : BitVec n := x.confirmed &&& ~~~x.confirms

/-- Lines after a scan. -/
def Scanned.scan {n : Nat} (x : Scanned n) : Scanned n := { x with seen := x.wire, confirmed := x.confirms }

/-- The chain's inputs after a scan. -/
def Chain.scan (c : Chain) : Chain where
  lanes := c.lanes.map fun x => { x with lines := x.lines.scan }
  lifts := c.lifts.map Scanned.scan

/-- A command when a condition holds. -/
def dueIf (c : Bool) (i : Instr) : List Instr := if c then [i] else []

/-- The events of a lane's inputs at a scan (R20): one for each confirmed rise, and none for a fall. PS READ carries
the sense lines as this scan finds them. -/
def LaneInputs.events (x : LaneInputs) (l : Fin 16) : List Instr :=
  let up := x.lines.rises
  dueIf (up.getLsbD 0) (.release l) ++ dueIf (up.getLsbD 1) (.deck l) ++ dueIf (up.getLsbD 2) (.foul l) ++
    dueIf (up.getLsbD 3) (.psRead l x.sense) ++ dueIf (up.getLsbD 4) (.psDone l) ++ dueIf (up.getLsbD 5) (.psJam l)

/-- The events of a lift's inputs at a scan (R45). -/
def Scanned.liftEvents (x : Scanned 3) (p : Fin 8) : List Instr :=
  dueIf (x.rises.getLsbD 0) (.liftArrive p) ++ dueIf (x.rises.getLsbD 1) (.rackFullOn p) ++
    dueIf (x.falls.getLsbD 1) (.rackFullOff p) ++ dueIf (x.rises.getLsbD 2) (.liftOverload p) ++
    dueIf (x.falls.getLsbD 2) (.liftOverloadLow p)

/-- The events of the chain's inputs at a scan. -/
def Chain.events (c : Chain) : List Instr :=
  (allLanes.flatMap fun l => c.lanes[l].events l) ++ allPairs.flatMap fun p => c.lifts[p].liftEvents p

/-! ## Timers and ages -/

/-- A horn's time left, one millisecond on. -/
def Horn.tick (h : Horn) : Horn := { h with left := h.left - 1 }
/-- A cycle's timer, one millisecond on. -/
def Cycle.tick (c : Cycle) : Cycle := { c with timer := c.timer - 1 }
/-- A warm-up's timer, one millisecond on. -/
def WarmUp.tick (w : WarmUp) : WarmUp := { w with timer := w.timer - 1 }
/-- A travel timer, one millisecond on. -/
def Delivery.tick (d : Delivery) : Delivery := { d with travel := d.travel - 1 }

/-- A Supervisor's timers, one millisecond on (R24, R26, R30, R43). -/
def Supervisor.tick (u : Supervisor) : Supervisor :=
  { u with
    horn := u.horn.map Horn.tick, cycle := u.cycle.map Cycle.tick, warmUp := u.warmUp.map WarmUp.tick
    delivery := u.delivery.map Delivery.tick }

/-- A meter whose seconds left count down at this second (R158). -/
def Lane.meterCounts (a : Lane) : Bool :=
  a.session.state.grants && a.meter.any fun m => m.counts && 0 < m.left

/-- A lane, one millisecond on; `second` when the clock's second ends with it (R158). -/
def Lane.tick (second : Bool) (a : Lane) : Lane :=
  { a with
    sup := a.sup.tick
    meter := if second && a.meterCounts then a.meter.map fun m => { m with left := m.left - 1 } else a.meter }

/-- A transit record's age, one millisecond on (R47, R52). -/
def Transit.tick (t : Transit) : Transit := { t with age := min (t.age + 1) ageLimit }

/-- A Return Monitor, one millisecond on (R52, R60). -/
def ReturnMonitor.tick (r : ReturnMonitor) : ReturnMonitor :=
  { r with
    idle := r.idle.map (· - 1)
    transit := if r.lift.ages then r.transit.map Transit.tick else r.transit }

/-- A pair, one millisecond on. -/
def Pair.tick (a : Pair) : Pair := { a with ret := a.ret.tick }

/-- The clock's second ends with this millisecond. -/
def Clock.endsSecond (c : Clock) : Bool := 999 ≤ c.ms

/-- The clock, one millisecond on (R148). -/
def Clock.tick (c : Clock) : Clock := if c.endsSecond then { c.nextSecond with ms := 0 } else { c with ms := c.ms + 1 }

/-- The expiry of the period a meter ends with this second (R158). -/
def Lane.periodEnd (a : Lane) (l : Fin 16) : List Instr :=
  match a.meter with
  | none => []
  | some m =>
    if a.meterCounts && m.left == 1 then
      match m.phase with
      | .front => [.frontGraceEnd l]
      | .metered => [.unitEnd l]
      | .back => [.backGraceExpiry l]
    else []

/-- The transit records that reach the return timeout with this millisecond (R53). -/
def ReturnMonitor.reaching (r : ReturnMonitor) (timeout : Nat) : List (BitVec 16) :=
  if r.lift.ages then (r.transit.filter fun t => !t.overdue && timeout * 1000 ≤ t.age + 1).map Transit.seq else []

/-- The records of a pair that fall due, as one command. -/
def dueRecords (p : Fin 8) : List (BitVec 16) → List Instr
  | [] => []
  | q :: qs => [.recordOverdue p (q :: qs)]

/-- The band edges that fall with this millisecond (R151). -/
def State.dueBands (s : State) : List Instr :=
  let c := s.clock.tick
  if s.clock.endsSecond && c.second == 0 then
    match s.tariff.edgeAt c.minuteOfDay with
    | some b => [.bandEdge b]
    | none => []
  else []

/-- The foul window of a waiting foul has passed with this millisecond (R42). -/
def State.foulPasses (s : State) (l : Fin 16) : Bool :=
  (s.lane l).sup.waitingFoul.any fun m => s.foulWindow < s.now + 1 - m

/-- The expiries that fall due with this millisecond, in the order they join the queue (log 2). -/
def State.expiries (s : State) : List Instr :=
  (allLanes.flatMap fun l => dueIf ((s.lane l).sup.horn.any (·.left == 1)) (.hornEnd l)) ++
    (allLanes.flatMap fun l => dueIf (s.foulPasses l) (.waitingFoulExpiry l)) ++
    (if s.clock.endsSecond then allLanes.flatMap fun l => (s.lane l).periodEnd l else []) ++
    (allLanes.flatMap fun l => dueIf ((s.lane l).sup.warmUp.any (·.timer == 1)) (.warmUpEnd l)) ++
    (allLanes.flatMap fun l => dueIf ((s.lane l).sup.cycle.any (·.timer == 1)) (.cycleTimeout l)) ++
    (allLanes.flatMap fun l =>
      dueIf ((s.lane l).sup.delivery.any fun d => d.step == .awaitingDeck && d.travel == 1) (.travelTimeout l)) ++
    (allPairs.flatMap fun p => dueRecords p ((s.ret p).reaching s.retSettings.timeout)) ++
    (allPairs.flatMap fun p => dueIf ((s.ret p).idle == some 1) (.liftIdleExpiry p)) ++ s.dueBands

/-- What joins the queue with this millisecond: the expiries, and the events the scan confirms (log 2). -/
def State.due (s : State) : List Instr := s.expiries ++ s.chain.events

/-- The records, one millisecond on. -/
def State.advance (s : State) : State :=
  { s with
    lanes := s.lanes.map (Lane.tick s.clock.endsSecond)
    pairs := s.pairs.map Pair.tick
    chain := s.chain.scan
    clock := s.clock.tick
    now := s.now + 1 }

/-- One millisecond of the part (R20, log 2): nothing while RESET is held. -/
def State.tick (s : State) : State :=
  if s.resetHeld then s else { s.driveOutputs.advance with pending := s.pending ++ s.due }

end Sys2Proof.Machine
end

