-- ==== Sys2Proof/Safety.lean ====
section
/-! DEFINITION. What statements about the LC-16 speak of: a port that can serve a frame, a reply begun, what a step
keeps, and the laws the spec gives the records (R16, R21, R51, R156, R170, R187). -/

namespace Sys2Proof.Machine

/-! ## Serving -/

/-- The port at which a command is a received frame: a request, or a frame answered FRAME or UNKNOWN (R186). -/
def framePort (i : Instr) : Option Port :=
  match i with
  | .badFrame p _ => some p
  | .unknownCode p _ => some p
  | _ => (requestPlace i).map (·.2)

/-- A port receives what its line carries: RESET is released and the line is not held in space (R196, R200). -/
def State.receives (s : State) (p : Port) : Prop := s.resetHeld = false ∧ (s.port p).inSpace = false

/-- A port with nothing to answer: a frame that arrives now is served at once (R187). -/
def State.idleAt (s : State) (p : Port) : Prop :=
  s.receives p ∧ (s.port p).reply = none ∧ (s.port p).queue = []

/-- A frame that arrives at the port now is served at once (R187), and no settings load is in progress. -/
def State.canServe (s : State) (p : Port) : Prop := s.idleAt p ∧ s.loading = false

/-- The state with a frame taken at a port and its reply begun (R187): the frame has ended, so the port is in HUNT
(R186). -/
def State.replying (s : State) (p : Port) (code : Byte) (outcome : ReplyOutcome) (results : List Byte) : State :=
  s.modPort p fun x => { x with rx := .hunt, reply := some ⟨code, outcome, results⟩ }

/-- A port may name a pair: the desk and the mechanic any, a console its own (R189). -/
def ownsPair (q : Port) (p : Fin 8) : Prop := ∀ n, q = .console n → n = p

/-- A pair, slot or slip by its number on a line. -/
def pairNo (p : Fin 8) : Nat := p.val + 1
/-- A slot by its number on a line. -/
def slotNo (i : Fin 12) : Nat := i.val + 1
/-- A slip by its number on a line. -/
def slipNo (n : Fin 64) : Nat := n.val + 1

/-- The kinds of port the catalogue lists for a request (R190). -/
inductive Access where
  | desk | mechanic | deskConsole | deskMechanic | all
deriving DecidableEq, Repr

/-- The catalogue's "Ports" column from code 0x10 to 0x1D (R190). -/
def catalogueLanes : List Access :=
  [.desk, .desk, .deskConsole, .deskConsole, .deskConsole, .all, .all, .mechanic, .mechanic, .mechanic,
    .mechanic, .mechanic, .deskMechanic, .all]

/-- The column from 0x1E to 0x2A (R190). -/
def cataloguePlay : List Access :=
  [.mechanic, .mechanic, .deskMechanic, .deskConsole, .deskConsole, .deskConsole, .deskConsole, .deskConsole,
    .deskConsole, .all, .all, .deskConsole, .desk]

/-- The column from 0x2B to 0x38 (R190). -/
def catalogueDesk : List Access :=
  [.desk, .desk, .desk, .desk, .desk, .desk, .desk, .desk, .desk, .desk, .desk, .all, .desk, .all]

/-- The column from 0x39 to 0x45 (R190). -/
def catalogueLine : List Access :=
  [.all, .all, .all, .all, .deskMechanic, .all, .deskMechanic, .all, .all, .all, .all, .desk, .desk]

/-- The catalogue's "Ports" column, in catalogue order (R190). -/
def catalogue : List Access := catalogueLanes ++ cataloguePlay ++ catalogueDesk ++ catalogueLine

/-- A port the catalogue permits. -/
def Access.permits : Access → Port → Bool
  | .desk, p => p == .dk
  | .mechanic, p => p == .mc
  | .deskConsole, p => p != .mc
  | .deskMechanic, p => !p.isConsole
  | .all, _ => true

/-! ## What a step keeps -/

/-- What only the requests and events of their own rules change: the clock, the settings of the section, the
Settings Loader's state, the chain's inputs, the chip's own state, the time base and the queue of commands. -/
def State.chip (s : State) : Clock × Tariff × BillingSettings × PinsetterTimers × ReturnSettings × Bool × Bool ×
    Option SettingsCopy × ConfigMemory × Chain × Bool × Nat × List Instr :=
  (s.clock, s.tariff, s.billing, s.timers, s.retSettings, s.rateHigh, s.loading, s.storing, s.memory, s.chain,
    s.resetHeld, s.now, s.pending)

/-- A Port Interface apart from its event flags. -/
def PortIf.line (i : PortIf) : PortIf := { i with events := 0 }

/-- The Port Interfaces apart from event flags are the same. -/
def State.sameLines (s t : State) : Prop := ∀ q, (t.port q).line = (s.port q).line

/-- The Port Interfaces of `t`, apart from event flags, are those of `s` with a reply begun at `p`. -/
def State.answers (s t : State) (p : Port) (code : Byte) (outcome : ReplyOutcome) (results : List Byte) : Prop :=
  (s.replying p code outcome results).sameLines t

/-- An event flag of a port is set. -/
def State.flagged (s : State) (p : Port) (k : Nat) : Prop := (s.port p).events.getLsbD k = true

/-- Every lane but those named is the same. -/
def State.sameLanesBut (s t : State) (ls : List (Fin 16)) : Prop := ∀ k, k ∉ ls → t.lane k = s.lane k

/-- Every pair but those named is the same. -/
def State.samePairsBut (s t : State) (ps : List (Fin 8)) : Prop := ∀ q, q ∉ ps → t.pair q = s.pair q

/-- Lane `k` is the same apart from its horn, which a stalled lift sounds (R58). -/
def State.sameLaneButHorn (s t : State) (k : Fin 16) : Prop :=
  t.lane k = { s.lane k with sup := { (s.lane k).sup with horn := (t.lane k).sup.horn } }

/-- Lane `k` is the same apart from its horn, which a stalled lift sounds (R58), and its snapshot (R114). -/
def State.sameLaneButHornSnapshot (s t : State) (k : Fin 16) : Prop :=
  t.lane k =
    { s.lane k with
      sup := { (s.lane k).sup with horn := (t.lane k).sup.horn }, snapshot := (t.lane k).snapshot }

/-- Lane `k` is the same apart from its snapshot, which a roster change makes invalid (R114). -/
def State.sameLaneButSnapshot (s t : State) (k : Fin 16) : Prop :=
  t.lane k = { s.lane k with snapshot := (t.lane k).snapshot }

/-- Slot `i` of pair `q` is the same apart from its fetch field, which room in the fetch queue fills (R135). -/
def State.sameSlotButFetch (s t : State) (q : Fin 8) (i : Fin 12) : Prop :=
  t.slot q i = { s.slot q i with fetch := (t.slot q i).fetch }

/-- The Directory's records are the same: a roster change moves only locks and the fetch queue (R145). -/
def State.sameRecords (s t : State) : Prop :=
  t.directory.ranges = s.directory.ranges ∧
    ∀ k : Fin 112, t.directory.entries[k] = { s.directory.entries[k] with locked := t.directory.entries[k].locked }

/-- Where the lift of a pair stands once a lane of it is open, or a ball is on its way (R56). -/
def ReturnMonitor.started (r : ReturnMonitor) : LiftState :=
  match r.lift with
  | .off => if r.overload then .stall else if r.rackFull then .fullPause else .running
  | x => x

/-- The session record of a lane that is CLOSED (R4). -/
def Session.asClosed (n : Session) : Session :=
  { n with
    state := .closed, light := .off, closingReason := .none, wakeMask := .empty, parkCause := .none
    pendingPark := none }

/-- The session record of a lane that is PARKED (R9). -/
def Session.asParked (n : Session) (mask : WakeMask) (cause : ParkCause) : Session :=
  { n with
    state := .parked, light := .dim, closingReason := .none, wakeMask := mask, parkCause := cause
    pendingPark := none }

/-- The idle timer of pair `p` with Return Monitor `r`, by R60: it runs while the lift is RUNNING, the list is empty
and neither lane is OPEN or CLOSING, and starts from its full length. -/
def State.idleAfter (s : State) (p : Fin 8) (r : ReturnMonitor) : Option Nat :=
  if r.lift = .running ∧ r.transit = [] ∧ s.running (laneAt p .odd) = false ∧ s.running (laneAt p .even) = false then
    some (r.idle.getD (s.retSettings.idle * 1000))
  else none

/-- Pair `p`'s Return Monitor once a lane of it has become CLOSED or PARKED: its idle timer follows R60, and all else
of it is the same. -/
def State.returnStopped (s t : State) (p : Fin 8) : Prop :=
  t.ret p = { s.ret p with idle := t.idleAfter p (s.ret p) }

/-- Pair `p`'s Return Monitor once a lane of it has become OPEN or CLOSING: the lift has left OFF (R56), its idle timer
is discarded and follows R60, and all else of it is the same. -/
def State.returnStarted (s t : State) (p : Fin 8) : Prop :=
  t.ret p =
    (let r : ReturnMonitor := { s.ret p with lift := (s.ret p).started, idle := none }
     { r with idle := t.idleAfter p r })

/-- Pair `p`'s Return Monitor is the same, apart from its idle timer where a lane of the pair that was OPEN or CLOSING
is so no longer; a timer that did not run then follows R60. -/
def State.sameReturnButIdle (s t : State) (p : Fin 8) : Prop :=
  t.ret p = { s.ret p with idle := (t.ret p).idle } ∧
    ((∀ l, pairOf l = p → t.running l = s.running l) → t.ret p = s.ret p) ∧
    ∀ l, pairOf l = p → s.running l = true → t.running l = false → (s.ret p).idle = none → s.returnStopped t p

/-- No lane waits for CREDIT: none is PARKED or has a park pending with CREDIT in its mask (R12). -/
def State.noneAwaitsCredit (s : State) : Prop :=
  ∀ l, (s.session l = .parked → (s.lane l).session.wakeMask.credit = false) ∧
    ∀ k, s.running l = true → (s.lane l).session.pendingPark = some k → k.mask.credit = false

/-- The session record of a lane that is OPEN with no park pending (R3, R15). -/
def Session.asOpen (n : Session) : Session :=
  { n with
    state := .opened, light := .full, closingReason := .none, wakeMask := .empty, parkCause := .none }

/-- The Supervisor of a lane when power is granted to it (R29, R30). -/
def Supervisor.granted (u : Supervisor) (warmUp : Nat) : Supervisor :=
  match u.state with
  | .off => { u with state := .warming, warmUp := some ⟨warmUp * 1000, none⟩ }
  | _ => u

/-- Nobody stands in a lane's queue. -/
def State.nobodyQueued (s : State) (l : Fin 16) : Prop := (s.turn (pairOf l)).queue (sideOf l) = []

/-! ## Laws of the records -/

/-- R51: records created equal records matched, written off and on the list, modulo 2 to the 32. -/
def ReturnMonitor.balanced (r : ReturnMonitor) : Prop :=
  r.created = r.matched + r.writtenOff + BitVec.ofNat 32 r.transit.length

/-- R51 and R48 for every pair. -/
def State.transitLaw (s : State) : Prop :=
  ∀ p, (s.ret p).balanced ∧ (s.ret p).transit.length ≤ transitLimit

/-- R156: for a prepaid session balance plus charged equals credited; a tab holds no balance. -/
def Meter.lawful (m : Meter) : Prop :=
  match m.mode with
  | .prepaid => m.balance + m.charged = m.credited ∧ m.balance ≤ balanceCeiling ∧ m.credited ≤ chargedCeiling
  | .tab => m.balance = 0 ∧ m.charged ≤ chargedCeiling ∧ m.declined = none

/-- R156 for every lane. -/
def State.meterLaw (s : State) : Prop := ∀ l m, (s.lane l).meter = some m → m.lawful

/-- R16 and R1: the light and the closing reason of every lane are those of its session state. -/
def State.lightLaw (s : State) : Prop :=
  ∀ l, (s.lane l).session.light = (s.session l).light ∧ (s.lane l).session.closingReason = (s.session l).reason

/-- R21: what a Supervisor holds while it is in a state, it holds in that state only. -/
def Supervisor.lawful (u : Supervisor) : Prop :=
  (u.state = .cycling ↔ u.cycle.isSome) ∧ (u.state = .warming ↔ u.warmUp.isSome) ∧
    (u.state = .handSet ↔ u.handSet.isSome) ∧ (u.state = .fault ↔ u.fault.isSome)

/-- R21 for every lane. -/
def State.supervisorLaw (s : State) : Prop := ∀ l, (s.lane l).sup.lawful

/-- The free list of a slip's number range. -/
def SlipPool.freeList (q : SlipPool) (n : Fin 64) : List (Fin 64) :=
  if isReserve n then q.reserveFree else q.generalFree

/-- R170 to R172 and R181: every slip is free, posted or held as its state says, on the one list of that state;
no list holds a slip twice; the backlog holds calls only while the reserve free list is empty. -/
def SlipPool.lawful (q : SlipPool) : Prop :=
  (∀ n : Fin 64, q.slips[n].state = .free ↔ n ∈ q.freeList n) ∧
    (∀ n : Fin 64, n ∈ q.generalFree → isReserve n = false) ∧ (∀ n : Fin 64, n ∈ q.reserveFree → isReserve n = true) ∧
    (∀ (n : Fin 64) (p : Port), q.slips[n].state = .posted p ↔ n ∈ q.posts[p.index]) ∧
    q.generalFree.Nodup ∧ q.reserveFree.Nodup ∧ (∀ k : Fin 10, q.posts[k].Nodup) ∧
    (q.backlog = [] ∨ q.reserveFree = [])

/-- R187, R181, R134, R101: the lists that have a greatest length keep it. -/
def State.listLaw (s : State) : Prop :=
  (∀ p, (s.port p).queue.length ≤ 2) ∧ s.pool.backlog.length ≤ 32 ∧ s.directory.fetch.length ≤ 16 ∧
    ∀ p i, (s.slot p i).retained.length ≤ 3

end Sys2Proof.Machine
end

