-- ==== Sys2Proof/Certificates/Slice0/Obligations.lean ====
section
/-! DEFINITION. The statements for the provers. A hypothesis `canServe q` says that port q receives, has no reply in
progress and no frame waiting, and that no settings load is in progress. `answers` gives every Port Interface after a
request, apart from event flags. Where a statement names the command of an expiry, that command is the end of its timer
or period whenever the timer or period runs (the model's choice, log 3); where it says that a command which finds
nothing to act on changes nothing, that is the model's reading (log 18). -/

open Sys2Proof Sys2Proof.Machine

/-! ## The machine -/

/-- A command at the front of the queue is the one a step runs, on the rest of the queue; every command answers a next
state, and leaves the queue as it is. -/
def Obligations.StepRunsFrontCommand : Prop :=
  ∀ (c : Instr) (s : State) (rest : List Instr),
    step { s with pending := c :: rest } = exec c { s with pending := rest } ∧
      ∃ t, exec c s = .next t ∧ t.pending = s.pending

/-- A step on an empty queue is one millisecond (log 2): the time base and the clock advance, the expiries that fall
due and the events that the scan confirms become the queue, ages advance in RUNNING and STALL only (R52), and the
records that no timer is part of stay. The scan (R20, R45): a line's level is confirmed when two successive scans find
it, a rise of it is an event (for RACK FULL and LIFT OVERLOAD its fall too), and PS READ carries the sense lines.
Every timer counts down, the horns', the travel, cycle, warm-up and idle timers by the millisecond and the seconds left
of a running meter by the clock's seconds, and the expiry command of each joins the queue when it reaches 0; so do the
foul that has waited longer than the window, the records that reach the return timeout, in one command, and the edge of
the band whose first minute the clock reaches (R24, R26, R30, R42, R43, R53, R60, R151, R158; what each command names and
that it joins the queue with the millisecond is the model's, logs 2 and 5). That a foul at the window's edge still waits,
and that the outputs written are those the state before the millisecond calls for, are the model's readings (logs 16
and 21).
While RESET is held the part takes no command but the reset's own (R200), and no time passes on it (log 18). -/
def Obligations.TimePassesUnlessResetIsHeld : Prop :=
  (∀ s : State, s.pending = [] → s.resetHeld = false →
     ∃ t, step s = .next t ∧ t.now = s.now + 1 ∧ t.clock = s.clock.tick ∧ t.pending = s.due ∧
       t.pool = s.pool ∧ t.directory = s.directory ∧ t.ports = s.ports ∧ t.loading = s.loading ∧
       t.storing = s.storing ∧ t.memory = s.memory ∧ t.settings = s.settings ∧
       (∀ l, (t.lane l).session = (s.lane l).session ∧ (t.lane l).snapshot = (s.lane l).snapshot ∧
         (t.lane l).sup.state = (s.lane l).sup.state ∧ (t.lane l).sup.standing = (s.lane l).sup.standing ∧
         (t.lane l).out = s.outputs l) ∧
       ∀ p, t.turn p = s.turn p ∧ (t.pair p).motor = ((s.ret p).lift == .running) ∧
         (t.ret p).lift = (s.ret p).lift ∧
         (t.ret p).transit =
           if (s.ret p).lift = .running ∨ (s.ret p).lift = .stall then
             (s.ret p).transit.map fun x => { x with age := min (x.age + 1) 65535000 }
           else (s.ret p).transit) ∧
  (∀ s : State, s.pending = [] → s.resetHeld = false →
     ∃ t, step s = .next t ∧
       let scanned {n : Nat} (x y : Scanned n) : Prop :=
         y.wire = x.wire ∧ y.seen = x.wire ∧
           ∀ k < n, y.confirmed.getLsbD k =
             if x.wire.getLsbD k = x.seen.getLsbD k then x.wire.getLsbD k else x.confirmed.getLsbD k
       let rises {n : Nat} (x : Scanned n) (k : Nat) : Prop :=
         x.wire.getLsbD k = true ∧ x.seen.getLsbD k = true ∧ x.confirmed.getLsbD k = false
       let falls {n : Nat} (x : Scanned n) (k : Nat) : Prop :=
         x.wire.getLsbD k = false ∧ x.seen.getLsbD k = false ∧ x.confirmed.getLsbD k = true
       (∀ l : Fin 16,
         let x := s.chain.lanes[l]
         scanned x.lines t.chain.lanes[l].lines ∧ t.chain.lanes[l].sense = x.sense ∧
         (Instr.release l ∈ t.pending ↔ rises x.lines 0) ∧ (Instr.deck l ∈ t.pending ↔ rises x.lines 1) ∧
         (Instr.foul l ∈ t.pending ↔ rises x.lines 2) ∧
         (∀ sensed, Instr.psRead l sensed ∈ t.pending ↔ rises x.lines 3 ∧ sensed = x.sense) ∧
         (Instr.psDone l ∈ t.pending ↔ rises x.lines 4) ∧ (Instr.psJam l ∈ t.pending ↔ rises x.lines 5)) ∧
       ∀ p : Fin 8,
         let x := s.chain.lifts[p]
         scanned x t.chain.lifts[p] ∧ (Instr.liftArrive p ∈ t.pending ↔ rises x 0) ∧
         (Instr.rackFullOn p ∈ t.pending ↔ rises x 1) ∧ (Instr.rackFullOff p ∈ t.pending ↔ falls x 1) ∧
         (Instr.liftOverload p ∈ t.pending ↔ rises x 2) ∧ (Instr.liftOverloadLow p ∈ t.pending ↔ falls x 2)) ∧
  (∀ s : State, s.pending = [] → s.resetHeld = false →
     ∃ t, step s = .next t ∧
       (∀ l : Fin 16,
         let a := s.lane l
         let u := a.sup
         let ending (m : Meter) : Prop := 999 ≤ s.clock.ms ∧ s.running l = true ∧ m.left = 1
         (t.lane l).sup =
           { u with
             horn := u.horn.map fun x => { x with left := x.left - 1 }
             cycle := u.cycle.map fun x => { x with timer := x.timer - 1 }
             warmUp := u.warmUp.map fun x => { x with timer := x.timer - 1 }
             delivery := u.delivery.map fun x => { x with travel := x.travel - 1 } } ∧
         (t.lane l).meter =
           (a.meter.map fun m =>
             if 999 ≤ s.clock.ms ∧ s.running l = true ∧ (m.phase = .metered → m.kind = .time) then
               { m with left := m.left - 1 }
             else m) ∧
         (Instr.hornEnd l ∈ t.pending ↔ ∃ x, u.horn = some x ∧ x.left = 1) ∧
         (Instr.cycleTimeout l ∈ t.pending ↔ ∃ x, u.cycle = some x ∧ x.timer = 1) ∧
         (Instr.warmUpEnd l ∈ t.pending ↔ ∃ x, u.warmUp = some x ∧ x.timer = 1) ∧
         (Instr.travelTimeout l ∈ t.pending ↔
           ∃ x, u.delivery = some x ∧ x.step = .awaitingDeck ∧ x.travel = 1) ∧
         (Instr.waitingFoulExpiry l ∈ t.pending ↔
           ∃ x, u.waitingFoul = some x ∧ s.timers.window * 100 < s.now + 1 - x) ∧
         (Instr.frontGraceEnd l ∈ t.pending ↔ ∃ m, a.meter = some m ∧ ending m ∧ m.phase = .front) ∧
         (Instr.unitEnd l ∈ t.pending ↔
           ∃ m, a.meter = some m ∧ ending m ∧ m.phase = .metered ∧ m.kind = .time) ∧
         (Instr.backGraceExpiry l ∈ t.pending ↔ ∃ m, a.meter = some m ∧ ending m ∧ m.phase = .back)) ∧
       (∀ p : Fin 8,
         let r := s.ret p
         (t.ret p).idle = r.idle.map (· - 1) ∧ (Instr.liftIdleExpiry p ∈ t.pending ↔ r.idle = some 1) ∧
         ∀ seqs, Instr.recordOverdue p seqs ∈ t.pending ↔
           seqs ≠ [] ∧ (r.lift = .running ∨ r.lift = .stall) ∧
             seqs = (r.transit.filter fun x =>
               !x.overdue && decide (s.retSettings.timeout * 1000 ≤ x.age + 1)).map Transit.seq) ∧
       (layoutIn s.tariff.dayStart s.tariff.bands s.tariff.length = true →
         ∀ b, Instr.bandEdge b ∈ t.pending ↔
           999 ≤ s.clock.ms ∧ t.clock.second = 0 ∧ 1 ≤ b ∧ b ≤ s.tariff.bands ∧
             (s.tariff.dayStart + (b - 1) * s.tariff.length) % 1440 = t.clock.hour * 60 + t.clock.minute)) ∧
  (∀ (c : Instr) (s : State), s.resetHeld = true →
     (∀ rate full raised, c ≠ .powerReset rate full raised) → c ≠ .resetAssertedOrPowerLoss →
       exec c s = .next s ∧ (s.pending = [] → step s = .next s))

/-! ## Ports and requests -/

/-- R188: a request's code is 0x10 plus its position, any other code is answered UNKNOWN with nothing changed, the
outcome bytes are those of the table, and a reply of another outcome than OK and WOKE carries no results and its
request changes nothing. -/
def Obligations.CodesOutcomesAndRefusals : Prop :=
  (∀ (i : Instr) k p, requestPlace i = some (k, p) →
    k < 54 ∧ echoOf i = BitVec.ofNat 8 (0x10 + k) ∧ knownCode (echoOf i) = true) ∧
  (∀ b : Byte, knownCode b = true ↔ 0x10 ≤ b.toNat ∧ b.toNat ≤ 0x45) ∧
  (∀ (p : Port) (b : Byte) params, knownCode b = false → parseBody p (b :: params) = .unknownCode p b) ∧
  (∀ (p : Port) (b : Byte) (s : State), s.idleAt p →
    exec (.unknownCode p b) s = .next (s.replying p b .unknown [])) ∧
  ([ReplyOutcome.ok, .woke, .frame, .unknown, .denied, .range, .state, .empty, .full, .busy].map ReplyOutcome.code =
    List.range 10) ∧
  ∀ (i : Instr) (s : State), requestPlace i ≠ none → (serve i s).outcome ≠ .ok → (serve i s).outcome ≠ .woke →
    (serve i s).state = s ∧ (serve i s).results = []

/-- A request from a port that the catalogue does not permit for it is refused DENIED, before anything else (R189
step 1, R190). A console naming a pair other than its own, or a lane outside it, is refused DENIED by the requests
of the catalogue that name a pair or a lane and take consoles (R189 step 2). -/
def Obligations.PortsAreLimited : Prop :=
  (∀ (i : Instr) (s : State) k p a, requestPlace i = some (k, p) → catalogue[k]? = some a → a.permits p = false →
     (serve i s).outcome = .denied ∧ (serve i s).state = s ∧ (serve i s).results = []) ∧
  (∀ (n : Fin 8) (s : State) (x a b c : Nat) (v w y z : Option Nat),
     (x ≠ n.val + 1 →
       ∀ i ∈ [Instr.readReturn (.console n) x, .addBowler (.console n) x a b, .removeBowler (.console n) x a,
           .away (.console n) x a, .back (.console n) x a, .setPairMode (.console n) x a,
           .setPairSettings (.console n) x v w y z, .readRoster (.console n) x, .readFrameSheet (.console n) x a b],
         (serve i s).outcome = .denied) ∧
     (x ≠ 2 * n.val + 1 → x ≠ 2 * n.val + 2 →
       ∀ i ∈ [Instr.parkLane (.console n) x a, .resumeLane (.console n) x, .setLaneSettings (.console n) c x v w y z,
           .readLaneStatus (.console n) x, .reball (.console n) x, .readMeter (.console n) x],
         (serve i s).outcome = .denied))

/-- During the settings load a request is answered DENIED or RANGE, or else BUSY, and BUSY where it would be
answered neither DENIED nor RANGE without the load (R189 step 4, R200). -/
def Obligations.LoadAnswersBusy : Prop :=
  ∀ (i : Instr) (s : State), requestPlace i ≠ none → s.loading = true →
    (serve i s).state = s ∧
    ((serve i s).outcome = .denied ∨ (serve i s).outcome = .range ∨ (serve i s).outcome = .busy) ∧
    ((serve i { s with loading := false }).outcome ≠ .denied → (serve i { s with loading := false }).outcome ≠ .range →
      (serve i s).outcome = .busy)

/-- A complete frame is served at once, or waits behind at most one other, or is discarded as an overrun, and the port
is then in HUNT; when a reply ends, the oldest waiting frame is served and the others go on waiting, but for a SECTION
RESTART, which discards them (R187, R198). A frame answered FRAME: the code echoed, no results, the framed count raised
and nothing else changed (R186). -/
def Obligations.FramesAreServedInOrder : Prop :=
  (∀ (i : Instr) (s : State) p, framePort i = some p → s.receives p →
     (s.idleAt p → (serve i s).outcome ≠ .frame →
       exec i s = .next ((serve i s).state.replying p (echoOf i) (serve i s).outcome (serve i s).results)) ∧
     (((s.port p).reply ≠ none ∨ (s.port p).queue ≠ []) →
       ((s.port p).queue.length < 2 →
         exec i s = .next (s.modPort p fun x => { x with rx := .hunt, queue := x.queue ++ [i] })) ∧
       (2 ≤ (s.port p).queue.length →
         exec i s = .next (s.modPort p fun x =>
           { x with rx := .hunt, lastError := .overrun, overrun := min (x.overrun + 1) 65535 }))) ∧
     ((s.port p).reply ≠ none → (s.port p).queue = [] →
       exec (.replyEnd p) s = .next (s.modPort p fun x => { x with reply := none })) ∧
     ∀ rest, (s.port p).reply ≠ none → (s.port p).queue = i :: rest →
       let r := serve i (s.modPort p fun x => { x with reply := none, queue := rest })
       ∃ t, exec (.replyEnd p) s = .next t ∧
         t = r.state.modPort p (fun x =>
           { x with
             reply := some ⟨echoOf i, r.outcome, r.results⟩
             framed := if r.outcome = .frame then min (x.framed + 1) 65535 else x.framed }) ∧
         (i ≠ .sectionRestart p → (t.port p).queue = rest)) ∧
  (∀ (p : Port) (code : Byte) (s : State), s.idleAt p →
     exec (.badFrame p code) s =
       .next (s.modPort p fun x =>
         { x with rx := .hunt, reply := some ⟨code, .frame, []⟩, framed := min (x.framed + 1) 65535 })) ∧
  (∀ (p : Port) (s : State), s.receives p → (s.port p).reply = none → exec (.replyEnd p) s = .next s)

/-- A request written as a frame body is read back as itself, with every parameter at every value its bytes admit. -/
def Obligations.RequestBodyRoundTrip : Prop :=
  ∀ (i : Instr) k p, wellFormed i = true → requestPlace i = some (k, p) → parseBody p (requestBody i) = i

/-- The receiver's rows (R186): a good frame is the request it carries, received without a fault from HUNT; a bad
check and a length of 0 or above 62 are answered FRAME; bytes other than the start byte are discarded in HUNT; a
silence in a frame is counted. -/
def Obligations.ReceiverReadsFrames : Prop :=
  ∀ (p : Port) (s : State), s.receives p →
    ((s.port p).rx = .hunt →
      (∀ (i : Instr) k, wellFormed i = true → requestPlace i = some (k, p) →
        exec (.frameReceived p (frameChars (requestBody i))) s = exec i s) ∧
      (∀ (body : List Byte) (check : Byte), 1 ≤ body.length → body.length ≤ 62 →
        byteSum (BitVec.ofNat 8 body.length :: body) + check ≠ 0 →
        exec (.frameReceived p ((startByte :: BitVec.ofNat 8 body.length :: body ++ [check]).map (⟨·, true⟩))) s =
          exec (.badFrame p (body.headD 0)) s) ∧
      (∀ n : Byte, n.toNat = 0 ∨ 62 < n.toNat →
        exec (.frameReceived p [⟨startByte, true⟩, ⟨n, true⟩]) s = exec (.badFrame p 0) s) ∧
      (∀ chars : List LineChar, (∀ c ∈ chars, c.data ≠ startByte ∨ c.stopOk = false) →
        exec (.frameReceived p chars) s = .next s)) ∧
    exec (.frameTruncated p) s =
      .next (s.modPort p fun x =>
        { x with rx := .hunt, lastError := .truncated, truncated := min (x.truncated + 1) 65535 })

/-- A port break (R196): the receiver, its queue, its link errors, its mask and its event flags are cleared, the
reply in progress stays, the slips the port holds are returned in a pool whose lists are lawful, as every step keeps
them, and no lane, roster, sheet or meter changes; a line already in space is the same break, and a line that returns to mark receives again. -/
def Obligations.PortBreakClearsThePort : Prop :=
  ∀ (p : Port) (s : State), s.resetHeld = false →
    ((s.port p).inSpace = true → exec (.portBreak p) s = .next s) ∧
    exec (.lineReturnsToMark p) s = .next (s.modPort p fun x => { x with inSpace := false }) ∧
    ((s.port p).inSpace = false →
      ∃ t, exec (.portBreak p) s = .next t ∧
        t.port p =
          { s.port p with
            rx := .hunt, queue := [], lastError := .none, truncated := 0, overrun := 0, framed := 0, mask := 0,
            events := 0, inSpace := true } ∧
        (∀ q, q ≠ p → t.port q = s.port q) ∧ t.lanes = s.lanes ∧ t.pairs = s.pairs ∧
        t.directory = s.directory ∧ t.chip = s.chip ∧
        (s.pool.lawful →
          (∀ n, (s.slip n).state ≠ .held p → t.slip n = s.slip n) ∧
          (∀ n, (s.slip n).state = .held p → (isReserve n = false ∨ s.pool.backlog = []) →
            t.slip n = Slip.blank) ∧
          (∀ n, (s.slip n).state = .held p → isReserve n = true →
            t.slip n = Slip.blank ∨ ∃ c ∈ s.pool.backlog, t.slip n = callSlip c)))

/-- SET MASK and CLEAR ATTENTION (R194). SIGNAL sets the SIGNAL flag of its target and changes nothing else (R195). That
a console's SIGNAL to an unknown target, which R195 refuses DENIED and refuses RANGE, is answered DENIED is the model's
(DEDUCED, log 24). -/
def Obligations.MasksAndSignals : Prop :=
  (∀ (p : Port) (set : Nat) (s : State), s.canServe p →
     ((512 ≤ set ∨ BitVec.ofNat 9 set &&& ~~~(ownFlags p) ≠ 0) →
       exec (.setMask p set) s = .next (s.replying p 0x41 .range []) ∧
       exec (.clearAttention p set) s = .next (s.replying p 0x42 .range [])) ∧
     (set < 512 → BitVec.ofNat 9 set &&& ~~~(ownFlags p) = 0 →
       exec (.setMask p set) s =
         .next ((s.modPort p fun x => { x with mask := BitVec.ofNat 9 set }).replying p 0x41 .ok
           (flagBytes ((s.port p).events ||| s.levelFlags p))) ∧
       exec (.clearAttention p set) s =
         .next ((s.modPort p fun x => { x with events := x.events &&& ~~~(BitVec.ofNat 9 set) }).replying p 0x42 .ok
           (flagBytes (((s.port p).events &&& ~~~(BitVec.ofNat 9 set)) ||| s.levelFlags p))))) ∧
  (∀ (p : Port) (target : Nat) (s : State), s.canServe p →
     (p.isConsole = true → 1 < target → exec (.signal p target) s = .next (s.replying p 0x43 .denied [])) ∧
     (p.isConsole = false → 9 < target → exec (.signal p target) s = .next (s.replying p 0x43 .range [])) ∧
     ∀ q : Port, target = q.index.val → (p.isConsole = true → target ≤ 1) →
       exec (.signal p target) s = .next ((s.setEvent q (signalBit q)).replying p 0x43 .ok []))

/-- A level flag is set exactly while its condition holds, and the attention line exactly while a flag is set and
unmasked (R193). -/
def Obligations.AttentionFollowsFlags : Prop :=
  ∀ (s : State) (p : Port),
    (s.attentionLine p = true ↔ ∃ k < 9, (s.attention p).getLsbD k = true ∧ (s.port p).mask.getLsbD k = false) ∧
    ((s.levelFlags p).getLsbD 0 = true ↔ s.pool.posts[p.index] ≠ []) ∧
    ((s.levelFlags .dk).getLsbD 1 = true ↔ s.directory.fetch ≠ []) ∧
    ((s.levelFlags .dk).getLsbD 2 = true ↔ s.clock.unset = true) ∧
    ((s.levelFlags .mc).getLsbD 1 = true ↔ ∃ l, (s.lane l).sup.state = .handSet) ∧
    ∀ k, (s.attention p).getLsbD k = ((s.port p).events.getLsbD k || (s.levelFlags p).getLsbD k)

/-! ## Reads -/

/-- A read of a lane or a pair answers OK with its results and changes nothing (R191, R168, R62, R82, R109); a lane's
entry of the lane summary is the positions of its session, pinsetter and lift states (R197) and the slot UP on it, 0 for
none, and is withheld from a console of another pair. A read
of the Directory, the tariff, the slip pool or the port itself answers OK with its results and changes nothing
(R144, R136, R154, R182, R192). The layouts R197 leaves open are the model's (log 14), and so are the place of the pairs
of prices beyond R153's (log 36), the byte of a lift's level (log 38) and the bytes of values that stand beside an absent
one (log 44). -/
def Obligations.ReadsAnswer : Prop :=
  ([SessionState.closed, .opened, .closing, .parked].map SessionState.code = List.range 4 ∧
     [PsState.off, .warming, .ready, .cycling, .handSet, .fault, .lockout].map PsState.code = List.range 7 ∧
     [LiftState.off, .running, .fullPause, .stall].map LiftState.code = List.range 4) ∧
  (∀ (s : State) (q : Port), s.canServe q →
     exec (.readLaneSummary q) s = .next (s.replying q 0x16 .ok ((allLanes.map (s.summaryEntry q)).flatten)) ∧
     ((allLanes.map (s.summaryEntry q)).flatten).length = 64 ∧
     (∀ l, ¬ ownsPair q (pairOf l) → s.summaryEntry q l = [0xFF, 0xFF, 0xFF, 0xFF]) ∧
     (∀ l, ownsPair q (pairOf l) →
       s.summaryEntry q l =
         [(s.session l).code, (s.lane l).sup.state.code, (s.ret (pairOf l)).lift.code,
           match s.upSlot l with
           | some i => i.val + 1
           | none => 0].map (BitVec.ofNat 8)) ∧
     (∀ l, ownsPair q (pairOf l) →
       exec (.readLaneStatus q (laneNo l)) s = .next (s.replying q 0x15 .ok (s.statusBytes l)) ∧
       (s.statusBytes l).length = 80 ∧
       exec (.readMeter q (laneNo l)) s = .next (s.replying q 0x38 .ok (s.meterBytes l))) ∧
     ∀ p, ownsPair q p →
       exec (.readReturn q (pairNo p)) s = .next (s.replying q 0x1D .ok (s.ret p).bytes) ∧
       exec (.readRoster q (pairNo p)) s = .next (s.replying q 0x27 .ok (s.turn p).bytes) ∧
       ∀ (i : Fin 12) (game : Nat) (g : NamedGame), game ≤ 99 → (s.slot p i).namedGame game = some g →
         exec (.readFrameSheet q (pairNo p) (slotNo i) game) s =
           .next (s.replying q 0x28 .ok ((s.slot p i).sheetBytes g))) ∧
  (∀ (s : State) (q : Port), s.canServe q →
     exec (.readTariff q) s = .next (s.replying q 0x36 .ok s.tariffBytes) ∧
     exec (.readPort q) s = .next (s.replying q 0x40 .ok (s.portBytes q)) ∧
     (q.isConsole = false → exec (.readSlipPool q) s = .next (s.replying q 0x3F .ok s.pool.bytes)) ∧
     (q = .dk →
       exec (.readFetchQueue q) s =
         .next (s.replying q 0x31 .ok (byteList (s.directory.fetch.map byte2) ++ byte1 s.deferredCount)) ∧
       ∀ number, 1 ≤ number → number ≤ 65534 →
         exec (.readBowler q number) s =
           .next (s.replying q 0x30 .ok (s.directory.entryBytes number ++ s.directory.rangeBytes number ++
             s.placeBytes number ++ s.directory.countBytes))))

/-! ## Sessions -/

/-- OPEN LANE (R3, R157, R29, R56, R60): the session, the class, the new meter record, the lift and its idle timer; with nobody queued,
and no front grace of 0, the lane stands exactly as R3 lists. -/
def Obligations.OpenLaneOpens : Prop :=
  ∀ (l : Fin 16) (kind mode credit cls : Nat) (s : State), s.canServe .dk → s.session l = .closed →
    s.clock.unset = false → kind ≤ 1 → mode ≤ 1 → cls ≤ 3 → creditOut mode credit = false →
    ∃ t, exec (.openLane .dk (laneNo l) kind mode credit cls) s = .next t ∧
      s.answers t .dk 0x10 .ok [] ∧ t.chip = s.chip ∧ s.sameRecords t ∧
      (t.lane l).session.settings = { (s.lane l).session.settings with priceClass := cls } ∧
      (∃ m, (t.lane l).meter = some m ∧ m.kind = meterKindOf kind ∧ m.mode = meterModeOf mode ∧ m.credited = credit) ∧
      (t.session l = .opened ∨ mode = 0 ∧ (t.session l = .closing ∨ t.session l = .parked)) ∧
      (t.lane l).sup.servicePower = false ∧ t.flagged (.console (pairOf l)) 3 ∧
      s.returnStarted t (pairOf l) ∧ ((s.ret (pairOf l)).overload = false → t.pool = s.pool) ∧
      s.samePairsBut t [pairOf l] ∧ s.sameLanesBut t [l, otherLane l] ∧ s.sameLaneButHorn t (otherLane l) ∧
      (s.nobodyQueued l → (kind = 0 ∨ s.billing.front ≠ 0) →
        (t.lane l).session =
          { (s.lane l).session.asOpen with
            pendingPark := none, settings := { (s.lane l).session.settings with priceClass := cls } } ∧
        (t.lane l).meter =
          some (Meter.fresh (meterKindOf kind) (meterModeOf mode) credit s.billing.front) ∧
        (t.lane l).sup =
          { ({ (s.lane l).sup with servicePower := false }.granted s.timers.warmUp) with
            horn := (t.lane l).sup.horn } ∧
        t.turn (pairOf l) = s.turn (pairOf l) ∧ t.directory = s.directory)

/-- CLOSE LANE in a pair in OPEN mode (R4, R6, R60, R145, R167): the lane alone is closed, its home side is cleared, the
lift's idle timer follows, and its close summary is carried. -/
def Obligations.CloseLaneClosesOne : Prop :=
  ∀ (l : Fin 16) (m : Meter) (s : State), s.canServe .dk → s.session l ≠ .closed →
    (s.turn (pairOf l)).mode = .opened → (s.lane l).meter = some m →
    ∃ t, exec (.closeLane .dk (laneNo l)) s = .next t ∧
      s.answers t .dk 0x11 .ok (byteList [byte1 (laneNo l) ++ m.complete.summary]) ∧ t.chip = s.chip ∧
      t.pool = s.pool ∧ s.sameRecords t ∧ t.flagged (.console (pairOf l)) 3 ∧
      (t.lane l).session = (s.lane l).session.asClosed ∧ (t.lane l).meter = none ∧ (t.lane l).snapshot = none ∧
      (t.lane l).sup =
        { (s.lane l).sup with
          delivery := (s.lane l).sup.delivery.map Delivery.closeLane, servicePower := false }.withdrawn ∧
      (t.turn (pairOf l)).queue (sideOf l) = [] ∧ (t.turn (pairOf l)).paid (sideOf l) = false ∧
      (t.turn (pairOf l)).queue (sideOf l).other =
        ((s.turn (pairOf l)).queue (sideOf l).other).filter (fun i =>
          !(homeSide i == sideOf l && (s.slot (pairOf l) i).state != .empty)) ∧
      (t.turn (pairOf l)).paid (sideOf l).other = (s.turn (pairOf l)).paid (sideOf l).other ∧
      (∀ i, homeSide i = sideOf l → (t.slot (pairOf l) i).state = .empty ∧
        ((s.slot (pairOf l) i).state ≠ .empty → t.slot (pairOf l) i = Slot.empty)) ∧
      (∀ q i, (q = pairOf l → homeSide i ≠ sideOf l) → s.sameSlotButFetch t q i) ∧
      (∀ k, k ≠ l → s.sameLaneButSnapshot t k) ∧ s.sameLanesBut t [l, otherLane l] ∧
      (∀ q, (t.turn q).mode = (s.turn q).mode ∧ (t.turn q).settings = (s.turn q).settings) ∧
      (∀ q, q ≠ pairOf l → t.ret q = s.ret q ∧ t.turn q = { s.turn q with slots := (t.turn q).slots }) ∧
      s.returnStopped t (pairOf l)

/-- CLOSE LANE in a pair in ALTERNATE mode (R5, R60): both lanes are closed, the roster is emptied, each lane closed
carries its summary, and the lift's idle timer follows: the odd lane closes first, so a timer stopped by an even lane
still OPEN or CLOSING starts afresh. -/
def Obligations.CloseLaneClosesBoth : Prop :=
  ∀ (l : Fin 16) (s : State), s.canServe .dk → s.session l ≠ .closed → (s.turn (pairOf l)).mode = .alternate →
    ∃ t, exec (.closeLane .dk (laneNo l)) s = .next t ∧
      s.answers t .dk 0x11 .ok
        (byteList (s.summaryOf (laneAt (pairOf l) .odd) ++ s.summaryOf (laneAt (pairOf l) .even))) ∧
      t.chip = s.chip ∧ t.pool = s.pool ∧ s.sameRecords t ∧
      (∀ k, pairOf k = pairOf l → t.session k = .closed ∧ (s.session k = .closed → s.sameLaneButSnapshot t k) ∧
        (s.session k ≠ .closed →
          (t.lane k).session = (s.lane k).session.asClosed ∧ (t.lane k).meter = none ∧
          (t.lane k).snapshot = none ∧
          (t.lane k).sup =
            { (s.lane k).sup with
              delivery := (s.lane k).sup.delivery.map Delivery.closeLane, servicePower := false }.withdrawn)) ∧
      (t.turn (pairOf l)).mode = .alternate ∧ (t.turn (pairOf l)).settings = (s.turn (pairOf l)).settings ∧
      (∀ sd, (t.turn (pairOf l)).queue sd = [] ∧ (t.turn (pairOf l)).paid sd = false) ∧
      (∀ i, (t.slot (pairOf l) i).state = .empty ∧
        ((s.slot (pairOf l) i).state ≠ .empty → t.slot (pairOf l) i = Slot.empty)) ∧
      (∀ q i, q ≠ pairOf l → s.sameSlotButFetch t q i ∧ t.ret q = s.ret q ∧
        t.turn q = { s.turn q with slots := (t.turn q).slots }) ∧
      (∀ k, pairOf k ≠ pairOf l → t.lane k = s.lane k) ∧
      (let r : ReturnMonitor :=
         { s.ret (pairOf l) with
           idle :=
             if s.session (laneAt (pairOf l) .odd) ≠ .closed ∧ s.running (laneAt (pairOf l) .even) = true then none
             else (s.ret (pairOf l)).idle }
       t.ret (pairOf l) = { r with idle := t.idleAfter (pairOf l) r })

/-- The ends of a TIME meter's periods (R158, R159, R161 to R163): a unit that ends is charged in a TAB session; the
next starts, paid at once in a PREPAID session, or is declined, which takes the lane into CLOSING. The close summary
(R167): a TAB TIME session is charged the part of its unit that has run, rounded up to a whole cent; no other
session is charged, and nothing stays owed. -/
def Obligations.UnitsAndCloseSummaries : Prop :=
  (∀ (l : Fin 16) (m : Meter) (i : Instr) (s : State), s.resetHeld = false →
     (i = .frontGraceEnd l ∧ m.phase = .front ∨ i = .unitEnd l ∧ m.phase = .metered) → (s.lane l).meter = some m →
     (s.running l = false → exec i s = .next s) ∧
     (s.running l = true → m.kind = .time →
       let price := (s.priceOf l).unit
       let units := min (m.units + 1) 65535
       let ended := if m.phase = .metered then (m.unit.bind TimeUnit.price).getD 0 else 0
       let writes (m' : Meter) : Prop := exec i s = .next (s.modLane l fun a => { a with meter := some m' })
       (m.mode = .tab → m.charged + ended ≤ 9999999 →
         writes { m with
           charged := m.charged + ended, units := units, phase := .metered, unit := some ⟨s.billing.unit, some price⟩
           left := s.billing.unit }) ∧
       (m.mode = .tab → m.charged ≤ 9999999 → 9999999 < m.charged + ended →
         writes { m with
           charged := 9999999, saturated := true, units := units, phase := .metered
           unit := some ⟨s.billing.unit, some price⟩, left := s.billing.unit }) ∧
       (m.mode = .prepaid → price ≤ m.balance → m.charged + price ≤ 9999999 →
         writes { m with
           balance := m.balance - price, charged := m.charged + price, units := units, phase := .metered
           unit := some ⟨s.billing.unit, none⟩, left := s.billing.unit }) ∧
       (m.mode = .prepaid → m.balance < price → s.billing.back ≠ 0 →
         ∃ t, exec i s = .next t ∧ t.chip = s.chip ∧ s.sameLines t ∧ t.flagged .dk 3 ∧ t.pairs = s.pairs ∧
           t.pool = s.pool ∧ t.directory = s.directory ∧ s.sameLanesBut t [l] ∧
           t.lane l =
             { s.lane l with
               session :=
                 { (s.lane l).session with state := .closing, light := .full, closingReason := .noCredit }
               meter :=
                 some { m with declined := some .unit, phase := .back, left := s.billing.back, unit := none } }))) ∧
  (∀ m : Meter,
     m.complete.declined = none ∧ m.complete.balance = m.balance ∧ m.complete.credited = m.credited ∧
     m.complete.games = m.games ∧ m.complete.units = m.units ∧ m.complete.unpaid = m.unpaid ∧
     ((m.kind = .games ∨ m.mode = .prepaid ∨ m.unit = none) →
       m.complete.charged = m.charged ∧ m.complete.saturated = m.saturated) ∧
     (∀ length price, m.kind = .time → m.mode = .tab → m.unit = some ⟨length, some price⟩ → 1 ≤ length →
       m.left ≤ length →
       ∃ part, part * length < price * (length - m.left) + length ∧ price * (length - m.left) ≤ part * length ∧
         (m.charged + part ≤ 9999999 → m.complete.charged = m.charged + part ∧ m.complete.saturated = m.saturated) ∧
         (9999999 < m.charged + part → m.complete.charged = 9999999 ∧ m.complete.saturated = true)) ∧
     m.complete.summary =
       byte1 m.kind.code ++ byte1 m.mode.code ++ byte4 m.credited ++ byte4 m.complete.charged ++ byte4 m.balance ++
         byte2 m.games ++ byte2 m.units ++ byte2 m.unpaid ++ byteBool m.complete.saturated)

/-- PARK LANE (R8, R9, R10, R60): where CREDIT is in the mask and holds, no park; on a PARKED lane the mask and cause are
replaced; a cycling pinsetter makes the park wait; else the lane is PARKED at once, and the lift's idle timer follows. -/
def Obligations.ParkLaneParks : Prop :=
  ∀ (l : Fin 16) (q : Port) (mask : Nat) (s : State), s.canServe q → q ≠ .mc → ownsPair q (pairOf l) → mask ≤ 15 →
    maskBarred q mask = false → s.session l ≠ .closed →
    ∃ t, exec (.parkLane q (laneNo l) mask) s = .next t ∧ t.chip = s.chip ∧
      (let held := (WakeMask.ofNat mask).credit = true ∧ s.creditHolds l = true
       (held → s.session l = .parked → s.answers t q 0x12 .woke [] ∧
          s.returnStarted t (pairOf l) ∧
          (s.billing.back ≠ 0 →
            (t.session l = .opened ∨ t.session l = .closing) ∧ (t.lane l).session.wakeMask = .empty ∧
              (t.lane l).session.parkCause = .none)) ∧
       (held → s.session l ≠ .parked → s.answers t q 0x12 .woke [] ∧ t.ret (pairOf l) = s.ret (pairOf l) ∧
          t.lane l = { s.lane l with session := { (s.lane l).session with pendingPark := none } }) ∧
       (¬ held → s.answers t q 0x12 .ok [] ∧
          (s.session l = .parked ∨ (s.lane l).sup.state = .cycling → t.ret (pairOf l) = s.ret (pairOf l)) ∧
          (s.session l = .parked →
            t.lane l =
              { s.lane l with
                session :=
                  { (s.lane l).session with wakeMask := WakeMask.ofNat mask, parkCause := parkCauseOf q } }) ∧
          (s.session l ≠ .parked → (s.lane l).sup.state = .cycling →
            t.lane l =
              { s.lane l with
                session := { (s.lane l).session with pendingPark := some ⟨WakeMask.ofNat mask, parkCauseOf q⟩ } }) ∧
          (s.session l ≠ .parked → (s.lane l).sup.state ≠ .cycling →
            t.lane l =
              { s.lane l with
                session := (s.lane l).session.asParked (WakeMask.ofNat mask) (parkCauseOf q)
                sup := { (s.lane l).sup with servicePower := false }.withdrawn } ∧
            s.returnStopped t (pairOf l) ∧ t.flagged .dk 4 ∧ t.flagged (.console (pairOf l)) 3)) ∧
       (¬ held ∨ s.session l ≠ .parked →
          s.sameLanesBut t [l] ∧ s.samePairsBut t [pairOf l] ∧
            t.turn (pairOf l) = s.turn (pairOf l) ∧ t.pool = s.pool ∧ t.directory = s.directory))

/-- RESUME LANE and the wake (R14, R15, R56, R60): a park that waits is removed by the desk; a PARKED lane wakes, with its
meter as it froze, with the owed charge paid, or in CLOSING with the back grace it had left; its lift has left OFF, and
the idle timer follows. -/
def Obligations.ResumeLaneWakes : Prop :=
  ∀ (l : Fin 16) (q : Port) (s : State), s.canServe q → q ≠ .mc → ownsPair q (pairOf l) →
    (s.session l = .parked → q.isConsole = true → (s.lane l).session.wakeMask.console = false →
      exec (.resumeLane q (laneNo l)) s = .next (s.replying q 0x13 .state [])) ∧
    (s.session l ≠ .parked → (q.isConsole = true ∨ s.session l = .closed ∨ (s.lane l).session.pendingPark = none) →
      exec (.resumeLane q (laneNo l)) s = .next (s.replying q 0x13 .state [])) ∧
    (s.running l = true → q = .dk → (s.lane l).session.pendingPark ≠ none →
      exec (.resumeLane q (laneNo l)) s =
        .next (((s.modLane l fun a => { a with session := { a.session with pendingPark := none } }).flagConsole
          (pairOf l) .laneStateChanged).replying q 0x13 .ok [])) ∧
    (s.session l = .parked → (q = .dk ∨ (s.lane l).session.wakeMask.console = true) →
      ∃ t, exec (.resumeLane q (laneNo l)) s = .next t ∧ s.answers t q 0x13 .ok [] ∧ t.chip = s.chip ∧
        t.flagged (.console (pairOf l)) 3 ∧ s.sameRecords t ∧ s.returnStarted t (pairOf l) ∧
        s.samePairsBut t [pairOf l] ∧ s.sameLanesBut t [l, otherLane l] ∧ s.sameLaneButHorn t (otherLane l) ∧
        (t.lane l).session.settings = (s.lane l).session.settings ∧
        (∀ m, (s.lane l).meter = some m → m.declined = none → (m.kind = .games ∨ 0 < m.left) → s.nobodyQueued l →
          (t.lane l).session = (s.lane l).session.asOpen ∧ (t.lane l).meter = some m ∧
          (t.lane l).sup =
            { ((s.lane l).sup.granted s.timers.warmUp) with horn := (t.lane l).sup.horn } ∧
          t.turn (pairOf l) = s.turn (pairOf l)) ∧
        (∀ m d, (s.lane l).meter = some m → m.declined = some d → m.mode = .prepaid →
          Declined.price d (s.priceOf l) ≤ m.balance →
          (t.lane l).session = (s.lane l).session.asOpen ∧
          ∃ m', (t.lane l).meter = some m' ∧ m'.declined = none ∧ m'.phase = .metered ∧
            m'.balance = m.balance - Declined.price d (s.priceOf l) ∧ m'.credited = m.credited ∧
            (m.kind = .time → m'.unit = some ⟨s.billing.unit, none⟩ ∧ m'.left = s.billing.unit)) ∧
        (∀ m d, (s.lane l).meter = some m → m.declined = some d → m.mode = .prepaid →
          m.balance < Declined.price d (s.priceOf l) → s.billing.back ≠ 0 → m.phase = .back →
          (t.lane l).session =
            { (s.lane l).session.asOpen with state := .closing, closingReason := .noCredit } ∧
          (t.lane l).meter = some { m with left := if m.left = 0 then s.billing.back else m.left } ∧
          t.flagged .dk 3))

/-- SET LANE SETTINGS (R17): every lane in scope takes every present value, and no other lane does; without a price
class nothing else changes, and turning foul detection off drops a waiting foul (R42). -/
def Obligations.SetLaneSettingsWrites : Prop :=
  ∀ (l : Fin 16) (q : Port) (scope : Nat) (cls foul mask lamps : Option Nat) (s : State), s.canServe q → q ≠ .mc →
    scope ≤ 2 → (q.isConsole = true → ownsPair q (pairOf l) ∧ scope ≤ 1 ∧ cls = none) →
    (∀ n, cls = some n → n ≤ 3) → (∀ n, foul = some n → n ≤ 1) → (∀ n, mask = some n → n ≤ 15) →
    (∀ n, lamps = some n → n ≤ 1) →
    ∃ t, exec (.setLaneSettings q scope (laneNo l) cls foul mask lamps) s = .next t ∧
      s.answers t q 0x14 .ok [] ∧ t.chip = s.chip ∧
      (∀ k, k ∈ scopeLanes scope l →
        (t.lane k).session.settings =
          { priceClass := cls.getD (s.lane k).session.settings.priceClass
            foulDetection := (foul.map (· == 1)).getD (s.lane k).session.settings.foulDetection
            parkMask := (mask.map WakeMask.ofNat).getD (s.lane k).session.settings.parkMask
            pinLamps := (lamps.map (· == 1)).getD (s.lane k).session.settings.pinLamps } ∧
        (foul = some 0 → (t.lane k).sup.waitingFoul = none) ∧
        t.flagged (.console (pairOf k)) 3) ∧
      (∀ k, k ∉ scopeLanes scope l → s.sameLaneButHorn t k) ∧
      (cls = none →
        t.pairs = s.pairs ∧ t.pool = s.pool ∧ t.directory = s.directory ∧
        ∀ k, k ∈ scopeLanes scope l →
          t.lane k =
            { s.lane k with
              session := { (s.lane k).session with settings := (t.lane k).session.settings }
              sup :=
                { (s.lane k).sup with
                  waitingFoul := if foul = some 0 then none else (s.lane k).sup.waitingFoul } })

/-! ## The mechanic's requests -/

/-- LOCKOUT (R38): what runs, waits or is recorded at the pinsetter is dropped, a ball not yet read stays unscored and
its slot's in-flight mark is cleared (R65, R76), the roster is otherwise the same, and a park that waits is entered; in
LOCKOUT nothing more changes. -/
def Obligations.LockoutDropsEverything : Prop :=
  ∀ (l : Fin 16) (s : State), s.canServe .mc →
    ((s.lane l).sup.state = .lockout → exec (.lockout .mc (laneNo l)) s = .next (s.replying .mc 0x17 .ok [])) ∧
    ((s.lane l).sup.state ≠ .lockout →
      ∃ t, exec (.lockout .mc (laneNo l)) s = .next t ∧ s.answers t .mc 0x17 .ok [] ∧ t.chip = s.chip ∧
        t.flagged (.console (pairOf l)) 3 ∧ t.pool = s.pool ∧ t.directory = s.directory ∧
        (t.lane l).meter = (s.lane l).meter ∧ (t.lane l).snapshot = (s.lane l).snapshot ∧
        s.sameLanesBut t [l] ∧ s.samePairsBut t [pairOf l] ∧
        (∃ lost : Option Delivery,
          (t.lane l).sup =
            { (s.lane l).sup with
              state := .lockout, cycle := none, warmUp := none, fault := none, handSet := none, standing := none
              servicePower := false, waitingFoul := none, practice := 1
              delivery := if lost.isSome then none else (s.lane l).sup.delivery
              last := if lost.isSome then lost else (s.lane l).sup.last
              unscoredBalls := if lost.isSome then bump16 (s.lane l).sup.unscoredBalls else (s.lane l).sup.unscoredBalls } ∧
          ((s.lane l).sup.delivery = none → lost = none) ∧ ((s.lane l).sup.state ≠ .cycling → lost = none) ∧
          (∀ d, (s.lane l).sup.delivery = some d → d.step = .awaitingDeck → lost = none) ∧
          (∀ d c, (s.lane l).sup.delivery = some d → d.step = .awaitingRead → (s.lane l).sup.state = .cycling →
            (s.lane l).sup.cycle = some c → c.origin = .ball →
            lost = (if c.phase = .beforeRead then some d else none)) ∧
          t.turn (pairOf l) = { s.turn (pairOf l) with slots := (t.turn (pairOf l)).slots } ∧
          ∀ i, t.slot (pairOf l) i =
            if (lost.any fun d => !d.laneClosed && d.place.any fun a => a.slot == i) = true then
              { s.slot (pairOf l) i with inFlight := false }
            else s.slot (pairOf l) i) ∧
        ((s.lane l).session.pendingPark = none →
          (t.lane l).session = (s.lane l).session ∧ t.ret (pairOf l) = s.ret (pairOf l)) ∧
        (∀ k, (s.lane l).session.pendingPark = some k →
          (k.mask.credit = true ∧ s.creditHolds l = true →
            (t.lane l).session = { (s.lane l).session with pendingPark := none } ∧
              t.ret (pairOf l) = s.ret (pairOf l)) ∧
          (¬ (k.mask.credit = true ∧ s.creditHolds l = true) →
            (t.lane l).session = (s.lane l).session.asParked k.mask k.cause ∧ s.returnStopped t (pairOf l))))

/-- UNLOCK (R39). MANUAL CYCLE (R40): taken in READY, in any session state. PINS SET (R36): the hand-set target
stands, and the lamps show it where the lane's lamps are allowed (R43). -/
def Obligations.MechanicSetsToWork : Prop :=
  (∀ (lane : Nat) (q : Port) (s : State), s.canServe q →
     (q ≠ .mc → exec (.unlock q lane) s = .next (s.replying q 0x18 .denied [])) ∧
     (q = .mc → (lane = 0 ∨ 16 < lane) → exec (.unlock q lane) s = .next (s.replying q 0x18 .range [])) ∧
     ∀ l : Fin 16, q = .mc → lane = laneNo l →
       ((s.lane l).sup.state ≠ .lockout → exec (.unlock q lane) s = .next (s.replying q 0x18 .state [])) ∧
       ((s.lane l).sup.state = .lockout →
         exec (.unlock q lane) s =
           .next (((s.modSup l fun u =>
             { u with
               servicePower := if s.session l = .opened ∨ s.session l = .closing then u.servicePower else true
               state := .warming, warmUp := some ⟨s.timers.warmUp * 1000, none⟩ }).flagConsole
                 (pairOf l) .laneStateChanged).replying q 0x18 .ok []))) ∧
  (∀ (l : Fin 16) (kind : Nat) (q : Port) (s : State), s.canServe q →
     (q ≠ .mc → exec (.manualCycle q (laneNo l) kind) s = .next (s.replying q 0x19 .denied [])) ∧
     (q = .mc → 1 < kind → exec (.manualCycle q (laneNo l) kind) s = .next (s.replying q 0x19 .range [])) ∧
     (q = .mc → kind ≤ 1 → (s.lane l).sup.state ≠ .ready →
       exec (.manualCycle q (laneNo l) kind) s = .next (s.replying q 0x19 .state [])) ∧
     (q = .mc → kind ≤ 1 → (s.lane l).sup.state = .ready →
       exec (.manualCycle q (laneNo l) kind) s =
         .next (((s.modSup l fun u =>
           { u with
             state := .cycling, warmUp := none, handSet := none
             cycle := some {
               kind := if kind = 0 then .first else .final
               phase := .afterRead, origin := .manual, followOn := false, result := none, restore := none
               timer := s.timers.cycle * 1000, pre := none, turnEnded := false } }).flagConsole
                 (pairOf l) .laneStateChanged).replying q 0x19 .ok []))) ∧
  (∀ (l : Fin 16) (q : Port) (s : State), s.canServe q →
     (q ≠ .mc → exec (.pinsSet q (laneNo l)) s = .next (s.replying q 0x1B .denied [])) ∧
     (q = .mc → (s.lane l).sup.state ≠ .handSet →
       exec (.pinsSet q (laneNo l)) s = .next (s.replying q 0x1B .state [])) ∧
     (∀ lane, q = .mc → (lane = 0 ∨ 16 < lane) →
       exec (.pinsSet q lane) s = .next (s.replying q 0x1B .range [])) ∧
     ∀ h, q = .mc → (s.lane l).sup.state = .handSet → (s.lane l).sup.handSet = some h →
       ∃ t, exec (.pinsSet q (laneNo l)) s = .next t ∧
         t = ((s.modSup l fun u => { u with state := .ready, standing := some h.target, handSet := none }).flagConsole
           (pairOf l) .laneStateChanged).replying q 0x1B .ok [] ∧
         ((s.lane l).session.settings.pinLamps = true → s.running l = true →
           (t.lane l).lampMode = .steady ∧ (t.lane l).lampImage = h.target))

/-- The target a fault leaves to restore, where no reball is applied (R37, the table). CLEAR FAULT (R37): the
pinsetter leaves FAULT by its target, as from READY, or goes OFF where power is withheld; a REBALL choice that the
reball's rules refuse is answered STATE. With power withheld the pinsetter goes OFF (the model's reading, log 26). -/
def Obligations.ClearFaultRestores : Prop :=
  (∀ f : FaultRec,
     (∀ t, f.replaced = some t → f.target = t) ∧
     (f.replaced = none → f.phase = .beforeRead → ∀ t, f.pre = some t → f.target = t) ∧
     (f.replaced = none → f.phase = .afterRead → (f.origin = .ball ∨ f.origin = .followOn) →
       ((f.kind = .final ∨ f.turnEnded = true ∨ f.followOn = true) → f.target = fullRack) ∧
       (f.kind = .first → f.turnEnded = false → f.followOn = false → ∀ t, f.read = some t → f.target = t)) ∧
     (f.replaced = none → f.phase = .afterRead → f.origin = .manual → f.kind = .first →
       ∀ t, f.pre = some t → f.target = t) ∧
     (f.replaced = none → f.phase = .afterRead →
       (f.origin = .manual ∧ f.kind = .final ∨ f.origin = .wake ∨ f.origin = .reball) → f.target = fullRack)) ∧
  (∀ (l : Fin 16) (choice : Nat) (f : FaultRec) (s : State), s.canServe .mc → choice ≤ 1 →
     ((s.lane l).sup.state ≠ .fault →
       exec (.clearFault .mc (laneNo l) choice) s = .next (s.replying .mc 0x1A .state [])) ∧
     ((s.lane l).sup.state = .fault → (s.lane l).sup.fault = some f → f.reballs choice = true →
       reballBarred (s.lane l).snapshot = true →
       exec (.clearFault .mc (laneNo l) choice) s = .next (s.replying .mc 0x1A .state [])) ∧
     ((s.lane l).sup.state = .fault → (s.lane l).sup.fault = some f →
       (f.reballs choice = true → reballBarred (s.lane l).snapshot = false) →
       ∃ t target, exec (.clearFault .mc (laneNo l) choice) s = .next t ∧ s.answers t .mc 0x1A .ok [] ∧
         t.chip = s.chip ∧ t.flagged (.console (pairOf l)) 3 ∧
         (f.reballs choice = false →
           target = f.target ∧ t.pairs = s.pairs ∧ t.directory = s.directory ∧ s.sameLanesBut t [l] ∧
             (t.lane l).snapshot = (s.lane l).snapshot) ∧
         (∀ n, (s.lane l).snapshot = some n → f.reballs choice = true →
           target = n.pre ∧ (t.lane l).snapshot = none ∧ (t.slot (pairOf l) n.slot).frame = n.frame ∧
             (t.slot (pairOf l) n.slot).ball = n.ball) ∧
         (t.lane l).session = (s.lane l).session ∧ (t.lane l).meter = (s.lane l).meter ∧
         (t.lane l).sup.fault = none ∧
         (s.powerGranted l = false →
           (t.lane l).sup.state = .off ∧ (t.lane l).sup.standing = none ∧ t.pool = s.pool) ∧
         (s.powerGranted l = true → target = fullRack →
           (t.lane l).sup.state = .cycling ∧
           (t.lane l).sup.cycle = some (newCycle .final .reball s.timers.cycle none) ∧ t.pool = s.pool) ∧
         (s.powerGranted l = true → target ≠ fullRack →
           (t.lane l).sup.state = .handSet ∧ (t.lane l).sup.handSet = some ⟨target, s.now⟩ ∧
           (t.lane l).sup.standing = none ∧ (t.lane l).sup.horn = some ⟨.call, 2000⟩ ∧
           t.pool = (s.raiseCall ⟨laneNo l, .handSet, if f.phase = .beforeRead then 0 else 1⟩).pool)))

/-- Section settings (R41, R155): the values given are written, the others kept, and nothing else changes; a value
out of range refuses the whole request. -/
def Obligations.SectionSettingsAreWritten : Prop :=
  ∀ (q : Port) (warmUp cycle travel window unit front back : Option Nat) (s : State), s.canServe q →
    (q.isConsole = true →
      exec (.setPinsetterTimers q warmUp cycle travel window) s = .next (s.replying q 0x1C .denied [])) ∧
    (q ≠ .dk → exec (.setBillingSettings q unit front back) s = .next (s.replying q 0x35 .denied [])) ∧
    (q.isConsole = false →
      (∀ n, (warmUp = some n ∧ (n < 2 ∨ 30 < n) ∨ cycle = some n ∧ (n < 6 ∨ 30 < n) ∨
          travel = some n ∧ (n < 2 ∨ 10 < n) ∨ window = some n ∧ (n < 2 ∨ 20 < n)) →
        exec (.setPinsetterTimers q warmUp cycle travel window) s = .next (s.replying q 0x1C .range [])) ∧
      ((∀ n, warmUp = some n → 2 ≤ n ∧ n ≤ 30) → (∀ n, cycle = some n → 6 ≤ n ∧ n ≤ 30) →
        (∀ n, travel = some n → 2 ≤ n ∧ n ≤ 10) → (∀ n, window = some n → 2 ≤ n ∧ n ≤ 20) →
        exec (.setPinsetterTimers q warmUp cycle travel window) s =
          .next ({ s with
            timers :=
              ⟨warmUp.getD s.timers.warmUp, cycle.getD s.timers.cycle, travel.getD s.timers.travel,
                window.getD s.timers.window⟩ }.replying q 0x1C .ok []))) ∧
    (q = .dk →
      (∀ n, (unit = some n ∧ (n < 60 ∨ 3600 < n ∨ n % 60 ≠ 0) ∨ front = some n ∧ 1800 < n ∨
          back = some n ∧ 1800 < n) →
        exec (.setBillingSettings q unit front back) s = .next (s.replying q 0x35 .range [])) ∧
      ((∀ n, unit = some n → 60 ≤ n ∧ n ≤ 3600 ∧ n % 60 = 0) → (∀ n, front = some n → n ≤ 1800) →
        (∀ n, back = some n → n ≤ 1800) →
        exec (.setBillingSettings q unit front back) s =
          .next ({ s with
            billing := ⟨unit.getD s.billing.unit, front.getD s.billing.front, back.getD s.billing.back⟩ }.replying
              q 0x35 .ok [])))

/-! ## Balls -/

/-- RELEASE (R23). A waiting foul exactly the window's length old is inside the window (the model's reading, log 16). -/
def Obligations.ReleaseOpensADelivery : Prop :=
  ∀ (l : Fin 16) (s : State), s.resetHeld = false →
    (∀ d, (s.lane l).sup.delivery = some d →
      exec (.release l) s =
        .next (s.modSup l fun u => { u with strayReleases := min (u.strayReleases + 1) 65535 })) ∧
    ((s.lane l).sup.delivery = none →
      let opened (foul : Bool) (u : Supervisor) : Supervisor :=
        { u with
          delivery := some {
            step := .awaitingDeck, release := some s.now, cls := none, place := none, practice := none, pre := none
            counted := none, marks := ⟨foul, false, false, false⟩, travel := s.timers.travel * 1000
            laneClosed := false }
          lastRelease := some ⟨s.now, foul⟩ }
      ((s.lane l).sup.waitingFoul = none ∨
          (∃ m, (s.lane l).sup.waitingFoul = some m ∧ s.timers.window * 100 < s.now - m) →
        exec (.release l) s = .next (s.modSup l (opened false))) ∧
      ∀ m, (s.lane l).sup.waitingFoul = some m → s.now - m ≤ s.timers.window * 100 →
        exec (.release l) s =
          .next ((s.modSup l fun u =>
            { opened true u with waitingFoul := none, horn := some ⟨.foul, 1000⟩ }).flagConsole (pairOf l) .foul))

/-- FOUL, WAITING FOUL EXPIRY and HORN END (R42, R43). The window's edge is inside it (the model's reading, log 16). -/
def Obligations.FoulsAreAttributed : Prop :=
  ∀ (l : Fin 16) (s : State), s.resetHeld = false →
    ((s.lane l).session.settings.foulDetection = false → exec (.foul l) s = .next s) ∧
    ((s.lane l).session.settings.foulDetection = true →
      (∀ r, (s.lane l).sup.lastRelease = some r → s.now - r.moment ≤ s.timers.window * 100 →
        (r.fouled = true → exec (.foul l) s = .next s) ∧
        (r.fouled = false →
          ∃ u, exec (.foul l) s =
              .next ((s.modSup l fun _ =>
                { u with horn := some ⟨.foul, 1000⟩, lastRelease := some ⟨r.moment, true⟩ }).flagConsole
                  (pairOf l) .foul) ∧
            (∀ d, (s.lane l).sup.delivery = some d → d.release.isSome = true →
              u = { (s.lane l).sup with delivery := some { d with marks := { d.marks with foul := true } } }) ∧
            ((∀ d, (s.lane l).sup.delivery = some d → d.release = none) →
              ∀ d, (s.lane l).sup.last = some d →
                u = { (s.lane l).sup with
                  last := if d.release.isSome then some { d with marks := { d.marks with foul := true } } else some d }))) ∧
      ((∀ r, (s.lane l).sup.lastRelease = some r → s.timers.window * 100 < s.now - r.moment) →
        ((s.lane l).sup.waitingFoul = none →
          exec (.foul l) s = .next (s.modSup l fun u => { u with waitingFoul := some s.now })) ∧
        ((s.lane l).sup.waitingFoul ≠ none →
          exec (.foul l) s = .next (s.modSup l fun u => { u with strayFouls := bump16 u.strayFouls })))) ∧
    ((s.lane l).sup.waitingFoul = none → exec (.waitingFoulExpiry l) s = .next s) ∧
    ((s.lane l).sup.waitingFoul ≠ none →
      exec (.waitingFoulExpiry l) s =
        .next (s.modSup l fun u => { u with waitingFoul := none, strayFouls := bump16 u.strayFouls })) ∧
    exec (.hornEnd l) s = .next (s.modSup l fun u => { u with horn := none })

/-- Every DECK hands the Return Monitor a ball (R48). The travel timeout is the DECK of the delivery that awaits
one, marked DECK_MISSED (R24); its command is that end whenever a delivery awaits its DECK, and changes nothing
otherwise (the model's reading, logs 3 and 18). -/
def Obligations.EveryDeckIsABallInTransit : Prop :=
  (∀ (l : Fin 16) (i : Instr) (s : State), s.resetHeld = false →
     (i = .deck l ∨ i = .travelTimeout l ∧ ∃ d, (s.lane l).sup.delivery = some d ∧ d.step = .awaitingDeck) →
     ∃ t, exec i s = .next t ∧
       (let r := s.ret (pairOf l)
        let r' := t.ret (pairOf l)
        let record : Transit := ⟨sideOf l, r.nextSeq, 0, false, !s.running l⟩
        r'.nextSeq = r.nextSeq + 1 ∧ r'.created = r.created + 1 ∧ r'.matched = r.matched ∧ r'.stray = r.stray ∧
        r'.lift = r.started ∧ r'.rackFull = r.rackFull ∧ r'.overload = r.overload ∧ r'.idle = none ∧
        (r.transit.length < 16 →
          r'.transit = r.transit ++ [record] ∧ r'.writtenOff = r.writtenOff ∧ r'.episodeOdd = r.episodeOdd ∧
            r'.episodeEven = r.episodeEven) ∧
        (∀ x rest, r.transit = x :: rest → 16 ≤ r.transit.length →
          r'.transit = rest ++ [record] ∧ r'.writtenOff = r.writtenOff + 1 ∧ t.flagged .mc 5 ∧
          (x.overdue = false → r'.episodeOdd = r.episodeOdd ∧ r'.episodeEven = r.episodeEven) ∧
          (x.overdue = true →
            r'.episode x.lane = decide (∃ y ∈ rest, y.lane = x.lane ∧ y.overdue = true) ∧
            r'.episode x.lane.other = r.episode x.lane.other))) ∧
       t.chip = s.chip ∧ s.sameLines t ∧ s.samePairsBut t [pairOf l] ∧ s.sameLanesBut t [l, otherLane l] ∧
       s.sameLaneButHornSnapshot t (otherLane l) ∧ s.sameRecords t) ∧
  (∀ (l : Fin 16) (s : State), s.resetHeld = false →
     ((∀ d, (s.lane l).sup.delivery = some d → d.step ≠ .awaitingDeck) → exec (.travelTimeout l) s = .next s) ∧
     ∀ d, (s.lane l).sup.delivery = some d → d.step = .awaitingDeck →
       exec (.travelTimeout l) s =
         exec (.deck l) (s.modSup l fun u =>
           { u with delivery := some { d with marks := { d.marks with deckMissed := true } } }))

/-- A DECK on an OPEN or CLOSING lane with its pinsetter READY starts a ball cycle: SCORED where a slot is UP, at
its place, else PRACTICE (R25, R26, R28, R114). -/
def Obligations.ReadyDeckStartsABall : Prop :=
  ∀ (l : Fin 16) (s : State), s.resetHeld = false → s.running l = true → (s.lane l).sup.state = .ready →
    ∃ t, exec (.deck l) s = .next t ∧
      (let u := (s.lane l).sup
       let d := deckDelivery u.delivery false
       let ball (kind : CycleKind) (d : Delivery) : Prop :=
         (t.lane l).sup =
           { u with
             state := .cycling, warmUp := none, handSet := none, delivery := some d, horn := (t.lane l).sup.horn
             cycle := some {
               kind := kind, phase := .beforeRead, origin := .ball, followOn := false, result := none
               restore := none, timer := s.timers.cycle * 1000, pre := u.standing, turnEnded := false } }
       (∀ i, s.upSlot l = some i →
         let x := s.slot (pairOf l) i
         ball (if (x.frame = 10 ∧ x.ball ≠ 3) ∨ (x.frame ≠ 10 ∧ x.ball = 1) then .first else .final)
           { d with
             step := .awaitingRead, cls := some .scored, pre := u.standing
             place := some ⟨i, x.game.getD 0, x.frame, x.ball⟩ } ∧
         t.slot (pairOf l) i = { x with inFlight := true } ∧
         (∀ n, (s.lane (otherLane l)).snapshot = some n → n.slot = i → (t.lane (otherLane l)).snapshot = none)) ∧
       (s.upSlot l = none →
         ball (if u.practice = 1 then .first else .final)
           { d with
             step := .awaitingRead, cls := some .practice, pre := u.standing, practice := some u.practice } ∧
         t.turn (pairOf l) = s.turn (pairOf l))) ∧
      (t.lane l).snapshot = none ∧ (t.lane l).session = (s.lane l).session ∧
      (t.lane l).meter = (s.lane l).meter ∧ t.directory = s.directory ∧ t.flagged (.console (pairOf l)) 3

/-- Any other DECK closes its delivery at once: EARLY, UNSCORED or UNPAID (R25, R27, R13). -/
def Obligations.OtherDecksCloseAtOnce : Prop :=
  ∀ (l : Fin 16) (s : State), s.resetHeld = false → (s.running l = true → (s.lane l).sup.state ≠ .ready) →
    ∃ t, exec (.deck l) s = .next t ∧
      (let u := (s.lane l).sup
       let d := { deckDelivery u.delivery false with pre := u.standing }
       let still := if u.delivery.any (·.step == .awaitingRead) then u.delivery else none
       (t.lane l).snapshot = none ∧ (t.lane l).sup.delivery = still ∧
       (s.session l ≠ .parked ∨ s.billing.back ≠ 0 → (t.lane l).sup.standing = u.standing) ∧
       (s.running l = true → (u.state = .cycling ∨ u.state = .warming) →
         (t.lane l).sup =
           { u with
             delivery := still, last := some { d with cls := some .early }, earlyBalls := bump16 u.earlyBalls
             horn := (t.lane l).sup.horn } ∧
         t.flagged (.console (pairOf l)) 5) ∧
       (s.running l = true → u.state ≠ .cycling → u.state ≠ .warming →
         (t.lane l).sup =
           { u with
             delivery := still, last := some { d with cls := some .unscored }, unscoredBalls := bump16 u.unscoredBalls
             horn := (t.lane l).sup.horn }) ∧
       (s.running l = true →
         (t.lane l).session = (s.lane l).session ∧ (t.lane l).meter = (s.lane l).meter ∧
           t.turn (pairOf l) = s.turn (pairOf l) ∧ t.directory = s.directory) ∧
       (s.session l = .closed →
         (t.lane l).sup =
           { u with
             delivery := still, last := some { d with cls := some .unpaid }, closedUnpaid := bump16 u.closedUnpaid
             horn := (t.lane l).sup.horn } ∧
         (t.lane l).session = (s.lane l).session ∧ (t.lane l).meter = (s.lane l).meter ∧
         t.turn (pairOf l) = s.turn (pairOf l) ∧ t.flagged .dk 5) ∧
       (s.session l = .parked →
         (t.lane l).sup.last = some { d with cls := some .unpaid } ∧ t.flagged .dk 5 ∧
         ((s.lane l).session.wakeMask.ball = false →
           (t.lane l).session = (s.lane l).session ∧ t.turn (pairOf l) = s.turn (pairOf l) ∧
           (t.lane l).sup =
             { u with
               delivery := still, last := some { d with cls := some .unpaid }, horn := (t.lane l).sup.horn } ∧
           (t.lane l).meter = (s.lane l).meter.map fun m => { m with unpaid := bump16 m.unpaid }) ∧
         ((s.lane l).session.wakeMask.ball = true → s.billing.back ≠ 0 →
           (t.session l = .opened ∨ t.session l = .closing) ∧
           (t.lane l).sup.state = if u.state = .off then .warming else u.state)))

/-- PS READ (R31, R32, R28): ignored but by a ball cycle that awaits it; the counted set is clamped to the pre-ball
set; a follow-on is scheduled by a FIRST cycle with all pins down, a foul, or a ball that ended its turn, which a scored
ball does when its frame is then complete; a practice ball and a ball that may not be scored change no sheet (a ball read on a lane that is CLOSED or PARKED:
the model's reading, log 34). -/
def Obligations.ReadCountsTheBall : Prop :=
  ∀ (l : Fin 16) (sensed : PinSet) (s : State), s.resetHeld = false →
    ((∀ c d, (s.lane l).sup.state = .cycling → (s.lane l).sup.cycle = some c → (s.lane l).sup.delivery = some d →
        c.origin = .ball → c.phase = .beforeRead → d.step ≠ .awaitingRead) →
      exec (.psRead l sensed) s = .next s) ∧
    ∀ c d, (s.lane l).sup.state = .cycling → (s.lane l).sup.cycle = some c → (s.lane l).sup.delivery = some d →
      c.origin = .ball → c.phase = .beforeRead → d.step = .awaitingRead →
      let pre := d.pre.getD fullRack
      let counted := sensed &&& pre
      let d' := { d with
        pre := some pre, counted := some counted
        marks := { d.marks with senseOdd := d.marks.senseOdd || decide (sensed &&& ~~~pre ≠ 0) } }
      ∃ (t : State) (ended : Bool), exec (.psRead l sensed) s = .next t ∧ t.chip = s.chip ∧ s.sameLines t ∧
        (let followOn := c.kind == .first && (counted == 0 || d.marks.foul || ended)
         (t.lane l).sup.state = .cycling ∧ (t.lane l).sup.delivery = none ∧ (t.lane l).sup.last = some d' ∧
         (t.lane l).sup.standing = (s.lane l).sup.standing ∧
         (t.lane l).sup.cycle =
           some { c with
             phase := .afterRead, result := some counted, pre := some pre, turnEnded := ended
             followOn := followOn } ∧
         (d.cls = some .practice →
           ended = false ∧ t.pairs = s.pairs ∧ t.ports = s.ports ∧ s.sameLanesBut t [l] ∧
           (t.lane l).snapshot = (s.lane l).snapshot ∧
           (t.lane l).sup.practice = if d.practice = some 1 ∧ followOn = false then 2 else 1) ∧
         (d.cls ≠ some .practice → (d.laneClosed = true ∨ s.running l = false) →
           ended = false ∧ (t.lane l).sup.unscoredBalls = bump16 (s.lane l).sup.unscoredBalls ∧
           (t.lane l).snapshot = (s.lane l).snapshot ∧ s.sameLanesBut t [l] ∧
           ∀ q i, t.slot q i = { s.slot q i with inFlight := (t.slot q i).inFlight }) ∧
         (∀ a sh, d.cls ≠ some .practice → d.laneClosed = false → s.running l = true → d.place = some a →
           (let x := s.slot (pairOf l) a.slot
            x.state ≠ .empty ∧ x.frame = a.frame ∧ x.ball = a.ball ∧ x.sheet = some sh ∧ sh.game = a.game) →
           ended = (sh.addBall a.frame pre counted d'.marks).frameComplete a.frame) ∧
         (∀ a, d.cls ≠ some .practice → d.place = some a →
           (let x := s.slot (pairOf l) a.slot
            x.state = .empty ∨ x.frame ≠ a.frame ∨ x.ball ≠ a.ball ∨ ∀ sh, x.sheet = some sh → sh.game ≠ a.game) →
           ended = false)) ∧
        s.samePairsBut t [pairOf l] ∧ (∀ k, pairOf k ≠ pairOf l → t.lane k = s.lane k) ∧ s.sameRecords t ∧
        t.pool = s.pool

/-- A SCORED ball at its READ (R31, R32, R77, R89, R100, R101, R113): the sheet takes the ball, the snapshot is taken, and
a FIRST cycle of a ball that completed its frame has a follow-on pending;
the slot goes to its next ball, its next frame, or, where the game has finished, to a retained record. At a turn end its
next turn goes to the tail of the queue that R78 names, or nowhere where the series limit is reached (R80); the head rules
then move only away heads to the tail (R72). -/
def Obligations.ReadScoresTheBall : Prop :=
  ∀ (l : Fin 16) (sensed : PinSet) (c : Cycle) (d : Delivery) (a : Place) (sh : Sheet) (s : State),
    s.resetHeld = false → s.running l = true → (s.lane l).sup.state = .cycling → (s.lane l).sup.cycle = some c →
    (s.lane l).sup.delivery = some d → c.origin = .ball → c.phase = .beforeRead → d.step = .awaitingRead →
    d.cls = some .scored → d.laneClosed = false → d.place = some a →
    (let x := s.slot (pairOf l) a.slot
     x.state ≠ .empty ∧ x.frame = a.frame ∧ x.ball = a.ball ∧ x.sheet = some sh ∧ sh.game = a.game) →
    ∃ t, exec (.psRead l sensed) s = .next t ∧
      (let x := s.slot (pairOf l) a.slot
       let y := t.slot (pairOf l) a.slot
       let pre := d.pre.getD fullRack
       let marks := { d.marks with senseOdd := d.marks.senseOdd || decide (sensed &&& ~~~pre ≠ 0) }
       let new := sh.addBall a.frame pre (sensed &&& pre) marks
       (t.lane l).sup.cycle =
         some { c with
           phase := .afterRead, result := some (sensed &&& pre), pre := some pre
           turnEnded := new.frameComplete a.frame
           followOn :=
             c.kind == .first && (sensed &&& pre == 0 || d.marks.foul || new.frameComplete a.frame) } ∧
       (t.lane l).sup.last = some { d with pre := some pre, counted := some (sensed &&& pre), marks := marks } ∧
       y.inFlight = false ∧ y.bowler = x.bowler ∧
       (∃ n, (t.lane l).snapshot = some n ∧ n.slot = a.slot ∧ n.game = a.game ∧ n.frame = a.frame ∧ n.ball = a.ball ∧
         n.pre = pre ∧ n.prior = priorFrames sh new a.frame ∧ n.bonus = sh.awaiting ∧
         n.turnEnded = new.frameComplete a.frame ∧ n.gameFinished = new.gameFinished) ∧
       (new.frameComplete a.frame = false → new.gameFinished = false →
         y = { x with sheet := some new, stage := .inProgress, ball := x.ball + 1, inFlight := false } ∧
         (t.turn (pairOf l)).queueOdd = (s.turn (pairOf l)).queueOdd ∧
         (t.turn (pairOf l)).queueEven = (s.turn (pairOf l)).queueEven ∧ s.sameLanesBut t [l] ∧
         (∀ j, j ≠ a.slot → t.slot (pairOf l) j = s.slot (pairOf l) j)) ∧
       (new.frameComplete a.frame = true → new.gameFinished = false →
         y.sheet = some new ∧ y.stage = .inProgress ∧ y.frame = x.frame + 1 ∧ y.ball = 1 ∧
         y.retained = x.retained) ∧
       (new.gameFinished = true →
         y.finished = min (x.finished + 1) 255 ∧
         y.retained =
           (if 3 ≤ x.retained.length then x.retained.drop 1 else x.retained) ++ [GameRecord.finish new x.handicap]) ∧
       (new.frameComplete a.frame = true →
         let turn := s.turn (pairOf l)
         let next : Option Side :=
           if new.gameFinished = false then
             match turn.mode with
             | .opened => some (sideOf l)
             | .alternate => some (sideOf l).other
           else if turn.settings.games ≠ 0 ∧ turn.settings.games ≤ min (x.finished + 1) 255 then none
           else some (startSide turn.mode a.slot (nextGame x.game))
         (next = none → y.state = .done) ∧ (next ≠ none → y.state = .queued ∨ y.state = .up) ∧
         ∀ side,
           let placed := (turn.queue side).filter (· != a.slot) ++ if next = some side then [a.slot] else []
           ∃ k, (t.turn (pairOf l)).queue side = placed.drop k ++ placed.take k ∧
             ∀ j ∈ placed.take k, (s.slot (pairOf l) j).away = true))

/-- PS DONE of a cycle that completes (R34, R28, R10): the standing set, then a held restore, in whose favour a follow-on
is dropped, else a follow-on FINAL, else READY or OFF; a park that waits is entered, from READY or HAND_SET, unless CREDIT
is in its mask and holds, and waits on while another cycle runs. A follow-on carries its ball's result and turn end
(the model's reading, log 11). -/
def Obligations.DoneCompletesTheCycle : Prop :=
  ∀ (l : Fin 16) (c : Cycle) (s : State), s.resetHeld = false → (s.lane l).sup.state = .cycling →
    (s.lane l).sup.cycle = some c → (c.origin = .ball → c.phase = .afterRead) →
    ∃ t, exec (.psDone l) s = .next t ∧ t.chip = s.chip ∧ s.sameLines t ∧ t.directory = s.directory ∧
      (let u := (s.lane l).sup
       let standing : Option PinSet :=
         if c.kind = .final then some fullRack else if c.origin = .manual then u.standing else c.result
       let practice := if c.kind = .final then 1 else u.practice
       (c.restore = none → c.followOn = true →
         (t.lane l).sup =
           { u with
             standing := standing, practice := practice, warmUp := none, handSet := none
             cycle := some {
               kind := .final, phase := .afterRead, origin := .followOn, followOn := false, result := c.result
               restore := none, timer := s.timers.cycle * 1000, pre := none, turnEnded := c.turnEnded } } ∧
         (t.lane l).session = (s.lane l).session) ∧
       (c.restore = none → c.followOn = false →
         ((s.lane l).session.pendingPark = none →
           (t.lane l).session = (s.lane l).session ∧
           (t.lane l).sup =
             { u with
               standing := standing, practice := practice, cycle := none
               state := if s.powerGranted l then .ready else .off }) ∧
         (∀ k, (s.lane l).session.pendingPark = some k → ¬ (k.mask.credit = true ∧ s.creditHolds l = true) →
           (t.lane l).session = (s.lane l).session.asParked k.mask k.cause ∧ t.flagged .dk 4 ∧
           (t.lane l).sup =
             { u with
               standing := standing, practice := practice, cycle := none, servicePower := false, state := .off }) ∧
         (∀ k, (s.lane l).session.pendingPark = some k → k.mask.credit = true → s.creditHolds l = true →
           (t.lane l).session = { (s.lane l).session with pendingPark := none })) ∧
       (∀ target, c.restore = some target → s.powerGranted l = false →
         (s.lane l).session.pendingPark = none →
         (t.lane l).sup = { u with standing := none, practice := practice, cycle := none, state := .off }) ∧
       (∀ target, c.restore = some target → s.powerGranted l = true → target = fullRack →
         (t.lane l).sup =
           { u with
             standing := standing, practice := practice, warmUp := none, handSet := none
             cycle := some (newCycle .final .reball s.timers.cycle none) } ∧
         (t.lane l).session = (s.lane l).session) ∧
       (∀ target, c.restore = some target → s.powerGranted l = true → target ≠ fullRack →
         let byHand : Supervisor :=
           { u with
             standing := none, practice := practice, warmUp := none, cycle := none, state := .handSet
             handSet := some ⟨target, s.now⟩, horn := some ⟨.call, 2000⟩ }
         t.pool = (s.raiseCall ⟨laneNo l, .handSet, 2⟩).pool ∧
         ((s.lane l).session.pendingPark = none →
           (t.lane l).sup = byHand ∧ (t.lane l).session = (s.lane l).session) ∧
         ∀ k, (s.lane l).session.pendingPark = some k →
           (k.mask.credit = true → s.creditHolds l = true →
             (t.lane l).sup = byHand ∧ (t.lane l).session = { (s.lane l).session with pendingPark := none }) ∧
           (¬ (k.mask.credit = true ∧ s.creditHolds l = true) →
             (t.lane l).sup = { byHand with state := .off, handSet := none, servicePower := false } ∧
             (t.lane l).session = (s.lane l).session.asParked k.mask k.cause ∧ t.flagged .dk 4)) ∧
       (t.lane l).meter = (s.lane l).meter ∧ (t.lane l).snapshot = (s.lane l).snapshot) ∧
      ((s.lane l).session.pendingPark = none ∨ (t.lane l).sup.state = .cycling →
        t.ret (pairOf l) = s.ret (pairOf l)) ∧
      (∀ k, (s.lane l).session.pendingPark = some k → (t.lane l).sup.state ≠ .cycling →
        (k.mask.credit = true ∧ s.creditHolds l = true → t.ret (pairOf l) = s.ret (pairOf l)) ∧
        (¬ (k.mask.credit = true ∧ s.creditHolds l = true) → s.returnStopped t (pairOf l))) ∧
      s.sameLanesBut t [l] ∧ s.samePairsBut t [pairOf l] ∧ t.turn (pairOf l) = s.turn (pairOf l)

/-- PS JAM, the cycle timeout, and PS DONE before the READ end a cycle in FAULT (R33); with no cycle in flight each
is ignored. A ball whose READ had not come closes unscored, and the in-flight mark of a SCORED ball's slot is cleared,
every other mark kept (R65, R76). -/
def Obligations.FaultsStopTheCycle : Prop :=
  ∀ (l : Fin 16) (why : FaultReason) (i : Instr) (s : State), s.resetHeld = false →
    (i, why) ∈ [(Instr.psJam l, FaultReason.jam), (.cycleTimeout l, .timeout), (.psDone l, .noRead)] →
    ((s.lane l).sup.state ≠ .cycling → exec i s = .next s) ∧
    ∀ c, (s.lane l).sup.state = .cycling → (s.lane l).sup.cycle = some c →
      (why = .noRead → c.origin = .ball ∧ c.phase = .beforeRead) →
      ∃ t, exec i s = .next t ∧ t.chip = s.chip ∧ s.sameLines t ∧ t.directory = s.directory ∧
        (let u := (s.lane l).sup
         let u' := (t.lane l).sup
         u'.state = .fault ∧ u'.cycle = none ∧ u'.standing = none ∧ u'.practice = u.practice ∧
         u'.horn = some ⟨.call, 2000⟩ ∧
         u'.fault =
           some {
             reason := why, phase := c.phase, origin := c.origin, kind := c.kind
             pre := if c.origin = .manual then u.standing else c.pre
             read := c.result, turnEnded := c.turnEnded, followOn := c.followOn, replaced := c.restore } ∧
         t.flagged .mc 2 ∧
         t.pool =
           (s.raiseCall ⟨laneNo l, .pinsetterFault, match why with | .jam => 0 | .timeout => 1 | .noRead => 2⟩).pool ∧
         (∀ d, c.origin = .ball → c.phase = .beforeRead → u.delivery = some d → d.step = .awaitingRead →
           u'.delivery = none ∧ u'.last = some d ∧ u'.unscoredBalls = bump16 u.unscoredBalls) ∧
         ((c.origin ≠ .ball ∨ c.phase = .afterRead) →
           u'.delivery = u.delivery ∧ u'.last = u.last ∧ u'.unscoredBalls = u.unscoredBalls) ∧
         ((s.lane l).session.pendingPark = none →
           (t.lane l).session = (s.lane l).session ∧ t.ret (pairOf l) = s.ret (pairOf l)) ∧
         (∀ k, (s.lane l).session.pendingPark = some k →
           (k.mask.credit = true ∧ s.creditHolds l = true →
             (t.lane l).session = { (s.lane l).session with pendingPark := none } ∧
               t.ret (pairOf l) = s.ret (pairOf l)) ∧
           (¬ (k.mask.credit = true ∧ s.creditHolds l = true) →
             (t.lane l).session = (s.lane l).session.asParked k.mask k.cause ∧ s.returnStopped t (pairOf l))) ∧
         ∀ j,
           let lands (d : Delivery) : Bool :=
             d.step == .awaitingRead && !d.laneClosed && d.place.any fun a => a.slot == j
           t.slot (pairOf l) j =
             if c.origin = .ball ∧ c.phase = .beforeRead ∧ u.delivery.any lands = true then
               { s.slot (pairOf l) j with inFlight := false }
             else s.slot (pairOf l) j) ∧
        (t.lane l).meter = (s.lane l).meter ∧ (t.lane l).snapshot = (s.lane l).snapshot ∧
        s.sameLanesBut t [l] ∧ s.samePairsBut t [pairOf l] ∧
        t.turn (pairOf l) = { s.turn (pairOf l) with slots := (t.turn (pairOf l)).slots }

/-- WARM-UP END (R30): a held restore, READY, or the set the next ball is due at; ignored outside WARMING. -/
def Obligations.WarmUpEnds : Prop :=
  ∀ (l : Fin 16) (s : State), s.resetHeld = false →
    ((s.lane l).sup.state ≠ .warming → exec (.warmUpEnd l) s = .next s) ∧
    ∀ w, (s.lane l).sup.state = .warming → (s.lane l).sup.warmUp = some w →
      ∃ t, exec (.warmUpEnd l) s = .next t ∧ t.chip = s.chip ∧ s.sameLines t ∧
        t.flagged (.console (pairOf l)) 3 ∧ t.pairs = s.pairs ∧ t.directory = s.directory ∧ s.sameLanesBut t [l] ∧
        (t.lane l).session = (s.lane l).session ∧ (t.lane l).meter = (s.lane l).meter ∧
        (let u := (s.lane l).sup
         let final (origin : CycleOrigin) : Prop :=
           (t.lane l).sup =
             { u with
               state := .cycling, warmUp := none, handSet := none
               cycle := some (newCycle .final origin s.timers.cycle none) } ∧ t.pool = s.pool
         let byHand (target : PinSet) : Prop :=
           (t.lane l).sup =
             { u with
               state := .handSet, warmUp := none, cycle := none, standing := none
               handSet := some ⟨target, s.now⟩, horn := some ⟨.call, 2000⟩ } ∧
           t.pool = (s.raiseCall ⟨laneNo l, .handSet, 2⟩).pool
         (∀ target, w.restore = some target → target = fullRack → final .reball) ∧
         (∀ target, w.restore = some target → target ≠ fullRack → byHand target) ∧
         (w.restore = none → u.standing ≠ none →
           (t.lane l).sup = { u with state := .ready, warmUp := none } ∧ t.pool = s.pool) ∧
         (w.restore = none → u.standing = none → s.upSlot l = none → final .wake) ∧
         (∀ i sh b, w.restore = none → u.standing = none → s.upSlot l = some i →
           (s.slot (pairOf l) i).sheet = some sh →
           (frameAt sh.frames (s.slot (pairOf l) i).frame).balls.getLast? = some b →
           rackOf ((s.slot (pairOf l) i).frame == 10) (frameAt sh.frames (s.slot (pairOf l) i).frame).balls =
             .standing →
           b.after ≠ fullRack → byHand b.after) ∧
         (∀ i sh b, w.restore = none → u.standing = none → s.upSlot l = some i →
           (s.slot (pairOf l) i).sheet = some sh →
           (frameAt sh.frames (s.slot (pairOf l) i).frame).balls.getLast? = some b →
           (rackOf ((s.slot (pairOf l) i).frame == 10) (frameAt sh.frames (s.slot (pairOf l) i).frame).balls =
               .fresh ∨ b.after = fullRack) → final .wake) ∧
         (∀ i sh, w.restore = none → u.standing = none → s.upSlot l = some i →
           (s.slot (pairOf l) i).sheet = some sh →
           (frameAt sh.frames (s.slot (pairOf l) i).frame).balls = [] → final .wake))

/-! ## The ball return -/

/-- LIFT ARRIVE is matched against the oldest record, whichever lane it came from (R49). -/
def Obligations.LiftArriveMatchesTheOldest : Prop :=
  ∀ (p : Fin 8) (s : State), s.resetHeld = false →
    ((s.ret p).transit = [] →
      exec (.liftArrive p) s = .next (s.modRet p fun r => { r with stray := r.stray + 1 })) ∧
    ∀ x rest, (s.ret p).transit = x :: rest →
      ∃ t, exec (.liftArrive p) s = .next t ∧ t.chip = s.chip ∧ s.sameLines t ∧ s.samePairsBut t [p] ∧
        t.turn p = s.turn p ∧ t.directory = s.directory ∧ (∀ l, s.sameLaneButHorn t l) ∧
        (x.overdue = false →
          t.ret p =
            (let r : ReturnMonitor := { s.ret p with transit := rest, matched := (s.ret p).matched + 1 }
             { r with idle := s.idleAfter p r }) ∧
          t.lanes = s.lanes ∧ t.ports = s.ports ∧ t.pool = s.pool) ∧
        (x.overdue = true →
          t.flagged .mc 4 ∧ (t.ret p).transit = rest ∧ (t.ret p).matched = (s.ret p).matched + 1 ∧
          (t.ret p).lift = (s.ret p).lift ∧ (t.ret p).created = (s.ret p).created ∧
          (t.ret p).writtenOff = (s.ret p).writtenOff ∧ (t.ret p).stray = (s.ret p).stray ∧
          (t.ret p).episode x.lane = decide (∃ y ∈ rest, y.lane = x.lane ∧ y.overdue = true) ∧
          (t.ret p).episode x.lane.other = (s.ret p).episode x.lane.other ∧
          ((s.ret p).episode x.lane = true → t.lanes = s.lanes ∧ t.pool = s.pool))

/-- RACK FULL ON and RACK FULL OFF (R57, R60): the level is kept, a RUNNING lift pauses and a paused one runs again.
LIFT OVERLOAD and its fall (R58, R45, R180): a lift that runs or is paused enters STALL, with one call, the flag and
both horns; in OFF and STALL the level alone is kept. A lift that a DECK has started in the settings load enters STALL as
well, with no call (R63, R58, R184: the model's reading, log 35). -/
def Obligations.LiftInputsMoveTheLift : Prop :=
  (∀ (p : Fin 8) (s : State), s.resetHeld = false →
     exec (.rackFullOn p) s =
       .next (s.modRet p fun r =>
         { r with
           rackFull := true, lift := if r.lift = .running then .fullPause else r.lift
           idle := if r.lift = .running then none else r.idle }) ∧
     exec (.rackFullOff p) s =
       .next (s.modRet p fun r =>
         let r : ReturnMonitor := { r with rackFull := false, lift := if r.lift = .fullPause then .running else r.lift }
         { r with idle := s.idleAfter p r })) ∧
  (∀ (p : Fin 8) (s : State), s.resetHeld = false →
     exec (.liftOverloadLow p) s = .next (s.modRet p fun r => { r with overload := false }) ∧
     (((s.ret p).lift = .off ∨ (s.ret p).lift = .stall) →
       exec (.liftOverload p) s = .next (s.modRet p fun r => { r with overload := true })) ∧
     (((s.ret p).lift = .running ∨ (s.ret p).lift = .fullPause) →
       ∃ t, exec (.liftOverload p) s = .next t ∧ t.chip = s.chip ∧ s.sameLines t ∧ s.samePairsBut t [p] ∧
         t.turn p = s.turn p ∧ t.directory = s.directory ∧
         t.ret p = { s.ret p with overload := true, lift := .stall, idle := none } ∧ t.flagged .mc 6 ∧
         t.pool = (s.raiseCall ⟨2 * p.val + 1, .liftStall, 0⟩).pool ∧ (s.loading = true → t.pool = s.pool) ∧
         ∀ l,
           t.lane l =
             if pairOf l = p then { s.lane l with sup := { (s.lane l).sup with horn := some ⟨.call, 2000⟩ } }
             else s.lane l))

/-- Records that reach the return timeout (R52, R53): none while ages are frozen; a lane with an overdue record has
its episode open, and an episode that opens raises one call unless the lift is STALL. The command names its records by
sequence number (log 5), and the odd lane's call is raised first (log 22). -/
def Obligations.OverdueRecordsOpenEpisodes : Prop :=
  ∀ (p : Fin 8) (seqs : List (BitVec 16)) (s : State), s.resetHeld = false →
    (((s.ret p).lift = .off ∨ (s.ret p).lift = .fullPause) → exec (.recordOverdue p seqs) s = .next s) ∧
    (((s.ret p).lift = .running ∨ (s.ret p).lift = .stall) →
      ∃ t, exec (.recordOverdue p seqs) s = .next t ∧ t.chip = s.chip ∧ s.sameLines t ∧ s.samePairsBut t [p] ∧
        t.turn p = s.turn p ∧ t.directory = s.directory ∧
        (let r := s.ret p
         let list := r.transit.map fun x =>
           if x.seq ∈ seqs ∧ x.overdue = false then
             { x with overdue := true, age := max x.age (s.retSettings.timeout * 1000) }
           else x
         let count (sd : Side) : Nat := list.countP fun x => x.lane == sd && x.overdue
         let opens (sd : Side) : Prop := 0 < count sd ∧ r.episode sd = false
         let call (sd : Side) (u : State) : State :=
           if r.lift = .running ∧ 0 < count sd ∧ r.episode sd = false then
             u.raiseCall ⟨laneNo (laneAt p sd), .returnOverdue, count sd⟩
           else u
         (t.ret p).transit = list ∧ (t.ret p).lift = r.lift ∧ (t.ret p).created = r.created ∧
         (t.ret p).matched = r.matched ∧ (t.ret p).writtenOff = r.writtenOff ∧ (t.ret p).stray = r.stray ∧
         (t.ret p).nextSeq = r.nextSeq ∧ (t.ret p).rackFull = r.rackFull ∧ (t.ret p).overload = r.overload ∧
         (t.ret p).idle = r.idle ∧
         (∀ sd, (t.ret p).episode sd = decide (0 < count sd)) ∧ t.pool = (call .even (call .odd s)).pool ∧
         (∀ sd, opens sd → r.lift = .running →
           t.flagged .mc 3 ∧ (t.lane (laneAt p sd)).sup.horn = some ⟨.call, 2000⟩) ∧
         (∀ sd, ¬ (opens sd ∧ r.lift = .running) → t.lane (laneAt p sd) = s.lane (laneAt p sd))) ∧
        ∀ l, s.sameLaneButHorn t l)

/-- CLEAR OVERDUE (R54). LIFT RESTART (R59). -/
def Obligations.OverdueAndStallAreCleared : Prop :=
  (∀ (q : Port) (pair lane : Nat) (s : State), s.idleAt q →
     (q ≠ .mc → exec (.clearOverdue q pair lane) s = .next (s.replying q 0x1E .denied [])) ∧
     (q = .mc →
       (pair = 0 ∨ 8 < pair ∨ lane ≠ 0 ∧ lane ≠ 2 * pair - 1 ∧ lane ≠ 2 * pair) →
       exec (.clearOverdue q pair lane) s = .next (s.replying q 0x1E .range [])) ∧
     ∀ p : Fin 8, q = .mc → pair = pairNo p → (lane = 0 ∨ lane = 2 * p.val + 1 ∨ lane = 2 * p.val + 2) →
       (s.loading = true → exec (.clearOverdue q pair lane) s = .next (s.replying q 0x1E .busy [])) ∧
       (s.loading = false →
         let scope (sd : Side) : Bool := lane == 0 || lane == laneNo (laneAt p sd)
         let gone (x : Transit) : Bool := x.overdue && scope x.lane
         let n := (s.ret p).transit.countP gone
         ∃ t, exec (.clearOverdue q pair lane) s = .next t ∧ t.chip = s.chip ∧ s.samePairsBut t [p] ∧
           t.turn p = s.turn p ∧ t.lanes = s.lanes ∧ t.directory = s.directory ∧ t.pool = s.pool ∧
           t.ports = (s.replying q 0x1E .ok (byte1 n)).ports ∧
           (let r := { s.ret p with
              transit := (s.ret p).transit.filter fun x => !gone x
              writtenOff := (s.ret p).writtenOff + BitVec.ofNat 32 n
              episodeOdd := if scope .odd then false else (s.ret p).episodeOdd
              episodeEven := if scope .even then false else (s.ret p).episodeEven }
            t.ret p = { r with idle := s.idleAfter p r }))) ∧
  (∀ (q : Port) (pair : Nat) (s : State), s.idleAt q →
     (q ≠ .mc → exec (.liftRestart q pair) s = .next (s.replying q 0x1F .denied [])) ∧
     (q = .mc → (pair = 0 ∨ 8 < pair) → exec (.liftRestart q pair) s = .next (s.replying q 0x1F .range [])) ∧
     ∀ p : Fin 8, q = .mc → pair = pairNo p →
       (s.loading = true → exec (.liftRestart q pair) s = .next (s.replying q 0x1F .busy [])) ∧
       (s.loading = false → ((s.ret p).lift ≠ .stall ∨ (s.ret p).overload = true) →
         exec (.liftRestart q pair) s = .next (s.replying q 0x1F .state [])) ∧
       (s.loading = false → (s.ret p).lift = .stall → (s.ret p).overload = false →
         exec (.liftRestart q pair) s =
           .next ((s.modRet p fun r =>
             let r : ReturnMonitor := { r with lift := if r.rackFull then .fullPause else .running }
             { r with idle := s.idleAfter p r }).replying q 0x1F .ok [])))

/-- SET RETURN SETTINGS and LIFT IDLE EXPIRY (R61, R53, R60): the settings given are written, and a new return timeout
makes overdue each record whose age already reaches it, with the episode rule for every lane: an episode that opens raises
a call, sets the mechanic's flag and sounds the CALL tone, unless the lift is STALL. The calls are raised in order of
pair, and within a pair the odd lane's first (the model's reading, log 22). -/
def Obligations.ReturnSettingsApplyAtOnce : Prop :=
  ∀ (q : Port) (timeout idle : Option Nat) (s : State),
    (s.canServe q → q.isConsole = false → (∀ n, timeout = some n → 10 ≤ n ∧ n ≤ 120) →
      (∀ n, idle = some n → 30 ≤ n ∧ n ≤ 600) →
      ∃ t, exec (.setReturnSettings q timeout idle) s = .next t ∧ s.answers t q 0x20 .ok [] ∧
        t.retSettings = ⟨timeout.getD s.retSettings.timeout, idle.getD s.retSettings.idle⟩ ∧
        t.chip = { s with retSettings := t.retSettings }.chip ∧ t.directory = s.directory ∧
        (∀ l, s.sameLaneButHorn t l) ∧
        (timeout = none → t.lanes = s.lanes ∧ t.pairs = s.pairs ∧ t.pool = s.pool) ∧
        ∀ n, timeout = some n →
          let list (p : Fin 8) : List Transit :=
            (s.ret p).transit.map fun x => if n * 1000 ≤ x.age then { x with overdue := true } else x
          let count (p : Fin 8) (sd : Side) : Nat := (list p).countP fun x => x.lane == sd && x.overdue
          let opens (p : Fin 8) (sd : Side) : Prop :=
            0 < count p sd ∧ (s.ret p).episode sd = false ∧ (s.ret p).lift ≠ .stall
          let call (p : Fin 8) (u : State) (sd : Side) : State :=
            if 0 < count p sd ∧ (s.ret p).episode sd = false ∧ (s.ret p).lift ≠ .stall then
              u.raiseCall ⟨laneNo (laneAt p sd), .returnOverdue, count p sd⟩
            else u
          (∀ p, t.turn p = s.turn p ∧ (t.ret p).transit = list p ∧
            (∀ sd, (t.ret p).episode sd = decide (∃ x ∈ list p, x.lane = sd ∧ x.overdue = true)) ∧
            t.ret p =
              { s.ret p with
                transit := (t.ret p).transit, episodeOdd := (t.ret p).episodeOdd
                episodeEven := (t.ret p).episodeEven }) ∧
          t.pool = (allPairs.foldl (fun u p => [Side.odd, .even].foldl (call p) u) s).pool ∧
          (∀ p sd, opens p sd → t.flagged .mc 3 ∧ (t.lane (laneAt p sd)).sup.horn = some ⟨.call, 2000⟩) ∧
          (∀ p sd, ¬ opens p sd → t.lane (laneAt p sd) = s.lane (laneAt p sd)) ∧
          ((∀ p sd, ¬ opens p sd) → t.pool = s.pool ∧ t.ports = (s.replying q 0x20 .ok []).ports)) ∧
    (s.resetHeld = false → ∀ p,
      ((s.ret p).idle = none → exec (.liftIdleExpiry p) s = .next s) ∧
      ((s.ret p).idle ≠ none →
        exec (.liftIdleExpiry p) s = .next (s.modRet p fun r => { r with lift := .off, idle := none })))

/-! ## Rosters -/

/-- ADD BOWLER (R67, R132, R134): the slot takes the number, the Directory looks it up, and the turn joins the tail
of the home lane's queue; a queue that is not frozen then runs its head rules. -/
def Obligations.AddBowlerFillsASlot : Prop :=
  ∀ (p : Fin 8) (i : Fin 12) (number : Nat) (q : Port) (s : State), s.canServe q → q ≠ .mc → ownsPair q p →
    (s.slot p i).state = .empty → 1 ≤ number → number ≤ 65534 → s.findSlot number = none →
    ∃ t, exec (.addBowler q (pairNo p) (slotNo i) number) s = .next t ∧ s.answers t q 0x21 .ok [] ∧
      t.chip = s.chip ∧ t.pool = s.pool ∧ t.flagged (.console p) 2 ∧
      (t.slot p i).bowler = some number ∧ (t.slot p i).away = false ∧ (t.slot p i).finished = 0 ∧
      (t.slot p i).retained = [] ∧ (t.slot p i).inFlight = false ∧
      i ∈ (t.turn p).queue (homeSide i) ∧ i ∉ (t.turn p).queue (homeSide i).other ∧
      ((t.slot p i).state = .queued ∨ s.running (laneAt p (homeSide i)) = true ∧ (t.slot p i).state = .up) ∧
      (∀ l, pairOf l = p → (t.lane l).snapshot = none) ∧
      (∀ l, l ≠ laneAt p (homeSide i) → s.sameLaneButSnapshot t l) ∧ (∀ l, pairOf l ≠ p → t.lane l = s.lane l) ∧
      s.samePairsBut t [p] ∧ s.sameReturnButIdle t p ∧
      (s.running (laneAt p (homeSide i)) = false →
        (∀ l, s.sameLaneButSnapshot t l) ∧
        (t.turn p).queue (homeSide i) = ((s.turn p).queue (homeSide i)).filter (· != i) ++ [i] ∧
        (∀ j, j ≠ i → t.slot p j = s.slot p j) ∧
        (∀ k, s.directory.find number = some k →
          t.slot p i =
            { Slot.empty with bowler := some number, state := .queued, source := .entry } ∧
          t.directory.entries[k].locked = true ∧ t.directory.entries[k].used = true ∧
          t.directory.fetch = s.directory.fetch) ∧
        (s.directory.find number = none → s.directory.cover number ≠ none →
          t.slot p i = { Slot.empty with bowler := some number, state := .queued, source := .range } ∧
          t.directory = s.directory) ∧
        (s.directory.find number = none → s.directory.cover number = none → s.directory.fetch.length < 16 →
          t.slot p i =
            { Slot.empty with bowler := some number, state := .queued, source := .pending, fetch := .requested } ∧
          t.directory = { s.directory with fetch := s.directory.fetch ++ [number] }) ∧
        (s.directory.find number = none → s.directory.cover number = none → 16 ≤ s.directory.fetch.length →
          t.slot p i =
            { Slot.empty with bowler := some number, state := .queued, source := .pending, fetch := .deferred } ∧
          t.directory = s.directory))

/-- REMOVE BOWLER (R68, R145): the slot is cleared, its turn leaves its queue and its entry is unlocked; where it
headed no queue, no other slot and no lane moves. The number of a PENDING, REQUESTED slot leaves the fetch queue, the
others in their order, and while the queue has room the DEFERRED slots, the first in order of pair and slot first, put
their numbers at its tail and become REQUESTED (R134, R135); of any other slot the fetch queue stays. Head rules that the
removal runs may add a number after these (R133). -/
def Obligations.RemoveBowlerClearsTheSlot : Prop :=
  ∀ (p : Fin 8) (i : Fin 12) (q : Port) (s : State), s.canServe q → q ≠ .mc → ownsPair q p →
    (s.slot p i).state ≠ .empty →
    ((s.slot p i).inFlight = true →
      exec (.removeBowler q (pairNo p) (slotNo i)) s = .next (s.replying q 0x22 .state [])) ∧
    ((s.slot p i).inFlight = false →
      ∃ t, exec (.removeBowler q (pairNo p) (slotNo i)) s = .next t ∧ s.answers t q 0x22 .ok [] ∧
        t.chip = s.chip ∧ t.pool = s.pool ∧ t.flagged (.console p) 1 ∧ t.flagged (.console p) 2 ∧
        t.slot p i = Slot.empty ∧ (∀ sd, i ∉ (t.turn p).queue sd) ∧ (t.turn p).mode = (s.turn p).mode ∧
        (t.turn p).settings = (s.turn p).settings ∧ s.sameRecords t ∧
        (∀ number k, (s.slot p i).bowler = some number → (s.slot p i).source = .entry →
          s.directory.find number = some k → t.directory.entries[k].locked = false) ∧
        (∀ l, pairOf l = p → (t.lane l).snapshot = none) ∧ (∀ l, pairOf l ≠ p → t.lane l = s.lane l) ∧
        (∀ o, o ≠ p → t.ret o = s.ret o ∧ ∀ j, s.sameSlotButFetch t o j) ∧ s.sameReturnButIdle t p ∧
        (let idle := (s.turn p).queueOdd.head? ≠ some i ∧ (s.turn p).queueEven.head? ≠ some i
         let x := s.slot p i
         let leaves (number : Nat) : Prop :=
           x.bowler = some number ∧ x.source = .pending ∧ x.fetch = .requested ∧ number ∈ s.directory.fetch
         (idle →
           (∀ sd, (t.turn p).queue sd = ((s.turn p).queue sd).filter (· != i)) ∧
           (∀ j, j ≠ i → s.sameSlotButFetch t p j) ∧ ∀ l, s.sameLaneButSnapshot t l) ∧
         (∀ number, leaves number →
           let kept := s.directory.fetch.filter (· != number)
           let waiting := (allPairs.flatMap fun o => allSlots.map fun j => (o, j)).filter fun a =>
             (s.slot a.1 a.2).fetch == .deferred
           let taken := waiting.take (16 - kept.length)
           let queue := kept ++ taken.map fun a => (s.slot a.1 a.2).bowler.getD 0
           queue <+: t.directory.fetch ∧ (idle → t.directory.fetch = queue) ∧
           ∀ o j, o ≠ p ∨ j ≠ i →
             ((o, j) ∈ taken → (t.slot o j).fetch = .requested ∧ t.flagged (.console o) 2) ∧
             ((o, j) ∉ taken → o ≠ p ∨ idle → (t.slot o j).fetch = (s.slot o j).fetch)) ∧
         ((∀ number, ¬ leaves number) →
           s.directory.fetch <+: t.directory.fetch ∧ (idle → t.directory.fetch = s.directory.fetch) ∧
           ∀ o j, o ≠ p ∨ idle → o ≠ p ∨ j ≠ i → t.slot o j = s.slot o j)))

/-- AWAY and BACK (R69, R70): the mark is set or cleared; a slot UP at the first ball of its frame becomes QUEUED; a
slot that heads no queue moves nothing else. -/
def Obligations.AwayAndBackMarkTheSlot : Prop :=
  ∀ (p : Fin 8) (i : Fin 12) (q : Port) (s : State), s.canServe q → q ≠ .mc → ownsPair q p →
    (((s.slot p i).state = .empty ∨ (s.slot p i).state = .done ∨
        (s.slot p i).state = .up ∧ ((s.slot p i).ball ≠ 1 ∨ (s.slot p i).inFlight = true)) →
      exec (.away q (pairNo p) (slotNo i)) s = .next (s.replying q 0x23 .state [])) ∧
    ((s.slot p i).state = .empty →
      exec (.back q (pairNo p) (slotNo i)) s = .next (s.replying q 0x24 .state [])) ∧
    (((s.slot p i).state = .queued ∨
        (s.slot p i).state = .up ∧ (s.slot p i).ball = 1 ∧ (s.slot p i).inFlight = false) →
      ∃ t, exec (.away q (pairNo p) (slotNo i)) s = .next t ∧ s.answers t q 0x23 .ok [] ∧ t.chip = s.chip ∧
        t.pool = s.pool ∧ t.flagged (.console p) 2 ∧
        t.slot p i = { s.slot p i with away := true, state := .queued } ∧
        (∀ sd j, j ∈ (t.turn p).queue sd ↔ j ∈ (s.turn p).queue sd) ∧ s.sameRecords t ∧
        (∀ l, pairOf l = p → (t.lane l).snapshot = none) ∧ (∀ l, pairOf l ≠ p → t.lane l = s.lane l) ∧
        s.samePairsBut t [p] ∧ s.sameReturnButIdle t p ∧
        ((s.turn p).queueOdd.head? ≠ some i → (s.turn p).queueEven.head? ≠ some i →
          (∀ j, j ≠ i → t.slot p j = s.slot p j) ∧ (∀ l, s.sameLaneButSnapshot t l) ∧ t.directory = s.directory)) ∧
    ((s.slot p i).state ≠ .empty →
      ∃ t, exec (.back q (pairNo p) (slotNo i)) s = .next t ∧ s.answers t q 0x24 .ok [] ∧ t.chip = s.chip ∧
        t.pool = s.pool ∧ t.flagged (.console p) 2 ∧ (t.slot p i).away = false ∧
        (t.slot p i).bowler = (s.slot p i).bowler ∧ (t.slot p i).finished = (s.slot p i).finished ∧
        (∀ sd j, j ∈ (t.turn p).queue sd ↔ j ∈ (s.turn p).queue sd) ∧ s.sameRecords t ∧
        (∀ l, pairOf l = p → (t.lane l).snapshot = none) ∧ (∀ l, pairOf l ≠ p → t.lane l = s.lane l) ∧
        s.samePairsBut t [p] ∧ s.sameReturnButIdle t p ∧
        ((s.slot p i).away = false →
          t.turn p = s.turn p ∧ (∀ l, s.sameLaneButSnapshot t l) ∧ t.directory = s.directory))

/-- SET PAIR MODE (R71): refused while a game is in progress or a ball in flight; taken, the mode is written and
every turn stands on the starting lane of its game. -/
def Obligations.PairModeMovesTurns : Prop :=
  ∀ (p : Fin 8) (mode : Nat) (q : Port) (s : State), s.canServe q → q ≠ .mc → ownsPair q p → mode ≤ 1 →
    ((∃ i, (s.slot p i).stage = .inProgress ∨ (s.slot p i).inFlight = true) →
      exec (.setPairMode q (pairNo p) mode) s = .next (s.replying q 0x25 .state [])) ∧
    ((∀ i, (s.slot p i).stage ≠ .inProgress ∧ (s.slot p i).inFlight = false) →
      (∀ i, i ∈ (s.turn p).queueOdd → i ∉ (s.turn p).queueEven) →
      ∃ t, exec (.setPairMode q (pairNo p) mode) s = .next t ∧ s.answers t q 0x25 .ok [] ∧ t.chip = s.chip ∧
        t.pool = s.pool ∧ t.flagged (.console p) 2 ∧ (t.turn p).mode = (if mode = 0 then .opened else .alternate) ∧
        (t.turn p).settings = (s.turn p).settings ∧
        (∀ i sd, i ∈ (t.turn p).queue sd ↔
          (i ∈ (s.turn p).queueOdd ∨ i ∈ (s.turn p).queueEven) ∧
            startSide (if mode = 0 then .opened else .alternate) i
              (if (s.slot p i).stage = .waiting then nextGame (s.slot p i).game else (s.slot p i).game.getD 1) = sd) ∧
        (∀ i, (t.slot p i).bowler = (s.slot p i).bowler ∧ (t.slot p i).away = (s.slot p i).away ∧
          (t.slot p i).finished = (s.slot p i).finished ∧ (t.slot p i).retained = (s.slot p i).retained) ∧
        (∀ l, pairOf l = p → (t.lane l).snapshot = none) ∧ (∀ l, pairOf l ≠ p → t.lane l = s.lane l) ∧
        s.samePairsBut t [p] ∧ s.sameReturnButIdle t p ∧ s.sameRecords t)

/-- SET PAIR SETTINGS (R83, R80): the values given are written; a new series limit takes a slot out of DONE that it
no longer stops, puts every WAITING slot that it stops into DONE, unless the slots that leave before it bring its turn up
and start its game, and puts no other slot into DONE. -/
def Obligations.PairSettingsActOnSlots : Prop :=
  ∀ (p : Fin 8) (games base percent cap : Option Nat) (q : Port) (s : State), s.canServe q → q ≠ .mc → ownsPair q p →
    (q.isConsole = true → base = none ∧ percent = none ∧ cap = none) → (∀ n, games = some n → n ≤ 9) →
    (∀ n, base = some n → n ≤ 300) → (∀ n, percent = some n → n ≤ 100) → (∀ n, cap = some n → n ≤ 300) →
    (∀ i, (s.slot p i).state = .done → i ∉ (s.turn p).queueOdd ∧ i ∉ (s.turn p).queueEven) →
    ∃ t, exec (.setPairSettings q (pairNo p) games base percent cap) s = .next t ∧ s.answers t q 0x26 .ok [] ∧
      t.chip = s.chip ∧ t.pool = s.pool ∧ t.flagged (.console p) 2 ∧
      (t.turn p).settings =
        ⟨games.getD (s.turn p).settings.games, base.getD (s.turn p).settings.base,
          percent.getD (s.turn p).settings.percent, cap.getD (s.turn p).settings.cap⟩ ∧
      (∀ i, (t.slot p i).finished = (s.slot p i).finished ∧ (t.slot p i).bowler = (s.slot p i).bowler) ∧
      (∀ i, (s.slot p i).stage ≠ .waiting → (s.slot p i).state ≠ .done →
        (t.slot p i).state ≠ .done ∧ (t.slot p i).stage = (s.slot p i).stage) ∧
      (∀ i n, games = some n → (s.slot p i).state = .done →
        ((t.slot p i).state = .done ↔ n ≠ 0 ∧ n ≤ (s.slot p i).finished)) ∧
      (∀ i n, games = some n → (s.slot p i).state ≠ .done → (t.slot p i).state = .done →
        n ≠ 0 ∧ n ≤ (s.slot p i).finished) ∧
      (∀ i n, games = some n → n ≠ 0 → n ≤ (s.slot p i).finished → (s.slot p i).state ≠ .empty →
        (s.slot p i).stage = .waiting →
        ((t.slot p i).state = .done ∧ i ∉ (t.turn p).queueOdd ∧ i ∉ (t.turn p).queueEven) ∨
          ((t.slot p i).state = .up ∧ (t.slot p i).stage = .started ∧
            ∃ l, pairOf l = p ∧ s.running l = true ∧ i ∈ (s.turn p).queue (sideOf l))) ∧
      (games = none →
        t.lanes = s.lanes ∧ t.directory = s.directory ∧ t.ret p = s.ret p ∧
        t.turn p = { s.turn p with settings := (t.turn p).settings }) ∧
      (∀ l, pairOf l ≠ p → t.lane l = s.lane l) ∧ s.samePairsBut t [p] ∧ s.sameReturnButIdle t p

/-- The starting lane of a game and the number of the next game (R79, R64). The head rules of a lane's queue (R72 to
R74): nothing on a frozen queue or with a slot UP; a queue in which every slot is away stalls; else the first slot
not away comes to the head, and is UP with its game under way, or with its game started where the charge is granted
or paid already, or waits with the lane in CLOSING. A granted charge is taken from the balance and added to charged in a
GAMES session, and the game is counted (R159, R160). At a game start the average of a RANGE slot is renewed: where no enabled
range entry covers its number, the number joins the fetch queue, or is deferred with the queue full, and the slot is
PENDING (R133); the handicap is 0, PENDING or worked out from the entry or the range entry with the pair settings in force,
by the average source (R75 step 4, R104, R105); and the lane's snapshot has its game started mark (R75 step 5, R113). -/
def Obligations.HeadRulesSettleTheHead : Prop :=
  (∀ (i : Fin 12) (game : Nat),
     (i.val < 6 →
       startSide .opened i game = .odd ∧ (game % 2 = 1 → startSide .alternate i game = .odd) ∧
         (game % 2 = 0 → startSide .alternate i game = .even)) ∧
     (6 ≤ i.val →
       startSide .opened i game = .even ∧ (game % 2 = 1 → startSide .alternate i game = .even) ∧
         (game % 2 = 0 → startSide .alternate i game = .odd)) ∧
     nextGame none = 1 ∧ nextGame (some 99) = 1 ∧ (game ≠ 99 → nextGame (some game) = game + 1) ∧
     ∀ finished, (limitReached 0 finished = false) ∧ (game ≠ 0 → limitReached game finished = decide (game ≤ finished))) ∧
  (∀ (l : Fin 16) (s : State),
     let p := pairOf l
     let queue := (s.turn p).queue (sideOf l)
     let t := s.headRules l
     (s.running l = false → t = s) ∧
     (s.upSlot l ≠ none → t = s) ∧
     (s.running l = true → s.upSlot l = none → (∀ i ∈ queue, (s.slot p i).away = true) → t.pairs = s.pairs) ∧
     ∀ front i rest, s.running l = true → s.upSlot l = none → queue = front ++ i :: rest →
       (∀ j ∈ front, (s.slot p j).away = true) → (s.slot p i).away = false →
       ((s.slot p i).stage ≠ .waiting →
         (t.turn p).queue (sideOf l) = i :: rest ++ front ∧ t.slot p i = { s.slot p i with state := .up } ∧
         (t.lane l).sup.practice = 1 ∧ (t.lane l).meter = (s.lane l).meter ∧ t.session l = s.session l) ∧
       ((s.slot p i).stage = .waiting → s.session l = .closing →
         (t.turn p).queue (sideOf l) = i :: rest ++ front ∧ t.slot p i = s.slot p i ∧ t.lanes = s.lanes) ∧
       ((s.slot p i).stage = .waiting → s.session l = .opened →
         ((s.turn p).paid (sideOf l) = true ∨
           ∃ m, (s.lane l).meter = some m ∧
             (m.kind = .time ∨ m.mode = .tab ∨ (s.priceOf l).game ≤ m.balance)) →
         (t.turn p).queue (sideOf l) = i :: rest ++ front ∧ (t.turn p).paid (sideOf l) = false ∧
         (t.slot p i).state = .up ∧ (t.slot p i).stage = .started ∧ (t.slot p i).frame = 1 ∧ (t.slot p i).ball = 1 ∧
         (t.slot p i).game = some (nextGame (s.slot p i).game) ∧
         (t.slot p i).sheet = some (Sheet.new (nextGame (s.slot p i).game)) ∧ (t.lane l).sup.practice = 1 ∧
         t.session l = .opened ∧
         (t.lane l).snapshot = ((s.lane l).snapshot.map fun n => { n with gameStarted := true }) ∧
         (∀ j, j ≠ i → t.slot p j = s.slot p j) ∧
         (let x := s.slot p i
          let y := t.slot p i
          let dir := s.directory
          let uncovered (number : Nat) : Prop :=
            x.source = .range ∧ x.bowler = some number ∧ dir.cover number = none
          y =
            { x with
              state := .up, game := y.game, stage := .started, frame := 1, ball := 1, sheet := y.sheet
              handicap := y.handicap, source := y.source, fetch := y.fetch } ∧
          (∀ number, uncovered number →
            y.source = .pending ∧ y.handicap = .pending ∧
            (dir.fetch.length < 16 →
              y.fetch = .requested ∧ t.directory = { dir with fetch := dir.fetch ++ [number] }) ∧
            (16 ≤ dir.fetch.length → y.fetch = .deferred ∧ t.directory = dir)) ∧
          ((∀ number, ¬ uncovered number) → y.source = x.source ∧ y.fetch = x.fetch ∧ t.directory = dir) ∧
          (x.source = .none → y.handicap = .value 0) ∧ (x.source = .pending → y.handicap = .pending) ∧
          (∀ number k, x.source = .entry → x.bowler = some number → dir.find number = some k →
            y.handicap = .value (entryHandicap dir.entries[k].average dir.entries[k].override (s.turn p).settings)) ∧
          ∀ number k, x.source = .range → x.bowler = some number → dir.cover number = some k →
            y.handicap = .value (computedHandicap dir.ranges[k].average (s.turn p).settings)) ∧
         ((s.turn p).paid (sideOf l) = true → (t.lane l).meter = (s.lane l).meter) ∧
         ∀ m, (s.turn p).paid (sideOf l) = false → (s.lane l).meter = some m →
           let price := (s.priceOf l).game
           let counted := { m with games := min (m.games + 1) 65535 }
           let charged : Meter :=
             { counted with
               charged := min (m.charged + price) 9999999
               saturated := m.saturated || decide (9999999 < m.charged + price) }
           (t.lane l).meter = some
             (if m.kind = .time then counted
              else if m.mode = .tab then charged
              else { charged with balance := m.balance - price })) ∧
       ∀ m, (s.slot p i).stage = .waiting → s.session l = .opened → (s.turn p).paid (sideOf l) = false →
         (s.lane l).meter = some m → m.kind = .games → m.mode = .prepaid → m.balance < (s.priceOf l).game →
         s.billing.back ≠ 0 →
         t.session l = .closing ∧ t.flagged .dk 3 ∧ t.slot p i = s.slot p i ∧
         (t.lane l).meter =
           some { m with declined := some .game, phase := .back, left := s.billing.back, unit := none })

/-! ## Scoring -/

/-- Racks, counts, kinds and scores of frames, their resolution, and handicaps (R90 to R93, R97 to R99, R104). A ball
taken is the last entry of its frame, whose kind follows; then the frames resolve from the oldest unresolved on, each
cumulative the one before plus the frame's score, and the attempt stops at the first frame that cannot, a frame already
resolved standing as it was. R99: a resolution keeps the cumulatives rising and at most 30 times the frame's number, and
leaves at most two of the completed frames awaiting bonus balls. -/
def Obligations.SheetTables : Prop :=
  (∀ (a b : BallEntry),
    (∀ tenth, rackOf tenth [] = .fresh) ∧ (∀ tenth, a.foul = true → rackOf tenth [a] = .fresh) ∧
    (a.foul = false → rackOf false [a] = .standing) ∧
    (a.foul = false → rackOf true [a] = if a.rack = .fresh ∧ a.down = 10 then .fresh else .standing) ∧
    (¬ (a.rack = .fresh ∧ a.down = 10) → rackOf true [a, b] = .fresh) ∧
    (a.rack = .fresh → a.down = 10 →
      rackOf true [a, b] = if b.foul = true ∨ (b.rack = .fresh ∧ b.down = 10) then .fresh else .standing)) ∧
  (∀ (tenth : Bool) (balls : List BallEntry) (pre after : PinSet) (m : Marks),
    let e := makeEntry tenth balls pre after m
    let room := if e.rack = .fresh then 10 else 10 - ((balls.map BallEntry.down).getLast?.getD 0)
    e.rack = rackOf tenth balls ∧ e.pre = pre ∧ e.after = after ∧ e.foul = m.foul ∧ e.corrected = false ∧
    (m.foul = true → e.down = 0 ∧ e.senseOdd = m.senseOdd) ∧
    (m.foul = false → e.down = min (pinCount pre - pinCount after) room ∧
      e.senseOdd = (m.senseOdd || decide (room < pinCount pre - pinCount after)))) ∧
  (∀ (a b c : BallEntry) (rest : List BallEntry),
    kindOf false [a] = (if a.down = 10 then .strike else .incomplete) ∧
    kindOf false (a :: b :: rest) = (if a.down + b.down = 10 then .spare else .opened) ∧
    kindOf true [a] = .incomplete ∧
    kindOf true [a, b] = (if (a.rack = .fresh ∧ a.down = 10) ∨ a.down + b.down = 10 then .incomplete else .opened) ∧
    kindOf true (a :: b :: c :: rest) = (if a.rack = .fresh ∧ a.down = 10 then .strike else .spare)) ∧
  (∀ (f : FrameRec) (later : List FrameRec),
    let next := later.flatMap fun g => g.balls.map BallEntry.down
    (later = [] → f.kind ≠ .incomplete → frameScore f later = some (f.balls.map BallEntry.down).sum) ∧
    (later ≠ [] →
      (f.kind = .opened → frameScore f later = some (f.balls.map BallEntry.down).sum) ∧
      (f.kind = .spare → frameScore f later = next.head?.map (10 + ·)) ∧
      (f.kind = .strike →
        frameScore f later = if 2 ≤ next.length then some (10 + next.getD 0 0 + next.getD 1 0) else none)) ∧
    (f.kind = .incomplete → frameScore f later = none)) ∧
  (∀ (sh : Sheet) (frame : Nat) (pre after : PinSet) (m : Marks),
    let tenth := frame == 10
    let new := sh.addBall frame pre after m
    new.game = sh.game ∧
    new.frames = resolveFrom 0 (sh.frames.modify (frame - 1) fun f =>
      let balls := f.balls ++ [makeEntry tenth f.balls pre after m]
      { f with balls := balls, kind := kindOf tenth balls }) ∧
    new.awaiting =
      ((new.frames.take 9).countP fun f => (f.kind == .strike || f.kind == .spare) && f.score.isNone)) ∧
  (∀ (frames : List FrameRec) (k : Nat) (f : FrameRec), frames[k]? = some f →
    let new := resolveFrom 0 frames
    let resolved (g : FrameRec) : Bool := g.score.isSome && g.cumulative.isSome
    let before := if k = 0 then some 0 else (new[k - 1]?).bind FrameRec.cumulative
    new.length = frames.length ∧
    (resolved f = true → new[k]? = some f) ∧
    ((new.take k).all resolved = false → new[k]? = some f) ∧
    (frameScore f (frames.drop (k + 1)) = none → new[k]? = some f) ∧
    ∀ n b, (new.take k).all resolved = true → resolved f = false → frameScore f (frames.drop (k + 1)) = some n →
      before = some b → new[k]? = some { f with score := some n, cumulative := some (b + n) }) ∧
  (∀ frames : List FrameRec,
    let new := resolveFrom 0 frames
    let rising (list : List FrameRec) : Prop :=
      ∀ k c, (list[k]?).bind FrameRec.cumulative = some c →
        c ≤ 30 * (k + 1) ∧
          ∀ j, j < k → ∃ b, (list[j]?).bind FrameRec.cumulative = some b ∧
            ((list[j]?).bind FrameRec.score).isSome = true ∧ b ≤ c
    ((∀ f ∈ frames, f.balls.length ≤ 3 ∧ ∀ b ∈ f.balls, b.down ≤ 10) → rising frames → rising new) ∧
    ∀ done,
      (∀ f ∈ frames.take done, (f.kind = .strike ∨ f.kind = .spare ∨ f.kind = .opened) ∧
        (if f.kind = .strike then 1 else 2) ≤ f.balls.length) →
      (∀ f ∈ frames.drop done, f.kind = .incomplete) →
      countAwaiting new ≤ 2) ∧
  ∀ (average : Nat) (st : PairSettings),
    computedHandicap average st = min st.cap ((st.base - average) * st.percent / 100) ∧
    entryHandicap average none st = computedHandicap average st ∧
    ∀ o, entryHandicap average (some o) st = min o st.cap

/-- The split mark (R95): at a full rack, with no foul and pin 1 down, two pins or more that fall apart: some of
them, not all, have no standing neighbour among the others. A ball's entry takes the mark at its READ, and an entry
that a correction changes takes it again. -/
def Obligations.SplitMark : Prop :=
  (let neighbours : List (List Nat) :=
     [[2, 3], [1, 3, 4, 5], [1, 2, 5, 6], [2, 5, 7, 8], [2, 3, 4, 6, 8, 9], [3, 5, 9, 10], [4, 8], [4, 5, 7, 9],
       [5, 6, 8, 10], [6, 9]]
   ∀ (foul : Bool) (pre after : PinSet),
     isSplit foul pre after = true ↔
       foul = false ∧ pre = fullRack ∧ after.getLsbD 0 = false ∧ 2 ≤ pinCount after ∧
         ∃ part : PinSet, part ≠ 0 ∧ part ≠ after ∧ part &&& ~~~after = 0 ∧
           ∀ a b : Fin 10, part.getLsbD a = true → after.getLsbD b = true → part.getLsbD b = false →
             b.val + 1 ∉ neighbours.getD a.val []) ∧
  (∀ (tenth : Bool) (balls : List BallEntry) (pre after : PinSet) (m : Marks),
    (makeEntry tenth balls pre after m).split = isSplit m.foul pre after) ∧
  ∀ (n k : Nat) (old new : List BallEntry) (a b : BallEntry), old[k]? = some a → new[k]? = some b →
    (markCorrected n old new)[k]?.map BallEntry.split =
      some (if a.pre = b.pre ∧ a.after = b.after then b.split else isSplit b.foul b.pre b.after)

/-- A ball taken back leaves the sheet as it was before the ball (R107, R112, R113). REBALL (R115 to R118): who may
send it and when, the sheet, the place and the queue it restores, and what the pinsetter makes of the pins. The slot it
puts at the head is the one slot UP there (R66; a slot appended UP since: log 37). In WARMING its demand replaces one
held before, which is the model's (log 42). -/
def Obligations.ReballTakesTheBallBack : Prop :=
  (∀ (sh : Sheet) (a : Place) (pre after : PinSet) (m : Marks),
     sh.frames.length = 10 → 1 ≤ a.frame → a.frame ≤ 10 → a.ball = (frameAt sh.frames a.frame).balls.length + 1 →
     (∀ f ∈ sh.frames, f.score.isSome = f.cumulative.isSome) →
     (∀ n, a.frame < n → n ≤ 10 → (frameAt sh.frames n).kind = .incomplete) →
     sh.takeBack (takeSnapshot a sh (sh.addBall a.frame pre after m) pre) = sh) ∧
  (∀ (l : Fin 16) (q : Port) (s : State), s.canServe q → q ≠ .mc → ownsPair q (pairOf l) →
     (q.isConsole = true → (s.turn (pairOf l)).mode = .alternate →
       exec (.reball q (laneNo l)) s = .next (s.replying q 0x29 .denied [])) ∧
     ((q = .dk ∨ (s.turn (pairOf l)).mode = .opened) →
       (∀ n, (s.lane l).snapshot = some n → n.gameFinished = true ∨ n.gameStarted = true) →
       exec (.reball q (laneNo l)) s = .next (s.replying q 0x29 .state [])) ∧
     ∀ n, (q = .dk ∨ (s.turn (pairOf l)).mode = .opened) → (s.lane l).snapshot = some n →
       n.gameFinished = false → n.gameStarted = false →
       ∃ t, exec (.reball q (laneNo l)) s = .next t ∧ s.answers t q 0x29 .ok [] ∧ t.chip = s.chip ∧
         (let x := s.slot (pairOf l) n.slot
          let y := t.slot (pairOf l) n.slot
          y.frame = n.frame ∧ y.ball = n.ball ∧ y.sheet = (x.sheet.map fun sh => sh.takeBack n) ∧
          y.bowler = x.bowler ∧ y.game = x.game ∧ y.handicap = x.handicap ∧ y.finished = x.finished ∧
          (n.turnEnded = true →
            y.state = .up ∧ ((t.turn (pairOf l)).queue (sideOf l)).head? = some n.slot ∧
              (t.lane l).sup.practice = 1 ∧
              ((∀ j, j ∈ (s.turn (pairOf l)).queueOdd → j ∉ (s.turn (pairOf l)).queueEven) →
                ∀ j ∈ (t.turn (pairOf l)).queue (sideOf l), j ≠ n.slot → (t.slot (pairOf l) j).state ≠ .up)) ∧
          (n.turnEnded = false →
            y.state = x.state ∧ (t.turn (pairOf l)).queueOdd = (s.turn (pairOf l)).queueOdd ∧
              (t.turn (pairOf l)).queueEven = (s.turn (pairOf l)).queueEven ∧ s.sameLanesBut t [l] ∧
              ∀ j, j ≠ n.slot → t.slot (pairOf l) j = s.slot (pairOf l) j)) ∧
         (t.lane l).snapshot = none ∧ (t.lane l).session = (s.lane l).session ∧
         (t.lane l).meter = (s.lane l).meter ∧ t.flagged (.console (pairOf l)) 1 ∧ t.flagged (.console (pairOf l)) 2 ∧
         s.samePairsBut t [pairOf l] ∧ (∀ k, pairOf k ≠ pairOf l → t.lane k = s.lane k) ∧ s.sameRecords t ∧
         (let u := (s.lane l).sup
          let u' := (t.lane l).sup
          u'.delivery = u.delivery ∧ u'.last = u.last ∧
          (u.state = .ready ∨ u.state = .handSet →
            (n.pre = fullRack →
              u'.state = .cycling ∧ u'.cycle = some (newCycle .final .reball s.timers.cycle none) ∧ t.pool = s.pool) ∧
            (n.pre ≠ fullRack → u'.state = .handSet ∧ u'.handSet = some ⟨n.pre, s.now⟩)) ∧
          (u.state = .ready → n.pre ≠ fullRack →
            u'.standing = none ∧ t.pool = (s.raiseCall ⟨laneNo l, .handSet, 2⟩).pool) ∧
          (u.state ≠ .ready → t.pool = s.pool) ∧
          (u.state = .cycling →
            u'.state = .cycling ∧ u'.cycle = u.cycle.map fun c => { c with restore := some n.pre }) ∧
          (u.state = .warming →
            u'.state = .warming ∧ u'.warmUp = u.warmUp.map fun w => { w with restore := some n.pre }) ∧
          (u.state = .fault →
            u'.state = .fault ∧ u'.fault = u.fault.map fun f => { f with replaced := some n.pre }) ∧
          ((u.state = .off ∨ u.state = .lockout) → u'.state = u.state ∧ u'.standing = none)))

/-- The checks of a correction and what it makes of the frame's balls (R108, R122 to R124): the named ball takes the
proposed set and each later ball at rack STANDING stands on it. The first check that fails gives the reason: NOT_SUBSET
for a proposed pin outside the ball's pre-ball set; SHAPE where, by the new counts, ball 1 becomes a strike or is one no
longer, in frame 10 so does ball 2 after a ball-1 strike, or balls 1 and 2 come to make 10 or do so no longer after another
ball 1, or the balls at one rack count more than 10; CONFLICT where a later STANDING ball left a pin outside the proposed
set. A correction names a bowled ball of the slot's current sheet or of a retained record, or is NOT_FOUND. It changes the
pins where the next ball is the one after it in the same frame of the current game, at rack STANDING (R126). The game's
scores are worked out again from no score, the entries changed have their split mark derived again, and the corrected one
is marked (R108, R125). APPLY CORRECTION (R121 to R126): refused while the ball's slot has one in flight; a check that fails writes its
reason on the slip and nothing else; a correction that passes changes the named game, drops the snapshots of the
slot and, where the pins in front of the bowler change, asks for them. The bytes of its reply are log 14's. -/
def Obligations.ApplyCorrectionDecides : Prop :=
  (∀ (tenth : Bool) (balls : List BallEntry) (n : Nat) (proposed : PinSet),
    (balls.length < n → correctionRefusal tenth balls n proposed = some .notFound) ∧
    ∀ b, 1 ≤ n → balls[n - 1]? = some b →
      (let new := correctedBalls balls n proposed
       let strike (list : List BallEntry) (k : Nat) : Prop := ∃ x, list[k]? = some x ∧ x.rack = .fresh ∧ x.down = 10
       let ten (list : List BallEntry) : Prop :=
         ∃ x, list[0]? = some x ∧ ∃ y, list[1]? = some y ∧ x.down + y.down = 10
       let changed : Prop :=
         ¬ (strike new 0 ↔ strike balls 0) ∨
           tenth = true ∧ strike balls 0 ∧ ¬ (strike new 1 ↔ strike balls 1) ∨
           tenth = true ∧ ¬ strike balls 0 ∧ ¬ (ten new ↔ ten balls)
       let tooMany : Prop :=
         ∃ k, k + 1 < new.length ∧ ∃ x, new[k]? = some x ∧ ∃ y, new[k + 1]? = some y ∧
           y.rack = .standing ∧ 10 < x.down + y.down
       let conflict : Prop :=
         ∃ k, n ≤ k ∧ k < balls.length ∧ ∃ c, balls[k]? = some c ∧ c.rack = .standing ∧ c.after &&& ~~~proposed ≠ 0
       (proposed &&& ~~~b.pre ≠ 0 → correctionRefusal tenth balls n proposed = some .notSubset) ∧
       (proposed &&& ~~~b.pre = 0 →
         (changed ∨ tooMany → correctionRefusal tenth balls n proposed = some .shape) ∧
         (¬ changed → ¬ tooMany → conflict → correctionRefusal tenth balls n proposed = some .conflict) ∧
         (¬ changed → ¬ tooMany → ¬ conflict → correctionRefusal tenth balls n proposed = none))) ∧
      (let new := correctedBalls balls n proposed
       let counted (x : BallEntry) : BallEntry :=
         { x with down := if x.foul then 0 else pinCount x.pre - pinCount x.after }
       new.length = balls.length ∧ (∀ k, k + 1 < n → new[k]? = balls[k]?) ∧
       new[n - 1]? = some (counted { b with after := proposed }) ∧
       ∀ k c, n ≤ k → balls[k]? = some c →
         new[k]? = some (if c.rack = .standing then counted { c with pre := proposed } else c))) ∧
  (∀ (x : Slot) (c : Correction),
    (x.state = .empty → x.checkCorrection c = .error .notFound) ∧
    ((c.game = 0 → x.sheet = none) →
      (c.game ≠ 0 → (∀ sh, x.sheet = some sh → sh.game ≠ c.game) ∧ ∀ r ∈ x.retained, r.game ≠ c.game) →
      x.checkCorrection c = .error .notFound) ∧
    ((c.frame = 0 ∨ 10 < c.frame ∨ c.ball = 0 ∨ 3 < c.ball) → x.checkCorrection c = .error .notFound) ∧
    (x.state ≠ .empty → 1 ≤ c.frame → c.frame ≤ 10 → 1 ≤ c.ball → c.ball ≤ 3 →
      (∀ sh, x.sheet = some sh → (c.game = 0 ∨ c.game = sh.game) →
        (∀ why, correctionRefusal (c.frame == 10) (frameAt sh.frames c.frame).balls c.ball c.proposed = some why →
          x.checkCorrection c = .error why) ∧
        (correctionRefusal (c.frame == 10) (frameAt sh.frames c.frame).balls c.ball c.proposed = none →
          x.checkCorrection c = .ok (.current sh))) ∧
      ∀ k r, x.retained[k]? = some r → r.game = c.game → (∀ y ∈ x.retained.take k, y.game ≠ c.game) →
        (∀ sh, x.sheet = some sh → sh.game ≠ c.game) → c.game ≠ 0 →
        (∀ why, correctionRefusal (c.frame == 10) (frameAt r.frames c.frame).balls c.ball c.proposed = some why →
          x.checkCorrection c = .error why) ∧
        (correctionRefusal (c.frame == 10) (frameAt r.frames c.frame).balls c.ball c.proposed = none →
          x.checkCorrection c = .ok (.retained k r)))) ∧
  (∀ (x : Slot) (c : Correction),
    (∀ sh : Sheet,
      (x.pinsChange c (.current sh) = true ↔
        x.frame = c.frame ∧ x.ball = c.ball + 1 ∧
          rackOf (c.frame == 10) (frameAt sh.frames c.frame).balls = .standing) ∧
      (let frames := correctFrames sh.frames c.frame c.ball c.proposed
       x.correct c (.current sh) =
         { x with
           sheet := some { sh with
             frames := frames
             awaiting :=
               (frames.take 9).countP fun f => (f.kind == .strike || f.kind == .spare) && f.score.isNone } })) ∧
    ∀ (k : Nat) (r : GameRecord),
      x.pinsChange c (.retained k r) = false ∧
      (x.retained[k]? = some r →
        let frames := correctFrames r.frames c.frame c.ball c.proposed
        let scratch := ((frames[9]?).bind FrameRec.cumulative).getD 0
        x.correct c (.retained k r) =
          { x with
            retained := x.retained.set k
              { r with frames := frames, scratch := scratch, total := scratch + r.handicap, corrected := true } })) ∧
  (∀ (frames : List FrameRec) (frame ball : Nat) (proposed : PinSet),
    let entries (balls : List BallEntry) : List BallEntry :=
      markCorrected ball balls (correctedBalls balls ball proposed)
    correctFrames frames frame ball proposed =
      resolveFrom 0 ((frames.modify (frame - 1) fun f =>
        { f with balls := entries f.balls, kind := kindOf (frame == 10) (entries f.balls) }).map fun f =>
          { f with score := none, cumulative := none }) ∧
    ∀ balls : List BallEntry, 1 ≤ ball → ball ≤ balls.length →
      (entries balls).length = balls.length ∧
      ∀ (k : Nat) (a b : BallEntry), balls[k]? = some a → (correctedBalls balls ball proposed)[k]? = some b →
        (entries balls)[k]? = some
          { b with
            corrected := b.corrected || decide (k + 1 = ball)
            split := if a.pre = b.pre ∧ a.after = b.after then b.split else isSplit b.foul b.pre b.after }) ∧
  ∀ (n : Fin 64) (l : Fin 16) (i : Fin 12) (game frame ball : Nat) (proposed : PinSet) (s : State), s.canServe .dk →
    (s.slip n).state = .held .dk → (s.slip n).body = some (.correction (slotNo i) game frame ball proposed) →
    (s.slip n).outcome = .none → (s.slip n).lane = laneNo l → n ∉ s.pool.reserveFree →
    (let x := s.slot (pairOf l) i
     let c : Correction := ⟨pairOf l, i, game, frame, ball, proposed⟩
     (x.inFlight = true →
       exec (.applyCorrection .dk (slipNo n)) s = .next (s.replying .dk 0x2A .state [])) ∧
     (∀ why, x.inFlight = false → x.checkCorrection c = .error why →
       exec (.applyCorrection .dk (slipNo n)) s =
         .next ((s.modPool fun q => q.modSlip n fun y => { y with outcome := .refused why }).replying .dk 0x2A .ok
           (byte1 4 ++ byte1 why.code))) ∧
     ∀ g, x.inFlight = false → x.checkCorrection c = .ok g →
       ∃ t, exec (.applyCorrection .dk (slipNo n)) s = .next t ∧ s.answers t .dk 0x2A .ok (byte1 3 ++ ones 1) ∧
         t.chip = s.chip ∧ t.slip n = { s.slip n with outcome := .applied } ∧
         t.slot (pairOf l) i = x.correct c g ∧
         t.turn (pairOf l) = (s.turn (pairOf l)).modSlot i (fun _ => x.correct c g) ∧
         (∀ p, t.ret p = s.ret p) ∧ s.samePairsBut t [pairOf l] ∧ t.directory = s.directory ∧
         t.flagged (.console (pairOf l)) 1 ∧
         (∀ k m, pairOf k = pairOf l → (s.lane k).snapshot = some m → m.slot = i → (t.lane k).snapshot = none) ∧
         (∀ k, (t.lane k).session = (s.lane k).session ∧ (t.lane k).meter = (s.lane k).meter) ∧
         (x.pinsChange c g = false →
           (∀ k, s.sameLaneButSnapshot t k) ∧
             t.pool = s.pool.modSlip n fun y => { y with outcome := .applied }) ∧
         (∀ k, x.pinsChange c g = true → pairOf k = pairOf l → s.upSlot k = some i → s.upSlot (otherLane k) ≠ some i →
           (s.lane k).sup.state = .ready →
           (proposed ≠ fullRack →
             (t.lane k).sup.state = .handSet ∧ (t.lane k).sup.handSet = some ⟨proposed, s.now⟩ ∧
               (t.lane k).sup.standing = none) ∧
           (proposed = fullRack →
             (t.lane k).sup.state = .cycling ∧
               (t.lane k).sup.cycle = some (newCycle .final .reball s.timers.cycle none))))

/-! ## The Bowler Directory -/

/-- SUPPLY BOWLER and UPDATE BOWLER (R137 to R139, R141, R106): the record goes to the number's entry or to a
victim, and the slot that holds the number takes its average from the entry. UNKNOWN BOWLER (R140, R106). -/
def Obligations.DeskAnswersTheDirectory : Prop :=
  (∀ (number average : Nat) (override : Option Nat) (code : Byte) (i : Instr) (s : State), s.canServe .dk →
     1 ≤ number → number ≤ 65534 → average ≤ 300 → (∀ o, override = some o → o ≤ 300) →
     (i, code) ∈ [(Instr.supplyBowler .dk number average override, (0x2B : Byte)),
       (.updateBowler .dk number average override, 0x2D)] →
     (code = 0x2D → s.pendingNumber number = true → exec i s = .next (s.replying .dk 0x2D .state [])) ∧
     ((code = 0x2D → s.pendingNumber number = false) →
       ∃ (t : State) (k : Fin 112) (victim : Bool), exec i s = .next t ∧
         s.answers t .dk code .ok (byte1 (k.val + 1) ++ byteBool victim) ∧ t.chip = s.chip ∧ t.pool = s.pool ∧
         t.lanes = s.lanes ∧ (∀ p, t.ret p = s.ret p) ∧ t.directory.ranges = s.directory.ranges ∧
         (let d := s.directory
          let e : Entry :=
            ⟨true, number, average, override, true,
              (s.findSlot number).isSome || ((d.find number).any fun k => d.entries[k].locked)⟩
          t.directory.entries[k] = e ∧
          (∀ j, d.find number = some j → k = j ∧ victim = false ∧ ∀ o : Fin 112, o ≠ k →
            t.directory.entries[o] = d.entries[o]) ∧
          (d.find number = none → victim = d.entries[k].valid ∧
            ((∃ o : Fin 112, d.entries[o].valid = false) →
              d.entries[k].valid = false ∧ (∀ o : Fin 112, o < k → d.entries[o].valid = true) ∧
                ∀ o : Fin 112, o ≠ k → t.directory.entries[o] = d.entries[o]) ∧
            ((∀ o : Fin 112, d.entries[o].valid = true) →
              (∃ o : Fin 112, d.entries[o].locked = false ∧ d.entries[o].used = false) →
              (d.entries[k].locked = false ∧ d.entries[k].used = false) ∧
                (∀ o : Fin 112, o < k → d.entries[o].locked = true ∨ d.entries[o].used = true) ∧
                ∀ o : Fin 112, o ≠ k → t.directory.entries[o] = d.entries[o]) ∧
            ((∀ o : Fin 112, d.entries[o].valid = true ∧ (d.entries[o].locked = true ∨ d.entries[o].used = true)) →
              (∃ o : Fin 112, d.entries[o].locked = false) →
              d.entries[k].locked = false ∧ (∀ o : Fin 112, o < k → d.entries[o].locked = true) ∧
                ∀ o : Fin 112, o ≠ k →
                  t.directory.entries[o] =
                    { d.entries[o] with used := d.entries[o].used && d.entries[o].locked }))) ∧
         (code = 0x2D → t.directory.fetch = s.directory.fetch) ∧
         (code = 0x2B → s.firstDeferred = none →
           t.directory.fetch = s.directory.fetch.filter (· != number)) ∧
         (s.findSlot number = none → ∀ p j, s.sameSlotButFetch t p j) ∧
         (∀ p j, s.findSlot number = some (p, j) →
           (let x := s.slot p j
            t.slot p j =
              { x with
                source := .entry, fetch := .none
                handicap :=
                  if x.stage ≠ .waiting ∧ x.handicap = .pending then
                    .value (entryHandicap average override (s.turn p).settings)
                  else x.handicap }) ∧
           (∀ o k, (o, k) ≠ (p, j) → s.sameSlotButFetch t o k)) ∧
         ∀ p, (t.turn p).queueOdd = (s.turn p).queueOdd ∧ (t.turn p).queueEven = (s.turn p).queueEven)) ∧
  (∀ (number : Nat) (s : State), s.canServe .dk → 1 ≤ number → number ≤ 65534 →
     ((∀ p i, s.findSlot number = some (p, i) → (s.slot p i).source ≠ .pending) →
       exec (.unknownBowler .dk number) s = .next (s.replying .dk 0x2C .state [])) ∧
     ∀ p i, s.findSlot number = some (p, i) → (s.slot p i).source = .pending →
       ∃ t, exec (.unknownBowler .dk number) s = .next t ∧ s.answers t .dk 0x2C .ok [] ∧ t.chip = s.chip ∧
         t.pool = s.pool ∧ t.lanes = s.lanes ∧ (∀ o, t.ret o = s.ret o) ∧
         t.directory.entries = s.directory.entries ∧ t.directory.ranges = s.directory.ranges ∧
         (s.firstDeferred = none → t.directory.fetch = s.directory.fetch.filter (· != number)) ∧
         t.slot p i =
           { s.slot p i with
             source := .none, fetch := .none
             handicap :=
               if (s.slot p i).stage ≠ .waiting ∧ (s.slot p i).handicap = .pending then .value 0
               else (s.slot p i).handicap } ∧
         ∀ o k, (o, k) ≠ (p, i) → s.sameSlotButFetch t o k)

/-- DROP BOWLER (R142), and SET RANGE ENTRY (R143). The number, average and override that a dropped entry holds are
the model's (log 10); the rule gives its three marks. That an enabled mark above 1 is out of range is the model's reading
(log 40). -/
def Obligations.DropAndRangeEntries : Prop :=
  ∀ (q : Port) (number : Nat) (s : State), s.idleAt q →
    (q ≠ .dk → exec (.dropBowler q number) s = .next (s.replying q 0x2E .denied [])) ∧
    (q = .dk → (number = 0 ∨ 65534 < number) →
      exec (.dropBowler q number) s = .next (s.replying q 0x2E .range [])) ∧
    (q = .dk → 1 ≤ number → number ≤ 65534 →
      (s.loading = true → exec (.dropBowler q number) s = .next (s.replying q 0x2E .busy [])) ∧
      (s.loading = false → (∀ k : Fin 112, s.directory.entries[k].valid = true → s.directory.entries[k].number ≠ number) →
        exec (.dropBowler q number) s = .next (s.replying q 0x2E .state [])) ∧
      ∀ k : Fin 112, s.loading = false → s.directory.entries[k].valid = true → s.directory.entries[k].number = number →
        (∀ j : Fin 112, j < k → s.directory.entries[j].valid = true → s.directory.entries[j].number ≠ number) →
        (s.directory.entries[k].locked = true →
          exec (.dropBowler q number) s = .next (s.replying q 0x2E .state [])) ∧
        (s.directory.entries[k].locked = false →
          exec (.dropBowler q number) s =
            .next ((s.modDirectory fun d =>
              { d with entries := d.entries.set k ⟨false, 0, 0, none, false, false⟩ }).replying q 0x2E .ok []))) ∧
    ∀ (index : Fin 8) (enabled first last average : Nat), q = .dk → s.loading = false →
      (1 < enabled ∨ first = 0 ∨ 65534 < first ∨ last < first ∨ 65534 < last ∨ 300 < average →
        exec (.setRangeEntry q (index.val + 1) enabled first last average) s =
          .next (s.replying q 0x2F .range [])) ∧
      (enabled ≤ 1 → 1 ≤ first → first ≤ last → last ≤ 65534 → average ≤ 300 →
        exec (.setRangeEntry q (index.val + 1) enabled first last average) s =
          .next ((s.modDirectory fun d =>
            { d with ranges := d.ranges.set index ⟨enabled == 1, first, last, average⟩ }).replying q 0x2F .ok []))

/-! ## Billing -/

/-- The band of a minute (R150): with t less D modulo 1440 in band m divided by L, plus 1, or N when that exceeds N;
the layout is kept in the settings image. -/
def Obligations.BandOfAMinute : Prop :=
  (∀ (x : Tariff) (minute : Nat), layoutIn x.dayStart x.bands x.length = true → minute < 1440 →
    let m := if x.dayStart ≤ minute then minute - x.dayStart else minute + 1440 - x.dayStart
    x.bandAt minute = (if x.bands < m / x.length + 1 then x.bands else m / x.length + 1) ∧
    1 ≤ x.bandAt minute ∧ x.bandAt minute ≤ x.bands ∧ (x.bands = 1 → x.bandAt minute = 1)) ∧
  (∀ dayStart bands length, layoutIn dayStart bands length = true ↔
    dayStart ≤ 1425 ∧ dayStart % 15 = 0 ∧ (bands = 1 ∨ bands = 2 ∨ bands = 4 ∨ bands = 8) ∧ 15 ≤ length ∧
      length ≤ 1440 ∧ length % 15 = 0 ∧ (bands - 1) * length < 1440) ∧
  (∀ prices further, (⟨600, 4, 240, prices, further⟩ : Tariff).bandAt 120 = 4) ∧ (∀ s : State, s.settings.tariff = s.tariff)

/-- SET CLOCK, SET TARIFF LAYOUT and SET PRICES (R149, R152, R153, R12): the values are written, and SET CLOCK
keeps the part of the running second already passed (the model's choice, log 28); with no lane waiting for CREDIT nothing else changes, and a PARKED lane that waits for it wakes where it now holds. BAND EDGE
(R151, R13): ignored for a band the layout does not have; else the clock stands at the band's start (the model's
choice, log 4), and every PARKED lane with BAND in its mask wakes; with none, and none waiting for CREDIT, nothing else changes. -/
def Obligations.ClockAndTariffChange : Prop :=
  (∀ (hour minute second dayStart bands length cls band : Nat) (game unit : Option Nat) (s : State), s.canServe .dk →
     ((23 < hour ∨ 59 < minute ∨ 59 < second) →
       exec (.setClock .dk hour minute second) s = .next (s.replying .dk 0x32 .range [])) ∧
     (layoutIn dayStart bands length = false →
       exec (.setTariffLayout .dk dayStart bands length) s = .next (s.replying .dk 0x33 .range [])) ∧
     ((3 < cls ∨ band = 0 ∨ 8 < band) →
       exec (.setPrices .dk cls band game unit) s = .next (s.replying .dk 0x34 .range [])) ∧
     ∀ (i : Instr) (code : Byte) (s' : State),
       ((hour ≤ 23 ∧ minute ≤ 59 ∧ second ≤ 59 ∧ i = .setClock .dk hour minute second ∧ code = 0x32 ∧
           s' = { s with clock := ⟨hour, minute, second, false, s.clock.ms⟩ }) ∨
         (layoutIn dayStart bands length = true ∧ i = .setTariffLayout .dk dayStart bands length ∧ code = 0x33 ∧
           s' = { s with tariff := { s.tariff with dayStart := dayStart, bands := bands, length := length } }) ∨
         (cls ≤ 3 ∧ 1 ≤ band ∧ band ≤ 8 ∧ (∀ n, game = some n → n ≤ 65535) ∧ (∀ n, unit = some n → n ≤ 65535) ∧
           i = .setPrices .dk cls band game unit ∧ code = 0x34 ∧
           s' =
             { s with
               tariff :=
                 { s.tariff with
                   prices :=
                     s.tariff.prices.set (priceIx cls band)
                       ⟨game.getD s.tariff.prices[priceIx cls band].game,
                         unit.getD s.tariff.prices[priceIx cls band].unit⟩ } })) →
       ∃ t, exec i s = .next t ∧ s.answers t .dk code .ok [] ∧ t.chip = s'.chip ∧
         (s.noneAwaitsCredit → t = s'.replying .dk code .ok []) ∧
         ∀ l, s.session l = .parked → (s.lane l).session.wakeMask.credit = true →
           (s'.creditHolds l = false → t.session l = .parked) ∧
           (s'.creditHolds l = true → s.billing.back ≠ 0 → t.session l = .opened ∨ t.session l = .closing)) ∧
  (∀ (band : Nat) (s : State), s.resetHeld = false →
     ((band = 0 ∨ s.tariff.bands < band) → exec (.bandEdge band) s = .next s) ∧
     (1 ≤ band → band ≤ s.tariff.bands →
       ∃ t, exec (.bandEdge band) s = .next t ∧ s.sameLines t ∧
         (let minute := (s.tariff.dayStart + (band - 1) * s.tariff.length) % 1440
          let s' : State :=
            { s with clock := { s.clock with hour := minute / 60, minute := minute % 60, second := 0 } }
          (s.clock.hour < 24 → s.clock.minute < 60 → t.chip = s'.chip) ∧
          (s.clock.hour < 24 → s.clock.minute < 60 → s.noneAwaitsCredit →
            (∀ l, s.session l = .parked → (s.lane l).session.wakeMask.band = false) → t = s')) ∧
         ∀ l, s.session l = .parked → (s.lane l).session.wakeMask.band = true → s.billing.back ≠ 0 →
           t.session l = .opened ∨ t.session l = .closing))

/-- ADD CREDIT (R165, R166): the least of the amount and of the room in balance and credited is accepted; on a
CLOSING lane the owed charge is retried at once; on a PARKED lane with CREDIT in its mask the lane wakes where CREDIT now
holds, and on an OPEN lane a park that waits with CREDIT in its mask is then removed (R12). BACK GRACE EXPIRY (R11, R164, R166): a CLOSING lane whose owed
charge credit now pays, with CREDIT in its default park mask, is OPEN again; any other parks with that mask, or
waits for its pinsetter's cycle. The balance in the reply is that right after the credit (the model's reading, log
15). -/
def Obligations.CreditAndBackGrace : Prop :=
  (∀ (l : Fin 16) (amount : Nat) (s : State), s.canServe .dk → 1 ≤ amount → amount ≤ 9999999 → s.session l = .closed →
     exec (.addCredit .dk (laneNo l) amount) s = .next (s.replying .dk 0x37 .state [])) ∧
  (∀ (l : Fin 16) (amount : Nat) (m : Meter) (s : State), s.canServe .dk → 1 ≤ amount → amount ≤ 9999999 →
     (s.lane l).meter = some m →
     (m.mode = .tab → exec (.addCredit .dk (laneNo l) amount) s = .next (s.replying .dk 0x37 .state [])) ∧
     (s.session l ≠ .closed → m.mode = .prepaid →
       let accepted := min amount (min (999999 - m.balance) (9999999 - m.credited))
       let m' := { m with balance := m.balance + accepted, credited := m.credited + accepted }
       let s' := s.modLane l fun a => { a with meter := some m' }
       ∃ t, exec (.addCredit .dk (laneNo l) amount) s = .next t ∧
         s.answers t .dk 0x37 .ok (byte4 accepted ++ byte4 (m.balance + accepted)) ∧ t.chip = s.chip ∧
         s.sameRecords t ∧ s.samePairsBut t [pairOf l] ∧ s.sameLanesBut t [l, otherLane l] ∧
         s.sameLaneButHorn t (otherLane l) ∧
         (s.session l = .opened → (s.lane l).session.pendingPark = none → t = s'.replying .dk 0x37 .ok
           (byte4 accepted ++ byte4 (m.balance + accepted))) ∧
         (∀ k, s.session l = .opened → (s.lane l).session.pendingPark = some k →
           (k.mask.credit = true → s'.creditHolds l = true → t =
             ((s'.modLane l fun a => { a with session := { a.session with pendingPark := none } }).flagConsole
               (pairOf l) .laneStateChanged).replying .dk 0x37 .ok
                 (byte4 accepted ++ byte4 (m.balance + accepted))) ∧
           ((k.mask.credit = false ∨ s'.creditHolds l = false) → t = s'.replying .dk 0x37 .ok
             (byte4 accepted ++ byte4 (m.balance + accepted)))) ∧
         (s'.creditHolds l = match m.declined with
           | some d => decide (Declined.price d (s.priceOf l) ≤ m.balance + accepted)
           | none => decide (0 < m.balance + accepted)) ∧
         (s.session l = .parked → s'.creditHolds l = false → t = s'.replying .dk 0x37 .ok
           (byte4 accepted ++ byte4 (m.balance + accepted))) ∧
         (s.session l = .parked → (s.lane l).session.wakeMask.credit = true → s'.creditHolds l = true →
           t.flagged (.console (pairOf l)) 3 ∧ s.returnStarted t (pairOf l) ∧
           (m.declined = none → (m.kind = .games ∨ 0 < m.left) → s.nobodyQueued l →
             (t.lane l).session = (s.lane l).session.asOpen ∧ (t.lane l).meter = some m' ∧
             (t.lane l).sup =
               { ((s.lane l).sup.granted s.timers.warmUp) with horn := (t.lane l).sup.horn } ∧
             t.turn (pairOf l) = s.turn (pairOf l)) ∧
           (∀ d, m.declined = some d →
             (t.lane l).session = (s.lane l).session.asOpen ∧
             ∃ m'', (t.lane l).meter = some m'' ∧ m''.declined = none ∧ m''.phase = .metered ∧
               m''.balance = m.balance + accepted - Declined.price d (s.priceOf l) ∧
               m''.credited = m.credited + accepted ∧
               (m.kind = .time → m''.unit = some ⟨s.billing.unit, none⟩ ∧ m''.left = s.billing.unit))) ∧
         (s.session l = .parked → (s.lane l).session.wakeMask.credit = false → t = s'.replying .dk 0x37 .ok
           (byte4 accepted ++ byte4 (m.balance + accepted))) ∧
         (∀ d, m.declined = some d → s.session l = .closing → m.balance + accepted < Declined.price d (s.priceOf l) →
           t = s'.replying .dk 0x37 .ok (byte4 accepted ++ byte4 (m.balance + accepted))) ∧
         (∀ d, m.declined = some d → s.session l = .closing →
           Declined.price d (s.priceOf l) ≤ m.balance + accepted →
           t.session l = .opened ∧ (t.lane l).session.closingReason = .none ∧ s.sameReturnButIdle t (pairOf l) ∧
           ∃ m'', (t.lane l).meter = some m'' ∧ m''.declined = none ∧ m''.phase = .metered ∧
             m''.balance = m.balance + accepted - Declined.price d (s.priceOf l) ∧
             m''.credited = m.credited + accepted ∧
             (m.kind = .time → m''.unit = some ⟨s.billing.unit, none⟩ ∧ m''.left = s.billing.unit)))) ∧
  (∀ (l : Fin 16) (m : Meter) (s : State), s.resetHeld = false → (s.lane l).meter = some m →
     ((s.session l ≠ .closing ∨ m.phase ≠ .back) → exec (.backGraceExpiry l) s = .next s) ∧
     (s.session l = .closing → m.phase = .back →
       ∃ t, exec (.backGraceExpiry l) s = .next t ∧ t.chip = s.chip ∧ s.sameLines t ∧ t.pool = s.pool ∧
         s.sameLanesBut t [l] ∧ s.samePairsBut t [pairOf l] ∧ s.sameRecords t ∧
         (let mask := (s.lane l).session.settings.parkMask
          (∀ d, m.declined = some d → m.mode = .prepaid → mask.credit = true →
            Declined.price d (s.priceOf l) ≤ m.balance →
            t.session l = .opened ∧ s.sameReturnButIdle t (pairOf l) ∧
            ∃ m', (t.lane l).meter = some m' ∧ m'.declined = none ∧
              m'.balance = m.balance - Declined.price d (s.priceOf l)) ∧
          ((mask.credit = false ∨ s.creditHolds l = false) → (s.lane l).sup.state = .cycling →
            t.lane l =
              { s.lane l with
                session := { (s.lane l).session with pendingPark := some ⟨mask, .noCredit⟩ }
                meter := some { m with left := 0 } } ∧
            t.pairs = s.pairs) ∧
          ((mask.credit = false ∨ s.creditHolds l = false) → (s.lane l).sup.state ≠ .cycling →
            t.lane l =
              { s.lane l with
                session := (s.lane l).session.asParked mask .noCredit
                sup := { (s.lane l).sup with servicePower := false }.withdrawn
                meter := some { m with left := 0 } } ∧
            t.flagged .dk 4 ∧ t.turn (pairOf l) = s.turn (pairOf l) ∧ s.returnStopped t (pairOf l)))))

/-! ## Slips -/

/-- TAKE SLIP (R174): FULL at the port's limit, EMPTY with no free general slip, else the head of the general free
list; in a lawful pool that is no reserve slip. -/
def Obligations.TakeSlipGivesTheHead : Prop :=
  ∀ (p : Port) (s : State), s.canServe p →
    (let limit := match p with | .dk => 24 | .mc => 16 | .console _ => 8
     let held := (List.finRange 64).countP fun n => (s.slip n).state == .held p
     (limit ≤ held → exec (.takeSlip p) s = .next (s.replying p 0x39 .full [])) ∧
     (held < limit → s.pool.generalFree = [] → exec (.takeSlip p) s = .next (s.replying p 0x39 .empty [])) ∧
     ∀ n rest, held < limit → s.pool.generalFree = n :: rest →
       exec (.takeSlip p) s =
         .next ((s.modPool fun q =>
           { q with
             generalFree := rest
             slips := q.slips.set n ⟨.held p, none, some (.port p), 0, .none⟩ }).replying p 0x39 .ok
               (byte1 (slipNo n))) ∧
       (s.pool.lawful → n.val < 56))

/-- FETCH SLIP (R177), and the requests on a slip that is held (R175, R176, R178, R179, R181). A call of the part
(R180, R181): posted to the mechanic on the head of the reserve free list, or kept in the backlog, where it takes
over the entry of its lane and reason, or dropped at 32 entries with BACKLOG_FULL; none is raised during the settings
load (R184). -/
def Obligations.SlipsAndCallsMove : Prop :=
  (∀ (p : Port) (s : State), s.canServe p →
     (s.holdsLimit p = true → exec (.fetchSlip p) s = .next (s.replying p 0x3C .full [])) ∧
     (s.holdsLimit p = false → s.pool.posts[p.index] = [] →
       exec (.fetchSlip p) s = .next (s.replying p 0x3C .empty [])) ∧
     (∀ n rest, s.holdsLimit p = false → s.pool.posts[p.index] = n :: rest →
       exec (.fetchSlip p) s =
         .next ((s.modPool fun q =>
           { q with
             posts := q.posts.set p.index rest
             slips := q.slips.set n { q.slips[n] with state := .held p } }).replying p 0x3C .ok
               ({ s.slip n with state := .held p }.bytes n))) ∧
     ∀ n : Fin 64,
       ((s.slip n).state ≠ .held p →
         exec (.returnSlip p (slipNo n)) s = .next (s.replying p 0x3E .state [])) ∧
       ((s.slip n).state = .held p →
         (∀ (kind lane : Nat) (body : List Byte) (b : SlipBody), slipBodyOf kind body = some b → lane ≤ 16 →
           (∀ reason detail, b = .mechCall reason detail → reason = .bowlerCall) →
           slipLaneBarred p lane (some b) = false → (s.slip n).origin ≠ some .part → (s.slip n).outcome = .none →
           exec (.writeSlip p (slipNo n) kind lane body) s =
             .next ((s.modPool fun q => q.modSlip n fun x => { x with body := some b, lane := lane }).replying
               p 0x3A .ok [])) ∧
         (∀ dest : Port, (s.slip n).body ≠ none → (p.isConsole = true → dest.isConsole = false) →
           exec (.postSlip p (slipNo n) dest.index.val) s =
             .next ((s.modPool fun q =>
               { q with
                 slips := q.slips.set n { q.slips[n] with state := .posted dest }
                 posts := q.posts.set dest.index (q.posts[dest.index] ++ [n]) }).replying p 0x3B .ok [])) ∧
         (∀ outcome, (outcome = 1 ∨ outcome = 2) → p.isConsole = false → (s.slip n).body ≠ none →
           (s.slip n).outcome ≠ .applied → (∀ why, (s.slip n).outcome ≠ .refused why) →
           exec (.setOutcome p (slipNo n) outcome) s =
             .next ((s.modPool fun q => q.modSlip n fun x =>
               { x with outcome := if outcome = 1 then .granted else .declined }).replying p 0x3D .ok [])) ∧
         (isReserve n = false →
           exec (.returnSlip p (slipNo n)) s =
             .next ((s.modPool fun q =>
               { q with slips := q.slips.set n Slip.blank, generalFree := q.generalFree ++ [n] }).replying
                 p 0x3E .ok [])) ∧
         (isReserve n = true → s.pool.backlog = [] →
           exec (.returnSlip p (slipNo n)) s =
             .next ((s.modPool fun q =>
               { q with slips := q.slips.set n Slip.blank, reserveFree := q.reserveFree ++ [n] }).replying
                 p 0x3E .ok [])) ∧
         ∀ c calls, isReserve n = true → s.pool.backlog = c :: calls → s.pool.reserveFree = [] →
           exec (.returnSlip p (slipNo n)) s =
             .next ((s.modPool fun q =>
               { q with
                 backlog := calls
                 slips := q.slips.set n ⟨.posted .mc, some (.mechCall c.reason c.detail), some .part, c.lane, .none⟩
                 posts := q.posts.set Port.mc.index (q.posts[Port.mc.index] ++ [n]) }).replying p 0x3E .ok []))) ∧
  (∀ (c : Call) (s : State),
     (s.loading = true → s.raiseCall c = s) ∧
     (∀ n rest, s.loading = false → s.pool.reserveFree = n :: rest →
       s.raiseCall c = s.modPool fun q =>
         { q with
           reserveFree := rest
           slips := q.slips.set n ⟨.posted .mc, some (.mechCall c.reason c.detail), some .part, c.lane, .none⟩
           posts := q.posts.set Port.mc.index (q.posts[Port.mc.index] ++ [n]) }) ∧
     (s.loading = false → s.pool.reserveFree = [] →
       ((∃ b ∈ s.pool.backlog, b.lane = c.lane ∧ b.reason = c.reason) →
         s.raiseCall c = s.modPool fun q =>
           { q with
             backlog := q.backlog.map fun b =>
               if b.lane = c.lane ∧ b.reason = c.reason then { b with detail := c.detail } else b }) ∧
       ((∀ b ∈ s.pool.backlog, ¬ (b.lane = c.lane ∧ b.reason = c.reason)) →
         (s.pool.backlog.length < 32 → s.raiseCall c = s.modPool fun q => { q with backlog := q.backlog ++ [c] }) ∧
         (32 ≤ s.pool.backlog.length → s.raiseCall c = s.flagMc .backlogFull))))

/-! ## Restart, settings and reset -/

/-- What a power reset leaves (R19, R44, R63, R84, R128, R147, R169, R184, R198, R200), every field of a lane's session
and Supervisor and of a pair's Monitor and Turn Unit, and the laws of the records among it; the settings, the levels of State.reset, an EMPTY slot's open fields, the start of the running second and a
line not held in space are the model's (logs 6, 7, 9, 10, 28, 18). What a restart keeps of outputs, motor and lines is
the model's reading (logs 21, 23). SECTION RESTART (R202, R19, R44, R63, R84, R147, R184, R198). -/
def Obligations.ResetAndRestartValues : Prop :=
  (∀ (settings : LaneSettings) (out : LaneOut),
     Lane.initial settings out =
       { session :=
           { state := .closed, wakeMask := ⟨false, false, false, false⟩, parkCause := .none, pendingPark := none
             closingReason := .none, light := .off, settings := settings }
         sup :=
           { state := .off, cycle := none, warmUp := none, standing := none, delivery := none, last := none
             practice := 1, fault := none, handSet := none, servicePower := false, waitingFoul := none
             lastRelease := none, horn := none, strayReleases := 0, strayFouls := 0, earlyBalls := 0
             unscoredBalls := 0, closedUnpaid := 0 }
         snapshot := none, meter := none, out := out }) ∧
  (∀ (full raised : Bool) (settings : PairSettings) (motor : Bool),
     Pair.initial full raised settings motor =
       { ret :=
           { transit := [], nextSeq := 0, lift := .off, rackFull := full, overload := raised, idle := none
             episodeOdd := false, episodeEven := false, created := 0, matched := 0, writtenOff := 0, stray := 0 }
         turn :=
           { mode := .opened, queueOdd := [], queueEven := [], paidOdd := false, paidEven := false
             settings := settings, slots := Vector.replicate 12 Slot.empty }
         motor := motor }) ∧
  (∀ (rate : Bool) (full raised : BitVec 8) (chain : Chain) (memory : ConfigMemory) (pending : List Instr),
     let s := State.afterReset rate full raised chain memory pending
     State.reset = State.afterReset false 0 0 State.reset.chain State.reset.memory [] ∧
     s.resetHeld = false ∧ s.loading = true ∧ s.storing = none ∧ s.clock = ⟨0, 0, 0, true, 0⟩ ∧
     (∀ l, s.lane l = Lane.initial (s.lane l).session.settings (s.lane l).out) ∧
     (∀ p : Fin 8,
       s.pair p = Pair.initial (full.getLsbD p) (raised.getLsbD p) (s.turn p).settings false ∧
         ∀ i, s.slot p i = Slot.empty) ∧
     (∀ k : Fin 112, s.directory.entries[k].valid = false) ∧ s.directory.fetch = [] ∧
     (∀ n, s.slip n = Slip.blank) ∧ s.pool.generalFree.map Fin.val = List.range 56 ∧
     s.pool.reserveFree.map Fin.val = [56, 57, 58, 59, 60, 61, 62, 63] ∧ s.pool.backlog = [] ∧
     (∀ p : Port, s.pool.posts[p.index] = []) ∧ (∀ p, s.port p = ⟨.hunt, [], none, .none, 0, 0, 0, 0, 0, false⟩) ∧
     s.transitLaw ∧ s.meterLaw ∧ s.lightLaw ∧ s.supervisorLaw ∧ s.pool.lawful ∧ s.listLaw) ∧
  (∀ s : State, s.canServe .dk →
     ∃ t, exec (.sectionRestart .dk) s = .next t ∧ t.chip = s.chip ∧
       (∀ l, t.lane l = Lane.initial (s.lane l).session.settings (s.lane l).out) ∧
       (∀ p, t.pair p =
         Pair.initial (s.ret p).rackFull (s.ret p).overload (s.turn p).settings (s.pair p).motor) ∧
       (∀ k : Fin 112, t.directory.entries[k] = { s.directory.entries[k] with used := false, locked := false }) ∧
       t.directory.ranges = s.directory.ranges ∧ t.directory.fetch = [] ∧
       (∀ q, t.port q =
         { s.port q with
           rx := .hunt, queue := [], lastError := .none, truncated := 0, overrun := 0, framed := 0, events := 0
           reply := if q = .dk then some ⟨0x44, .ok, []⟩ else (s.port q).reply }) ∧
       t.pool.backlog = [] ∧ t.pool.generalFree = generalSlips ∧ (∀ n : Fin 64, n.val < 56 → t.slip n = Slip.blank) ∧
       (∀ n : Fin 64, 56 ≤ n.val →
         (n ∈ s.pool.posts[Port.mc.index] ∧ (s.slip n).origin = some .part →
           t.slip n = s.slip n ∧ n ∈ t.pool.posts[Port.mc.index]) ∧
         (¬ (n ∈ s.pool.posts[Port.mc.index] ∧ (s.slip n).origin = some .part) →
           t.slip n = Slip.blank ∧ n ∈ t.pool.reserveFree)) ∧
       ∀ q : Port, q ≠ .mc → t.pool.posts[q.index] = [])

/-- The settings memory and the resets (R199 to R201): the image is good when its data bytes sum to its check modulo
65,536; a store copies every setting and ends by what the memory did; a load takes the settings whose image a good memory
holds, with every value in its range, else the factory values with SETTINGS_DEFAULTED; a reset stops a store and begins
the load. Five points are the model's and no rule's. The bytes of the image and what a spoiled memory holds are log 7's; the
input levels at a power reset beside R63's are log 9's. The image holds the 64 game prices and 64 unit prices of R199;
that R153's 32 pairs of them stand first and no class and band names the others is log 36's (DEDUCED). That a load refuses whole an image with a
yes-or-no byte above 1 or a park mask byte above 15, as no good copy's image, is log 40's (DEDUCED). The end of a store
or load that is not running is log 18's. -/
def Obligations.SettingsAreStoredAndLoaded : Prop :=
  ∀ s : State,
    (s.canServe .dk →
      (s.storing = none →
        exec (.storeSettings .dk) s = .next ({ s with storing := some s.settings }.replying .dk 0x45 .ok [])) ∧
      (s.storing ≠ none → exec (.storeSettings .dk) s = .next (s.replying .dk 0x45 .busy []))) ∧
    (s.resetHeld = false →
      (s.storing = none → ∀ r, exec (.storeEnd r) s = .next s) ∧
      (∀ copy, s.storing = some copy →
        exec (.storeEnd .written) s =
          .next ({ s with storing := none, memory := copy.written }.flagDk .storeDone) ∧
        exec (.storeEnd .untouched) s = .next ({ s with storing := none }.flagDk .storeDone) ∧
        exec (.storeEnd .spoiled) s =
          .next ({ s with storing := none, memory := s.memory.spoiled }.flagDk .storeDone)) ∧
      (s.loading = false → ∀ answers, exec (.settingsLoadEnd answers) s = .next s) ∧
      (∀ c : SettingsCopy, s.loading = true → s.memory.good = true → s.memory.data = c.image → c.good = true →
        ∃ t, exec (.settingsLoadEnd true) s = .next t ∧ t.loading = false ∧ t.settings = c ∧
          t.ports = s.ports ∧ t.pool = s.pool ∧ t.memory = s.memory ∧ t.clock = s.clock ∧
          ∀ l, (t.lane l).sup = (s.lane l).sup) ∧
      (∀ answers, s.loading = true →
        (answers = false ∨ s.memory.good = false ∨ ∀ c : SettingsCopy, c.good = true → s.memory.data ≠ c.image) →
        ∃ t, exec (.settingsLoadEnd answers) s = .next t ∧ t.loading = false ∧ t.settings = SettingsCopy.factory ∧
          t.flagged .dk 6 ∧ s.sameLines t ∧ t.pool = s.pool ∧ t.memory = s.memory ∧ t.clock = s.clock ∧
          ∀ l, (t.lane l).sup = (s.lane l).sup)) ∧
    exec .resetAssertedOrPowerLoss s =
      .next { s with
        resetHeld := true, storing := none
        memory := if s.storing = none then s.memory else s.memory.spoiled } ∧
    (∀ m : ConfigMemory,
      (m.good = true ↔ (m.data.map BitVec.toNat).sum % 65536 = m.check.toNat) ∧ m.spoiled.good = false) ∧
    (∀ c : SettingsCopy, c.written.good = true ∧ c.written.data = c.image ∧ c.image.length = 442 ∧
      c.tariff.allPrices.length = 64 ∧
      (c.image.drop 18).take 256 = c.tariff.allPrices.flatMap fun x => byte2 x.game ++ byte2 x.unit) ∧
    ∀ (rate : Bool) (full raised : BitVec 8),
      exec (.powerReset rate full raised) s =
        .next (State.afterReset rate full raised (s.chain.atReset full raised)
          (if s.storing = none then s.memory else s.memory.spoiled) s.pending)

/-- R51: records created equal records matched, written off and on the list, at every pair, in every state a step
leads to from one in which they do; and the list never holds more than 16. -/
def Obligations.TransitRecordsBalance : Prop :=
  State.reset.transitLaw ∧ ∀ s t : State, s.transitLaw → step s = .next t → t.transitLaw

/-- R156: balance plus charged stays credited in a prepaid session, and the amounts keep their bounds. R16 and R21:
the light and closing reason follow the session state, and a Supervisor holds a cycle, warm-up, hand set or fault
exactly in the state of that name. -/
def Obligations.LaneRecordsStayLawful : Prop :=
  (∀ s t : State, s.meterLaw → step s = .next t → t.meterLaw) ∧
  (∀ s t : State, step s = .next t → (s.lightLaw → t.lightLaw) ∧ (s.supervisorLaw → t.supervisorLaw))

/-- R170 to R172, R181, R187, R134, R101: every slip stays on the one list of its state, and no list outgrows its
limit. -/
def Obligations.ListsStayLawful : Prop :=
  ∀ s t : State, step s = .next t → (s.pool.lawful → t.pool.lawful) ∧ (s.listLaw → t.listLaw)
end

