-- ==== Sys2Proof/Laws/State.lean ====
section
/-! SUPPORT. What each named update of State leaves of each field, and what a read of a lane, pair, port or slip
finds after it: the lemmas by which no proof unfolds a record update. -/

namespace Sys2Proof.Machine

/-! ## Fields that an update leaves -/

@[simp] theorem pairs_modLane (s : State) (l : Fin 16) (f : Lane → Lane) : (s.modLane l f).pairs = s.pairs := rfl
@[simp] theorem chain_modLane (s : State) (l : Fin 16) (f : Lane → Lane) : (s.modLane l f).chain = s.chain := rfl
@[simp] theorem directory_modLane (s : State) (l : Fin 16) (f : Lane → Lane) : (s.modLane l f).directory = s.directory := rfl
@[simp] theorem clock_modLane (s : State) (l : Fin 16) (f : Lane → Lane) : (s.modLane l f).clock = s.clock := rfl
@[simp] theorem tariff_modLane (s : State) (l : Fin 16) (f : Lane → Lane) : (s.modLane l f).tariff = s.tariff := rfl
@[simp] theorem billing_modLane (s : State) (l : Fin 16) (f : Lane → Lane) : (s.modLane l f).billing = s.billing := rfl
@[simp] theorem timers_modLane (s : State) (l : Fin 16) (f : Lane → Lane) : (s.modLane l f).timers = s.timers := rfl
@[simp] theorem retSettings_modLane (s : State) (l : Fin 16) (f : Lane → Lane) : (s.modLane l f).retSettings = s.retSettings := rfl
@[simp] theorem pool_modLane (s : State) (l : Fin 16) (f : Lane → Lane) : (s.modLane l f).pool = s.pool := rfl
@[simp] theorem ports_modLane (s : State) (l : Fin 16) (f : Lane → Lane) : (s.modLane l f).ports = s.ports := rfl
@[simp] theorem rateHigh_modLane (s : State) (l : Fin 16) (f : Lane → Lane) : (s.modLane l f).rateHigh = s.rateHigh := rfl
@[simp] theorem loading_modLane (s : State) (l : Fin 16) (f : Lane → Lane) : (s.modLane l f).loading = s.loading := rfl
@[simp] theorem storing_modLane (s : State) (l : Fin 16) (f : Lane → Lane) : (s.modLane l f).storing = s.storing := rfl
@[simp] theorem memory_modLane (s : State) (l : Fin 16) (f : Lane → Lane) : (s.modLane l f).memory = s.memory := rfl
@[simp] theorem resetHeld_modLane (s : State) (l : Fin 16) (f : Lane → Lane) : (s.modLane l f).resetHeld = s.resetHeld := rfl
@[simp] theorem now_modLane (s : State) (l : Fin 16) (f : Lane → Lane) : (s.modLane l f).now = s.now := rfl
@[simp] theorem pending_modLane (s : State) (l : Fin 16) (f : Lane → Lane) : (s.modLane l f).pending = s.pending := rfl
@[simp] theorem chip_modLane (s : State) (l : Fin 16) (f : Lane → Lane) : (s.modLane l f).chip = s.chip := rfl

@[simp] theorem lanes_modPair (s : State) (p : Fin 8) (f : Pair → Pair) : (s.modPair p f).lanes = s.lanes := rfl
@[simp] theorem chain_modPair (s : State) (p : Fin 8) (f : Pair → Pair) : (s.modPair p f).chain = s.chain := rfl
@[simp] theorem directory_modPair (s : State) (p : Fin 8) (f : Pair → Pair) : (s.modPair p f).directory = s.directory := rfl
@[simp] theorem clock_modPair (s : State) (p : Fin 8) (f : Pair → Pair) : (s.modPair p f).clock = s.clock := rfl
@[simp] theorem tariff_modPair (s : State) (p : Fin 8) (f : Pair → Pair) : (s.modPair p f).tariff = s.tariff := rfl
@[simp] theorem billing_modPair (s : State) (p : Fin 8) (f : Pair → Pair) : (s.modPair p f).billing = s.billing := rfl
@[simp] theorem timers_modPair (s : State) (p : Fin 8) (f : Pair → Pair) : (s.modPair p f).timers = s.timers := rfl
@[simp] theorem retSettings_modPair (s : State) (p : Fin 8) (f : Pair → Pair) : (s.modPair p f).retSettings = s.retSettings := rfl
@[simp] theorem pool_modPair (s : State) (p : Fin 8) (f : Pair → Pair) : (s.modPair p f).pool = s.pool := rfl
@[simp] theorem ports_modPair (s : State) (p : Fin 8) (f : Pair → Pair) : (s.modPair p f).ports = s.ports := rfl
@[simp] theorem rateHigh_modPair (s : State) (p : Fin 8) (f : Pair → Pair) : (s.modPair p f).rateHigh = s.rateHigh := rfl
@[simp] theorem loading_modPair (s : State) (p : Fin 8) (f : Pair → Pair) : (s.modPair p f).loading = s.loading := rfl
@[simp] theorem storing_modPair (s : State) (p : Fin 8) (f : Pair → Pair) : (s.modPair p f).storing = s.storing := rfl
@[simp] theorem memory_modPair (s : State) (p : Fin 8) (f : Pair → Pair) : (s.modPair p f).memory = s.memory := rfl
@[simp] theorem resetHeld_modPair (s : State) (p : Fin 8) (f : Pair → Pair) : (s.modPair p f).resetHeld = s.resetHeld := rfl
@[simp] theorem now_modPair (s : State) (p : Fin 8) (f : Pair → Pair) : (s.modPair p f).now = s.now := rfl
@[simp] theorem pending_modPair (s : State) (p : Fin 8) (f : Pair → Pair) : (s.modPair p f).pending = s.pending := rfl
@[simp] theorem chip_modPair (s : State) (p : Fin 8) (f : Pair → Pair) : (s.modPair p f).chip = s.chip := rfl

@[simp] theorem lanes_modPort (s : State) (p : Port) (f : PortIf → PortIf) : (s.modPort p f).lanes = s.lanes := rfl
@[simp] theorem pairs_modPort (s : State) (p : Port) (f : PortIf → PortIf) : (s.modPort p f).pairs = s.pairs := rfl
@[simp] theorem chain_modPort (s : State) (p : Port) (f : PortIf → PortIf) : (s.modPort p f).chain = s.chain := rfl
@[simp] theorem directory_modPort (s : State) (p : Port) (f : PortIf → PortIf) : (s.modPort p f).directory = s.directory := rfl
@[simp] theorem clock_modPort (s : State) (p : Port) (f : PortIf → PortIf) : (s.modPort p f).clock = s.clock := rfl
@[simp] theorem tariff_modPort (s : State) (p : Port) (f : PortIf → PortIf) : (s.modPort p f).tariff = s.tariff := rfl
@[simp] theorem billing_modPort (s : State) (p : Port) (f : PortIf → PortIf) : (s.modPort p f).billing = s.billing := rfl
@[simp] theorem timers_modPort (s : State) (p : Port) (f : PortIf → PortIf) : (s.modPort p f).timers = s.timers := rfl
@[simp] theorem retSettings_modPort (s : State) (p : Port) (f : PortIf → PortIf) : (s.modPort p f).retSettings = s.retSettings := rfl
@[simp] theorem pool_modPort (s : State) (p : Port) (f : PortIf → PortIf) : (s.modPort p f).pool = s.pool := rfl
@[simp] theorem rateHigh_modPort (s : State) (p : Port) (f : PortIf → PortIf) : (s.modPort p f).rateHigh = s.rateHigh := rfl
@[simp] theorem loading_modPort (s : State) (p : Port) (f : PortIf → PortIf) : (s.modPort p f).loading = s.loading := rfl
@[simp] theorem storing_modPort (s : State) (p : Port) (f : PortIf → PortIf) : (s.modPort p f).storing = s.storing := rfl
@[simp] theorem memory_modPort (s : State) (p : Port) (f : PortIf → PortIf) : (s.modPort p f).memory = s.memory := rfl
@[simp] theorem resetHeld_modPort (s : State) (p : Port) (f : PortIf → PortIf) : (s.modPort p f).resetHeld = s.resetHeld := rfl
@[simp] theorem now_modPort (s : State) (p : Port) (f : PortIf → PortIf) : (s.modPort p f).now = s.now := rfl
@[simp] theorem pending_modPort (s : State) (p : Port) (f : PortIf → PortIf) : (s.modPort p f).pending = s.pending := rfl
@[simp] theorem chip_modPort (s : State) (p : Port) (f : PortIf → PortIf) : (s.modPort p f).chip = s.chip := rfl

@[simp] theorem lanes_modPool (s : State) (f : SlipPool → SlipPool) : (s.modPool f).lanes = s.lanes := rfl
@[simp] theorem pairs_modPool (s : State) (f : SlipPool → SlipPool) : (s.modPool f).pairs = s.pairs := rfl
@[simp] theorem chain_modPool (s : State) (f : SlipPool → SlipPool) : (s.modPool f).chain = s.chain := rfl
@[simp] theorem directory_modPool (s : State) (f : SlipPool → SlipPool) : (s.modPool f).directory = s.directory := rfl
@[simp] theorem clock_modPool (s : State) (f : SlipPool → SlipPool) : (s.modPool f).clock = s.clock := rfl
@[simp] theorem tariff_modPool (s : State) (f : SlipPool → SlipPool) : (s.modPool f).tariff = s.tariff := rfl
@[simp] theorem billing_modPool (s : State) (f : SlipPool → SlipPool) : (s.modPool f).billing = s.billing := rfl
@[simp] theorem timers_modPool (s : State) (f : SlipPool → SlipPool) : (s.modPool f).timers = s.timers := rfl
@[simp] theorem retSettings_modPool (s : State) (f : SlipPool → SlipPool) : (s.modPool f).retSettings = s.retSettings := rfl
@[simp] theorem ports_modPool (s : State) (f : SlipPool → SlipPool) : (s.modPool f).ports = s.ports := rfl
@[simp] theorem rateHigh_modPool (s : State) (f : SlipPool → SlipPool) : (s.modPool f).rateHigh = s.rateHigh := rfl
@[simp] theorem loading_modPool (s : State) (f : SlipPool → SlipPool) : (s.modPool f).loading = s.loading := rfl
@[simp] theorem storing_modPool (s : State) (f : SlipPool → SlipPool) : (s.modPool f).storing = s.storing := rfl
@[simp] theorem memory_modPool (s : State) (f : SlipPool → SlipPool) : (s.modPool f).memory = s.memory := rfl
@[simp] theorem resetHeld_modPool (s : State) (f : SlipPool → SlipPool) : (s.modPool f).resetHeld = s.resetHeld := rfl
@[simp] theorem now_modPool (s : State) (f : SlipPool → SlipPool) : (s.modPool f).now = s.now := rfl
@[simp] theorem pending_modPool (s : State) (f : SlipPool → SlipPool) : (s.modPool f).pending = s.pending := rfl
@[simp] theorem chip_modPool (s : State) (f : SlipPool → SlipPool) : (s.modPool f).chip = s.chip := rfl

@[simp] theorem lanes_modDirectory (s : State) (f : Directory → Directory) : (s.modDirectory f).lanes = s.lanes := rfl
@[simp] theorem pairs_modDirectory (s : State) (f : Directory → Directory) : (s.modDirectory f).pairs = s.pairs := rfl
@[simp] theorem chain_modDirectory (s : State) (f : Directory → Directory) : (s.modDirectory f).chain = s.chain := rfl
@[simp] theorem clock_modDirectory (s : State) (f : Directory → Directory) : (s.modDirectory f).clock = s.clock := rfl
@[simp] theorem tariff_modDirectory (s : State) (f : Directory → Directory) : (s.modDirectory f).tariff = s.tariff := rfl
@[simp] theorem billing_modDirectory (s : State) (f : Directory → Directory) : (s.modDirectory f).billing = s.billing := rfl
@[simp] theorem timers_modDirectory (s : State) (f : Directory → Directory) : (s.modDirectory f).timers = s.timers := rfl
@[simp] theorem retSettings_modDirectory (s : State) (f : Directory → Directory) : (s.modDirectory f).retSettings = s.retSettings := rfl
@[simp] theorem pool_modDirectory (s : State) (f : Directory → Directory) : (s.modDirectory f).pool = s.pool := rfl
@[simp] theorem ports_modDirectory (s : State) (f : Directory → Directory) : (s.modDirectory f).ports = s.ports := rfl
@[simp] theorem rateHigh_modDirectory (s : State) (f : Directory → Directory) : (s.modDirectory f).rateHigh = s.rateHigh := rfl
@[simp] theorem loading_modDirectory (s : State) (f : Directory → Directory) : (s.modDirectory f).loading = s.loading := rfl
@[simp] theorem storing_modDirectory (s : State) (f : Directory → Directory) : (s.modDirectory f).storing = s.storing := rfl
@[simp] theorem memory_modDirectory (s : State) (f : Directory → Directory) : (s.modDirectory f).memory = s.memory := rfl
@[simp] theorem resetHeld_modDirectory (s : State) (f : Directory → Directory) : (s.modDirectory f).resetHeld = s.resetHeld := rfl
@[simp] theorem now_modDirectory (s : State) (f : Directory → Directory) : (s.modDirectory f).now = s.now := rfl
@[simp] theorem pending_modDirectory (s : State) (f : Directory → Directory) : (s.modDirectory f).pending = s.pending := rfl
@[simp] theorem chip_modDirectory (s : State) (f : Directory → Directory) : (s.modDirectory f).chip = s.chip := rfl

/-! ## Reads that an update leaves -/

@[simp] theorem pair_modLane (s : State) (l : Fin 16) (f : Lane → Lane) (q : Fin 8) : (s.modLane l f).pair q = s.pair q := rfl
@[simp] theorem port_modLane (s : State) (l : Fin 16) (f : Lane → Lane) (q : Port) : (s.modLane l f).port q = s.port q := rfl
@[simp] theorem slip_modLane (s : State) (l : Fin 16) (f : Lane → Lane) (n : Fin 64) : (s.modLane l f).slip n = s.slip n := rfl
@[simp] theorem ret_modLane (s : State) (l : Fin 16) (f : Lane → Lane) (q : Fin 8) : (s.modLane l f).ret q = s.ret q := rfl
@[simp] theorem turn_modLane (s : State) (l : Fin 16) (f : Lane → Lane) (q : Fin 8) : (s.modLane l f).turn q = s.turn q := rfl
@[simp] theorem slot_modLane (s : State) (l : Fin 16) (f : Lane → Lane) (q : Fin 8) (i : Fin 12) : (s.modLane l f).slot q i = s.slot q i := rfl
@[simp] theorem upSlot_modLane (s : State) (l : Fin 16) (f : Lane → Lane) (k : Fin 16) : (s.modLane l f).upSlot k = s.upSlot k := rfl
@[simp] theorem findSlot_modLane (s : State) (l : Fin 16) (f : Lane → Lane) (n : Nat) : (s.modLane l f).findSlot n = s.findSlot n := rfl
@[simp] theorem band_modLane (s : State) (l : Fin 16) (f : Lane → Lane) : (s.modLane l f).band = s.band := rfl
@[simp] theorem foulWindow_modLane (s : State) (l : Fin 16) (f : Lane → Lane) : (s.modLane l f).foulWindow = s.foulWindow := rfl

@[simp] theorem lane_modPair (s : State) (p : Fin 8) (f : Pair → Pair) (k : Fin 16) : (s.modPair p f).lane k = s.lane k := rfl
@[simp] theorem port_modPair (s : State) (p : Fin 8) (f : Pair → Pair) (q : Port) : (s.modPair p f).port q = s.port q := rfl
@[simp] theorem slip_modPair (s : State) (p : Fin 8) (f : Pair → Pair) (n : Fin 64) : (s.modPair p f).slip n = s.slip n := rfl
@[simp] theorem session_modPair (s : State) (p : Fin 8) (f : Pair → Pair) (k : Fin 16) : (s.modPair p f).session k = s.session k := rfl
@[simp] theorem running_modPair (s : State) (p : Fin 8) (f : Pair → Pair) (k : Fin 16) : (s.modPair p f).running k = s.running k := rfl
@[simp] theorem powerGranted_modPair (s : State) (p : Fin 8) (f : Pair → Pair) (k : Fin 16) : (s.modPair p f).powerGranted k = s.powerGranted k := rfl
@[simp] theorem band_modPair (s : State) (p : Fin 8) (f : Pair → Pair) : (s.modPair p f).band = s.band := rfl
@[simp] theorem foulWindow_modPair (s : State) (p : Fin 8) (f : Pair → Pair) : (s.modPair p f).foulWindow = s.foulWindow := rfl

@[simp] theorem lane_modPort (s : State) (p : Port) (f : PortIf → PortIf) (k : Fin 16) : (s.modPort p f).lane k = s.lane k := rfl
@[simp] theorem pair_modPort (s : State) (p : Port) (f : PortIf → PortIf) (q : Fin 8) : (s.modPort p f).pair q = s.pair q := rfl
@[simp] theorem slip_modPort (s : State) (p : Port) (f : PortIf → PortIf) (n : Fin 64) : (s.modPort p f).slip n = s.slip n := rfl
@[simp] theorem ret_modPort (s : State) (p : Port) (f : PortIf → PortIf) (q : Fin 8) : (s.modPort p f).ret q = s.ret q := rfl
@[simp] theorem turn_modPort (s : State) (p : Port) (f : PortIf → PortIf) (q : Fin 8) : (s.modPort p f).turn q = s.turn q := rfl
@[simp] theorem session_modPort (s : State) (p : Port) (f : PortIf → PortIf) (k : Fin 16) : (s.modPort p f).session k = s.session k := rfl
@[simp] theorem slot_modPort (s : State) (p : Port) (f : PortIf → PortIf) (q : Fin 8) (i : Fin 12) : (s.modPort p f).slot q i = s.slot q i := rfl
@[simp] theorem upSlot_modPort (s : State) (p : Port) (f : PortIf → PortIf) (k : Fin 16) : (s.modPort p f).upSlot k = s.upSlot k := rfl
@[simp] theorem running_modPort (s : State) (p : Port) (f : PortIf → PortIf) (k : Fin 16) : (s.modPort p f).running k = s.running k := rfl
@[simp] theorem powerGranted_modPort (s : State) (p : Port) (f : PortIf → PortIf) (k : Fin 16) : (s.modPort p f).powerGranted k = s.powerGranted k := rfl
@[simp] theorem findSlot_modPort (s : State) (p : Port) (f : PortIf → PortIf) (n : Nat) : (s.modPort p f).findSlot n = s.findSlot n := rfl
@[simp] theorem band_modPort (s : State) (p : Port) (f : PortIf → PortIf) : (s.modPort p f).band = s.band := rfl
@[simp] theorem foulWindow_modPort (s : State) (p : Port) (f : PortIf → PortIf) : (s.modPort p f).foulWindow = s.foulWindow := rfl

@[simp] theorem lane_modPool (s : State) (f : SlipPool → SlipPool) (k : Fin 16) : (s.modPool f).lane k = s.lane k := rfl
@[simp] theorem pair_modPool (s : State) (f : SlipPool → SlipPool) (q : Fin 8) : (s.modPool f).pair q = s.pair q := rfl
@[simp] theorem port_modPool (s : State) (f : SlipPool → SlipPool) (q : Port) : (s.modPool f).port q = s.port q := rfl
@[simp] theorem ret_modPool (s : State) (f : SlipPool → SlipPool) (q : Fin 8) : (s.modPool f).ret q = s.ret q := rfl
@[simp] theorem turn_modPool (s : State) (f : SlipPool → SlipPool) (q : Fin 8) : (s.modPool f).turn q = s.turn q := rfl
@[simp] theorem session_modPool (s : State) (f : SlipPool → SlipPool) (k : Fin 16) : (s.modPool f).session k = s.session k := rfl
@[simp] theorem slot_modPool (s : State) (f : SlipPool → SlipPool) (q : Fin 8) (i : Fin 12) : (s.modPool f).slot q i = s.slot q i := rfl
@[simp] theorem upSlot_modPool (s : State) (f : SlipPool → SlipPool) (k : Fin 16) : (s.modPool f).upSlot k = s.upSlot k := rfl
@[simp] theorem running_modPool (s : State) (f : SlipPool → SlipPool) (k : Fin 16) : (s.modPool f).running k = s.running k := rfl
@[simp] theorem powerGranted_modPool (s : State) (f : SlipPool → SlipPool) (k : Fin 16) : (s.modPool f).powerGranted k = s.powerGranted k := rfl
@[simp] theorem findSlot_modPool (s : State) (f : SlipPool → SlipPool) (n : Nat) : (s.modPool f).findSlot n = s.findSlot n := rfl
@[simp] theorem band_modPool (s : State) (f : SlipPool → SlipPool) : (s.modPool f).band = s.band := rfl
@[simp] theorem foulWindow_modPool (s : State) (f : SlipPool → SlipPool) : (s.modPool f).foulWindow = s.foulWindow := rfl

@[simp] theorem lane_modDirectory (s : State) (f : Directory → Directory) (k : Fin 16) : (s.modDirectory f).lane k = s.lane k := rfl
@[simp] theorem pair_modDirectory (s : State) (f : Directory → Directory) (q : Fin 8) : (s.modDirectory f).pair q = s.pair q := rfl
@[simp] theorem port_modDirectory (s : State) (f : Directory → Directory) (q : Port) : (s.modDirectory f).port q = s.port q := rfl
@[simp] theorem slip_modDirectory (s : State) (f : Directory → Directory) (n : Fin 64) : (s.modDirectory f).slip n = s.slip n := rfl
@[simp] theorem ret_modDirectory (s : State) (f : Directory → Directory) (q : Fin 8) : (s.modDirectory f).ret q = s.ret q := rfl
@[simp] theorem turn_modDirectory (s : State) (f : Directory → Directory) (q : Fin 8) : (s.modDirectory f).turn q = s.turn q := rfl
@[simp] theorem session_modDirectory (s : State) (f : Directory → Directory) (k : Fin 16) : (s.modDirectory f).session k = s.session k := rfl
@[simp] theorem slot_modDirectory (s : State) (f : Directory → Directory) (q : Fin 8) (i : Fin 12) : (s.modDirectory f).slot q i = s.slot q i := rfl
@[simp] theorem upSlot_modDirectory (s : State) (f : Directory → Directory) (k : Fin 16) : (s.modDirectory f).upSlot k = s.upSlot k := rfl
@[simp] theorem running_modDirectory (s : State) (f : Directory → Directory) (k : Fin 16) : (s.modDirectory f).running k = s.running k := rfl
@[simp] theorem powerGranted_modDirectory (s : State) (f : Directory → Directory) (k : Fin 16) : (s.modDirectory f).powerGranted k = s.powerGranted k := rfl
@[simp] theorem findSlot_modDirectory (s : State) (f : Directory → Directory) (n : Nat) : (s.modDirectory f).findSlot n = s.findSlot n := rfl
@[simp] theorem band_modDirectory (s : State) (f : Directory → Directory) : (s.modDirectory f).band = s.band := rfl
@[simp] theorem foulWindow_modDirectory (s : State) (f : Directory → Directory) : (s.modDirectory f).foulWindow = s.foulWindow := rfl

/-! ## Reads of what an update writes -/

@[simp] theorem lane_modLane_same (s : State) (l : Fin 16) (f : Lane → Lane) :
    (s.modLane l f).lane l = f (s.lane l) := by simp [State.modLane, State.lane]

theorem lane_modLane_ne (s : State) {l k : Fin 16} (f : Lane → Lane) (h : k ≠ l) :
    (s.modLane l f).lane k = s.lane k := by
  simp [State.modLane, State.lane, show (l : Nat) ≠ k from fun e => h (Fin.ext e.symm)]

theorem lane_modLane (s : State) (l k : Fin 16) (f : Lane → Lane) :
    (s.modLane l f).lane k = if k = l then f (s.lane k) else s.lane k := by
  by_cases h : k = l
  · subst h; simp
  · simp [lane_modLane_ne s f h, h]

@[simp] theorem pair_modPair_same (s : State) (p : Fin 8) (f : Pair → Pair) :
    (s.modPair p f).pair p = f (s.pair p) := by simp [State.modPair, State.pair]

theorem pair_modPair_ne (s : State) {p q : Fin 8} (f : Pair → Pair) (h : q ≠ p) :
    (s.modPair p f).pair q = s.pair q := by
  simp [State.modPair, State.pair, show (p : Nat) ≠ q from fun e => h (Fin.ext e.symm)]

theorem pair_modPair (s : State) (p q : Fin 8) (f : Pair → Pair) :
    (s.modPair p f).pair q = if q = p then f (s.pair q) else s.pair q := by
  by_cases h : q = p
  · subst h; simp
  · simp [pair_modPair_ne s f h, h]

/-- Two ports of one index are one port. -/
theorem portIndex_inj {p q : Port} (h : p.index = q.index) : p = q := by
  have e : (p.index : Nat) = q.index := congrArg Fin.val h
  match p, q with
  | .dk, .dk => rfl
  | .mc, .mc => rfl
  | .console a, .console b => exact congrArg _ (Fin.ext (by simpa [Port.index] using e))
  | .dk, .mc => simp [Port.index] at e
  | .mc, .dk => simp [Port.index] at e
  | .dk, .console _ => simp [Port.index] at e
  | .mc, .console _ => simp [Port.index] at e
  | .console _, .dk => simp [Port.index] at e
  | .console _, .mc => simp [Port.index] at e

@[simp] theorem port_modPort_same (s : State) (p : Port) (f : PortIf → PortIf) :
    (s.modPort p f).port p = f (s.port p) := by simp [State.modPort, State.port]

theorem port_modPort_ne (s : State) {p q : Port} (f : PortIf → PortIf) (h : q ≠ p) :
    (s.modPort p f).port q = s.port q := by
  have : (p.index : Nat) ≠ q.index := fun e => h (portIndex_inj (Fin.ext e)).symm
  simp [State.modPort, State.port, this]

theorem port_modPort (s : State) (p q : Port) (f : PortIf → PortIf) :
    (s.modPort p f).port q = if q = p then f (s.port q) else s.port q := by
  by_cases h : q = p
  · subst h; simp
  · simp [port_modPort_ne s f h, h]

@[simp] theorem pool_modPool (s : State) (f : SlipPool → SlipPool) : (s.modPool f).pool = f s.pool := rfl

@[simp] theorem directory_modDirectory (s : State) (f : Directory → Directory) :
    (s.modDirectory f).directory = f s.directory := rfl

@[simp] theorem slips_modSlip_same (q : SlipPool) (n : Fin 64) (f : Slip → Slip) :
    (q.modSlip n f).slips[(n : Nat)] = f q.slips[n] := by simp [SlipPool.modSlip]

theorem slips_modSlip (q : SlipPool) (n k : Fin 64) (f : Slip → Slip) :
    (q.modSlip n f).slips[k] = if k = n then f q.slips[k] else q.slips[k] := by
  by_cases h : k = n
  · subst h; simp [SlipPool.modSlip]
  · simp [SlipPool.modSlip, h, show (n : Nat) ≠ k from fun e => h (Fin.ext e.symm)]

theorem slots_modSlot (t : TurnUnit) (i k : Fin 12) (f : Slot → Slot) :
    (t.modSlot i f).slots[k] = if k = i then f t.slots[k] else t.slots[k] := by
  by_cases h : k = i
  · subst h; simp [TurnUnit.modSlot]
  · simp [TurnUnit.modSlot, h, show (i : Nat) ≠ k from fun e => h (Fin.ext e.symm)]

@[simp] theorem queue_modSlot (t : TurnUnit) (i : Fin 12) (f : Slot → Slot) (sd : Side) :
    (t.modSlot i f).queue sd = t.queue sd := by cases sd <;> rfl

@[simp] theorem queue_setQueue_same (t : TurnUnit) (sd : Side) (q : List (Fin 12)) :
    (t.setQueue sd q).queue sd = q := by cases sd <;> rfl

@[simp] theorem queue_setQueue_other (t : TurnUnit) (sd : Side) (q : List (Fin 12)) :
    (t.setQueue sd q).queue sd.other = t.queue sd.other := by cases sd <;> rfl

@[simp] theorem slots_setQueue (t : TurnUnit) (sd : Side) (q : List (Fin 12)) :
    (t.setQueue sd q).slots = t.slots := by cases sd <;> rfl

@[simp] theorem slots_setPaid (t : TurnUnit) (sd : Side) (b : Bool) : (t.setPaid sd b).slots = t.slots := by
  cases sd <;> rfl

@[simp] theorem queue_setPaid (t : TurnUnit) (sd : Side) (b : Bool) (q : Side) :
    (t.setPaid sd b).queue q = t.queue q := by cases sd <;> cases q <;> rfl

@[simp] theorem paid_setPaid_same (t : TurnUnit) (sd : Side) (b : Bool) : (t.setPaid sd b).paid sd = b := by
  cases sd <;> rfl

/-! ## Updates of a part of a record -/

@[simp] theorem ret_modRet_same (s : State) (p : Fin 8) (f : ReturnMonitor → ReturnMonitor) :
    (s.modRet p f).ret p = f (s.ret p) := by simp [State.modRet, State.ret]

theorem ret_modRet (s : State) (p q : Fin 8) (f : ReturnMonitor → ReturnMonitor) :
    (s.modRet p f).ret q = if q = p then f (s.ret q) else s.ret q := by
  simp only [State.modRet, State.ret, pair_modPair]; split <;> rfl

@[simp] theorem modPort_modPort (s : State) (p : Port) (f g : PortIf → PortIf) :
    (s.modPort p f).modPort p g = s.modPort p fun x => g (f x) := by
  simp [State.modPort, State.port]

theorem sup_modSup (s : State) (l k : Fin 16) (f : Supervisor → Supervisor) :
    ((s.modSup l f).lane k).sup = if k = l then f (s.lane k).sup else (s.lane k).sup := by
  simp only [State.modSup, lane_modLane]; split <;> rfl

end Sys2Proof.Machine
end

