-- ==== Sys2Proof/Laws/FramesPins.lean ====
section
/-! SUPPORT. Frame lemmas: what the operations on calls, timers, fetches, the lift, the lane pins, park lists, heads and the waking of lanes keep.
A lemma `<component>_<operation>` says that the operation leaves that component of the state as it was. -/

namespace Sys2Proof.Machine

set_option linter.unusedSimpArgs false
set_option linter.unnecessarySeqFocus false
set_option linter.unusedTactic false
set_option linter.unreachableTactic false

/-- What one step of a fold keeps, the fold keeps. -/
theorem foldl_keeps {α β : Type} (g : State → β) {f : State → α → State} (h : ∀ s a, g (f s a) = g s) (l : List α)
    (s : State) : g (l.foldl f s) = g s := by
  induction l generalizing s with
  | nil => rfl
  | cons a l ih => simp [ih, h]

/-! ### modSup -/

@[simp] theorem chip_modSup (s : State) (l : Fin 16) (f : Supervisor → Supervisor) :
    (s.modSup l f).chip = s.chip := by
  simp [State.modSup]

@[simp] theorem line_modSup (s : State) (l : Fin 16) (f : Supervisor → Supervisor) (o : Port) :
    ((s.modSup l f).port o).line = (s.port o).line := by
  simp [State.modSup]

@[simp] theorem directory_modSup (s : State) (l : Fin 16) (f : Supervisor → Supervisor) :
    (s.modSup l f).directory = s.directory := by
  simp [State.modSup]

@[simp] theorem pool_modSup (s : State) (l : Fin 16) (f : Supervisor → Supervisor) :
    (s.modSup l f).pool = s.pool := by
  simp [State.modSup]

@[simp] theorem ret_modSup (s : State) (l : Fin 16) (f : Supervisor → Supervisor) (w : Fin 8) :
    (s.modSup l f).ret w = s.ret w := by
  simp [State.modSup]

@[simp] theorem turn_modSup (s : State) (l : Fin 16) (f : Supervisor → Supervisor) (w : Fin 8) :
    (s.modSup l f).turn w = s.turn w := by
  simp [State.modSup]

@[simp] theorem pair_modSup (s : State) (l : Fin 16) (f : Supervisor → Supervisor) (w : Fin 8) :
    (s.modSup l f).pair w = s.pair w := by
  simp [State.modSup]

@[simp] theorem laneOther_modSup (s : State) (l : Fin 16) (f : Supervisor → Supervisor) (j : Fin 16) (h : j ≠ l) :
    (s.modSup l f).lane j = s.lane j := by
  simp [State.modSup, lane_modLane, h]

@[simp] theorem record_modSup (s : State) (l : Fin 16) (f : Supervisor → Supervisor) (j : Fin 16) :
    ((s.modSup l f).lane j).session = (s.lane j).session := by
  simp only [State.modSup, State.updLane, State.modSup]; (repeat' split) <;> simp [lane_modLane] <;> split <;> simp

@[simp] theorem session_modSup (s : State) (l : Fin 16) (f : Supervisor → Supervisor) (j : Fin 16) :
    (s.modSup l f).session j = s.session j := by
  simp [State.session]

@[simp] theorem meter_modSup (s : State) (l : Fin 16) (f : Supervisor → Supervisor) (j : Fin 16) :
    ((s.modSup l f).lane j).meter = (s.lane j).meter := by
  simp only [State.modSup, State.updLane, State.modSup]; (repeat' split) <;> simp [lane_modLane] <;> split <;> simp

@[simp] theorem snapshot_modSup (s : State) (l : Fin 16) (f : Supervisor → Supervisor) (j : Fin 16) :
    ((s.modSup l f).lane j).snapshot = (s.lane j).snapshot := by
  simp only [State.modSup, State.updLane, State.modSup]; (repeat' split) <;> simp [lane_modLane] <;> split <;> simp

@[simp] theorem out_modSup (s : State) (l : Fin 16) (f : Supervisor → Supervisor) (j : Fin 16) :
    ((s.modSup l f).lane j).out = (s.lane j).out := by
  simp only [State.modSup, State.updLane, State.modSup]; (repeat' split) <;> simp [lane_modLane] <;> split <;> simp

/-! ### modMeter -/

@[simp] theorem chip_modMeter (s : State) (l : Fin 16) (f : Meter → Meter) :
    (s.modMeter l f).chip = s.chip := by
  simp [State.modMeter]

@[simp] theorem line_modMeter (s : State) (l : Fin 16) (f : Meter → Meter) (o : Port) :
    ((s.modMeter l f).port o).line = (s.port o).line := by
  simp [State.modMeter]

@[simp] theorem directory_modMeter (s : State) (l : Fin 16) (f : Meter → Meter) :
    (s.modMeter l f).directory = s.directory := by
  simp [State.modMeter]

@[simp] theorem pool_modMeter (s : State) (l : Fin 16) (f : Meter → Meter) :
    (s.modMeter l f).pool = s.pool := by
  simp [State.modMeter]

@[simp] theorem ret_modMeter (s : State) (l : Fin 16) (f : Meter → Meter) (w : Fin 8) :
    (s.modMeter l f).ret w = s.ret w := by
  simp [State.modMeter]

@[simp] theorem turn_modMeter (s : State) (l : Fin 16) (f : Meter → Meter) (w : Fin 8) :
    (s.modMeter l f).turn w = s.turn w := by
  simp [State.modMeter]

@[simp] theorem pair_modMeter (s : State) (l : Fin 16) (f : Meter → Meter) (w : Fin 8) :
    (s.modMeter l f).pair w = s.pair w := by
  simp [State.modMeter]

@[simp] theorem laneOther_modMeter (s : State) (l : Fin 16) (f : Meter → Meter) (j : Fin 16) (h : j ≠ l) :
    (s.modMeter l f).lane j = s.lane j := by
  simp [State.modMeter, lane_modLane, h]

@[simp] theorem record_modMeter (s : State) (l : Fin 16) (f : Meter → Meter) (j : Fin 16) :
    ((s.modMeter l f).lane j).session = (s.lane j).session := by
  simp only [State.modMeter, State.updLane, State.modSup]; (repeat' split) <;> simp [lane_modLane] <;> split <;> simp

@[simp] theorem session_modMeter (s : State) (l : Fin 16) (f : Meter → Meter) (j : Fin 16) :
    (s.modMeter l f).session j = s.session j := by
  simp [State.session]

@[simp] theorem sup_modMeter (s : State) (l : Fin 16) (f : Meter → Meter) (j : Fin 16) :
    ((s.modMeter l f).lane j).sup = (s.lane j).sup := by
  simp only [State.modMeter, State.updLane, State.modSup]; (repeat' split) <;> simp [lane_modLane] <;> split <;> simp

@[simp] theorem snapshot_modMeter (s : State) (l : Fin 16) (f : Meter → Meter) (j : Fin 16) :
    ((s.modMeter l f).lane j).snapshot = (s.lane j).snapshot := by
  simp only [State.modMeter, State.updLane, State.modSup]; (repeat' split) <;> simp [lane_modLane] <;> split <;> simp

@[simp] theorem out_modMeter (s : State) (l : Fin 16) (f : Meter → Meter) (j : Fin 16) :
    ((s.modMeter l f).lane j).out = (s.lane j).out := by
  simp only [State.modMeter, State.updLane, State.modSup]; (repeat' split) <;> simp [lane_modLane] <;> split <;> simp

/-! ### modRet -/

@[simp] theorem chip_modRet (s : State) (p : Fin 8) (f : ReturnMonitor → ReturnMonitor) :
    (s.modRet p f).chip = s.chip := by
  simp [State.modRet]

@[simp] theorem line_modRet (s : State) (p : Fin 8) (f : ReturnMonitor → ReturnMonitor) (o : Port) :
    ((s.modRet p f).port o).line = (s.port o).line := by
  simp [State.modRet]

@[simp] theorem directory_modRet (s : State) (p : Fin 8) (f : ReturnMonitor → ReturnMonitor) :
    (s.modRet p f).directory = s.directory := by
  simp [State.modRet]

@[simp] theorem pool_modRet (s : State) (p : Fin 8) (f : ReturnMonitor → ReturnMonitor) :
    (s.modRet p f).pool = s.pool := by
  simp [State.modRet]

@[simp] theorem turn_modRet (s : State) (p : Fin 8) (f : ReturnMonitor → ReturnMonitor) (w : Fin 8) :
    (s.modRet p f).turn w = s.turn w := by
  simp only [State.modRet, State.ret, State.turn, pair_modPair]; (repeat' split) <;> simp

@[simp] theorem pairOther_modRet (s : State) (p : Fin 8) (f : ReturnMonitor → ReturnMonitor) (w : Fin 8) (h : w ≠ p) :
    (s.modRet p f).pair w = s.pair w := by
  simp [State.modRet, pair_modPair, h]

@[simp] theorem motor_modRet (s : State) (p : Fin 8) (f : ReturnMonitor → ReturnMonitor) (w : Fin 8) :
    ((s.modRet p f).pair w).motor = (s.pair w).motor := by
  simp only [State.modRet, State.updTurn, State.modRet]; (repeat' split) <;> simp [pair_modPair] <;> split <;> simp

@[simp] theorem lane_modRet (s : State) (p : Fin 8) (f : ReturnMonitor → ReturnMonitor) (j : Fin 16) :
    (s.modRet p f).lane j = s.lane j := by
  simp [State.modRet]

@[simp] theorem session_modRet (s : State) (p : Fin 8) (f : ReturnMonitor → ReturnMonitor) (j : Fin 16) :
    (s.modRet p f).session j = s.session j := by
  simp [State.session]

/-! ### setEvent -/

@[simp] theorem chip_setEvent (s : State) (p : Port) (k : Nat) :
    (s.setEvent p k).chip = s.chip := by
  simp [State.setEvent]

@[simp] theorem line_setEvent (s : State) (p : Port) (k : Nat) (o : Port) :
    ((s.setEvent p k).port o).line = (s.port o).line := by
  simp only [State.setEvent, port_modPort]; (repeat' split) <;> simp [PortIf.line]

@[simp] theorem directory_setEvent (s : State) (p : Port) (k : Nat) :
    (s.setEvent p k).directory = s.directory := by
  simp [State.setEvent]

@[simp] theorem pool_setEvent (s : State) (p : Port) (k : Nat) :
    (s.setEvent p k).pool = s.pool := by
  simp [State.setEvent]

@[simp] theorem ret_setEvent (s : State) (p : Port) (k : Nat) (w : Fin 8) :
    (s.setEvent p k).ret w = s.ret w := by
  simp [State.setEvent]

@[simp] theorem turn_setEvent (s : State) (p : Port) (k : Nat) (w : Fin 8) :
    (s.setEvent p k).turn w = s.turn w := by
  simp [State.setEvent]

@[simp] theorem pair_setEvent (s : State) (p : Port) (k : Nat) (w : Fin 8) :
    (s.setEvent p k).pair w = s.pair w := by
  simp [State.setEvent]

@[simp] theorem lane_setEvent (s : State) (p : Port) (k : Nat) (j : Fin 16) :
    (s.setEvent p k).lane j = s.lane j := by
  simp [State.setEvent]

@[simp] theorem session_setEvent (s : State) (p : Port) (k : Nat) (j : Fin 16) :
    (s.setEvent p k).session j = s.session j := by
  simp [State.session]

/-! ### flagDk -/

@[simp] theorem chip_flagDk (s : State) (f : DkFlag) :
    (s.flagDk f).chip = s.chip := by
  simp [State.flagDk]

@[simp] theorem line_flagDk (s : State) (f : DkFlag) (o : Port) :
    ((s.flagDk f).port o).line = (s.port o).line := by
  simp [State.flagDk]

@[simp] theorem directory_flagDk (s : State) (f : DkFlag) :
    (s.flagDk f).directory = s.directory := by
  simp [State.flagDk]

@[simp] theorem pool_flagDk (s : State) (f : DkFlag) :
    (s.flagDk f).pool = s.pool := by
  simp [State.flagDk]

@[simp] theorem ret_flagDk (s : State) (f : DkFlag) (w : Fin 8) :
    (s.flagDk f).ret w = s.ret w := by
  simp [State.flagDk]

@[simp] theorem turn_flagDk (s : State) (f : DkFlag) (w : Fin 8) :
    (s.flagDk f).turn w = s.turn w := by
  simp [State.flagDk]

@[simp] theorem pair_flagDk (s : State) (f : DkFlag) (w : Fin 8) :
    (s.flagDk f).pair w = s.pair w := by
  simp [State.flagDk]

@[simp] theorem lane_flagDk (s : State) (f : DkFlag) (j : Fin 16) :
    (s.flagDk f).lane j = s.lane j := by
  simp [State.flagDk]

@[simp] theorem session_flagDk (s : State) (f : DkFlag) (j : Fin 16) :
    (s.flagDk f).session j = s.session j := by
  simp [State.session]

/-! ### flagMc -/

@[simp] theorem chip_flagMc (s : State) (f : McFlag) :
    (s.flagMc f).chip = s.chip := by
  simp [State.flagMc]

@[simp] theorem line_flagMc (s : State) (f : McFlag) (o : Port) :
    ((s.flagMc f).port o).line = (s.port o).line := by
  simp [State.flagMc]

@[simp] theorem directory_flagMc (s : State) (f : McFlag) :
    (s.flagMc f).directory = s.directory := by
  simp [State.flagMc]

@[simp] theorem pool_flagMc (s : State) (f : McFlag) :
    (s.flagMc f).pool = s.pool := by
  simp [State.flagMc]

@[simp] theorem ret_flagMc (s : State) (f : McFlag) (w : Fin 8) :
    (s.flagMc f).ret w = s.ret w := by
  simp [State.flagMc]

@[simp] theorem turn_flagMc (s : State) (f : McFlag) (w : Fin 8) :
    (s.flagMc f).turn w = s.turn w := by
  simp [State.flagMc]

@[simp] theorem pair_flagMc (s : State) (f : McFlag) (w : Fin 8) :
    (s.flagMc f).pair w = s.pair w := by
  simp [State.flagMc]

@[simp] theorem lane_flagMc (s : State) (f : McFlag) (j : Fin 16) :
    (s.flagMc f).lane j = s.lane j := by
  simp [State.flagMc]

@[simp] theorem session_flagMc (s : State) (f : McFlag) (j : Fin 16) :
    (s.flagMc f).session j = s.session j := by
  simp [State.session]

/-! ### flagConsole -/

@[simp] theorem chip_flagConsole (s : State) (n : Fin 8) (f : ConsoleFlag) :
    (s.flagConsole n f).chip = s.chip := by
  simp [State.flagConsole]

@[simp] theorem line_flagConsole (s : State) (n : Fin 8) (f : ConsoleFlag) (o : Port) :
    ((s.flagConsole n f).port o).line = (s.port o).line := by
  simp [State.flagConsole]

@[simp] theorem directory_flagConsole (s : State) (n : Fin 8) (f : ConsoleFlag) :
    (s.flagConsole n f).directory = s.directory := by
  simp [State.flagConsole]

@[simp] theorem pool_flagConsole (s : State) (n : Fin 8) (f : ConsoleFlag) :
    (s.flagConsole n f).pool = s.pool := by
  simp [State.flagConsole]

@[simp] theorem ret_flagConsole (s : State) (n : Fin 8) (f : ConsoleFlag) (w : Fin 8) :
    (s.flagConsole n f).ret w = s.ret w := by
  simp [State.flagConsole]

@[simp] theorem turn_flagConsole (s : State) (n : Fin 8) (f : ConsoleFlag) (w : Fin 8) :
    (s.flagConsole n f).turn w = s.turn w := by
  simp [State.flagConsole]

@[simp] theorem pair_flagConsole (s : State) (n : Fin 8) (f : ConsoleFlag) (w : Fin 8) :
    (s.flagConsole n f).pair w = s.pair w := by
  simp [State.flagConsole]

@[simp] theorem lane_flagConsole (s : State) (n : Fin 8) (f : ConsoleFlag) (j : Fin 16) :
    (s.flagConsole n f).lane j = s.lane j := by
  simp [State.flagConsole]

@[simp] theorem session_flagConsole (s : State) (n : Fin 8) (f : ConsoleFlag) (j : Fin 16) :
    (s.flagConsole n f).session j = s.session j := by
  simp [State.session]

/-! ### updLane -/

@[simp] theorem chip_updLane (s : State) (l : Fin 16) (f : Lane → Lane) :
    (s.updLane l f).chip = s.chip := by
  simp only [State.updLane]; split <;> simp

@[simp] theorem line_updLane (s : State) (l : Fin 16) (f : Lane → Lane) (o : Port) :
    ((s.updLane l f).port o).line = (s.port o).line := by
  simp only [State.updLane]; split <;> simp

@[simp] theorem directory_updLane (s : State) (l : Fin 16) (f : Lane → Lane) :
    (s.updLane l f).directory = s.directory := by
  simp only [State.updLane]; split <;> simp

@[simp] theorem pool_updLane (s : State) (l : Fin 16) (f : Lane → Lane) :
    (s.updLane l f).pool = s.pool := by
  simp only [State.updLane]; split <;> simp

@[simp] theorem ret_updLane (s : State) (l : Fin 16) (f : Lane → Lane) (w : Fin 8) :
    (s.updLane l f).ret w = s.ret w := by
  simp only [State.updLane]; split <;> simp

@[simp] theorem turn_updLane (s : State) (l : Fin 16) (f : Lane → Lane) (w : Fin 8) :
    (s.updLane l f).turn w = s.turn w := by
  simp only [State.updLane]; split <;> simp

@[simp] theorem pair_updLane (s : State) (l : Fin 16) (f : Lane → Lane) (w : Fin 8) :
    (s.updLane l f).pair w = s.pair w := by
  simp only [State.updLane]; split <;> simp

@[simp] theorem laneOther_updLane (s : State) (l : Fin 16) (f : Lane → Lane) (j : Fin 16) (h : j ≠ l) :
    (s.updLane l f).lane j = s.lane j := by
  simp only [State.updLane, State.updLane, State.modSup]; (repeat' split) <;> simp [lane_modLane, h]

/-! ### updSup -/

@[simp] theorem chip_updSup (s : State) (l : Fin 16) (f : Supervisor → Supervisor) :
    (s.updSup l f).chip = s.chip := by
  simp [State.updSup]

@[simp] theorem line_updSup (s : State) (l : Fin 16) (f : Supervisor → Supervisor) (o : Port) :
    ((s.updSup l f).port o).line = (s.port o).line := by
  simp [State.updSup]

@[simp] theorem directory_updSup (s : State) (l : Fin 16) (f : Supervisor → Supervisor) :
    (s.updSup l f).directory = s.directory := by
  simp [State.updSup]

@[simp] theorem pool_updSup (s : State) (l : Fin 16) (f : Supervisor → Supervisor) :
    (s.updSup l f).pool = s.pool := by
  simp [State.updSup]

@[simp] theorem ret_updSup (s : State) (l : Fin 16) (f : Supervisor → Supervisor) (w : Fin 8) :
    (s.updSup l f).ret w = s.ret w := by
  simp [State.updSup]

@[simp] theorem turn_updSup (s : State) (l : Fin 16) (f : Supervisor → Supervisor) (w : Fin 8) :
    (s.updSup l f).turn w = s.turn w := by
  simp [State.updSup]

@[simp] theorem pair_updSup (s : State) (l : Fin 16) (f : Supervisor → Supervisor) (w : Fin 8) :
    (s.updSup l f).pair w = s.pair w := by
  simp [State.updSup]

@[simp] theorem laneOther_updSup (s : State) (l : Fin 16) (f : Supervisor → Supervisor) (j : Fin 16) (h : j ≠ l) :
    (s.updSup l f).lane j = s.lane j := by
  simp only [State.updSup]; (repeat' split) <;> simp [h]

@[simp] theorem record_updSup (s : State) (l : Fin 16) (f : Supervisor → Supervisor) (j : Fin 16) :
    ((s.updSup l f).lane j).session = (s.lane j).session := by
  simp only [State.updSup, State.updLane, State.modSup]; (repeat' split) <;> simp [lane_modLane] <;> split <;> simp

@[simp] theorem session_updSup (s : State) (l : Fin 16) (f : Supervisor → Supervisor) (j : Fin 16) :
    (s.updSup l f).session j = s.session j := by
  simp [State.session]

@[simp] theorem meter_updSup (s : State) (l : Fin 16) (f : Supervisor → Supervisor) (j : Fin 16) :
    ((s.updSup l f).lane j).meter = (s.lane j).meter := by
  simp only [State.updSup, State.updLane, State.modSup]; (repeat' split) <;> simp [lane_modLane] <;> split <;> simp

@[simp] theorem snapshot_updSup (s : State) (l : Fin 16) (f : Supervisor → Supervisor) (j : Fin 16) :
    ((s.updSup l f).lane j).snapshot = (s.lane j).snapshot := by
  simp only [State.updSup, State.updLane, State.modSup]; (repeat' split) <;> simp [lane_modLane] <;> split <;> simp

@[simp] theorem out_updSup (s : State) (l : Fin 16) (f : Supervisor → Supervisor) (j : Fin 16) :
    ((s.updSup l f).lane j).out = (s.lane j).out := by
  simp only [State.updSup, State.updLane, State.modSup]; (repeat' split) <;> simp [lane_modLane] <;> split <;> simp

/-! ### flagConsoleIf -/

@[simp] theorem chip_flagConsoleIf (s : State) (c : Bool) (n : Fin 8) (f : ConsoleFlag) :
    (s.flagConsoleIf c n f).chip = s.chip := by
  simp only [State.flagConsoleIf]; split <;> simp

@[simp] theorem line_flagConsoleIf (s : State) (c : Bool) (n : Fin 8) (f : ConsoleFlag) (o : Port) :
    ((s.flagConsoleIf c n f).port o).line = (s.port o).line := by
  simp only [State.flagConsoleIf]; split <;> simp

@[simp] theorem directory_flagConsoleIf (s : State) (c : Bool) (n : Fin 8) (f : ConsoleFlag) :
    (s.flagConsoleIf c n f).directory = s.directory := by
  simp only [State.flagConsoleIf]; split <;> simp

@[simp] theorem pool_flagConsoleIf (s : State) (c : Bool) (n : Fin 8) (f : ConsoleFlag) :
    (s.flagConsoleIf c n f).pool = s.pool := by
  simp only [State.flagConsoleIf]; split <;> simp

@[simp] theorem ret_flagConsoleIf (s : State) (c : Bool) (n : Fin 8) (f : ConsoleFlag) (w : Fin 8) :
    (s.flagConsoleIf c n f).ret w = s.ret w := by
  simp only [State.flagConsoleIf]; split <;> simp

@[simp] theorem turn_flagConsoleIf (s : State) (c : Bool) (n : Fin 8) (f : ConsoleFlag) (w : Fin 8) :
    (s.flagConsoleIf c n f).turn w = s.turn w := by
  simp only [State.flagConsoleIf]; split <;> simp

@[simp] theorem pair_flagConsoleIf (s : State) (c : Bool) (n : Fin 8) (f : ConsoleFlag) (w : Fin 8) :
    (s.flagConsoleIf c n f).pair w = s.pair w := by
  simp only [State.flagConsoleIf]; split <;> simp

@[simp] theorem lane_flagConsoleIf (s : State) (c : Bool) (n : Fin 8) (f : ConsoleFlag) (j : Fin 16) :
    (s.flagConsoleIf c n f).lane j = s.lane j := by
  simp only [State.flagConsoleIf]; split <;> simp

@[simp] theorem session_flagConsoleIf (s : State) (c : Bool) (n : Fin 8) (f : ConsoleFlag) (j : Fin 16) :
    (s.flagConsoleIf c n f).session j = s.session j := by
  simp [State.session]

/-! ### updTurn -/

@[simp] theorem chip_updTurn (s : State) (p : Fin 8) (f : TurnUnit → TurnUnit) :
    (s.updTurn p f).chip = s.chip := by
  simp [State.updTurn]

@[simp] theorem line_updTurn (s : State) (p : Fin 8) (f : TurnUnit → TurnUnit) (o : Port) :
    ((s.updTurn p f).port o).line = (s.port o).line := by
  simp [State.updTurn]

@[simp] theorem directory_updTurn (s : State) (p : Fin 8) (f : TurnUnit → TurnUnit) :
    (s.updTurn p f).directory = s.directory := by
  simp [State.updTurn]

@[simp] theorem pool_updTurn (s : State) (p : Fin 8) (f : TurnUnit → TurnUnit) :
    (s.updTurn p f).pool = s.pool := by
  simp [State.updTurn]

@[simp] theorem ret_updTurn (s : State) (p : Fin 8) (f : TurnUnit → TurnUnit) (w : Fin 8) :
    (s.updTurn p f).ret w = s.ret w := by
  simp only [State.updTurn, State.ret, State.updTurn]; (repeat' split) <;> simp [pair_modPair] <;> split <;> simp

@[simp] theorem pairOther_updTurn (s : State) (p : Fin 8) (f : TurnUnit → TurnUnit) (w : Fin 8) (h : w ≠ p) :
    (s.updTurn p f).pair w = s.pair w := by
  simp [State.updTurn, pair_modPair, h]

@[simp] theorem motor_updTurn (s : State) (p : Fin 8) (f : TurnUnit → TurnUnit) (w : Fin 8) :
    ((s.updTurn p f).pair w).motor = (s.pair w).motor := by
  simp only [State.updTurn, State.updTurn, State.modRet]; (repeat' split) <;> simp [pair_modPair] <;> split <;> simp

@[simp] theorem lane_updTurn (s : State) (p : Fin 8) (f : TurnUnit → TurnUnit) (j : Fin 16) :
    (s.updTurn p f).lane j = s.lane j := by
  simp [State.updTurn]

@[simp] theorem session_updTurn (s : State) (p : Fin 8) (f : TurnUnit → TurnUnit) (j : Fin 16) :
    (s.updTurn p f).session j = s.session j := by
  simp [State.session]

/-! ### updSlot -/

@[simp] theorem chip_updSlot (s : State) (p : Fin 8) (i : Fin 12) (f : Slot → Slot) :
    (s.updSlot p i f).chip = s.chip := by
  simp [State.updSlot]

@[simp] theorem line_updSlot (s : State) (p : Fin 8) (i : Fin 12) (f : Slot → Slot) (o : Port) :
    ((s.updSlot p i f).port o).line = (s.port o).line := by
  simp [State.updSlot]

@[simp] theorem directory_updSlot (s : State) (p : Fin 8) (i : Fin 12) (f : Slot → Slot) :
    (s.updSlot p i f).directory = s.directory := by
  simp [State.updSlot]

@[simp] theorem pool_updSlot (s : State) (p : Fin 8) (i : Fin 12) (f : Slot → Slot) :
    (s.updSlot p i f).pool = s.pool := by
  simp [State.updSlot]

@[simp] theorem ret_updSlot (s : State) (p : Fin 8) (i : Fin 12) (f : Slot → Slot) (w : Fin 8) :
    (s.updSlot p i f).ret w = s.ret w := by
  simp [State.updSlot]

@[simp] theorem pairOther_updSlot (s : State) (p : Fin 8) (i : Fin 12) (f : Slot → Slot) (w : Fin 8) (h : w ≠ p) :
    (s.updSlot p i f).pair w = s.pair w := by
  simp only [State.updSlot]; (repeat' split) <;> simp [h]

@[simp] theorem motor_updSlot (s : State) (p : Fin 8) (i : Fin 12) (f : Slot → Slot) (w : Fin 8) :
    ((s.updSlot p i f).pair w).motor = (s.pair w).motor := by
  simp [State.updSlot]

@[simp] theorem lane_updSlot (s : State) (p : Fin 8) (i : Fin 12) (f : Slot → Slot) (j : Fin 16) :
    (s.updSlot p i f).lane j = s.lane j := by
  simp [State.updSlot]

@[simp] theorem session_updSlot (s : State) (p : Fin 8) (i : Fin 12) (f : Slot → Slot) (j : Fin 16) :
    (s.updSlot p i f).session j = s.session j := by
  simp [State.session]

/-! ### sound -/

@[simp] theorem chip_sound (s : State) (l : Fin 16) (t : Tone) :
    (s.sound l t).chip = s.chip := by
  simp [State.sound]

@[simp] theorem line_sound (s : State) (l : Fin 16) (t : Tone) (o : Port) :
    ((s.sound l t).port o).line = (s.port o).line := by
  simp [State.sound]

@[simp] theorem directory_sound (s : State) (l : Fin 16) (t : Tone) :
    (s.sound l t).directory = s.directory := by
  simp [State.sound]

@[simp] theorem pool_sound (s : State) (l : Fin 16) (t : Tone) :
    (s.sound l t).pool = s.pool := by
  simp [State.sound]

@[simp] theorem ret_sound (s : State) (l : Fin 16) (t : Tone) (w : Fin 8) :
    (s.sound l t).ret w = s.ret w := by
  simp [State.sound]

@[simp] theorem turn_sound (s : State) (l : Fin 16) (t : Tone) (w : Fin 8) :
    (s.sound l t).turn w = s.turn w := by
  simp [State.sound]

@[simp] theorem pair_sound (s : State) (l : Fin 16) (t : Tone) (w : Fin 8) :
    (s.sound l t).pair w = s.pair w := by
  simp [State.sound]

@[simp] theorem laneOther_sound (s : State) (l : Fin 16) (t : Tone) (j : Fin 16) (h : j ≠ l) :
    (s.sound l t).lane j = s.lane j := by
  simp only [State.sound]; (repeat' split) <;> simp [h]

@[simp] theorem record_sound (s : State) (l : Fin 16) (t : Tone) (j : Fin 16) :
    ((s.sound l t).lane j).session = (s.lane j).session := by
  simp [State.sound]

@[simp] theorem session_sound (s : State) (l : Fin 16) (t : Tone) (j : Fin 16) :
    (s.sound l t).session j = s.session j := by
  simp [State.session]

@[simp] theorem meter_sound (s : State) (l : Fin 16) (t : Tone) (j : Fin 16) :
    ((s.sound l t).lane j).meter = (s.lane j).meter := by
  simp [State.sound]

@[simp] theorem snapshot_sound (s : State) (l : Fin 16) (t : Tone) (j : Fin 16) :
    ((s.sound l t).lane j).snapshot = (s.lane j).snapshot := by
  simp [State.sound]

@[simp] theorem out_sound (s : State) (l : Fin 16) (t : Tone) (j : Fin 16) :
    ((s.sound l t).lane j).out = (s.lane j).out := by
  simp [State.sound]

/-! ### backlogCall -/

@[simp] theorem chip_backlogCall (s : State) (c : Call) :
    (s.backlogCall c).chip = s.chip := by
  simp only [State.backlogCall]; (repeat' split) <;> simp

@[simp] theorem line_backlogCall (s : State) (c : Call) (o : Port) :
    ((s.backlogCall c).port o).line = (s.port o).line := by
  simp only [State.backlogCall]; (repeat' split) <;> simp

@[simp] theorem directory_backlogCall (s : State) (c : Call) :
    (s.backlogCall c).directory = s.directory := by
  simp only [State.backlogCall]; (repeat' split) <;> simp

@[simp] theorem ret_backlogCall (s : State) (c : Call) (w : Fin 8) :
    (s.backlogCall c).ret w = s.ret w := by
  simp only [State.backlogCall]; (repeat' split) <;> simp

@[simp] theorem turn_backlogCall (s : State) (c : Call) (w : Fin 8) :
    (s.backlogCall c).turn w = s.turn w := by
  simp only [State.backlogCall]; (repeat' split) <;> simp

@[simp] theorem pair_backlogCall (s : State) (c : Call) (w : Fin 8) :
    (s.backlogCall c).pair w = s.pair w := by
  simp only [State.backlogCall]; (repeat' split) <;> simp

@[simp] theorem lane_backlogCall (s : State) (c : Call) (j : Fin 16) :
    (s.backlogCall c).lane j = s.lane j := by
  simp only [State.backlogCall]; (repeat' split) <;> simp

@[simp] theorem session_backlogCall (s : State) (c : Call) (j : Fin 16) :
    (s.backlogCall c).session j = s.session j := by
  simp [State.session]

/-! ### raiseCall -/

@[simp] theorem chip_raiseCall (s : State) (c : Call) :
    (s.raiseCall c).chip = s.chip := by
  simp only [State.raiseCall]; (repeat' split) <;> simp

@[simp] theorem line_raiseCall (s : State) (c : Call) (o : Port) :
    ((s.raiseCall c).port o).line = (s.port o).line := by
  simp only [State.raiseCall]; (repeat' split) <;> simp

@[simp] theorem directory_raiseCall (s : State) (c : Call) :
    (s.raiseCall c).directory = s.directory := by
  simp only [State.raiseCall]; (repeat' split) <;> simp

@[simp] theorem ret_raiseCall (s : State) (c : Call) (w : Fin 8) :
    (s.raiseCall c).ret w = s.ret w := by
  simp only [State.raiseCall]; (repeat' split) <;> simp

@[simp] theorem turn_raiseCall (s : State) (c : Call) (w : Fin 8) :
    (s.raiseCall c).turn w = s.turn w := by
  simp only [State.raiseCall]; (repeat' split) <;> simp

@[simp] theorem pair_raiseCall (s : State) (c : Call) (w : Fin 8) :
    (s.raiseCall c).pair w = s.pair w := by
  simp only [State.raiseCall]; (repeat' split) <;> simp

@[simp] theorem lane_raiseCall (s : State) (c : Call) (j : Fin 16) :
    (s.raiseCall c).lane j = s.lane j := by
  simp only [State.raiseCall]; (repeat' split) <;> simp

@[simp] theorem session_raiseCall (s : State) (c : Call) (j : Fin 16) :
    (s.raiseCall c).session j = s.session j := by
  simp [State.session]

/-! ### joinFetch -/

@[simp] theorem chip_joinFetch (s : State) (number : Nat) :
    (s.joinFetch number).chip = s.chip := by
  simp [State.joinFetch]

@[simp] theorem line_joinFetch (s : State) (number : Nat) (o : Port) :
    ((s.joinFetch number).port o).line = (s.port o).line := by
  simp [State.joinFetch]

@[simp] theorem pool_joinFetch (s : State) (number : Nat) :
    (s.joinFetch number).pool = s.pool := by
  simp [State.joinFetch]

@[simp] theorem ret_joinFetch (s : State) (number : Nat) (w : Fin 8) :
    (s.joinFetch number).ret w = s.ret w := by
  simp [State.joinFetch]

@[simp] theorem turn_joinFetch (s : State) (number : Nat) (w : Fin 8) :
    (s.joinFetch number).turn w = s.turn w := by
  simp [State.joinFetch]

@[simp] theorem pair_joinFetch (s : State) (number : Nat) (w : Fin 8) :
    (s.joinFetch number).pair w = s.pair w := by
  simp [State.joinFetch]

@[simp] theorem lane_joinFetch (s : State) (number : Nat) (j : Fin 16) :
    (s.joinFetch number).lane j = s.lane j := by
  simp [State.joinFetch]

@[simp] theorem session_joinFetch (s : State) (number : Nat) (j : Fin 16) :
    (s.joinFetch number).session j = s.session j := by
  simp [State.session]

/-! ### fillFetch -/

@[simp] theorem chip_fillFetch (s : State) (fuel : Nat) :
    (s.fillFetch fuel).chip = s.chip := by
  induction fuel generalizing s with
  | zero => rfl
  | succ n ih => simp only [State.fillFetch]; (repeat' split) <;> simp [ih]

@[simp] theorem line_fillFetch (s : State) (fuel : Nat) (o : Port) :
    ((s.fillFetch fuel).port o).line = (s.port o).line := by
  induction fuel generalizing s with
  | zero => rfl
  | succ n ih => simp only [State.fillFetch]; (repeat' split) <;> simp [ih]

@[simp] theorem pool_fillFetch (s : State) (fuel : Nat) :
    (s.fillFetch fuel).pool = s.pool := by
  induction fuel generalizing s with
  | zero => rfl
  | succ n ih => simp only [State.fillFetch]; (repeat' split) <;> simp [ih]

@[simp] theorem ret_fillFetch (s : State) (fuel : Nat) (w : Fin 8) :
    (s.fillFetch fuel).ret w = s.ret w := by
  induction fuel generalizing s with
  | zero => rfl
  | succ n ih => simp only [State.fillFetch]; (repeat' split) <;> simp [ih]

@[simp] theorem motor_fillFetch (s : State) (fuel : Nat) (w : Fin 8) :
    ((s.fillFetch fuel).pair w).motor = (s.pair w).motor := by
  induction fuel generalizing s with
  | zero => rfl
  | succ n ih => simp only [State.fillFetch]; (repeat' split) <;> simp [ih]

@[simp] theorem lane_fillFetch (s : State) (fuel : Nat) (j : Fin 16) :
    (s.fillFetch fuel).lane j = s.lane j := by
  induction fuel generalizing s with
  | zero => rfl
  | succ n ih => simp only [State.fillFetch]; (repeat' split) <;> simp [ih]

@[simp] theorem session_fillFetch (s : State) (fuel : Nat) (j : Fin 16) :
    (s.fillFetch fuel).session j = s.session j := by
  induction fuel generalizing s with
  | zero => rfl
  | succ n ih => simp only [State.fillFetch]; (repeat' split) <;> simp [ih]

/-! ### leaveFetch -/

@[simp] theorem chip_leaveFetch (s : State) (number : Nat) :
    (s.leaveFetch number).chip = s.chip := by
  simp only [State.leaveFetch]; split <;> simp

@[simp] theorem line_leaveFetch (s : State) (number : Nat) (o : Port) :
    ((s.leaveFetch number).port o).line = (s.port o).line := by
  simp only [State.leaveFetch]; split <;> simp

@[simp] theorem pool_leaveFetch (s : State) (number : Nat) :
    (s.leaveFetch number).pool = s.pool := by
  simp only [State.leaveFetch]; split <;> simp

@[simp] theorem ret_leaveFetch (s : State) (number : Nat) (w : Fin 8) :
    (s.leaveFetch number).ret w = s.ret w := by
  simp only [State.leaveFetch]; split <;> simp

@[simp] theorem motor_leaveFetch (s : State) (number : Nat) (w : Fin 8) :
    ((s.leaveFetch number).pair w).motor = (s.pair w).motor := by
  simp only [State.leaveFetch]; split <;> simp

@[simp] theorem lane_leaveFetch (s : State) (number : Nat) (j : Fin 16) :
    (s.leaveFetch number).lane j = s.lane j := by
  simp only [State.leaveFetch]; split <;> simp

@[simp] theorem session_leaveFetch (s : State) (number : Nat) (j : Fin 16) :
    (s.leaveFetch number).session j = s.session j := by
  simp [State.session]

/-! ### missFetch -/

@[simp] theorem chip_missFetch (s : State) (p : Fin 8) (i : Fin 12) (number : Nat) :
    (s.missFetch p i number).chip = s.chip := by
  simp only [State.missFetch]; split <;> simp

@[simp] theorem line_missFetch (s : State) (p : Fin 8) (i : Fin 12) (number : Nat) (o : Port) :
    ((s.missFetch p i number).port o).line = (s.port o).line := by
  simp only [State.missFetch]; split <;> simp

@[simp] theorem pool_missFetch (s : State) (p : Fin 8) (i : Fin 12) (number : Nat) :
    (s.missFetch p i number).pool = s.pool := by
  simp only [State.missFetch]; split <;> simp

@[simp] theorem ret_missFetch (s : State) (p : Fin 8) (i : Fin 12) (number : Nat) (w : Fin 8) :
    (s.missFetch p i number).ret w = s.ret w := by
  simp only [State.missFetch]; split <;> simp

@[simp] theorem pairOther_missFetch (s : State) (p : Fin 8) (i : Fin 12) (number : Nat) (w : Fin 8) (h : w ≠ p) :
    (s.missFetch p i number).pair w = s.pair w := by
  simp only [State.missFetch]; (repeat' split) <;> simp [h]

@[simp] theorem motor_missFetch (s : State) (p : Fin 8) (i : Fin 12) (number : Nat) (w : Fin 8) :
    ((s.missFetch p i number).pair w).motor = (s.pair w).motor := by
  simp only [State.missFetch]; split <;> simp

@[simp] theorem lane_missFetch (s : State) (p : Fin 8) (i : Fin 12) (number : Nat) (j : Fin 16) :
    (s.missFetch p i number).lane j = s.lane j := by
  simp only [State.missFetch]; split <;> simp

@[simp] theorem session_missFetch (s : State) (p : Fin 8) (i : Fin 12) (number : Nat) (j : Fin 16) :
    (s.missFetch p i number).session j = s.session j := by
  simp [State.session]

/-! ### lookup -/

@[simp] theorem chip_lookup (s : State) (p : Fin 8) (i : Fin 12) (number : Nat) :
    (s.lookup p i number).chip = s.chip := by
  simp only [State.lookup]; (repeat' split) <;> simp

@[simp] theorem line_lookup (s : State) (p : Fin 8) (i : Fin 12) (number : Nat) (o : Port) :
    ((s.lookup p i number).port o).line = (s.port o).line := by
  simp only [State.lookup]; (repeat' split) <;> simp

@[simp] theorem pool_lookup (s : State) (p : Fin 8) (i : Fin 12) (number : Nat) :
    (s.lookup p i number).pool = s.pool := by
  simp only [State.lookup]; (repeat' split) <;> simp

@[simp] theorem ret_lookup (s : State) (p : Fin 8) (i : Fin 12) (number : Nat) (w : Fin 8) :
    (s.lookup p i number).ret w = s.ret w := by
  simp only [State.lookup]; (repeat' split) <;> simp

@[simp] theorem pairOther_lookup (s : State) (p : Fin 8) (i : Fin 12) (number : Nat) (w : Fin 8) (h : w ≠ p) :
    (s.lookup p i number).pair w = s.pair w := by
  simp only [State.lookup]; (repeat' split) <;> simp [h]

@[simp] theorem motor_lookup (s : State) (p : Fin 8) (i : Fin 12) (number : Nat) (w : Fin 8) :
    ((s.lookup p i number).pair w).motor = (s.pair w).motor := by
  simp only [State.lookup]; (repeat' split) <;> simp

@[simp] theorem lane_lookup (s : State) (p : Fin 8) (i : Fin 12) (number : Nat) (j : Fin 16) :
    (s.lookup p i number).lane j = s.lane j := by
  simp only [State.lookup]; (repeat' split) <;> simp

@[simp] theorem session_lookup (s : State) (p : Fin 8) (i : Fin 12) (number : Nat) (j : Fin 16) :
    (s.lookup p i number).session j = s.session j := by
  simp [State.session]

/-! ### renew -/

@[simp] theorem chip_renew (s : State) (p : Fin 8) (i : Fin 12) :
    (s.renew p i).chip = s.chip := by
  simp only [State.renew]; (repeat' split) <;> simp

@[simp] theorem line_renew (s : State) (p : Fin 8) (i : Fin 12) (o : Port) :
    ((s.renew p i).port o).line = (s.port o).line := by
  simp only [State.renew]; (repeat' split) <;> simp

@[simp] theorem pool_renew (s : State) (p : Fin 8) (i : Fin 12) :
    (s.renew p i).pool = s.pool := by
  simp only [State.renew]; (repeat' split) <;> simp

@[simp] theorem ret_renew (s : State) (p : Fin 8) (i : Fin 12) (w : Fin 8) :
    (s.renew p i).ret w = s.ret w := by
  simp only [State.renew]; (repeat' split) <;> simp

@[simp] theorem pairOther_renew (s : State) (p : Fin 8) (i : Fin 12) (w : Fin 8) (h : w ≠ p) :
    (s.renew p i).pair w = s.pair w := by
  simp only [State.renew]; (repeat' split) <;> simp [h]

@[simp] theorem motor_renew (s : State) (p : Fin 8) (i : Fin 12) (w : Fin 8) :
    ((s.renew p i).pair w).motor = (s.pair w).motor := by
  simp only [State.renew]; (repeat' split) <;> simp

@[simp] theorem lane_renew (s : State) (p : Fin 8) (i : Fin 12) (j : Fin 16) :
    (s.renew p i).lane j = s.lane j := by
  simp only [State.renew]; (repeat' split) <;> simp

@[simp] theorem session_renew (s : State) (p : Fin 8) (i : Fin 12) (j : Fin 16) :
    (s.renew p i).session j = s.session j := by
  simp [State.session]

/-! ### settleHandicap -/

@[simp] theorem chip_settleHandicap (s : State) (p : Fin 8) (i : Fin 12) :
    (s.settleHandicap p i).chip = s.chip := by
  simp only [State.settleHandicap]; split <;> simp

@[simp] theorem line_settleHandicap (s : State) (p : Fin 8) (i : Fin 12) (o : Port) :
    ((s.settleHandicap p i).port o).line = (s.port o).line := by
  simp only [State.settleHandicap]; split <;> simp

@[simp] theorem directory_settleHandicap (s : State) (p : Fin 8) (i : Fin 12) :
    (s.settleHandicap p i).directory = s.directory := by
  simp only [State.settleHandicap]; split <;> simp

@[simp] theorem pool_settleHandicap (s : State) (p : Fin 8) (i : Fin 12) :
    (s.settleHandicap p i).pool = s.pool := by
  simp only [State.settleHandicap]; split <;> simp

@[simp] theorem ret_settleHandicap (s : State) (p : Fin 8) (i : Fin 12) (w : Fin 8) :
    (s.settleHandicap p i).ret w = s.ret w := by
  simp only [State.settleHandicap]; split <;> simp

@[simp] theorem pairOther_settleHandicap (s : State) (p : Fin 8) (i : Fin 12) (w : Fin 8) (h : w ≠ p) :
    (s.settleHandicap p i).pair w = s.pair w := by
  simp only [State.settleHandicap]; (repeat' split) <;> simp [h]

@[simp] theorem motor_settleHandicap (s : State) (p : Fin 8) (i : Fin 12) (w : Fin 8) :
    ((s.settleHandicap p i).pair w).motor = (s.pair w).motor := by
  simp only [State.settleHandicap]; split <;> simp

@[simp] theorem lane_settleHandicap (s : State) (p : Fin 8) (i : Fin 12) (j : Fin 16) :
    (s.settleHandicap p i).lane j = s.lane j := by
  simp only [State.settleHandicap]; split <;> simp

@[simp] theorem session_settleHandicap (s : State) (p : Fin 8) (i : Fin 12) (j : Fin 16) :
    (s.settleHandicap p i).session j = s.session j := by
  simp [State.session]

/-! ### releaseNumber -/

@[simp] theorem chip_releaseNumber (s : State) (p : Fin 8) (i : Fin 12) :
    (s.releaseNumber p i).chip = s.chip := by
  simp only [State.releaseNumber]; (repeat' split) <;> simp

@[simp] theorem line_releaseNumber (s : State) (p : Fin 8) (i : Fin 12) (o : Port) :
    ((s.releaseNumber p i).port o).line = (s.port o).line := by
  simp only [State.releaseNumber]; (repeat' split) <;> simp

@[simp] theorem pool_releaseNumber (s : State) (p : Fin 8) (i : Fin 12) :
    (s.releaseNumber p i).pool = s.pool := by
  simp only [State.releaseNumber]; (repeat' split) <;> simp

@[simp] theorem ret_releaseNumber (s : State) (p : Fin 8) (i : Fin 12) (w : Fin 8) :
    (s.releaseNumber p i).ret w = s.ret w := by
  simp only [State.releaseNumber]; (repeat' split) <;> simp

@[simp] theorem motor_releaseNumber (s : State) (p : Fin 8) (i : Fin 12) (w : Fin 8) :
    ((s.releaseNumber p i).pair w).motor = (s.pair w).motor := by
  simp only [State.releaseNumber]; (repeat' split) <;> simp

@[simp] theorem lane_releaseNumber (s : State) (p : Fin 8) (i : Fin 12) (j : Fin 16) :
    (s.releaseNumber p i).lane j = s.lane j := by
  simp only [State.releaseNumber]; (repeat' split) <;> simp

@[simp] theorem session_releaseNumber (s : State) (p : Fin 8) (i : Fin 12) (j : Fin 16) :
    (s.releaseNumber p i).session j = s.session j := by
  simp [State.session]

/-! ### episodeRule -/

@[simp] theorem chip_episodeRule (s : State) (p : Fin 8) (sd : Side) :
    (s.episodeRule p sd).chip = s.chip := by
  simp only [State.episodeRule]; (repeat' split) <;> simp

@[simp] theorem line_episodeRule (s : State) (p : Fin 8) (sd : Side) (o : Port) :
    ((s.episodeRule p sd).port o).line = (s.port o).line := by
  simp only [State.episodeRule]; (repeat' split) <;> simp

@[simp] theorem directory_episodeRule (s : State) (p : Fin 8) (sd : Side) :
    (s.episodeRule p sd).directory = s.directory := by
  simp only [State.episodeRule]; (repeat' split) <;> simp

@[simp] theorem turn_episodeRule (s : State) (p : Fin 8) (sd : Side) (w : Fin 8) :
    (s.episodeRule p sd).turn w = s.turn w := by
  simp only [State.episodeRule]; (repeat' split) <;> simp

@[simp] theorem pairOther_episodeRule (s : State) (p : Fin 8) (sd : Side) (w : Fin 8) (h : w ≠ p) :
    (s.episodeRule p sd).pair w = s.pair w := by
  simp only [State.episodeRule]; (repeat' split) <;> simp [h]

@[simp] theorem motor_episodeRule (s : State) (p : Fin 8) (sd : Side) (w : Fin 8) :
    ((s.episodeRule p sd).pair w).motor = (s.pair w).motor := by
  simp only [State.episodeRule]; (repeat' split) <;> simp

@[simp] theorem record_episodeRule (s : State) (p : Fin 8) (sd : Side) (j : Fin 16) :
    ((s.episodeRule p sd).lane j).session = (s.lane j).session := by
  simp only [State.episodeRule]; (repeat' split) <;> simp

@[simp] theorem session_episodeRule (s : State) (p : Fin 8) (sd : Side) (j : Fin 16) :
    (s.episodeRule p sd).session j = s.session j := by
  simp [State.session]

@[simp] theorem meter_episodeRule (s : State) (p : Fin 8) (sd : Side) (j : Fin 16) :
    ((s.episodeRule p sd).lane j).meter = (s.lane j).meter := by
  simp only [State.episodeRule]; (repeat' split) <;> simp

@[simp] theorem snapshot_episodeRule (s : State) (p : Fin 8) (sd : Side) (j : Fin 16) :
    ((s.episodeRule p sd).lane j).snapshot = (s.lane j).snapshot := by
  simp only [State.episodeRule]; (repeat' split) <;> simp

@[simp] theorem out_episodeRule (s : State) (p : Fin 8) (sd : Side) (j : Fin 16) :
    ((s.episodeRule p sd).lane j).out = (s.lane j).out := by
  simp only [State.episodeRule]; (repeat' split) <;> simp

/-! ### idleRule -/

@[simp] theorem chip_idleRule (s : State) (p : Fin 8) :
    (s.idleRule p).chip = s.chip := by
  simp only [State.idleRule]; (repeat' split) <;> simp

@[simp] theorem line_idleRule (s : State) (p : Fin 8) (o : Port) :
    ((s.idleRule p).port o).line = (s.port o).line := by
  simp only [State.idleRule]; (repeat' split) <;> simp

@[simp] theorem directory_idleRule (s : State) (p : Fin 8) :
    (s.idleRule p).directory = s.directory := by
  simp only [State.idleRule]; (repeat' split) <;> simp

@[simp] theorem pool_idleRule (s : State) (p : Fin 8) :
    (s.idleRule p).pool = s.pool := by
  simp only [State.idleRule]; (repeat' split) <;> simp

@[simp] theorem turn_idleRule (s : State) (p : Fin 8) (w : Fin 8) :
    (s.idleRule p).turn w = s.turn w := by
  simp only [State.idleRule]; (repeat' split) <;> simp

@[simp] theorem pairOther_idleRule (s : State) (p : Fin 8) (w : Fin 8) (h : w ≠ p) :
    (s.idleRule p).pair w = s.pair w := by
  simp only [State.idleRule]; (repeat' split) <;> simp [h]

@[simp] theorem motor_idleRule (s : State) (p : Fin 8) (w : Fin 8) :
    ((s.idleRule p).pair w).motor = (s.pair w).motor := by
  simp only [State.idleRule]; (repeat' split) <;> simp

@[simp] theorem lane_idleRule (s : State) (p : Fin 8) (j : Fin 16) :
    (s.idleRule p).lane j = s.lane j := by
  simp only [State.idleRule]; (repeat' split) <;> simp

@[simp] theorem session_idleRule (s : State) (p : Fin 8) (j : Fin 16) :
    (s.idleRule p).session j = s.session j := by
  simp [State.session]

/-! ### enterStall -/

@[simp] theorem chip_enterStall (s : State) (p : Fin 8) :
    (s.enterStall p).chip = s.chip := by
  simp [State.enterStall]

@[simp] theorem line_enterStall (s : State) (p : Fin 8) (o : Port) :
    ((s.enterStall p).port o).line = (s.port o).line := by
  simp [State.enterStall]

@[simp] theorem directory_enterStall (s : State) (p : Fin 8) :
    (s.enterStall p).directory = s.directory := by
  simp [State.enterStall]

@[simp] theorem turn_enterStall (s : State) (p : Fin 8) (w : Fin 8) :
    (s.enterStall p).turn w = s.turn w := by
  simp [State.enterStall]

@[simp] theorem pairOther_enterStall (s : State) (p : Fin 8) (w : Fin 8) (h : w ≠ p) :
    (s.enterStall p).pair w = s.pair w := by
  simp only [State.enterStall]; (repeat' split) <;> simp [h]

@[simp] theorem motor_enterStall (s : State) (p : Fin 8) (w : Fin 8) :
    ((s.enterStall p).pair w).motor = (s.pair w).motor := by
  simp [State.enterStall]

@[simp] theorem record_enterStall (s : State) (p : Fin 8) (j : Fin 16) :
    ((s.enterStall p).lane j).session = (s.lane j).session := by
  simp [State.enterStall]

@[simp] theorem session_enterStall (s : State) (p : Fin 8) (j : Fin 16) :
    (s.enterStall p).session j = s.session j := by
  simp [State.session]

@[simp] theorem meter_enterStall (s : State) (p : Fin 8) (j : Fin 16) :
    ((s.enterStall p).lane j).meter = (s.lane j).meter := by
  simp [State.enterStall]

@[simp] theorem snapshot_enterStall (s : State) (p : Fin 8) (j : Fin 16) :
    ((s.enterStall p).lane j).snapshot = (s.lane j).snapshot := by
  simp [State.enterStall]

@[simp] theorem out_enterStall (s : State) (p : Fin 8) (j : Fin 16) :
    ((s.enterStall p).lane j).out = (s.lane j).out := by
  simp [State.enterStall]

/-! ### startLift -/

@[simp] theorem chip_startLift (s : State) (p : Fin 8) :
    (s.startLift p).chip = s.chip := by
  simp only [State.startLift]; (repeat' split) <;> simp

@[simp] theorem line_startLift (s : State) (p : Fin 8) (o : Port) :
    ((s.startLift p).port o).line = (s.port o).line := by
  simp only [State.startLift]; (repeat' split) <;> simp

@[simp] theorem directory_startLift (s : State) (p : Fin 8) :
    (s.startLift p).directory = s.directory := by
  simp only [State.startLift]; (repeat' split) <;> simp

@[simp] theorem turn_startLift (s : State) (p : Fin 8) (w : Fin 8) :
    (s.startLift p).turn w = s.turn w := by
  simp only [State.startLift]; (repeat' split) <;> simp

@[simp] theorem pairOther_startLift (s : State) (p : Fin 8) (w : Fin 8) (h : w ≠ p) :
    (s.startLift p).pair w = s.pair w := by
  simp only [State.startLift]; (repeat' split) <;> simp [h]

@[simp] theorem motor_startLift (s : State) (p : Fin 8) (w : Fin 8) :
    ((s.startLift p).pair w).motor = (s.pair w).motor := by
  simp only [State.startLift]; (repeat' split) <;> simp

@[simp] theorem record_startLift (s : State) (p : Fin 8) (j : Fin 16) :
    ((s.startLift p).lane j).session = (s.lane j).session := by
  simp only [State.startLift]; (repeat' split) <;> simp

@[simp] theorem session_startLift (s : State) (p : Fin 8) (j : Fin 16) :
    (s.startLift p).session j = s.session j := by
  simp [State.session]

@[simp] theorem meter_startLift (s : State) (p : Fin 8) (j : Fin 16) :
    ((s.startLift p).lane j).meter = (s.lane j).meter := by
  simp only [State.startLift]; (repeat' split) <;> simp

@[simp] theorem snapshot_startLift (s : State) (p : Fin 8) (j : Fin 16) :
    ((s.startLift p).lane j).snapshot = (s.lane j).snapshot := by
  simp only [State.startLift]; (repeat' split) <;> simp

@[simp] theorem out_startLift (s : State) (p : Fin 8) (j : Fin 16) :
    ((s.startLift p).lane j).out = (s.lane j).out := by
  simp only [State.startLift]; (repeat' split) <;> simp

/-! ### liftLaneOpen -/

@[simp] theorem chip_liftLaneOpen (s : State) (p : Fin 8) :
    (s.liftLaneOpen p).chip = s.chip := by
  simp [State.liftLaneOpen]

@[simp] theorem line_liftLaneOpen (s : State) (p : Fin 8) (o : Port) :
    ((s.liftLaneOpen p).port o).line = (s.port o).line := by
  simp [State.liftLaneOpen]

@[simp] theorem directory_liftLaneOpen (s : State) (p : Fin 8) :
    (s.liftLaneOpen p).directory = s.directory := by
  simp [State.liftLaneOpen]

@[simp] theorem turn_liftLaneOpen (s : State) (p : Fin 8) (w : Fin 8) :
    (s.liftLaneOpen p).turn w = s.turn w := by
  simp [State.liftLaneOpen]

@[simp] theorem pairOther_liftLaneOpen (s : State) (p : Fin 8) (w : Fin 8) (h : w ≠ p) :
    (s.liftLaneOpen p).pair w = s.pair w := by
  simp only [State.liftLaneOpen]; (repeat' split) <;> simp [h]

@[simp] theorem motor_liftLaneOpen (s : State) (p : Fin 8) (w : Fin 8) :
    ((s.liftLaneOpen p).pair w).motor = (s.pair w).motor := by
  simp [State.liftLaneOpen]

@[simp] theorem record_liftLaneOpen (s : State) (p : Fin 8) (j : Fin 16) :
    ((s.liftLaneOpen p).lane j).session = (s.lane j).session := by
  simp [State.liftLaneOpen]

@[simp] theorem session_liftLaneOpen (s : State) (p : Fin 8) (j : Fin 16) :
    (s.liftLaneOpen p).session j = s.session j := by
  simp [State.session]

@[simp] theorem meter_liftLaneOpen (s : State) (p : Fin 8) (j : Fin 16) :
    ((s.liftLaneOpen p).lane j).meter = (s.lane j).meter := by
  simp [State.liftLaneOpen]

@[simp] theorem snapshot_liftLaneOpen (s : State) (p : Fin 8) (j : Fin 16) :
    ((s.liftLaneOpen p).lane j).snapshot = (s.lane j).snapshot := by
  simp [State.liftLaneOpen]

@[simp] theorem out_liftLaneOpen (s : State) (p : Fin 8) (j : Fin 16) :
    ((s.liftLaneOpen p).lane j).out = (s.lane j).out := by
  simp [State.liftLaneOpen]

/-! ### writeOffOldest -/

@[simp] theorem chip_writeOffOldest (s : State) (p : Fin 8) :
    (s.writeOffOldest p).chip = s.chip := by
  simp only [State.writeOffOldest]; (repeat' split) <;> simp

@[simp] theorem line_writeOffOldest (s : State) (p : Fin 8) (o : Port) :
    ((s.writeOffOldest p).port o).line = (s.port o).line := by
  simp only [State.writeOffOldest]; (repeat' split) <;> simp

@[simp] theorem directory_writeOffOldest (s : State) (p : Fin 8) :
    (s.writeOffOldest p).directory = s.directory := by
  simp only [State.writeOffOldest]; (repeat' split) <;> simp

@[simp] theorem turn_writeOffOldest (s : State) (p : Fin 8) (w : Fin 8) :
    (s.writeOffOldest p).turn w = s.turn w := by
  simp only [State.writeOffOldest]; (repeat' split) <;> simp

@[simp] theorem pairOther_writeOffOldest (s : State) (p : Fin 8) (w : Fin 8) (h : w ≠ p) :
    (s.writeOffOldest p).pair w = s.pair w := by
  simp only [State.writeOffOldest]; (repeat' split) <;> simp [h]

@[simp] theorem motor_writeOffOldest (s : State) (p : Fin 8) (w : Fin 8) :
    ((s.writeOffOldest p).pair w).motor = (s.pair w).motor := by
  simp only [State.writeOffOldest]; (repeat' split) <;> simp

@[simp] theorem record_writeOffOldest (s : State) (p : Fin 8) (j : Fin 16) :
    ((s.writeOffOldest p).lane j).session = (s.lane j).session := by
  simp only [State.writeOffOldest]; (repeat' split) <;> simp

@[simp] theorem session_writeOffOldest (s : State) (p : Fin 8) (j : Fin 16) :
    (s.writeOffOldest p).session j = s.session j := by
  simp [State.session]

@[simp] theorem meter_writeOffOldest (s : State) (p : Fin 8) (j : Fin 16) :
    ((s.writeOffOldest p).lane j).meter = (s.lane j).meter := by
  simp only [State.writeOffOldest]; (repeat' split) <;> simp

@[simp] theorem snapshot_writeOffOldest (s : State) (p : Fin 8) (j : Fin 16) :
    ((s.writeOffOldest p).lane j).snapshot = (s.lane j).snapshot := by
  simp only [State.writeOffOldest]; (repeat' split) <;> simp

@[simp] theorem out_writeOffOldest (s : State) (p : Fin 8) (j : Fin 16) :
    ((s.writeOffOldest p).lane j).out = (s.lane j).out := by
  simp only [State.writeOffOldest]; (repeat' split) <;> simp

/-! ### createTransit -/

@[simp] theorem chip_createTransit (s : State) (p : Fin 8) (sd : Side) (unpaid : Bool) :
    (s.createTransit p sd unpaid).chip = s.chip := by
  simp only [State.createTransit]; split <;> simp

@[simp] theorem line_createTransit (s : State) (p : Fin 8) (sd : Side) (unpaid : Bool) (o : Port) :
    ((s.createTransit p sd unpaid).port o).line = (s.port o).line := by
  simp only [State.createTransit]; split <;> simp

@[simp] theorem directory_createTransit (s : State) (p : Fin 8) (sd : Side) (unpaid : Bool) :
    (s.createTransit p sd unpaid).directory = s.directory := by
  simp only [State.createTransit]; split <;> simp

@[simp] theorem turn_createTransit (s : State) (p : Fin 8) (sd : Side) (unpaid : Bool) (w : Fin 8) :
    (s.createTransit p sd unpaid).turn w = s.turn w := by
  simp only [State.createTransit]; split <;> simp

@[simp] theorem pairOther_createTransit (s : State) (p : Fin 8) (sd : Side) (unpaid : Bool) (w : Fin 8) (h : w ≠ p) :
    (s.createTransit p sd unpaid).pair w = s.pair w := by
  simp only [State.createTransit]; (repeat' split) <;> simp [h]

@[simp] theorem motor_createTransit (s : State) (p : Fin 8) (sd : Side) (unpaid : Bool) (w : Fin 8) :
    ((s.createTransit p sd unpaid).pair w).motor = (s.pair w).motor := by
  simp only [State.createTransit]; split <;> simp

@[simp] theorem record_createTransit (s : State) (p : Fin 8) (sd : Side) (unpaid : Bool) (j : Fin 16) :
    ((s.createTransit p sd unpaid).lane j).session = (s.lane j).session := by
  simp only [State.createTransit]; split <;> simp

@[simp] theorem session_createTransit (s : State) (p : Fin 8) (sd : Side) (unpaid : Bool) (j : Fin 16) :
    (s.createTransit p sd unpaid).session j = s.session j := by
  simp [State.session]

@[simp] theorem meter_createTransit (s : State) (p : Fin 8) (sd : Side) (unpaid : Bool) (j : Fin 16) :
    ((s.createTransit p sd unpaid).lane j).meter = (s.lane j).meter := by
  simp only [State.createTransit]; split <;> simp

@[simp] theorem snapshot_createTransit (s : State) (p : Fin 8) (sd : Side) (unpaid : Bool) (j : Fin 16) :
    ((s.createTransit p sd unpaid).lane j).snapshot = (s.lane j).snapshot := by
  simp only [State.createTransit]; split <;> simp

@[simp] theorem out_createTransit (s : State) (p : Fin 8) (sd : Side) (unpaid : Bool) (j : Fin 16) :
    ((s.createTransit p sd unpaid).lane j).out = (s.lane j).out := by
  simp only [State.createTransit]; split <;> simp

/-! ### arrive -/

@[simp] theorem chip_arrive (s : State) (p : Fin 8) :
    (s.arrive p).chip = s.chip := by
  simp only [State.arrive]; (repeat' split) <;> simp

@[simp] theorem line_arrive (s : State) (p : Fin 8) (o : Port) :
    ((s.arrive p).port o).line = (s.port o).line := by
  simp only [State.arrive]; (repeat' split) <;> simp

@[simp] theorem directory_arrive (s : State) (p : Fin 8) :
    (s.arrive p).directory = s.directory := by
  simp only [State.arrive]; (repeat' split) <;> simp

@[simp] theorem turn_arrive (s : State) (p : Fin 8) (w : Fin 8) :
    (s.arrive p).turn w = s.turn w := by
  simp only [State.arrive]; (repeat' split) <;> simp

@[simp] theorem pairOther_arrive (s : State) (p : Fin 8) (w : Fin 8) (h : w ≠ p) :
    (s.arrive p).pair w = s.pair w := by
  simp only [State.arrive]; (repeat' split) <;> simp [h]

@[simp] theorem motor_arrive (s : State) (p : Fin 8) (w : Fin 8) :
    ((s.arrive p).pair w).motor = (s.pair w).motor := by
  simp only [State.arrive]; (repeat' split) <;> simp

@[simp] theorem record_arrive (s : State) (p : Fin 8) (j : Fin 16) :
    ((s.arrive p).lane j).session = (s.lane j).session := by
  simp only [State.arrive]; (repeat' split) <;> simp

@[simp] theorem session_arrive (s : State) (p : Fin 8) (j : Fin 16) :
    (s.arrive p).session j = s.session j := by
  simp [State.session]

@[simp] theorem meter_arrive (s : State) (p : Fin 8) (j : Fin 16) :
    ((s.arrive p).lane j).meter = (s.lane j).meter := by
  simp only [State.arrive]; (repeat' split) <;> simp

@[simp] theorem snapshot_arrive (s : State) (p : Fin 8) (j : Fin 16) :
    ((s.arrive p).lane j).snapshot = (s.lane j).snapshot := by
  simp only [State.arrive]; (repeat' split) <;> simp

@[simp] theorem out_arrive (s : State) (p : Fin 8) (j : Fin 16) :
    ((s.arrive p).lane j).out = (s.lane j).out := by
  simp only [State.arrive]; (repeat' split) <;> simp

/-! ### clearOverdue -/

@[simp] theorem chip_clearOverdue (s : State) (p : Fin 8) (scope : Side → Bool) :
    (s.clearOverdue p scope).chip = s.chip := by
  simp only [State.clearOverdue]; (repeat' split) <;> simp

@[simp] theorem line_clearOverdue (s : State) (p : Fin 8) (scope : Side → Bool) (o : Port) :
    ((s.clearOverdue p scope).port o).line = (s.port o).line := by
  simp only [State.clearOverdue]; (repeat' split) <;> simp

@[simp] theorem directory_clearOverdue (s : State) (p : Fin 8) (scope : Side → Bool) :
    (s.clearOverdue p scope).directory = s.directory := by
  simp only [State.clearOverdue]; (repeat' split) <;> simp

@[simp] theorem turn_clearOverdue (s : State) (p : Fin 8) (scope : Side → Bool) (w : Fin 8) :
    (s.clearOverdue p scope).turn w = s.turn w := by
  simp only [State.clearOverdue]; (repeat' split) <;> simp

@[simp] theorem pairOther_clearOverdue (s : State) (p : Fin 8) (scope : Side → Bool) (w : Fin 8) (h : w ≠ p) :
    (s.clearOverdue p scope).pair w = s.pair w := by
  simp only [State.clearOverdue]; (repeat' split) <;> simp [h]

@[simp] theorem motor_clearOverdue (s : State) (p : Fin 8) (scope : Side → Bool) (w : Fin 8) :
    ((s.clearOverdue p scope).pair w).motor = (s.pair w).motor := by
  simp only [State.clearOverdue]; (repeat' split) <;> simp

@[simp] theorem record_clearOverdue (s : State) (p : Fin 8) (scope : Side → Bool) (j : Fin 16) :
    ((s.clearOverdue p scope).lane j).session = (s.lane j).session := by
  simp only [State.clearOverdue]; (repeat' split) <;> simp

@[simp] theorem session_clearOverdue (s : State) (p : Fin 8) (scope : Side → Bool) (j : Fin 16) :
    (s.clearOverdue p scope).session j = s.session j := by
  simp [State.session]

@[simp] theorem meter_clearOverdue (s : State) (p : Fin 8) (scope : Side → Bool) (j : Fin 16) :
    ((s.clearOverdue p scope).lane j).meter = (s.lane j).meter := by
  simp only [State.clearOverdue]; (repeat' split) <;> simp

@[simp] theorem snapshot_clearOverdue (s : State) (p : Fin 8) (scope : Side → Bool) (j : Fin 16) :
    ((s.clearOverdue p scope).lane j).snapshot = (s.lane j).snapshot := by
  simp only [State.clearOverdue]; (repeat' split) <;> simp

@[simp] theorem out_clearOverdue (s : State) (p : Fin 8) (scope : Side → Bool) (j : Fin 16) :
    ((s.clearOverdue p scope).lane j).out = (s.lane j).out := by
  simp only [State.clearOverdue]; (repeat' split) <;> simp

/-! ### markOverdue -/

@[simp] theorem chip_markOverdue (s : State) (p : Fin 8) (f : Transit → Transit) :
    (s.markOverdue p f).chip = s.chip := by
  simp [State.markOverdue]

@[simp] theorem line_markOverdue (s : State) (p : Fin 8) (f : Transit → Transit) (o : Port) :
    ((s.markOverdue p f).port o).line = (s.port o).line := by
  simp [State.markOverdue]

@[simp] theorem directory_markOverdue (s : State) (p : Fin 8) (f : Transit → Transit) :
    (s.markOverdue p f).directory = s.directory := by
  simp [State.markOverdue]

@[simp] theorem turn_markOverdue (s : State) (p : Fin 8) (f : Transit → Transit) (w : Fin 8) :
    (s.markOverdue p f).turn w = s.turn w := by
  simp [State.markOverdue]

@[simp] theorem pairOther_markOverdue (s : State) (p : Fin 8) (f : Transit → Transit) (w : Fin 8) (h : w ≠ p) :
    (s.markOverdue p f).pair w = s.pair w := by
  simp only [State.markOverdue]; (repeat' split) <;> simp [h]

@[simp] theorem motor_markOverdue (s : State) (p : Fin 8) (f : Transit → Transit) (w : Fin 8) :
    ((s.markOverdue p f).pair w).motor = (s.pair w).motor := by
  simp [State.markOverdue]

@[simp] theorem record_markOverdue (s : State) (p : Fin 8) (f : Transit → Transit) (j : Fin 16) :
    ((s.markOverdue p f).lane j).session = (s.lane j).session := by
  simp [State.markOverdue]

@[simp] theorem session_markOverdue (s : State) (p : Fin 8) (f : Transit → Transit) (j : Fin 16) :
    (s.markOverdue p f).session j = s.session j := by
  simp [State.session]

@[simp] theorem meter_markOverdue (s : State) (p : Fin 8) (f : Transit → Transit) (j : Fin 16) :
    ((s.markOverdue p f).lane j).meter = (s.lane j).meter := by
  simp [State.markOverdue]

@[simp] theorem snapshot_markOverdue (s : State) (p : Fin 8) (f : Transit → Transit) (j : Fin 16) :
    ((s.markOverdue p f).lane j).snapshot = (s.lane j).snapshot := by
  simp [State.markOverdue]

@[simp] theorem out_markOverdue (s : State) (p : Fin 8) (f : Transit → Transit) (j : Fin 16) :
    ((s.markOverdue p f).lane j).out = (s.lane j).out := by
  simp [State.markOverdue]

/-! ### enterWarming -/

@[simp] theorem chip_enterWarming (s : State) (l : Fin 16) :
    (s.enterWarming l).chip = s.chip := by
  simp [State.enterWarming]

@[simp] theorem line_enterWarming (s : State) (l : Fin 16) (o : Port) :
    ((s.enterWarming l).port o).line = (s.port o).line := by
  simp [State.enterWarming]

@[simp] theorem directory_enterWarming (s : State) (l : Fin 16) :
    (s.enterWarming l).directory = s.directory := by
  simp [State.enterWarming]

@[simp] theorem pool_enterWarming (s : State) (l : Fin 16) :
    (s.enterWarming l).pool = s.pool := by
  simp [State.enterWarming]

@[simp] theorem ret_enterWarming (s : State) (l : Fin 16) (w : Fin 8) :
    (s.enterWarming l).ret w = s.ret w := by
  simp [State.enterWarming]

@[simp] theorem turn_enterWarming (s : State) (l : Fin 16) (w : Fin 8) :
    (s.enterWarming l).turn w = s.turn w := by
  simp [State.enterWarming]

@[simp] theorem pair_enterWarming (s : State) (l : Fin 16) (w : Fin 8) :
    (s.enterWarming l).pair w = s.pair w := by
  simp [State.enterWarming]

@[simp] theorem laneOther_enterWarming (s : State) (l : Fin 16) (j : Fin 16) (h : j ≠ l) :
    (s.enterWarming l).lane j = s.lane j := by
  simp only [State.enterWarming]; (repeat' split) <;> simp [h]

@[simp] theorem record_enterWarming (s : State) (l : Fin 16) (j : Fin 16) :
    ((s.enterWarming l).lane j).session = (s.lane j).session := by
  simp [State.enterWarming]

@[simp] theorem session_enterWarming (s : State) (l : Fin 16) (j : Fin 16) :
    (s.enterWarming l).session j = s.session j := by
  simp [State.session]

@[simp] theorem meter_enterWarming (s : State) (l : Fin 16) (j : Fin 16) :
    ((s.enterWarming l).lane j).meter = (s.lane j).meter := by
  simp [State.enterWarming]

@[simp] theorem snapshot_enterWarming (s : State) (l : Fin 16) (j : Fin 16) :
    ((s.enterWarming l).lane j).snapshot = (s.lane j).snapshot := by
  simp [State.enterWarming]

@[simp] theorem out_enterWarming (s : State) (l : Fin 16) (j : Fin 16) :
    ((s.enterWarming l).lane j).out = (s.lane j).out := by
  simp [State.enterWarming]

/-! ### grantPower -/

@[simp] theorem chip_grantPower (s : State) (l : Fin 16) :
    (s.grantPower l).chip = s.chip := by
  simp only [State.grantPower]; split <;> simp

@[simp] theorem line_grantPower (s : State) (l : Fin 16) (o : Port) :
    ((s.grantPower l).port o).line = (s.port o).line := by
  simp only [State.grantPower]; split <;> simp

@[simp] theorem directory_grantPower (s : State) (l : Fin 16) :
    (s.grantPower l).directory = s.directory := by
  simp only [State.grantPower]; split <;> simp

@[simp] theorem pool_grantPower (s : State) (l : Fin 16) :
    (s.grantPower l).pool = s.pool := by
  simp only [State.grantPower]; split <;> simp

@[simp] theorem ret_grantPower (s : State) (l : Fin 16) (w : Fin 8) :
    (s.grantPower l).ret w = s.ret w := by
  simp only [State.grantPower]; split <;> simp

@[simp] theorem turn_grantPower (s : State) (l : Fin 16) (w : Fin 8) :
    (s.grantPower l).turn w = s.turn w := by
  simp only [State.grantPower]; split <;> simp

@[simp] theorem pair_grantPower (s : State) (l : Fin 16) (w : Fin 8) :
    (s.grantPower l).pair w = s.pair w := by
  simp only [State.grantPower]; split <;> simp

@[simp] theorem laneOther_grantPower (s : State) (l : Fin 16) (j : Fin 16) (h : j ≠ l) :
    (s.grantPower l).lane j = s.lane j := by
  simp only [State.grantPower]; (repeat' split) <;> simp [h]

@[simp] theorem record_grantPower (s : State) (l : Fin 16) (j : Fin 16) :
    ((s.grantPower l).lane j).session = (s.lane j).session := by
  simp only [State.grantPower]; split <;> simp

@[simp] theorem session_grantPower (s : State) (l : Fin 16) (j : Fin 16) :
    (s.grantPower l).session j = s.session j := by
  simp [State.session]

@[simp] theorem meter_grantPower (s : State) (l : Fin 16) (j : Fin 16) :
    ((s.grantPower l).lane j).meter = (s.lane j).meter := by
  simp only [State.grantPower]; split <;> simp

@[simp] theorem snapshot_grantPower (s : State) (l : Fin 16) (j : Fin 16) :
    ((s.grantPower l).lane j).snapshot = (s.lane j).snapshot := by
  simp only [State.grantPower]; split <;> simp

@[simp] theorem out_grantPower (s : State) (l : Fin 16) (j : Fin 16) :
    ((s.grantPower l).lane j).out = (s.lane j).out := by
  simp only [State.grantPower]; split <;> simp

/-! ### withdrawPower -/

@[simp] theorem chip_withdrawPower (s : State) (l : Fin 16) :
    (s.withdrawPower l).chip = s.chip := by
  simp [State.withdrawPower]

@[simp] theorem line_withdrawPower (s : State) (l : Fin 16) (o : Port) :
    ((s.withdrawPower l).port o).line = (s.port o).line := by
  simp [State.withdrawPower]

@[simp] theorem directory_withdrawPower (s : State) (l : Fin 16) :
    (s.withdrawPower l).directory = s.directory := by
  simp [State.withdrawPower]

@[simp] theorem pool_withdrawPower (s : State) (l : Fin 16) :
    (s.withdrawPower l).pool = s.pool := by
  simp [State.withdrawPower]

@[simp] theorem ret_withdrawPower (s : State) (l : Fin 16) (w : Fin 8) :
    (s.withdrawPower l).ret w = s.ret w := by
  simp [State.withdrawPower]

@[simp] theorem turn_withdrawPower (s : State) (l : Fin 16) (w : Fin 8) :
    (s.withdrawPower l).turn w = s.turn w := by
  simp [State.withdrawPower]

@[simp] theorem pair_withdrawPower (s : State) (l : Fin 16) (w : Fin 8) :
    (s.withdrawPower l).pair w = s.pair w := by
  simp [State.withdrawPower]

@[simp] theorem laneOther_withdrawPower (s : State) (l : Fin 16) (j : Fin 16) (h : j ≠ l) :
    (s.withdrawPower l).lane j = s.lane j := by
  simp only [State.withdrawPower]; (repeat' split) <;> simp [h]

@[simp] theorem record_withdrawPower (s : State) (l : Fin 16) (j : Fin 16) :
    ((s.withdrawPower l).lane j).session = (s.lane j).session := by
  simp [State.withdrawPower]

@[simp] theorem session_withdrawPower (s : State) (l : Fin 16) (j : Fin 16) :
    (s.withdrawPower l).session j = s.session j := by
  simp [State.session]

@[simp] theorem meter_withdrawPower (s : State) (l : Fin 16) (j : Fin 16) :
    ((s.withdrawPower l).lane j).meter = (s.lane j).meter := by
  simp [State.withdrawPower]

@[simp] theorem snapshot_withdrawPower (s : State) (l : Fin 16) (j : Fin 16) :
    ((s.withdrawPower l).lane j).snapshot = (s.lane j).snapshot := by
  simp [State.withdrawPower]

@[simp] theorem out_withdrawPower (s : State) (l : Fin 16) (j : Fin 16) :
    ((s.withdrawPower l).lane j).out = (s.lane j).out := by
  simp [State.withdrawPower]

/-! ### startCycle -/

@[simp] theorem chip_startCycle (s : State) (l : Fin 16) (c : Cycle) :
    (s.startCycle l c).chip = s.chip := by
  simp [State.startCycle]

@[simp] theorem line_startCycle (s : State) (l : Fin 16) (c : Cycle) (o : Port) :
    ((s.startCycle l c).port o).line = (s.port o).line := by
  simp [State.startCycle]

@[simp] theorem directory_startCycle (s : State) (l : Fin 16) (c : Cycle) :
    (s.startCycle l c).directory = s.directory := by
  simp [State.startCycle]

@[simp] theorem pool_startCycle (s : State) (l : Fin 16) (c : Cycle) :
    (s.startCycle l c).pool = s.pool := by
  simp [State.startCycle]

@[simp] theorem ret_startCycle (s : State) (l : Fin 16) (c : Cycle) (w : Fin 8) :
    (s.startCycle l c).ret w = s.ret w := by
  simp [State.startCycle]

@[simp] theorem turn_startCycle (s : State) (l : Fin 16) (c : Cycle) (w : Fin 8) :
    (s.startCycle l c).turn w = s.turn w := by
  simp [State.startCycle]

@[simp] theorem pair_startCycle (s : State) (l : Fin 16) (c : Cycle) (w : Fin 8) :
    (s.startCycle l c).pair w = s.pair w := by
  simp [State.startCycle]

@[simp] theorem laneOther_startCycle (s : State) (l : Fin 16) (c : Cycle) (j : Fin 16) (h : j ≠ l) :
    (s.startCycle l c).lane j = s.lane j := by
  simp only [State.startCycle]; (repeat' split) <;> simp [h]

@[simp] theorem record_startCycle (s : State) (l : Fin 16) (c : Cycle) (j : Fin 16) :
    ((s.startCycle l c).lane j).session = (s.lane j).session := by
  simp [State.startCycle]

@[simp] theorem session_startCycle (s : State) (l : Fin 16) (c : Cycle) (j : Fin 16) :
    (s.startCycle l c).session j = s.session j := by
  simp [State.session]

@[simp] theorem meter_startCycle (s : State) (l : Fin 16) (c : Cycle) (j : Fin 16) :
    ((s.startCycle l c).lane j).meter = (s.lane j).meter := by
  simp [State.startCycle]

@[simp] theorem snapshot_startCycle (s : State) (l : Fin 16) (c : Cycle) (j : Fin 16) :
    ((s.startCycle l c).lane j).snapshot = (s.lane j).snapshot := by
  simp [State.startCycle]

@[simp] theorem out_startCycle (s : State) (l : Fin 16) (c : Cycle) (j : Fin 16) :
    ((s.startCycle l c).lane j).out = (s.lane j).out := by
  simp [State.startCycle]

/-! ### startFinal -/

@[simp] theorem chip_startFinal (s : State) (l : Fin 16) (origin : CycleOrigin) :
    (s.startFinal l origin).chip = s.chip := by
  simp [State.startFinal]

@[simp] theorem line_startFinal (s : State) (l : Fin 16) (origin : CycleOrigin) (o : Port) :
    ((s.startFinal l origin).port o).line = (s.port o).line := by
  simp [State.startFinal]

@[simp] theorem directory_startFinal (s : State) (l : Fin 16) (origin : CycleOrigin) :
    (s.startFinal l origin).directory = s.directory := by
  simp [State.startFinal]

@[simp] theorem pool_startFinal (s : State) (l : Fin 16) (origin : CycleOrigin) :
    (s.startFinal l origin).pool = s.pool := by
  simp [State.startFinal]

@[simp] theorem ret_startFinal (s : State) (l : Fin 16) (origin : CycleOrigin) (w : Fin 8) :
    (s.startFinal l origin).ret w = s.ret w := by
  simp [State.startFinal]

@[simp] theorem turn_startFinal (s : State) (l : Fin 16) (origin : CycleOrigin) (w : Fin 8) :
    (s.startFinal l origin).turn w = s.turn w := by
  simp [State.startFinal]

@[simp] theorem pair_startFinal (s : State) (l : Fin 16) (origin : CycleOrigin) (w : Fin 8) :
    (s.startFinal l origin).pair w = s.pair w := by
  simp [State.startFinal]

@[simp] theorem laneOther_startFinal (s : State) (l : Fin 16) (origin : CycleOrigin) (j : Fin 16) (h : j ≠ l) :
    (s.startFinal l origin).lane j = s.lane j := by
  simp only [State.startFinal]; (repeat' split) <;> simp [h]

@[simp] theorem record_startFinal (s : State) (l : Fin 16) (origin : CycleOrigin) (j : Fin 16) :
    ((s.startFinal l origin).lane j).session = (s.lane j).session := by
  simp [State.startFinal]

@[simp] theorem session_startFinal (s : State) (l : Fin 16) (origin : CycleOrigin) (j : Fin 16) :
    (s.startFinal l origin).session j = s.session j := by
  simp [State.session]

@[simp] theorem meter_startFinal (s : State) (l : Fin 16) (origin : CycleOrigin) (j : Fin 16) :
    ((s.startFinal l origin).lane j).meter = (s.lane j).meter := by
  simp [State.startFinal]

@[simp] theorem snapshot_startFinal (s : State) (l : Fin 16) (origin : CycleOrigin) (j : Fin 16) :
    ((s.startFinal l origin).lane j).snapshot = (s.lane j).snapshot := by
  simp [State.startFinal]

@[simp] theorem out_startFinal (s : State) (l : Fin 16) (origin : CycleOrigin) (j : Fin 16) :
    ((s.startFinal l origin).lane j).out = (s.lane j).out := by
  simp [State.startFinal]

/-! ### enterHandSet -/

@[simp] theorem chip_enterHandSet (s : State) (l : Fin 16) (target : PinSet) (after : Option CyclePhase) :
    (s.enterHandSet l target after).chip = s.chip := by
  simp [State.enterHandSet]

@[simp] theorem line_enterHandSet (s : State) (l : Fin 16) (target : PinSet) (after : Option CyclePhase) (o : Port) :
    ((s.enterHandSet l target after).port o).line = (s.port o).line := by
  simp [State.enterHandSet]

@[simp] theorem directory_enterHandSet (s : State) (l : Fin 16) (target : PinSet) (after : Option CyclePhase) :
    (s.enterHandSet l target after).directory = s.directory := by
  simp [State.enterHandSet]

@[simp] theorem ret_enterHandSet (s : State) (l : Fin 16) (target : PinSet) (after : Option CyclePhase) (w : Fin 8) :
    (s.enterHandSet l target after).ret w = s.ret w := by
  simp [State.enterHandSet]

@[simp] theorem turn_enterHandSet (s : State) (l : Fin 16) (target : PinSet) (after : Option CyclePhase) (w : Fin 8) :
    (s.enterHandSet l target after).turn w = s.turn w := by
  simp [State.enterHandSet]

@[simp] theorem pair_enterHandSet (s : State) (l : Fin 16) (target : PinSet) (after : Option CyclePhase) (w : Fin 8) :
    (s.enterHandSet l target after).pair w = s.pair w := by
  simp [State.enterHandSet]

@[simp] theorem laneOther_enterHandSet (s : State) (l : Fin 16) (target : PinSet) (after : Option CyclePhase) (j : Fin 16) (h : j ≠ l) :
    (s.enterHandSet l target after).lane j = s.lane j := by
  simp only [State.enterHandSet]; (repeat' split) <;> simp [h]

@[simp] theorem record_enterHandSet (s : State) (l : Fin 16) (target : PinSet) (after : Option CyclePhase) (j : Fin 16) :
    ((s.enterHandSet l target after).lane j).session = (s.lane j).session := by
  simp [State.enterHandSet]

@[simp] theorem session_enterHandSet (s : State) (l : Fin 16) (target : PinSet) (after : Option CyclePhase) (j : Fin 16) :
    (s.enterHandSet l target after).session j = s.session j := by
  simp [State.session]

@[simp] theorem meter_enterHandSet (s : State) (l : Fin 16) (target : PinSet) (after : Option CyclePhase) (j : Fin 16) :
    ((s.enterHandSet l target after).lane j).meter = (s.lane j).meter := by
  simp [State.enterHandSet]

@[simp] theorem snapshot_enterHandSet (s : State) (l : Fin 16) (target : PinSet) (after : Option CyclePhase) (j : Fin 16) :
    ((s.enterHandSet l target after).lane j).snapshot = (s.lane j).snapshot := by
  simp [State.enterHandSet]

@[simp] theorem out_enterHandSet (s : State) (l : Fin 16) (target : PinSet) (after : Option CyclePhase) (j : Fin 16) :
    ((s.enterHandSet l target after).lane j).out = (s.lane j).out := by
  simp [State.enterHandSet]

/-! ### restoreReady -/

@[simp] theorem chip_restoreReady (s : State) (l : Fin 16) (target : PinSet) (after : Option CyclePhase) :
    (s.restoreReady l target after).chip = s.chip := by
  simp only [State.restoreReady]; split <;> simp

@[simp] theorem line_restoreReady (s : State) (l : Fin 16) (target : PinSet) (after : Option CyclePhase) (o : Port) :
    ((s.restoreReady l target after).port o).line = (s.port o).line := by
  simp only [State.restoreReady]; split <;> simp

@[simp] theorem directory_restoreReady (s : State) (l : Fin 16) (target : PinSet) (after : Option CyclePhase) :
    (s.restoreReady l target after).directory = s.directory := by
  simp only [State.restoreReady]; split <;> simp

@[simp] theorem ret_restoreReady (s : State) (l : Fin 16) (target : PinSet) (after : Option CyclePhase) (w : Fin 8) :
    (s.restoreReady l target after).ret w = s.ret w := by
  simp only [State.restoreReady]; split <;> simp

@[simp] theorem turn_restoreReady (s : State) (l : Fin 16) (target : PinSet) (after : Option CyclePhase) (w : Fin 8) :
    (s.restoreReady l target after).turn w = s.turn w := by
  simp only [State.restoreReady]; split <;> simp

@[simp] theorem pair_restoreReady (s : State) (l : Fin 16) (target : PinSet) (after : Option CyclePhase) (w : Fin 8) :
    (s.restoreReady l target after).pair w = s.pair w := by
  simp only [State.restoreReady]; split <;> simp

@[simp] theorem laneOther_restoreReady (s : State) (l : Fin 16) (target : PinSet) (after : Option CyclePhase) (j : Fin 16) (h : j ≠ l) :
    (s.restoreReady l target after).lane j = s.lane j := by
  simp only [State.restoreReady]; (repeat' split) <;> simp [h]

@[simp] theorem record_restoreReady (s : State) (l : Fin 16) (target : PinSet) (after : Option CyclePhase) (j : Fin 16) :
    ((s.restoreReady l target after).lane j).session = (s.lane j).session := by
  simp only [State.restoreReady]; split <;> simp

@[simp] theorem session_restoreReady (s : State) (l : Fin 16) (target : PinSet) (after : Option CyclePhase) (j : Fin 16) :
    (s.restoreReady l target after).session j = s.session j := by
  simp [State.session]

@[simp] theorem meter_restoreReady (s : State) (l : Fin 16) (target : PinSet) (after : Option CyclePhase) (j : Fin 16) :
    ((s.restoreReady l target after).lane j).meter = (s.lane j).meter := by
  simp only [State.restoreReady]; split <;> simp

@[simp] theorem snapshot_restoreReady (s : State) (l : Fin 16) (target : PinSet) (after : Option CyclePhase) (j : Fin 16) :
    ((s.restoreReady l target after).lane j).snapshot = (s.lane j).snapshot := by
  simp only [State.restoreReady]; split <;> simp

@[simp] theorem out_restoreReady (s : State) (l : Fin 16) (target : PinSet) (after : Option CyclePhase) (j : Fin 16) :
    ((s.restoreReady l target after).lane j).out = (s.lane j).out := by
  simp only [State.restoreReady]; split <;> simp

/-! ### restoreDemand -/

@[simp] theorem chip_restoreDemand (s : State) (l : Fin 16) (target : PinSet) :
    (s.restoreDemand l target).chip = s.chip := by
  simp only [State.restoreDemand]; (repeat' split) <;> simp

@[simp] theorem line_restoreDemand (s : State) (l : Fin 16) (target : PinSet) (o : Port) :
    ((s.restoreDemand l target).port o).line = (s.port o).line := by
  simp only [State.restoreDemand]; (repeat' split) <;> simp

@[simp] theorem directory_restoreDemand (s : State) (l : Fin 16) (target : PinSet) :
    (s.restoreDemand l target).directory = s.directory := by
  simp only [State.restoreDemand]; (repeat' split) <;> simp

@[simp] theorem ret_restoreDemand (s : State) (l : Fin 16) (target : PinSet) (w : Fin 8) :
    (s.restoreDemand l target).ret w = s.ret w := by
  simp only [State.restoreDemand]; (repeat' split) <;> simp

@[simp] theorem turn_restoreDemand (s : State) (l : Fin 16) (target : PinSet) (w : Fin 8) :
    (s.restoreDemand l target).turn w = s.turn w := by
  simp only [State.restoreDemand]; (repeat' split) <;> simp

@[simp] theorem pair_restoreDemand (s : State) (l : Fin 16) (target : PinSet) (w : Fin 8) :
    (s.restoreDemand l target).pair w = s.pair w := by
  simp only [State.restoreDemand]; (repeat' split) <;> simp

@[simp] theorem laneOther_restoreDemand (s : State) (l : Fin 16) (target : PinSet) (j : Fin 16) (h : j ≠ l) :
    (s.restoreDemand l target).lane j = s.lane j := by
  simp only [State.restoreDemand]; (repeat' split) <;> simp [h]

@[simp] theorem record_restoreDemand (s : State) (l : Fin 16) (target : PinSet) (j : Fin 16) :
    ((s.restoreDemand l target).lane j).session = (s.lane j).session := by
  simp only [State.restoreDemand]; (repeat' split) <;> simp

@[simp] theorem session_restoreDemand (s : State) (l : Fin 16) (target : PinSet) (j : Fin 16) :
    (s.restoreDemand l target).session j = s.session j := by
  simp [State.session]

@[simp] theorem meter_restoreDemand (s : State) (l : Fin 16) (target : PinSet) (j : Fin 16) :
    ((s.restoreDemand l target).lane j).meter = (s.lane j).meter := by
  simp only [State.restoreDemand]; (repeat' split) <;> simp

@[simp] theorem snapshot_restoreDemand (s : State) (l : Fin 16) (target : PinSet) (j : Fin 16) :
    ((s.restoreDemand l target).lane j).snapshot = (s.lane j).snapshot := by
  simp only [State.restoreDemand]; (repeat' split) <;> simp

@[simp] theorem out_restoreDemand (s : State) (l : Fin 16) (target : PinSet) (j : Fin 16) :
    ((s.restoreDemand l target).lane j).out = (s.lane j).out := by
  simp only [State.restoreDemand]; (repeat' split) <;> simp

/-! ### landBall -/

@[simp] theorem chip_landBall (s : State) (l : Fin 16) (d : Delivery) :
    (s.landBall l d).chip = s.chip := by
  simp only [State.landBall]; split <;> simp

@[simp] theorem line_landBall (s : State) (l : Fin 16) (d : Delivery) (o : Port) :
    ((s.landBall l d).port o).line = (s.port o).line := by
  simp only [State.landBall]; split <;> simp

@[simp] theorem directory_landBall (s : State) (l : Fin 16) (d : Delivery) :
    (s.landBall l d).directory = s.directory := by
  simp only [State.landBall]; split <;> simp

@[simp] theorem pool_landBall (s : State) (l : Fin 16) (d : Delivery) :
    (s.landBall l d).pool = s.pool := by
  simp only [State.landBall]; split <;> simp

@[simp] theorem ret_landBall (s : State) (l : Fin 16) (d : Delivery) (w : Fin 8) :
    (s.landBall l d).ret w = s.ret w := by
  simp only [State.landBall]; split <;> simp

@[simp] theorem pairOther_landBall (s : State) (l : Fin 16) (d : Delivery) (w : Fin 8) (h : w ≠ pairOf l) :
    (s.landBall l d).pair w = s.pair w := by
  simp only [State.landBall]; (repeat' split) <;> simp [h]

@[simp] theorem motor_landBall (s : State) (l : Fin 16) (d : Delivery) (w : Fin 8) :
    ((s.landBall l d).pair w).motor = (s.pair w).motor := by
  simp only [State.landBall]; split <;> simp

@[simp] theorem lane_landBall (s : State) (l : Fin 16) (d : Delivery) (j : Fin 16) :
    (s.landBall l d).lane j = s.lane j := by
  simp only [State.landBall]; split <;> simp

@[simp] theorem session_landBall (s : State) (l : Fin 16) (d : Delivery) (j : Fin 16) :
    (s.landBall l d).session j = s.session j := by
  simp [State.session]

/-! ### loseBall -/

@[simp] theorem chip_loseBall (s : State) (l : Fin 16) :
    (s.loseBall l).chip = s.chip := by
  simp only [State.loseBall]; (repeat' split) <;> simp

@[simp] theorem line_loseBall (s : State) (l : Fin 16) (o : Port) :
    ((s.loseBall l).port o).line = (s.port o).line := by
  simp only [State.loseBall]; (repeat' split) <;> simp

@[simp] theorem directory_loseBall (s : State) (l : Fin 16) :
    (s.loseBall l).directory = s.directory := by
  simp only [State.loseBall]; (repeat' split) <;> simp

@[simp] theorem pool_loseBall (s : State) (l : Fin 16) :
    (s.loseBall l).pool = s.pool := by
  simp only [State.loseBall]; (repeat' split) <;> simp

@[simp] theorem ret_loseBall (s : State) (l : Fin 16) (w : Fin 8) :
    (s.loseBall l).ret w = s.ret w := by
  simp only [State.loseBall]; (repeat' split) <;> simp

@[simp] theorem pairOther_loseBall (s : State) (l : Fin 16) (w : Fin 8) (h : w ≠ pairOf l) :
    (s.loseBall l).pair w = s.pair w := by
  simp only [State.loseBall]; (repeat' split) <;> simp [h]

@[simp] theorem motor_loseBall (s : State) (l : Fin 16) (w : Fin 8) :
    ((s.loseBall l).pair w).motor = (s.pair w).motor := by
  simp only [State.loseBall]; (repeat' split) <;> simp

@[simp] theorem laneOther_loseBall (s : State) (l : Fin 16) (j : Fin 16) (h : j ≠ l) :
    (s.loseBall l).lane j = s.lane j := by
  simp only [State.loseBall]; (repeat' split) <;> simp [h]

@[simp] theorem record_loseBall (s : State) (l : Fin 16) (j : Fin 16) :
    ((s.loseBall l).lane j).session = (s.lane j).session := by
  simp only [State.loseBall]; (repeat' split) <;> simp

@[simp] theorem session_loseBall (s : State) (l : Fin 16) (j : Fin 16) :
    (s.loseBall l).session j = s.session j := by
  simp [State.session]

@[simp] theorem meter_loseBall (s : State) (l : Fin 16) (j : Fin 16) :
    ((s.loseBall l).lane j).meter = (s.lane j).meter := by
  simp only [State.loseBall]; (repeat' split) <;> simp

@[simp] theorem snapshot_loseBall (s : State) (l : Fin 16) (j : Fin 16) :
    ((s.loseBall l).lane j).snapshot = (s.lane j).snapshot := by
  simp only [State.loseBall]; (repeat' split) <;> simp

@[simp] theorem out_loseBall (s : State) (l : Fin 16) (j : Fin 16) :
    ((s.loseBall l).lane j).out = (s.lane j).out := by
  simp only [State.loseBall]; (repeat' split) <;> simp

/-! ### faultCycle -/

@[simp] theorem chip_faultCycle (s : State) (l : Fin 16) (c : Cycle) (reason : FaultReason) :
    (s.faultCycle l c reason).chip = s.chip := by
  simp only [State.faultCycle]; split <;> simp

@[simp] theorem line_faultCycle (s : State) (l : Fin 16) (c : Cycle) (reason : FaultReason) (o : Port) :
    ((s.faultCycle l c reason).port o).line = (s.port o).line := by
  simp only [State.faultCycle]; split <;> simp

@[simp] theorem directory_faultCycle (s : State) (l : Fin 16) (c : Cycle) (reason : FaultReason) :
    (s.faultCycle l c reason).directory = s.directory := by
  simp only [State.faultCycle]; split <;> simp

@[simp] theorem ret_faultCycle (s : State) (l : Fin 16) (c : Cycle) (reason : FaultReason) (w : Fin 8) :
    (s.faultCycle l c reason).ret w = s.ret w := by
  simp only [State.faultCycle]; split <;> simp

@[simp] theorem pairOther_faultCycle (s : State) (l : Fin 16) (c : Cycle) (reason : FaultReason) (w : Fin 8) (h : w ≠ pairOf l) :
    (s.faultCycle l c reason).pair w = s.pair w := by
  simp only [State.faultCycle]; (repeat' split) <;> simp [h]

@[simp] theorem motor_faultCycle (s : State) (l : Fin 16) (c : Cycle) (reason : FaultReason) (w : Fin 8) :
    ((s.faultCycle l c reason).pair w).motor = (s.pair w).motor := by
  simp only [State.faultCycle]; split <;> simp

@[simp] theorem laneOther_faultCycle (s : State) (l : Fin 16) (c : Cycle) (reason : FaultReason) (j : Fin 16) (h : j ≠ l) :
    (s.faultCycle l c reason).lane j = s.lane j := by
  simp only [State.faultCycle]; (repeat' split) <;> simp [h]

@[simp] theorem record_faultCycle (s : State) (l : Fin 16) (c : Cycle) (reason : FaultReason) (j : Fin 16) :
    ((s.faultCycle l c reason).lane j).session = (s.lane j).session := by
  simp only [State.faultCycle]; split <;> simp

@[simp] theorem session_faultCycle (s : State) (l : Fin 16) (c : Cycle) (reason : FaultReason) (j : Fin 16) :
    (s.faultCycle l c reason).session j = s.session j := by
  simp [State.session]

@[simp] theorem meter_faultCycle (s : State) (l : Fin 16) (c : Cycle) (reason : FaultReason) (j : Fin 16) :
    ((s.faultCycle l c reason).lane j).meter = (s.lane j).meter := by
  simp only [State.faultCycle]; split <;> simp

@[simp] theorem snapshot_faultCycle (s : State) (l : Fin 16) (c : Cycle) (reason : FaultReason) (j : Fin 16) :
    ((s.faultCycle l c reason).lane j).snapshot = (s.lane j).snapshot := by
  simp only [State.faultCycle]; split <;> simp

@[simp] theorem out_faultCycle (s : State) (l : Fin 16) (c : Cycle) (reason : FaultReason) (j : Fin 16) :
    ((s.faultCycle l c reason).lane j).out = (s.lane j).out := by
  simp only [State.faultCycle]; split <;> simp

/-! ### attributeFoul -/

@[simp] theorem chip_attributeFoul (s : State) (l : Fin 16) :
    (s.attributeFoul l).chip = s.chip := by
  simp [State.attributeFoul]

@[simp] theorem line_attributeFoul (s : State) (l : Fin 16) (o : Port) :
    ((s.attributeFoul l).port o).line = (s.port o).line := by
  simp [State.attributeFoul]

@[simp] theorem directory_attributeFoul (s : State) (l : Fin 16) :
    (s.attributeFoul l).directory = s.directory := by
  simp [State.attributeFoul]

@[simp] theorem pool_attributeFoul (s : State) (l : Fin 16) :
    (s.attributeFoul l).pool = s.pool := by
  simp [State.attributeFoul]

@[simp] theorem ret_attributeFoul (s : State) (l : Fin 16) (w : Fin 8) :
    (s.attributeFoul l).ret w = s.ret w := by
  simp [State.attributeFoul]

@[simp] theorem turn_attributeFoul (s : State) (l : Fin 16) (w : Fin 8) :
    (s.attributeFoul l).turn w = s.turn w := by
  simp [State.attributeFoul]

@[simp] theorem pair_attributeFoul (s : State) (l : Fin 16) (w : Fin 8) :
    (s.attributeFoul l).pair w = s.pair w := by
  simp [State.attributeFoul]

@[simp] theorem laneOther_attributeFoul (s : State) (l : Fin 16) (j : Fin 16) (h : j ≠ l) :
    (s.attributeFoul l).lane j = s.lane j := by
  simp only [State.attributeFoul]; (repeat' split) <;> simp [h]

@[simp] theorem record_attributeFoul (s : State) (l : Fin 16) (j : Fin 16) :
    ((s.attributeFoul l).lane j).session = (s.lane j).session := by
  simp [State.attributeFoul]

@[simp] theorem session_attributeFoul (s : State) (l : Fin 16) (j : Fin 16) :
    (s.attributeFoul l).session j = s.session j := by
  simp [State.session]

@[simp] theorem meter_attributeFoul (s : State) (l : Fin 16) (j : Fin 16) :
    ((s.attributeFoul l).lane j).meter = (s.lane j).meter := by
  simp [State.attributeFoul]

@[simp] theorem snapshot_attributeFoul (s : State) (l : Fin 16) (j : Fin 16) :
    ((s.attributeFoul l).lane j).snapshot = (s.lane j).snapshot := by
  simp [State.attributeFoul]

@[simp] theorem out_attributeFoul (s : State) (l : Fin 16) (j : Fin 16) :
    ((s.attributeFoul l).lane j).out = (s.lane j).out := by
  simp [State.attributeFoul]

/-! ### updSession -/

@[simp] theorem chip_updSession (s : State) (l : Fin 16) (f : Session → Session) :
    (s.updSession l f).chip = s.chip := by
  simp [State.updSession]

@[simp] theorem line_updSession (s : State) (l : Fin 16) (f : Session → Session) (o : Port) :
    ((s.updSession l f).port o).line = (s.port o).line := by
  simp [State.updSession]

@[simp] theorem directory_updSession (s : State) (l : Fin 16) (f : Session → Session) :
    (s.updSession l f).directory = s.directory := by
  simp [State.updSession]

@[simp] theorem pool_updSession (s : State) (l : Fin 16) (f : Session → Session) :
    (s.updSession l f).pool = s.pool := by
  simp [State.updSession]

@[simp] theorem ret_updSession (s : State) (l : Fin 16) (f : Session → Session) (w : Fin 8) :
    (s.updSession l f).ret w = s.ret w := by
  simp [State.updSession]

@[simp] theorem turn_updSession (s : State) (l : Fin 16) (f : Session → Session) (w : Fin 8) :
    (s.updSession l f).turn w = s.turn w := by
  simp [State.updSession]

@[simp] theorem pair_updSession (s : State) (l : Fin 16) (f : Session → Session) (w : Fin 8) :
    (s.updSession l f).pair w = s.pair w := by
  simp [State.updSession]

@[simp] theorem laneOther_updSession (s : State) (l : Fin 16) (f : Session → Session) (j : Fin 16) (h : j ≠ l) :
    (s.updSession l f).lane j = s.lane j := by
  simp only [State.updSession]; (repeat' split) <;> simp [h]

@[simp] theorem sup_updSession (s : State) (l : Fin 16) (f : Session → Session) (j : Fin 16) :
    ((s.updSession l f).lane j).sup = (s.lane j).sup := by
  simp only [State.updSession, State.updLane, State.modSup]; (repeat' split) <;> simp [lane_modLane] <;> split <;> simp

@[simp] theorem meter_updSession (s : State) (l : Fin 16) (f : Session → Session) (j : Fin 16) :
    ((s.updSession l f).lane j).meter = (s.lane j).meter := by
  simp only [State.updSession, State.updLane, State.modSup]; (repeat' split) <;> simp [lane_modLane] <;> split <;> simp

@[simp] theorem snapshot_updSession (s : State) (l : Fin 16) (f : Session → Session) (j : Fin 16) :
    ((s.updSession l f).lane j).snapshot = (s.lane j).snapshot := by
  simp only [State.updSession, State.updLane, State.modSup]; (repeat' split) <;> simp [lane_modLane] <;> split <;> simp

@[simp] theorem out_updSession (s : State) (l : Fin 16) (f : Session → Session) (j : Fin 16) :
    ((s.updSession l f).lane j).out = (s.lane j).out := by
  simp only [State.updSession, State.updLane, State.modSup]; (repeat' split) <;> simp [lane_modLane] <;> split <;> simp

/-! ### liftLaneStopped -/

@[simp] theorem chip_liftLaneStopped (s : State) (l : Fin 16) :
    (s.liftLaneStopped l).chip = s.chip := by
  simp [State.liftLaneStopped]

@[simp] theorem line_liftLaneStopped (s : State) (l : Fin 16) (o : Port) :
    ((s.liftLaneStopped l).port o).line = (s.port o).line := by
  simp [State.liftLaneStopped]

@[simp] theorem directory_liftLaneStopped (s : State) (l : Fin 16) :
    (s.liftLaneStopped l).directory = s.directory := by
  simp [State.liftLaneStopped]

@[simp] theorem pool_liftLaneStopped (s : State) (l : Fin 16) :
    (s.liftLaneStopped l).pool = s.pool := by
  simp [State.liftLaneStopped]

@[simp] theorem turn_liftLaneStopped (s : State) (l : Fin 16) (w : Fin 8) :
    (s.liftLaneStopped l).turn w = s.turn w := by
  simp [State.liftLaneStopped]

@[simp] theorem pairOther_liftLaneStopped (s : State) (l : Fin 16) (w : Fin 8) (h : w ≠ pairOf l) :
    (s.liftLaneStopped l).pair w = s.pair w := by
  simp only [State.liftLaneStopped]; (repeat' split) <;> simp [h]

@[simp] theorem motor_liftLaneStopped (s : State) (l : Fin 16) (w : Fin 8) :
    ((s.liftLaneStopped l).pair w).motor = (s.pair w).motor := by
  simp [State.liftLaneStopped]

@[simp] theorem lane_liftLaneStopped (s : State) (l : Fin 16) (j : Fin 16) :
    (s.liftLaneStopped l).lane j = s.lane j := by
  simp [State.liftLaneStopped]

@[simp] theorem session_liftLaneStopped (s : State) (l : Fin 16) (j : Fin 16) :
    (s.liftLaneStopped l).session j = s.session j := by
  simp [State.session]

/-! ### enterParked -/

@[simp] theorem chip_enterParked (s : State) (l : Fin 16) (mask : WakeMask) (cause : ParkCause) :
    (s.enterParked l mask cause).chip = s.chip := by
  simp [State.enterParked]

@[simp] theorem line_enterParked (s : State) (l : Fin 16) (mask : WakeMask) (cause : ParkCause) (o : Port) :
    ((s.enterParked l mask cause).port o).line = (s.port o).line := by
  simp [State.enterParked]

@[simp] theorem directory_enterParked (s : State) (l : Fin 16) (mask : WakeMask) (cause : ParkCause) :
    (s.enterParked l mask cause).directory = s.directory := by
  simp [State.enterParked]

@[simp] theorem pool_enterParked (s : State) (l : Fin 16) (mask : WakeMask) (cause : ParkCause) :
    (s.enterParked l mask cause).pool = s.pool := by
  simp [State.enterParked]

@[simp] theorem turn_enterParked (s : State) (l : Fin 16) (mask : WakeMask) (cause : ParkCause) (w : Fin 8) :
    (s.enterParked l mask cause).turn w = s.turn w := by
  simp [State.enterParked]

@[simp] theorem pairOther_enterParked (s : State) (l : Fin 16) (mask : WakeMask) (cause : ParkCause) (w : Fin 8) (h : w ≠ pairOf l) :
    (s.enterParked l mask cause).pair w = s.pair w := by
  simp only [State.enterParked]; (repeat' split) <;> simp [h]

@[simp] theorem motor_enterParked (s : State) (l : Fin 16) (mask : WakeMask) (cause : ParkCause) (w : Fin 8) :
    ((s.enterParked l mask cause).pair w).motor = (s.pair w).motor := by
  simp [State.enterParked]

@[simp] theorem laneOther_enterParked (s : State) (l : Fin 16) (mask : WakeMask) (cause : ParkCause) (j : Fin 16) (h : j ≠ l) :
    (s.enterParked l mask cause).lane j = s.lane j := by
  simp only [State.enterParked]; (repeat' split) <;> simp [h]

@[simp] theorem meter_enterParked (s : State) (l : Fin 16) (mask : WakeMask) (cause : ParkCause) (j : Fin 16) :
    ((s.enterParked l mask cause).lane j).meter = (s.lane j).meter := by
  simp [State.enterParked]

@[simp] theorem snapshot_enterParked (s : State) (l : Fin 16) (mask : WakeMask) (cause : ParkCause) (j : Fin 16) :
    ((s.enterParked l mask cause).lane j).snapshot = (s.lane j).snapshot := by
  simp [State.enterParked]

@[simp] theorem out_enterParked (s : State) (l : Fin 16) (mask : WakeMask) (cause : ParkCause) (j : Fin 16) :
    ((s.enterParked l mask cause).lane j).out = (s.lane j).out := by
  simp [State.enterParked]

/-! ### park -/

@[simp] theorem chip_park (s : State) (l : Fin 16) (mask : WakeMask) (cause : ParkCause) :
    (s.park l mask cause).chip = s.chip := by
  simp only [State.park]; split <;> simp

@[simp] theorem line_park (s : State) (l : Fin 16) (mask : WakeMask) (cause : ParkCause) (o : Port) :
    ((s.park l mask cause).port o).line = (s.port o).line := by
  simp only [State.park]; split <;> simp

@[simp] theorem directory_park (s : State) (l : Fin 16) (mask : WakeMask) (cause : ParkCause) :
    (s.park l mask cause).directory = s.directory := by
  simp only [State.park]; split <;> simp

@[simp] theorem pool_park (s : State) (l : Fin 16) (mask : WakeMask) (cause : ParkCause) :
    (s.park l mask cause).pool = s.pool := by
  simp only [State.park]; split <;> simp

@[simp] theorem turn_park (s : State) (l : Fin 16) (mask : WakeMask) (cause : ParkCause) (w : Fin 8) :
    (s.park l mask cause).turn w = s.turn w := by
  simp only [State.park]; split <;> simp

@[simp] theorem pairOther_park (s : State) (l : Fin 16) (mask : WakeMask) (cause : ParkCause) (w : Fin 8) (h : w ≠ pairOf l) :
    (s.park l mask cause).pair w = s.pair w := by
  simp only [State.park]; (repeat' split) <;> simp [h]

@[simp] theorem motor_park (s : State) (l : Fin 16) (mask : WakeMask) (cause : ParkCause) (w : Fin 8) :
    ((s.park l mask cause).pair w).motor = (s.pair w).motor := by
  simp only [State.park]; split <;> simp

@[simp] theorem laneOther_park (s : State) (l : Fin 16) (mask : WakeMask) (cause : ParkCause) (j : Fin 16) (h : j ≠ l) :
    (s.park l mask cause).lane j = s.lane j := by
  simp only [State.park]; (repeat' split) <;> simp [h]

@[simp] theorem meter_park (s : State) (l : Fin 16) (mask : WakeMask) (cause : ParkCause) (j : Fin 16) :
    ((s.park l mask cause).lane j).meter = (s.lane j).meter := by
  simp only [State.park]; split <;> simp

@[simp] theorem snapshot_park (s : State) (l : Fin 16) (mask : WakeMask) (cause : ParkCause) (j : Fin 16) :
    ((s.park l mask cause).lane j).snapshot = (s.lane j).snapshot := by
  simp only [State.park]; split <;> simp

@[simp] theorem out_park (s : State) (l : Fin 16) (mask : WakeMask) (cause : ParkCause) (j : Fin 16) :
    ((s.park l mask cause).lane j).out = (s.lane j).out := by
  simp only [State.park]; split <;> simp

/-! ### dropPending -/

@[simp] theorem chip_dropPending (s : State) (l : Fin 16) :
    (s.dropPending l).chip = s.chip := by
  simp [State.dropPending]

@[simp] theorem line_dropPending (s : State) (l : Fin 16) (o : Port) :
    ((s.dropPending l).port o).line = (s.port o).line := by
  simp [State.dropPending]

@[simp] theorem directory_dropPending (s : State) (l : Fin 16) :
    (s.dropPending l).directory = s.directory := by
  simp [State.dropPending]

@[simp] theorem pool_dropPending (s : State) (l : Fin 16) :
    (s.dropPending l).pool = s.pool := by
  simp [State.dropPending]

@[simp] theorem ret_dropPending (s : State) (l : Fin 16) (w : Fin 8) :
    (s.dropPending l).ret w = s.ret w := by
  simp [State.dropPending]

@[simp] theorem turn_dropPending (s : State) (l : Fin 16) (w : Fin 8) :
    (s.dropPending l).turn w = s.turn w := by
  simp [State.dropPending]

@[simp] theorem pair_dropPending (s : State) (l : Fin 16) (w : Fin 8) :
    (s.dropPending l).pair w = s.pair w := by
  simp [State.dropPending]

@[simp] theorem laneOther_dropPending (s : State) (l : Fin 16) (j : Fin 16) (h : j ≠ l) :
    (s.dropPending l).lane j = s.lane j := by
  simp only [State.dropPending]; (repeat' split) <;> simp [h]

@[simp] theorem session_dropPending (s : State) (l : Fin 16) (j : Fin 16) :
    (s.dropPending l).session j = s.session j := by
  simp only [State.dropPending, State.session, State.updLane, State.updSession]; (repeat' split) <;> simp [lane_modLane] <;> split <;> simp

@[simp] theorem sup_dropPending (s : State) (l : Fin 16) (j : Fin 16) :
    ((s.dropPending l).lane j).sup = (s.lane j).sup := by
  simp [State.dropPending]

@[simp] theorem meter_dropPending (s : State) (l : Fin 16) (j : Fin 16) :
    ((s.dropPending l).lane j).meter = (s.lane j).meter := by
  simp [State.dropPending]

@[simp] theorem snapshot_dropPending (s : State) (l : Fin 16) (j : Fin 16) :
    ((s.dropPending l).lane j).snapshot = (s.lane j).snapshot := by
  simp [State.dropPending]

@[simp] theorem out_dropPending (s : State) (l : Fin 16) (j : Fin 16) :
    ((s.dropPending l).lane j).out = (s.lane j).out := by
  simp [State.dropPending]

/-! ### enterPending -/

@[simp] theorem chip_enterPending (s : State) (l : Fin 16) :
    (s.enterPending l).chip = s.chip := by
  simp only [State.enterPending]; (repeat' split) <;> simp

@[simp] theorem line_enterPending (s : State) (l : Fin 16) (o : Port) :
    ((s.enterPending l).port o).line = (s.port o).line := by
  simp only [State.enterPending]; (repeat' split) <;> simp

@[simp] theorem directory_enterPending (s : State) (l : Fin 16) :
    (s.enterPending l).directory = s.directory := by
  simp only [State.enterPending]; (repeat' split) <;> simp

@[simp] theorem pool_enterPending (s : State) (l : Fin 16) :
    (s.enterPending l).pool = s.pool := by
  simp only [State.enterPending]; (repeat' split) <;> simp

@[simp] theorem turn_enterPending (s : State) (l : Fin 16) (w : Fin 8) :
    (s.enterPending l).turn w = s.turn w := by
  simp only [State.enterPending]; (repeat' split) <;> simp

@[simp] theorem pairOther_enterPending (s : State) (l : Fin 16) (w : Fin 8) (h : w ≠ pairOf l) :
    (s.enterPending l).pair w = s.pair w := by
  simp only [State.enterPending]; (repeat' split) <;> simp [h]

@[simp] theorem motor_enterPending (s : State) (l : Fin 16) (w : Fin 8) :
    ((s.enterPending l).pair w).motor = (s.pair w).motor := by
  simp only [State.enterPending]; (repeat' split) <;> simp

@[simp] theorem laneOther_enterPending (s : State) (l : Fin 16) (j : Fin 16) (h : j ≠ l) :
    (s.enterPending l).lane j = s.lane j := by
  simp only [State.enterPending]; (repeat' split) <;> simp [h]

@[simp] theorem meter_enterPending (s : State) (l : Fin 16) (j : Fin 16) :
    ((s.enterPending l).lane j).meter = (s.lane j).meter := by
  simp only [State.enterPending]; (repeat' split) <;> simp

@[simp] theorem snapshot_enterPending (s : State) (l : Fin 16) (j : Fin 16) :
    ((s.enterPending l).lane j).snapshot = (s.lane j).snapshot := by
  simp only [State.enterPending]; (repeat' split) <;> simp

@[simp] theorem out_enterPending (s : State) (l : Fin 16) (j : Fin 16) :
    ((s.enterPending l).lane j).out = (s.lane j).out := by
  simp only [State.enterPending]; (repeat' split) <;> simp

/-! ### afterCycle -/

@[simp] theorem chip_afterCycle (s : State) (l : Fin 16) :
    (s.afterCycle l).chip = s.chip := by
  simp only [State.afterCycle]; split <;> simp

@[simp] theorem line_afterCycle (s : State) (l : Fin 16) (o : Port) :
    ((s.afterCycle l).port o).line = (s.port o).line := by
  simp only [State.afterCycle]; split <;> simp

@[simp] theorem directory_afterCycle (s : State) (l : Fin 16) :
    (s.afterCycle l).directory = s.directory := by
  simp only [State.afterCycle]; split <;> simp

@[simp] theorem pool_afterCycle (s : State) (l : Fin 16) :
    (s.afterCycle l).pool = s.pool := by
  simp only [State.afterCycle]; split <;> simp

@[simp] theorem turn_afterCycle (s : State) (l : Fin 16) (w : Fin 8) :
    (s.afterCycle l).turn w = s.turn w := by
  simp only [State.afterCycle]; split <;> simp

@[simp] theorem pairOther_afterCycle (s : State) (l : Fin 16) (w : Fin 8) (h : w ≠ pairOf l) :
    (s.afterCycle l).pair w = s.pair w := by
  simp only [State.afterCycle]; (repeat' split) <;> simp [h]

@[simp] theorem motor_afterCycle (s : State) (l : Fin 16) (w : Fin 8) :
    ((s.afterCycle l).pair w).motor = (s.pair w).motor := by
  simp only [State.afterCycle]; split <;> simp

@[simp] theorem laneOther_afterCycle (s : State) (l : Fin 16) (j : Fin 16) (h : j ≠ l) :
    (s.afterCycle l).lane j = s.lane j := by
  simp only [State.afterCycle]; (repeat' split) <;> simp [h]

@[simp] theorem meter_afterCycle (s : State) (l : Fin 16) (j : Fin 16) :
    ((s.afterCycle l).lane j).meter = (s.lane j).meter := by
  simp only [State.afterCycle]; split <;> simp

@[simp] theorem snapshot_afterCycle (s : State) (l : Fin 16) (j : Fin 16) :
    ((s.afterCycle l).lane j).snapshot = (s.lane j).snapshot := by
  simp only [State.afterCycle]; split <;> simp

@[simp] theorem out_afterCycle (s : State) (l : Fin 16) (j : Fin 16) :
    ((s.afterCycle l).lane j).out = (s.lane j).out := by
  simp only [State.afterCycle]; split <;> simp

/-! ### enterClosing -/

@[simp] theorem chip_enterClosing (s : State) (l : Fin 16) :
    (s.enterClosing l).chip = s.chip := by
  simp [State.enterClosing]

@[simp] theorem line_enterClosing (s : State) (l : Fin 16) (o : Port) :
    ((s.enterClosing l).port o).line = (s.port o).line := by
  simp [State.enterClosing]

@[simp] theorem directory_enterClosing (s : State) (l : Fin 16) :
    (s.enterClosing l).directory = s.directory := by
  simp [State.enterClosing]

@[simp] theorem pool_enterClosing (s : State) (l : Fin 16) :
    (s.enterClosing l).pool = s.pool := by
  simp [State.enterClosing]

@[simp] theorem ret_enterClosing (s : State) (l : Fin 16) (w : Fin 8) :
    (s.enterClosing l).ret w = s.ret w := by
  simp [State.enterClosing]

@[simp] theorem turn_enterClosing (s : State) (l : Fin 16) (w : Fin 8) :
    (s.enterClosing l).turn w = s.turn w := by
  simp [State.enterClosing]

@[simp] theorem pair_enterClosing (s : State) (l : Fin 16) (w : Fin 8) :
    (s.enterClosing l).pair w = s.pair w := by
  simp [State.enterClosing]

@[simp] theorem laneOther_enterClosing (s : State) (l : Fin 16) (j : Fin 16) (h : j ≠ l) :
    (s.enterClosing l).lane j = s.lane j := by
  simp only [State.enterClosing]; (repeat' split) <;> simp [h]

@[simp] theorem sup_enterClosing (s : State) (l : Fin 16) (j : Fin 16) :
    ((s.enterClosing l).lane j).sup = (s.lane j).sup := by
  simp [State.enterClosing]

@[simp] theorem meter_enterClosing (s : State) (l : Fin 16) (j : Fin 16) :
    ((s.enterClosing l).lane j).meter = (s.lane j).meter := by
  simp [State.enterClosing]

@[simp] theorem snapshot_enterClosing (s : State) (l : Fin 16) (j : Fin 16) :
    ((s.enterClosing l).lane j).snapshot = (s.lane j).snapshot := by
  simp [State.enterClosing]

@[simp] theorem out_enterClosing (s : State) (l : Fin 16) (j : Fin 16) :
    ((s.enterClosing l).lane j).out = (s.lane j).out := by
  simp [State.enterClosing]

/-! ### parkExhausted -/

@[simp] theorem chip_parkExhausted (s : State) (l : Fin 16) :
    (s.parkExhausted l).chip = s.chip := by
  simp [State.parkExhausted]

@[simp] theorem line_parkExhausted (s : State) (l : Fin 16) (o : Port) :
    ((s.parkExhausted l).port o).line = (s.port o).line := by
  simp [State.parkExhausted]

@[simp] theorem directory_parkExhausted (s : State) (l : Fin 16) :
    (s.parkExhausted l).directory = s.directory := by
  simp [State.parkExhausted]

@[simp] theorem pool_parkExhausted (s : State) (l : Fin 16) :
    (s.parkExhausted l).pool = s.pool := by
  simp [State.parkExhausted]

@[simp] theorem turn_parkExhausted (s : State) (l : Fin 16) (w : Fin 8) :
    (s.parkExhausted l).turn w = s.turn w := by
  simp [State.parkExhausted]

@[simp] theorem pairOther_parkExhausted (s : State) (l : Fin 16) (w : Fin 8) (h : w ≠ pairOf l) :
    (s.parkExhausted l).pair w = s.pair w := by
  simp only [State.parkExhausted]; (repeat' split) <;> simp [h]

@[simp] theorem motor_parkExhausted (s : State) (l : Fin 16) (w : Fin 8) :
    ((s.parkExhausted l).pair w).motor = (s.pair w).motor := by
  simp [State.parkExhausted]

@[simp] theorem laneOther_parkExhausted (s : State) (l : Fin 16) (j : Fin 16) (h : j ≠ l) :
    (s.parkExhausted l).lane j = s.lane j := by
  simp only [State.parkExhausted]; (repeat' split) <;> simp [h]

@[simp] theorem meter_parkExhausted (s : State) (l : Fin 16) (j : Fin 16) :
    ((s.parkExhausted l).lane j).meter = (s.lane j).meter := by
  simp [State.parkExhausted]

@[simp] theorem snapshot_parkExhausted (s : State) (l : Fin 16) (j : Fin 16) :
    ((s.parkExhausted l).lane j).snapshot = (s.lane j).snapshot := by
  simp [State.parkExhausted]

@[simp] theorem out_parkExhausted (s : State) (l : Fin 16) (j : Fin 16) :
    ((s.parkExhausted l).lane j).out = (s.lane j).out := by
  simp [State.parkExhausted]

/-! ### zeroBackGrace -/

@[simp] theorem chip_zeroBackGrace (s : State) (l : Fin 16) :
    (s.zeroBackGrace l).chip = s.chip := by
  simp only [State.zeroBackGrace]; (repeat' split) <;> simp

@[simp] theorem line_zeroBackGrace (s : State) (l : Fin 16) (o : Port) :
    ((s.zeroBackGrace l).port o).line = (s.port o).line := by
  simp only [State.zeroBackGrace]; (repeat' split) <;> simp

@[simp] theorem directory_zeroBackGrace (s : State) (l : Fin 16) :
    (s.zeroBackGrace l).directory = s.directory := by
  simp only [State.zeroBackGrace]; (repeat' split) <;> simp

@[simp] theorem pool_zeroBackGrace (s : State) (l : Fin 16) :
    (s.zeroBackGrace l).pool = s.pool := by
  simp only [State.zeroBackGrace]; (repeat' split) <;> simp

@[simp] theorem turn_zeroBackGrace (s : State) (l : Fin 16) (w : Fin 8) :
    (s.zeroBackGrace l).turn w = s.turn w := by
  simp only [State.zeroBackGrace]; (repeat' split) <;> simp

@[simp] theorem pairOther_zeroBackGrace (s : State) (l : Fin 16) (w : Fin 8) (h : w ≠ pairOf l) :
    (s.zeroBackGrace l).pair w = s.pair w := by
  simp only [State.zeroBackGrace]; (repeat' split) <;> simp [h]

@[simp] theorem motor_zeroBackGrace (s : State) (l : Fin 16) (w : Fin 8) :
    ((s.zeroBackGrace l).pair w).motor = (s.pair w).motor := by
  simp only [State.zeroBackGrace]; (repeat' split) <;> simp

@[simp] theorem laneOther_zeroBackGrace (s : State) (l : Fin 16) (j : Fin 16) (h : j ≠ l) :
    (s.zeroBackGrace l).lane j = s.lane j := by
  simp only [State.zeroBackGrace]; (repeat' split) <;> simp [h]

@[simp] theorem meter_zeroBackGrace (s : State) (l : Fin 16) (j : Fin 16) :
    ((s.zeroBackGrace l).lane j).meter = (s.lane j).meter := by
  simp only [State.zeroBackGrace]; (repeat' split) <;> simp

@[simp] theorem snapshot_zeroBackGrace (s : State) (l : Fin 16) (j : Fin 16) :
    ((s.zeroBackGrace l).lane j).snapshot = (s.lane j).snapshot := by
  simp only [State.zeroBackGrace]; (repeat' split) <;> simp

@[simp] theorem out_zeroBackGrace (s : State) (l : Fin 16) (j : Fin 16) :
    ((s.zeroBackGrace l).lane j).out = (s.lane j).out := by
  simp only [State.zeroBackGrace]; (repeat' split) <;> simp

/-! ### dropSnapshot -/

@[simp] theorem chip_dropSnapshot (s : State) (l : Fin 16) :
    (s.dropSnapshot l).chip = s.chip := by
  simp [State.dropSnapshot]

@[simp] theorem line_dropSnapshot (s : State) (l : Fin 16) (o : Port) :
    ((s.dropSnapshot l).port o).line = (s.port o).line := by
  simp [State.dropSnapshot]

@[simp] theorem directory_dropSnapshot (s : State) (l : Fin 16) :
    (s.dropSnapshot l).directory = s.directory := by
  simp [State.dropSnapshot]

@[simp] theorem pool_dropSnapshot (s : State) (l : Fin 16) :
    (s.dropSnapshot l).pool = s.pool := by
  simp [State.dropSnapshot]

@[simp] theorem ret_dropSnapshot (s : State) (l : Fin 16) (w : Fin 8) :
    (s.dropSnapshot l).ret w = s.ret w := by
  simp [State.dropSnapshot]

@[simp] theorem turn_dropSnapshot (s : State) (l : Fin 16) (w : Fin 8) :
    (s.dropSnapshot l).turn w = s.turn w := by
  simp [State.dropSnapshot]

@[simp] theorem pair_dropSnapshot (s : State) (l : Fin 16) (w : Fin 8) :
    (s.dropSnapshot l).pair w = s.pair w := by
  simp [State.dropSnapshot]

@[simp] theorem laneOther_dropSnapshot (s : State) (l : Fin 16) (j : Fin 16) (h : j ≠ l) :
    (s.dropSnapshot l).lane j = s.lane j := by
  simp [State.dropSnapshot, lane_modLane, h]

@[simp] theorem record_dropSnapshot (s : State) (l : Fin 16) (j : Fin 16) :
    ((s.dropSnapshot l).lane j).session = (s.lane j).session := by
  simp only [State.dropSnapshot, State.updLane, State.modSup]; (repeat' split) <;> simp [lane_modLane] <;> split <;> simp

@[simp] theorem session_dropSnapshot (s : State) (l : Fin 16) (j : Fin 16) :
    (s.dropSnapshot l).session j = s.session j := by
  simp [State.session]

@[simp] theorem sup_dropSnapshot (s : State) (l : Fin 16) (j : Fin 16) :
    ((s.dropSnapshot l).lane j).sup = (s.lane j).sup := by
  simp only [State.dropSnapshot, State.updLane, State.modSup]; (repeat' split) <;> simp [lane_modLane] <;> split <;> simp

@[simp] theorem meter_dropSnapshot (s : State) (l : Fin 16) (j : Fin 16) :
    ((s.dropSnapshot l).lane j).meter = (s.lane j).meter := by
  simp only [State.dropSnapshot, State.updLane, State.modSup]; (repeat' split) <;> simp [lane_modLane] <;> split <;> simp

@[simp] theorem out_dropSnapshot (s : State) (l : Fin 16) (j : Fin 16) :
    ((s.dropSnapshot l).lane j).out = (s.lane j).out := by
  simp only [State.dropSnapshot, State.updLane, State.modSup]; (repeat' split) <;> simp [lane_modLane] <;> split <;> simp

/-! ### dropSnapshots -/

@[simp] theorem chip_dropSnapshots (s : State) (p : Fin 8) :
    (s.dropSnapshots p).chip = s.chip := by
  simp [State.dropSnapshots]

@[simp] theorem line_dropSnapshots (s : State) (p : Fin 8) (o : Port) :
    ((s.dropSnapshots p).port o).line = (s.port o).line := by
  simp [State.dropSnapshots]

@[simp] theorem directory_dropSnapshots (s : State) (p : Fin 8) :
    (s.dropSnapshots p).directory = s.directory := by
  simp [State.dropSnapshots]

@[simp] theorem pool_dropSnapshots (s : State) (p : Fin 8) :
    (s.dropSnapshots p).pool = s.pool := by
  simp [State.dropSnapshots]

@[simp] theorem ret_dropSnapshots (s : State) (p : Fin 8) (w : Fin 8) :
    (s.dropSnapshots p).ret w = s.ret w := by
  simp [State.dropSnapshots]

@[simp] theorem turn_dropSnapshots (s : State) (p : Fin 8) (w : Fin 8) :
    (s.dropSnapshots p).turn w = s.turn w := by
  simp [State.dropSnapshots]

@[simp] theorem pair_dropSnapshots (s : State) (p : Fin 8) (w : Fin 8) :
    (s.dropSnapshots p).pair w = s.pair w := by
  simp [State.dropSnapshots]

@[simp] theorem record_dropSnapshots (s : State) (p : Fin 8) (j : Fin 16) :
    ((s.dropSnapshots p).lane j).session = (s.lane j).session := by
  simp [State.dropSnapshots]

@[simp] theorem session_dropSnapshots (s : State) (p : Fin 8) (j : Fin 16) :
    (s.dropSnapshots p).session j = s.session j := by
  simp [State.session]

@[simp] theorem sup_dropSnapshots (s : State) (p : Fin 8) (j : Fin 16) :
    ((s.dropSnapshots p).lane j).sup = (s.lane j).sup := by
  simp [State.dropSnapshots]

@[simp] theorem meter_dropSnapshots (s : State) (p : Fin 8) (j : Fin 16) :
    ((s.dropSnapshots p).lane j).meter = (s.lane j).meter := by
  simp [State.dropSnapshots]

@[simp] theorem out_dropSnapshots (s : State) (p : Fin 8) (j : Fin 16) :
    ((s.dropSnapshots p).lane j).out = (s.lane j).out := by
  simp [State.dropSnapshots]

/-! ### dropSnapshotOf -/

@[simp] theorem chip_dropSnapshotOf (s : State) (l : Fin 16) (i : Fin 12) :
    (s.dropSnapshotOf l i).chip = s.chip := by
  simp only [State.dropSnapshotOf]; split <;> simp

@[simp] theorem line_dropSnapshotOf (s : State) (l : Fin 16) (i : Fin 12) (o : Port) :
    ((s.dropSnapshotOf l i).port o).line = (s.port o).line := by
  simp only [State.dropSnapshotOf]; split <;> simp

@[simp] theorem directory_dropSnapshotOf (s : State) (l : Fin 16) (i : Fin 12) :
    (s.dropSnapshotOf l i).directory = s.directory := by
  simp only [State.dropSnapshotOf]; split <;> simp

@[simp] theorem pool_dropSnapshotOf (s : State) (l : Fin 16) (i : Fin 12) :
    (s.dropSnapshotOf l i).pool = s.pool := by
  simp only [State.dropSnapshotOf]; split <;> simp

@[simp] theorem ret_dropSnapshotOf (s : State) (l : Fin 16) (i : Fin 12) (w : Fin 8) :
    (s.dropSnapshotOf l i).ret w = s.ret w := by
  simp only [State.dropSnapshotOf]; split <;> simp

@[simp] theorem turn_dropSnapshotOf (s : State) (l : Fin 16) (i : Fin 12) (w : Fin 8) :
    (s.dropSnapshotOf l i).turn w = s.turn w := by
  simp only [State.dropSnapshotOf]; split <;> simp

@[simp] theorem pair_dropSnapshotOf (s : State) (l : Fin 16) (i : Fin 12) (w : Fin 8) :
    (s.dropSnapshotOf l i).pair w = s.pair w := by
  simp only [State.dropSnapshotOf]; split <;> simp

@[simp] theorem laneOther_dropSnapshotOf (s : State) (l : Fin 16) (i : Fin 12) (j : Fin 16) (h : j ≠ l) :
    (s.dropSnapshotOf l i).lane j = s.lane j := by
  simp only [State.dropSnapshotOf]; (repeat' split) <;> simp [h]

@[simp] theorem record_dropSnapshotOf (s : State) (l : Fin 16) (i : Fin 12) (j : Fin 16) :
    ((s.dropSnapshotOf l i).lane j).session = (s.lane j).session := by
  simp only [State.dropSnapshotOf]; split <;> simp

@[simp] theorem session_dropSnapshotOf (s : State) (l : Fin 16) (i : Fin 12) (j : Fin 16) :
    (s.dropSnapshotOf l i).session j = s.session j := by
  simp [State.session]

@[simp] theorem sup_dropSnapshotOf (s : State) (l : Fin 16) (i : Fin 12) (j : Fin 16) :
    ((s.dropSnapshotOf l i).lane j).sup = (s.lane j).sup := by
  simp only [State.dropSnapshotOf]; split <;> simp

@[simp] theorem meter_dropSnapshotOf (s : State) (l : Fin 16) (i : Fin 12) (j : Fin 16) :
    ((s.dropSnapshotOf l i).lane j).meter = (s.lane j).meter := by
  simp only [State.dropSnapshotOf]; split <;> simp

@[simp] theorem out_dropSnapshotOf (s : State) (l : Fin 16) (i : Fin 12) (j : Fin 16) :
    ((s.dropSnapshotOf l i).lane j).out = (s.lane j).out := by
  simp only [State.dropSnapshotOf]; split <;> simp

/-! ### dropSnapshotsOf -/

@[simp] theorem chip_dropSnapshotsOf (s : State) (p : Fin 8) (i : Fin 12) :
    (s.dropSnapshotsOf p i).chip = s.chip := by
  simp [State.dropSnapshotsOf]

@[simp] theorem line_dropSnapshotsOf (s : State) (p : Fin 8) (i : Fin 12) (o : Port) :
    ((s.dropSnapshotsOf p i).port o).line = (s.port o).line := by
  simp [State.dropSnapshotsOf]

@[simp] theorem directory_dropSnapshotsOf (s : State) (p : Fin 8) (i : Fin 12) :
    (s.dropSnapshotsOf p i).directory = s.directory := by
  simp [State.dropSnapshotsOf]

@[simp] theorem pool_dropSnapshotsOf (s : State) (p : Fin 8) (i : Fin 12) :
    (s.dropSnapshotsOf p i).pool = s.pool := by
  simp [State.dropSnapshotsOf]

@[simp] theorem ret_dropSnapshotsOf (s : State) (p : Fin 8) (i : Fin 12) (w : Fin 8) :
    (s.dropSnapshotsOf p i).ret w = s.ret w := by
  simp [State.dropSnapshotsOf]

@[simp] theorem turn_dropSnapshotsOf (s : State) (p : Fin 8) (i : Fin 12) (w : Fin 8) :
    (s.dropSnapshotsOf p i).turn w = s.turn w := by
  simp [State.dropSnapshotsOf]

@[simp] theorem pair_dropSnapshotsOf (s : State) (p : Fin 8) (i : Fin 12) (w : Fin 8) :
    (s.dropSnapshotsOf p i).pair w = s.pair w := by
  simp [State.dropSnapshotsOf]

@[simp] theorem record_dropSnapshotsOf (s : State) (p : Fin 8) (i : Fin 12) (j : Fin 16) :
    ((s.dropSnapshotsOf p i).lane j).session = (s.lane j).session := by
  simp [State.dropSnapshotsOf]

@[simp] theorem session_dropSnapshotsOf (s : State) (p : Fin 8) (i : Fin 12) (j : Fin 16) :
    (s.dropSnapshotsOf p i).session j = s.session j := by
  simp [State.session]

@[simp] theorem sup_dropSnapshotsOf (s : State) (p : Fin 8) (i : Fin 12) (j : Fin 16) :
    ((s.dropSnapshotsOf p i).lane j).sup = (s.lane j).sup := by
  simp [State.dropSnapshotsOf]

@[simp] theorem meter_dropSnapshotsOf (s : State) (p : Fin 8) (i : Fin 12) (j : Fin 16) :
    ((s.dropSnapshotsOf p i).lane j).meter = (s.lane j).meter := by
  simp [State.dropSnapshotsOf]

@[simp] theorem out_dropSnapshotsOf (s : State) (p : Fin 8) (i : Fin 12) (j : Fin 16) :
    ((s.dropSnapshotsOf p i).lane j).out = (s.lane j).out := by
  simp [State.dropSnapshotsOf]

/-! ### tellSnapshot -/

@[simp] theorem chip_tellSnapshot (s : State) (l : Fin 16) :
    (s.tellSnapshot l).chip = s.chip := by
  simp [State.tellSnapshot]

@[simp] theorem line_tellSnapshot (s : State) (l : Fin 16) (o : Port) :
    ((s.tellSnapshot l).port o).line = (s.port o).line := by
  simp [State.tellSnapshot]

@[simp] theorem directory_tellSnapshot (s : State) (l : Fin 16) :
    (s.tellSnapshot l).directory = s.directory := by
  simp [State.tellSnapshot]

@[simp] theorem pool_tellSnapshot (s : State) (l : Fin 16) :
    (s.tellSnapshot l).pool = s.pool := by
  simp [State.tellSnapshot]

@[simp] theorem ret_tellSnapshot (s : State) (l : Fin 16) (w : Fin 8) :
    (s.tellSnapshot l).ret w = s.ret w := by
  simp [State.tellSnapshot]

@[simp] theorem turn_tellSnapshot (s : State) (l : Fin 16) (w : Fin 8) :
    (s.tellSnapshot l).turn w = s.turn w := by
  simp [State.tellSnapshot]

@[simp] theorem pair_tellSnapshot (s : State) (l : Fin 16) (w : Fin 8) :
    (s.tellSnapshot l).pair w = s.pair w := by
  simp [State.tellSnapshot]

@[simp] theorem laneOther_tellSnapshot (s : State) (l : Fin 16) (j : Fin 16) (h : j ≠ l) :
    (s.tellSnapshot l).lane j = s.lane j := by
  simp [State.tellSnapshot, lane_modLane, h]

@[simp] theorem record_tellSnapshot (s : State) (l : Fin 16) (j : Fin 16) :
    ((s.tellSnapshot l).lane j).session = (s.lane j).session := by
  simp only [State.tellSnapshot, State.updLane, State.modSup]; (repeat' split) <;> simp [lane_modLane] <;> split <;> simp

@[simp] theorem session_tellSnapshot (s : State) (l : Fin 16) (j : Fin 16) :
    (s.tellSnapshot l).session j = s.session j := by
  simp [State.session]

@[simp] theorem sup_tellSnapshot (s : State) (l : Fin 16) (j : Fin 16) :
    ((s.tellSnapshot l).lane j).sup = (s.lane j).sup := by
  simp only [State.tellSnapshot, State.updLane, State.modSup]; (repeat' split) <;> simp [lane_modLane] <;> split <;> simp

@[simp] theorem meter_tellSnapshot (s : State) (l : Fin 16) (j : Fin 16) :
    ((s.tellSnapshot l).lane j).meter = (s.lane j).meter := by
  simp only [State.tellSnapshot, State.updLane, State.modSup]; (repeat' split) <;> simp [lane_modLane] <;> split <;> simp

@[simp] theorem out_tellSnapshot (s : State) (l : Fin 16) (j : Fin 16) :
    ((s.tellSnapshot l).lane j).out = (s.lane j).out := by
  simp only [State.tellSnapshot, State.updLane, State.modSup]; (repeat' split) <;> simp [lane_modLane] <;> split <;> simp

/-! ### resetPractice -/

@[simp] theorem chip_resetPractice (s : State) (l : Fin 16) :
    (s.resetPractice l).chip = s.chip := by
  simp [State.resetPractice]

@[simp] theorem line_resetPractice (s : State) (l : Fin 16) (o : Port) :
    ((s.resetPractice l).port o).line = (s.port o).line := by
  simp [State.resetPractice]

@[simp] theorem directory_resetPractice (s : State) (l : Fin 16) :
    (s.resetPractice l).directory = s.directory := by
  simp [State.resetPractice]

@[simp] theorem pool_resetPractice (s : State) (l : Fin 16) :
    (s.resetPractice l).pool = s.pool := by
  simp [State.resetPractice]

@[simp] theorem ret_resetPractice (s : State) (l : Fin 16) (w : Fin 8) :
    (s.resetPractice l).ret w = s.ret w := by
  simp [State.resetPractice]

@[simp] theorem turn_resetPractice (s : State) (l : Fin 16) (w : Fin 8) :
    (s.resetPractice l).turn w = s.turn w := by
  simp [State.resetPractice]

@[simp] theorem pair_resetPractice (s : State) (l : Fin 16) (w : Fin 8) :
    (s.resetPractice l).pair w = s.pair w := by
  simp [State.resetPractice]

@[simp] theorem laneOther_resetPractice (s : State) (l : Fin 16) (j : Fin 16) (h : j ≠ l) :
    (s.resetPractice l).lane j = s.lane j := by
  simp only [State.resetPractice]; (repeat' split) <;> simp [h]

@[simp] theorem record_resetPractice (s : State) (l : Fin 16) (j : Fin 16) :
    ((s.resetPractice l).lane j).session = (s.lane j).session := by
  simp [State.resetPractice]

@[simp] theorem session_resetPractice (s : State) (l : Fin 16) (j : Fin 16) :
    (s.resetPractice l).session j = s.session j := by
  simp [State.session]

@[simp] theorem meter_resetPractice (s : State) (l : Fin 16) (j : Fin 16) :
    ((s.resetPractice l).lane j).meter = (s.lane j).meter := by
  simp [State.resetPractice]

@[simp] theorem snapshot_resetPractice (s : State) (l : Fin 16) (j : Fin 16) :
    ((s.resetPractice l).lane j).snapshot = (s.lane j).snapshot := by
  simp [State.resetPractice]

@[simp] theorem out_resetPractice (s : State) (l : Fin 16) (j : Fin 16) :
    ((s.resetPractice l).lane j).out = (s.lane j).out := by
  simp [State.resetPractice]

/-! ### startGame -/

@[simp] theorem chip_startGame (s : State) (l : Fin 16) (i : Fin 12) :
    (s.startGame l i).chip = s.chip := by
  simp [State.startGame]

@[simp] theorem line_startGame (s : State) (l : Fin 16) (i : Fin 12) (o : Port) :
    ((s.startGame l i).port o).line = (s.port o).line := by
  simp [State.startGame]

@[simp] theorem pool_startGame (s : State) (l : Fin 16) (i : Fin 12) :
    (s.startGame l i).pool = s.pool := by
  simp [State.startGame]

@[simp] theorem ret_startGame (s : State) (l : Fin 16) (i : Fin 12) (w : Fin 8) :
    (s.startGame l i).ret w = s.ret w := by
  simp [State.startGame]

@[simp] theorem pairOther_startGame (s : State) (l : Fin 16) (i : Fin 12) (w : Fin 8) (h : w ≠ pairOf l) :
    (s.startGame l i).pair w = s.pair w := by
  simp only [State.startGame]; (repeat' split) <;> simp [h]

@[simp] theorem motor_startGame (s : State) (l : Fin 16) (i : Fin 12) (w : Fin 8) :
    ((s.startGame l i).pair w).motor = (s.pair w).motor := by
  simp [State.startGame]

@[simp] theorem laneOther_startGame (s : State) (l : Fin 16) (i : Fin 12) (j : Fin 16) (h : j ≠ l) :
    (s.startGame l i).lane j = s.lane j := by
  simp only [State.startGame]; (repeat' split) <;> simp [h]

@[simp] theorem record_startGame (s : State) (l : Fin 16) (i : Fin 12) (j : Fin 16) :
    ((s.startGame l i).lane j).session = (s.lane j).session := by
  simp [State.startGame]

@[simp] theorem session_startGame (s : State) (l : Fin 16) (i : Fin 12) (j : Fin 16) :
    (s.startGame l i).session j = s.session j := by
  simp [State.session]

@[simp] theorem sup_startGame (s : State) (l : Fin 16) (i : Fin 12) (j : Fin 16) :
    ((s.startGame l i).lane j).sup = (s.lane j).sup := by
  simp [State.startGame]

@[simp] theorem meter_startGame (s : State) (l : Fin 16) (i : Fin 12) (j : Fin 16) :
    ((s.startGame l i).lane j).meter = (s.lane j).meter := by
  simp [State.startGame]

@[simp] theorem out_startGame (s : State) (l : Fin 16) (i : Fin 12) (j : Fin 16) :
    ((s.startGame l i).lane j).out = (s.lane j).out := by
  simp [State.startGame]

/-! ### becomeUp -/

@[simp] theorem chip_becomeUp (s : State) (l : Fin 16) (i : Fin 12) :
    (s.becomeUp l i).chip = s.chip := by
  simp [State.becomeUp]

@[simp] theorem line_becomeUp (s : State) (l : Fin 16) (i : Fin 12) (o : Port) :
    ((s.becomeUp l i).port o).line = (s.port o).line := by
  simp [State.becomeUp]

@[simp] theorem directory_becomeUp (s : State) (l : Fin 16) (i : Fin 12) :
    (s.becomeUp l i).directory = s.directory := by
  simp [State.becomeUp]

@[simp] theorem pool_becomeUp (s : State) (l : Fin 16) (i : Fin 12) :
    (s.becomeUp l i).pool = s.pool := by
  simp [State.becomeUp]

@[simp] theorem ret_becomeUp (s : State) (l : Fin 16) (i : Fin 12) (w : Fin 8) :
    (s.becomeUp l i).ret w = s.ret w := by
  simp [State.becomeUp]

@[simp] theorem pairOther_becomeUp (s : State) (l : Fin 16) (i : Fin 12) (w : Fin 8) (h : w ≠ pairOf l) :
    (s.becomeUp l i).pair w = s.pair w := by
  simp only [State.becomeUp]; (repeat' split) <;> simp [h]

@[simp] theorem motor_becomeUp (s : State) (l : Fin 16) (i : Fin 12) (w : Fin 8) :
    ((s.becomeUp l i).pair w).motor = (s.pair w).motor := by
  simp [State.becomeUp]

@[simp] theorem laneOther_becomeUp (s : State) (l : Fin 16) (i : Fin 12) (j : Fin 16) (h : j ≠ l) :
    (s.becomeUp l i).lane j = s.lane j := by
  simp only [State.becomeUp]; (repeat' split) <;> simp [h]

@[simp] theorem record_becomeUp (s : State) (l : Fin 16) (i : Fin 12) (j : Fin 16) :
    ((s.becomeUp l i).lane j).session = (s.lane j).session := by
  simp [State.becomeUp]

@[simp] theorem session_becomeUp (s : State) (l : Fin 16) (i : Fin 12) (j : Fin 16) :
    (s.becomeUp l i).session j = s.session j := by
  simp [State.session]

@[simp] theorem meter_becomeUp (s : State) (l : Fin 16) (i : Fin 12) (j : Fin 16) :
    ((s.becomeUp l i).lane j).meter = (s.lane j).meter := by
  simp [State.becomeUp]

@[simp] theorem snapshot_becomeUp (s : State) (l : Fin 16) (i : Fin 12) (j : Fin 16) :
    ((s.becomeUp l i).lane j).snapshot = (s.lane j).snapshot := by
  simp [State.becomeUp]

@[simp] theorem out_becomeUp (s : State) (l : Fin 16) (i : Fin 12) (j : Fin 16) :
    ((s.becomeUp l i).lane j).out = (s.lane j).out := by
  simp [State.becomeUp]

/-! ### setMeter -/

@[simp] theorem chip_setMeter (s : State) (l : Fin 16) (m : Meter) :
    (s.setMeter l m).chip = s.chip := by
  simp [State.setMeter]

@[simp] theorem line_setMeter (s : State) (l : Fin 16) (m : Meter) (o : Port) :
    ((s.setMeter l m).port o).line = (s.port o).line := by
  simp [State.setMeter]

@[simp] theorem directory_setMeter (s : State) (l : Fin 16) (m : Meter) :
    (s.setMeter l m).directory = s.directory := by
  simp [State.setMeter]

@[simp] theorem pool_setMeter (s : State) (l : Fin 16) (m : Meter) :
    (s.setMeter l m).pool = s.pool := by
  simp [State.setMeter]

@[simp] theorem ret_setMeter (s : State) (l : Fin 16) (m : Meter) (w : Fin 8) :
    (s.setMeter l m).ret w = s.ret w := by
  simp [State.setMeter]

@[simp] theorem turn_setMeter (s : State) (l : Fin 16) (m : Meter) (w : Fin 8) :
    (s.setMeter l m).turn w = s.turn w := by
  simp [State.setMeter]

@[simp] theorem pair_setMeter (s : State) (l : Fin 16) (m : Meter) (w : Fin 8) :
    (s.setMeter l m).pair w = s.pair w := by
  simp [State.setMeter]

@[simp] theorem laneOther_setMeter (s : State) (l : Fin 16) (m : Meter) (j : Fin 16) (h : j ≠ l) :
    (s.setMeter l m).lane j = s.lane j := by
  simp only [State.setMeter]; (repeat' split) <;> simp [h]

@[simp] theorem record_setMeter (s : State) (l : Fin 16) (m : Meter) (j : Fin 16) :
    ((s.setMeter l m).lane j).session = (s.lane j).session := by
  simp [State.setMeter]

@[simp] theorem session_setMeter (s : State) (l : Fin 16) (m : Meter) (j : Fin 16) :
    (s.setMeter l m).session j = s.session j := by
  simp [State.session]

@[simp] theorem sup_setMeter (s : State) (l : Fin 16) (m : Meter) (j : Fin 16) :
    ((s.setMeter l m).lane j).sup = (s.lane j).sup := by
  simp [State.setMeter]

@[simp] theorem snapshot_setMeter (s : State) (l : Fin 16) (m : Meter) (j : Fin 16) :
    ((s.setMeter l m).lane j).snapshot = (s.lane j).snapshot := by
  simp [State.setMeter]

@[simp] theorem out_setMeter (s : State) (l : Fin 16) (m : Meter) (j : Fin 16) :
    ((s.setMeter l m).lane j).out = (s.lane j).out := by
  simp [State.setMeter]

/-! ### askGame -/

@[simp] theorem chip_askGame (s : State) (l : Fin 16) (i : Fin 12) :
    (s.askGame l i).chip = s.chip := by
  simp only [State.askGame]; (repeat' split) <;> simp

@[simp] theorem line_askGame (s : State) (l : Fin 16) (i : Fin 12) (o : Port) :
    ((s.askGame l i).port o).line = (s.port o).line := by
  simp only [State.askGame]; (repeat' split) <;> simp

@[simp] theorem pool_askGame (s : State) (l : Fin 16) (i : Fin 12) :
    (s.askGame l i).pool = s.pool := by
  simp only [State.askGame]; (repeat' split) <;> simp

@[simp] theorem pairOther_askGame (s : State) (l : Fin 16) (i : Fin 12) (w : Fin 8) (h : w ≠ pairOf l) :
    (s.askGame l i).pair w = s.pair w := by
  simp only [State.askGame]; (repeat' split) <;> simp [h]

@[simp] theorem motor_askGame (s : State) (l : Fin 16) (i : Fin 12) (w : Fin 8) :
    ((s.askGame l i).pair w).motor = (s.pair w).motor := by
  simp only [State.askGame]; (repeat' split) <;> simp

@[simp] theorem laneOther_askGame (s : State) (l : Fin 16) (i : Fin 12) (j : Fin 16) (h : j ≠ l) :
    (s.askGame l i).lane j = s.lane j := by
  simp only [State.askGame]; (repeat' split) <;> simp [h]

@[simp] theorem out_askGame (s : State) (l : Fin 16) (i : Fin 12) (j : Fin 16) :
    ((s.askGame l i).lane j).out = (s.lane j).out := by
  simp only [State.askGame]; (repeat' split) <;> simp

/-! ### raiseHead -/

@[simp] theorem chip_raiseHead (s : State) (l : Fin 16) (i : Fin 12) :
    (s.raiseHead l i).chip = s.chip := by
  simp only [State.raiseHead]; (repeat' split) <;> simp

@[simp] theorem line_raiseHead (s : State) (l : Fin 16) (i : Fin 12) (o : Port) :
    ((s.raiseHead l i).port o).line = (s.port o).line := by
  simp only [State.raiseHead]; (repeat' split) <;> simp

@[simp] theorem pool_raiseHead (s : State) (l : Fin 16) (i : Fin 12) :
    (s.raiseHead l i).pool = s.pool := by
  simp only [State.raiseHead]; (repeat' split) <;> simp

@[simp] theorem pairOther_raiseHead (s : State) (l : Fin 16) (i : Fin 12) (w : Fin 8) (h : w ≠ pairOf l) :
    (s.raiseHead l i).pair w = s.pair w := by
  simp only [State.raiseHead]; (repeat' split) <;> simp [h]

@[simp] theorem motor_raiseHead (s : State) (l : Fin 16) (i : Fin 12) (w : Fin 8) :
    ((s.raiseHead l i).pair w).motor = (s.pair w).motor := by
  simp only [State.raiseHead]; (repeat' split) <;> simp

@[simp] theorem laneOther_raiseHead (s : State) (l : Fin 16) (i : Fin 12) (j : Fin 16) (h : j ≠ l) :
    (s.raiseHead l i).lane j = s.lane j := by
  simp only [State.raiseHead]; (repeat' split) <;> simp [h]

@[simp] theorem out_raiseHead (s : State) (l : Fin 16) (i : Fin 12) (j : Fin 16) :
    ((s.raiseHead l i).lane j).out = (s.lane j).out := by
  simp only [State.raiseHead]; (repeat' split) <;> simp

/-! ### headRules -/

@[simp] theorem chip_headRules (s : State) (l : Fin 16) :
    (s.headRules l).chip = s.chip := by
  simp only [State.headRules]; (repeat' split) <;> simp

@[simp] theorem line_headRules (s : State) (l : Fin 16) (o : Port) :
    ((s.headRules l).port o).line = (s.port o).line := by
  simp only [State.headRules]; (repeat' split) <;> simp

@[simp] theorem pool_headRules (s : State) (l : Fin 16) :
    (s.headRules l).pool = s.pool := by
  simp only [State.headRules]; (repeat' split) <;> simp

@[simp] theorem pairOther_headRules (s : State) (l : Fin 16) (w : Fin 8) (h : w ≠ pairOf l) :
    (s.headRules l).pair w = s.pair w := by
  simp only [State.headRules]; (repeat' split) <;> simp [h]

@[simp] theorem motor_headRules (s : State) (l : Fin 16) (w : Fin 8) :
    ((s.headRules l).pair w).motor = (s.pair w).motor := by
  simp only [State.headRules]; (repeat' split) <;> simp

@[simp] theorem laneOther_headRules (s : State) (l : Fin 16) (j : Fin 16) (h : j ≠ l) :
    (s.headRules l).lane j = s.lane j := by
  simp only [State.headRules]; (repeat' split) <;> simp [h]

@[simp] theorem out_headRules (s : State) (l : Fin 16) (j : Fin 16) :
    ((s.headRules l).lane j).out = (s.lane j).out := by
  simp only [State.headRules]; (repeat' split) <;> simp

/-! ### takePaid -/

@[simp] theorem chip_takePaid (s : State) (l : Fin 16) :
    (s.takePaid l).chip = s.chip := by
  simp only [State.takePaid]; (repeat' split) <;> simp

@[simp] theorem line_takePaid (s : State) (l : Fin 16) (o : Port) :
    ((s.takePaid l).port o).line = (s.port o).line := by
  simp only [State.takePaid]; (repeat' split) <;> simp

@[simp] theorem pool_takePaid (s : State) (l : Fin 16) :
    (s.takePaid l).pool = s.pool := by
  simp only [State.takePaid]; (repeat' split) <;> simp

@[simp] theorem pairOther_takePaid (s : State) (l : Fin 16) (w : Fin 8) (h : w ≠ pairOf l) :
    (s.takePaid l).pair w = s.pair w := by
  simp only [State.takePaid]; (repeat' split) <;> simp [h]

@[simp] theorem motor_takePaid (s : State) (l : Fin 16) (w : Fin 8) :
    ((s.takePaid l).pair w).motor = (s.pair w).motor := by
  simp only [State.takePaid]; (repeat' split) <;> simp

@[simp] theorem laneOther_takePaid (s : State) (l : Fin 16) (j : Fin 16) (h : j ≠ l) :
    (s.takePaid l).lane j = s.lane j := by
  simp only [State.takePaid]; (repeat' split) <;> simp [h]

@[simp] theorem out_takePaid (s : State) (l : Fin 16) (j : Fin 16) :
    ((s.takePaid l).lane j).out = (s.lane j).out := by
  simp only [State.takePaid]; (repeat' split) <;> simp

/-! ### turnEffect -/

@[simp] theorem chip_turnEffect (s : State) (l : Fin 16) (next : Option Side) :
    (s.turnEffect l next).chip = s.chip := by
  simp [State.turnEffect]

@[simp] theorem line_turnEffect (s : State) (l : Fin 16) (next : Option Side) (o : Port) :
    ((s.turnEffect l next).port o).line = (s.port o).line := by
  simp [State.turnEffect]

@[simp] theorem directory_turnEffect (s : State) (l : Fin 16) (next : Option Side) :
    (s.turnEffect l next).directory = s.directory := by
  simp [State.turnEffect]

@[simp] theorem pool_turnEffect (s : State) (l : Fin 16) (next : Option Side) :
    (s.turnEffect l next).pool = s.pool := by
  simp [State.turnEffect]

@[simp] theorem ret_turnEffect (s : State) (l : Fin 16) (next : Option Side) (w : Fin 8) :
    (s.turnEffect l next).ret w = s.ret w := by
  simp [State.turnEffect]

@[simp] theorem turn_turnEffect (s : State) (l : Fin 16) (next : Option Side) (w : Fin 8) :
    (s.turnEffect l next).turn w = s.turn w := by
  simp [State.turnEffect]

@[simp] theorem pair_turnEffect (s : State) (l : Fin 16) (next : Option Side) (w : Fin 8) :
    (s.turnEffect l next).pair w = s.pair w := by
  simp [State.turnEffect]

@[simp] theorem laneOther_turnEffect (s : State) (l : Fin 16) (next : Option Side) (j : Fin 16) (h : j ≠ l) :
    (s.turnEffect l next).lane j = s.lane j := by
  simp [State.turnEffect, lane_modLane, h]

@[simp] theorem record_turnEffect (s : State) (l : Fin 16) (next : Option Side) (j : Fin 16) :
    ((s.turnEffect l next).lane j).session = (s.lane j).session := by
  simp only [State.turnEffect, State.updLane, State.modSup]; (repeat' split) <;> simp [lane_modLane] <;> split <;> simp

@[simp] theorem session_turnEffect (s : State) (l : Fin 16) (next : Option Side) (j : Fin 16) :
    (s.turnEffect l next).session j = s.session j := by
  simp [State.session]

@[simp] theorem sup_turnEffect (s : State) (l : Fin 16) (next : Option Side) (j : Fin 16) :
    ((s.turnEffect l next).lane j).sup = (s.lane j).sup := by
  simp only [State.turnEffect, State.updLane, State.modSup]; (repeat' split) <;> simp [lane_modLane] <;> split <;> simp

@[simp] theorem meter_turnEffect (s : State) (l : Fin 16) (next : Option Side) (j : Fin 16) :
    ((s.turnEffect l next).lane j).meter = (s.lane j).meter := by
  simp only [State.turnEffect, State.updLane, State.modSup]; (repeat' split) <;> simp [lane_modLane] <;> split <;> simp

@[simp] theorem out_turnEffect (s : State) (l : Fin 16) (next : Option Side) (j : Fin 16) :
    ((s.turnEffect l next).lane j).out = (s.lane j).out := by
  simp only [State.turnEffect, State.updLane, State.modSup]; (repeat' split) <;> simp [lane_modLane] <;> split <;> simp

/-! ### endTurn -/

@[simp] theorem chip_endTurn (s : State) (l : Fin 16) (i : Fin 12) (finished : Bool) :
    (s.endTurn l i finished).chip = s.chip := by
  simp only [State.endTurn]; split <;> simp

@[simp] theorem line_endTurn (s : State) (l : Fin 16) (i : Fin 12) (finished : Bool) (o : Port) :
    ((s.endTurn l i finished).port o).line = (s.port o).line := by
  simp only [State.endTurn]; split <;> simp

@[simp] theorem pool_endTurn (s : State) (l : Fin 16) (i : Fin 12) (finished : Bool) :
    (s.endTurn l i finished).pool = s.pool := by
  simp only [State.endTurn]; split <;> simp

@[simp] theorem motor_endTurn (s : State) (l : Fin 16) (i : Fin 12) (finished : Bool) (w : Fin 8) :
    ((s.endTurn l i finished).pair w).motor = (s.pair w).motor := by
  simp only [State.endTurn]; split <;> simp

@[simp] theorem out_endTurn (s : State) (l : Fin 16) (i : Fin 12) (finished : Bool) (j : Fin 16) :
    ((s.endTurn l i finished).lane j).out = (s.lane j).out := by
  simp only [State.endTurn]; split <;> simp

/-! ### clearSlot -/

@[simp] theorem chip_clearSlot (s : State) (p : Fin 8) (i : Fin 12) :
    (s.clearSlot p i).chip = s.chip := by
  simp [State.clearSlot]

@[simp] theorem line_clearSlot (s : State) (p : Fin 8) (i : Fin 12) (o : Port) :
    ((s.clearSlot p i).port o).line = (s.port o).line := by
  simp [State.clearSlot]

@[simp] theorem pool_clearSlot (s : State) (p : Fin 8) (i : Fin 12) :
    (s.clearSlot p i).pool = s.pool := by
  simp [State.clearSlot]

@[simp] theorem ret_clearSlot (s : State) (p : Fin 8) (i : Fin 12) (w : Fin 8) :
    (s.clearSlot p i).ret w = s.ret w := by
  simp [State.clearSlot]

@[simp] theorem motor_clearSlot (s : State) (p : Fin 8) (i : Fin 12) (w : Fin 8) :
    ((s.clearSlot p i).pair w).motor = (s.pair w).motor := by
  simp [State.clearSlot]

@[simp] theorem record_clearSlot (s : State) (p : Fin 8) (i : Fin 12) (j : Fin 16) :
    ((s.clearSlot p i).lane j).session = (s.lane j).session := by
  simp [State.clearSlot]

@[simp] theorem session_clearSlot (s : State) (p : Fin 8) (i : Fin 12) (j : Fin 16) :
    (s.clearSlot p i).session j = s.session j := by
  simp [State.session]

@[simp] theorem sup_clearSlot (s : State) (p : Fin 8) (i : Fin 12) (j : Fin 16) :
    ((s.clearSlot p i).lane j).sup = (s.lane j).sup := by
  simp [State.clearSlot]

@[simp] theorem meter_clearSlot (s : State) (p : Fin 8) (i : Fin 12) (j : Fin 16) :
    ((s.clearSlot p i).lane j).meter = (s.lane j).meter := by
  simp [State.clearSlot]

@[simp] theorem out_clearSlot (s : State) (p : Fin 8) (i : Fin 12) (j : Fin 16) :
    ((s.clearSlot p i).lane j).out = (s.lane j).out := by
  simp [State.clearSlot]

/-! ### turnPaid -/

@[simp] theorem chip_turnPaid (s : State) (l : Fin 16) (m : Meter) :
    (s.turnPaid l m).chip = s.chip := by
  simp only [State.turnPaid]; split <;> simp

@[simp] theorem line_turnPaid (s : State) (l : Fin 16) (m : Meter) (o : Port) :
    ((s.turnPaid l m).port o).line = (s.port o).line := by
  simp only [State.turnPaid]; split <;> simp

@[simp] theorem pool_turnPaid (s : State) (l : Fin 16) (m : Meter) :
    (s.turnPaid l m).pool = s.pool := by
  simp only [State.turnPaid]; split <;> simp

@[simp] theorem pairOther_turnPaid (s : State) (l : Fin 16) (m : Meter) (w : Fin 8) (h : w ≠ pairOf l) :
    (s.turnPaid l m).pair w = s.pair w := by
  simp only [State.turnPaid]; (repeat' split) <;> simp [h]

@[simp] theorem motor_turnPaid (s : State) (l : Fin 16) (m : Meter) (w : Fin 8) :
    ((s.turnPaid l m).pair w).motor = (s.pair w).motor := by
  simp only [State.turnPaid]; split <;> simp

@[simp] theorem laneOther_turnPaid (s : State) (l : Fin 16) (m : Meter) (j : Fin 16) (h : j ≠ l) :
    (s.turnPaid l m).lane j = s.lane j := by
  simp only [State.turnPaid]; (repeat' split) <;> simp [h]

@[simp] theorem out_turnPaid (s : State) (l : Fin 16) (m : Meter) (j : Fin 16) :
    ((s.turnPaid l m).lane j).out = (s.lane j).out := by
  simp only [State.turnPaid]; split <;> simp

/-! ### paidRetry -/

@[simp] theorem chip_paidRetry (s : State) (l : Fin 16) (m : Meter) :
    (s.paidRetry l m).chip = s.chip := by
  simp [State.paidRetry]

@[simp] theorem line_paidRetry (s : State) (l : Fin 16) (m : Meter) (o : Port) :
    ((s.paidRetry l m).port o).line = (s.port o).line := by
  simp [State.paidRetry]

@[simp] theorem pool_paidRetry (s : State) (l : Fin 16) (m : Meter) :
    (s.paidRetry l m).pool = s.pool := by
  simp [State.paidRetry]

@[simp] theorem pairOther_paidRetry (s : State) (l : Fin 16) (m : Meter) (w : Fin 8) (h : w ≠ pairOf l) :
    (s.paidRetry l m).pair w = s.pair w := by
  simp only [State.paidRetry]; (repeat' split) <;> simp [h]

@[simp] theorem motor_paidRetry (s : State) (l : Fin 16) (m : Meter) (w : Fin 8) :
    ((s.paidRetry l m).pair w).motor = (s.pair w).motor := by
  simp [State.paidRetry]

@[simp] theorem laneOther_paidRetry (s : State) (l : Fin 16) (m : Meter) (j : Fin 16) (h : j ≠ l) :
    (s.paidRetry l m).lane j = s.lane j := by
  simp only [State.paidRetry]; (repeat' split) <;> simp [h]

@[simp] theorem out_paidRetry (s : State) (l : Fin 16) (m : Meter) (j : Fin 16) :
    ((s.paidRetry l m).lane j).out = (s.lane j).out := by
  simp [State.paidRetry]

/-! ### startUnit -/

@[simp] theorem chip_startUnit (s : State) (l : Fin 16) :
    (s.startUnit l).chip = s.chip := by
  simp only [State.startUnit]; (repeat' split) <;> simp

@[simp] theorem line_startUnit (s : State) (l : Fin 16) (o : Port) :
    ((s.startUnit l).port o).line = (s.port o).line := by
  simp only [State.startUnit]; (repeat' split) <;> simp

@[simp] theorem directory_startUnit (s : State) (l : Fin 16) :
    (s.startUnit l).directory = s.directory := by
  simp only [State.startUnit]; (repeat' split) <;> simp

@[simp] theorem pool_startUnit (s : State) (l : Fin 16) :
    (s.startUnit l).pool = s.pool := by
  simp only [State.startUnit]; (repeat' split) <;> simp

@[simp] theorem ret_startUnit (s : State) (l : Fin 16) (w : Fin 8) :
    (s.startUnit l).ret w = s.ret w := by
  simp only [State.startUnit]; (repeat' split) <;> simp

@[simp] theorem turn_startUnit (s : State) (l : Fin 16) (w : Fin 8) :
    (s.startUnit l).turn w = s.turn w := by
  simp only [State.startUnit]; (repeat' split) <;> simp

@[simp] theorem pair_startUnit (s : State) (l : Fin 16) (w : Fin 8) :
    (s.startUnit l).pair w = s.pair w := by
  simp only [State.startUnit]; (repeat' split) <;> simp

@[simp] theorem laneOther_startUnit (s : State) (l : Fin 16) (j : Fin 16) (h : j ≠ l) :
    (s.startUnit l).lane j = s.lane j := by
  simp only [State.startUnit]; (repeat' split) <;> simp [h]

@[simp] theorem sup_startUnit (s : State) (l : Fin 16) (j : Fin 16) :
    ((s.startUnit l).lane j).sup = (s.lane j).sup := by
  simp only [State.startUnit]; (repeat' split) <;> simp

@[simp] theorem snapshot_startUnit (s : State) (l : Fin 16) (j : Fin 16) :
    ((s.startUnit l).lane j).snapshot = (s.lane j).snapshot := by
  simp only [State.startUnit]; (repeat' split) <;> simp

@[simp] theorem out_startUnit (s : State) (l : Fin 16) (j : Fin 16) :
    ((s.startUnit l).lane j).out = (s.lane j).out := by
  simp only [State.startUnit]; (repeat' split) <;> simp

/-! ### endPeriod -/

@[simp] theorem chip_endPeriod (s : State) (l : Fin 16) :
    (s.endPeriod l).chip = s.chip := by
  simp only [State.endPeriod]; (repeat' split) <;> simp

@[simp] theorem line_endPeriod (s : State) (l : Fin 16) (o : Port) :
    ((s.endPeriod l).port o).line = (s.port o).line := by
  simp only [State.endPeriod]; (repeat' split) <;> simp

@[simp] theorem directory_endPeriod (s : State) (l : Fin 16) :
    (s.endPeriod l).directory = s.directory := by
  simp only [State.endPeriod]; (repeat' split) <;> simp

@[simp] theorem pool_endPeriod (s : State) (l : Fin 16) :
    (s.endPeriod l).pool = s.pool := by
  simp only [State.endPeriod]; (repeat' split) <;> simp

@[simp] theorem ret_endPeriod (s : State) (l : Fin 16) (w : Fin 8) :
    (s.endPeriod l).ret w = s.ret w := by
  simp only [State.endPeriod]; (repeat' split) <;> simp

@[simp] theorem turn_endPeriod (s : State) (l : Fin 16) (w : Fin 8) :
    (s.endPeriod l).turn w = s.turn w := by
  simp only [State.endPeriod]; (repeat' split) <;> simp

@[simp] theorem pair_endPeriod (s : State) (l : Fin 16) (w : Fin 8) :
    (s.endPeriod l).pair w = s.pair w := by
  simp only [State.endPeriod]; (repeat' split) <;> simp

@[simp] theorem laneOther_endPeriod (s : State) (l : Fin 16) (j : Fin 16) (h : j ≠ l) :
    (s.endPeriod l).lane j = s.lane j := by
  simp only [State.endPeriod]; (repeat' split) <;> simp [h]

@[simp] theorem sup_endPeriod (s : State) (l : Fin 16) (j : Fin 16) :
    ((s.endPeriod l).lane j).sup = (s.lane j).sup := by
  simp only [State.endPeriod]; (repeat' split) <;> simp

@[simp] theorem snapshot_endPeriod (s : State) (l : Fin 16) (j : Fin 16) :
    ((s.endPeriod l).lane j).snapshot = (s.lane j).snapshot := by
  simp only [State.endPeriod]; (repeat' split) <;> simp

@[simp] theorem out_endPeriod (s : State) (l : Fin 16) (j : Fin 16) :
    ((s.endPeriod l).lane j).out = (s.lane j).out := by
  simp only [State.endPeriod]; (repeat' split) <;> simp

/-! ### endFrozen -/

@[simp] theorem chip_endFrozen (s : State) (l : Fin 16) :
    (s.endFrozen l).chip = s.chip := by
  simp only [State.endFrozen]; (repeat' split) <;> simp

@[simp] theorem line_endFrozen (s : State) (l : Fin 16) (o : Port) :
    ((s.endFrozen l).port o).line = (s.port o).line := by
  simp only [State.endFrozen]; (repeat' split) <;> simp

@[simp] theorem directory_endFrozen (s : State) (l : Fin 16) :
    (s.endFrozen l).directory = s.directory := by
  simp only [State.endFrozen]; (repeat' split) <;> simp

@[simp] theorem pool_endFrozen (s : State) (l : Fin 16) :
    (s.endFrozen l).pool = s.pool := by
  simp only [State.endFrozen]; (repeat' split) <;> simp

@[simp] theorem ret_endFrozen (s : State) (l : Fin 16) (w : Fin 8) :
    (s.endFrozen l).ret w = s.ret w := by
  simp only [State.endFrozen]; (repeat' split) <;> simp

@[simp] theorem turn_endFrozen (s : State) (l : Fin 16) (w : Fin 8) :
    (s.endFrozen l).turn w = s.turn w := by
  simp only [State.endFrozen]; (repeat' split) <;> simp

@[simp] theorem pair_endFrozen (s : State) (l : Fin 16) (w : Fin 8) :
    (s.endFrozen l).pair w = s.pair w := by
  simp only [State.endFrozen]; (repeat' split) <;> simp

@[simp] theorem laneOther_endFrozen (s : State) (l : Fin 16) (j : Fin 16) (h : j ≠ l) :
    (s.endFrozen l).lane j = s.lane j := by
  simp only [State.endFrozen]; (repeat' split) <;> simp [h]

@[simp] theorem sup_endFrozen (s : State) (l : Fin 16) (j : Fin 16) :
    ((s.endFrozen l).lane j).sup = (s.lane j).sup := by
  simp only [State.endFrozen]; (repeat' split) <;> simp

@[simp] theorem snapshot_endFrozen (s : State) (l : Fin 16) (j : Fin 16) :
    ((s.endFrozen l).lane j).snapshot = (s.lane j).snapshot := by
  simp only [State.endFrozen]; (repeat' split) <;> simp

@[simp] theorem out_endFrozen (s : State) (l : Fin 16) (j : Fin 16) :
    ((s.endFrozen l).lane j).out = (s.lane j).out := by
  simp only [State.endFrozen]; (repeat' split) <;> simp

/-! ### resumeSession -/

@[simp] theorem chip_resumeSession (s : State) (l : Fin 16) (st : SessionState) :
    (s.resumeSession l st).chip = s.chip := by
  simp [State.resumeSession]

@[simp] theorem line_resumeSession (s : State) (l : Fin 16) (st : SessionState) (o : Port) :
    ((s.resumeSession l st).port o).line = (s.port o).line := by
  simp [State.resumeSession]

@[simp] theorem directory_resumeSession (s : State) (l : Fin 16) (st : SessionState) :
    (s.resumeSession l st).directory = s.directory := by
  simp [State.resumeSession]

@[simp] theorem pool_resumeSession (s : State) (l : Fin 16) (st : SessionState) :
    (s.resumeSession l st).pool = s.pool := by
  simp [State.resumeSession]

@[simp] theorem ret_resumeSession (s : State) (l : Fin 16) (st : SessionState) (w : Fin 8) :
    (s.resumeSession l st).ret w = s.ret w := by
  simp [State.resumeSession]

@[simp] theorem turn_resumeSession (s : State) (l : Fin 16) (st : SessionState) (w : Fin 8) :
    (s.resumeSession l st).turn w = s.turn w := by
  simp [State.resumeSession]

@[simp] theorem pair_resumeSession (s : State) (l : Fin 16) (st : SessionState) (w : Fin 8) :
    (s.resumeSession l st).pair w = s.pair w := by
  simp [State.resumeSession]

@[simp] theorem laneOther_resumeSession (s : State) (l : Fin 16) (st : SessionState) (j : Fin 16) (h : j ≠ l) :
    (s.resumeSession l st).lane j = s.lane j := by
  simp only [State.resumeSession]; (repeat' split) <;> simp [h]

@[simp] theorem sup_resumeSession (s : State) (l : Fin 16) (st : SessionState) (j : Fin 16) :
    ((s.resumeSession l st).lane j).sup = (s.lane j).sup := by
  simp [State.resumeSession]

@[simp] theorem meter_resumeSession (s : State) (l : Fin 16) (st : SessionState) (j : Fin 16) :
    ((s.resumeSession l st).lane j).meter = (s.lane j).meter := by
  simp [State.resumeSession]

@[simp] theorem snapshot_resumeSession (s : State) (l : Fin 16) (st : SessionState) (j : Fin 16) :
    ((s.resumeSession l st).lane j).snapshot = (s.lane j).snapshot := by
  simp [State.resumeSession]

@[simp] theorem out_resumeSession (s : State) (l : Fin 16) (st : SessionState) (j : Fin 16) :
    ((s.resumeSession l st).lane j).out = (s.lane j).out := by
  simp [State.resumeSession]

/-! ### resumeMachines -/

@[simp] theorem chip_resumeMachines (s : State) (l : Fin 16) :
    (s.resumeMachines l).chip = s.chip := by
  simp [State.resumeMachines]

@[simp] theorem line_resumeMachines (s : State) (l : Fin 16) (o : Port) :
    ((s.resumeMachines l).port o).line = (s.port o).line := by
  simp [State.resumeMachines]

@[simp] theorem directory_resumeMachines (s : State) (l : Fin 16) :
    (s.resumeMachines l).directory = s.directory := by
  simp [State.resumeMachines]

@[simp] theorem turn_resumeMachines (s : State) (l : Fin 16) (w : Fin 8) :
    (s.resumeMachines l).turn w = s.turn w := by
  simp [State.resumeMachines]

@[simp] theorem pairOther_resumeMachines (s : State) (l : Fin 16) (w : Fin 8) (h : w ≠ pairOf l) :
    (s.resumeMachines l).pair w = s.pair w := by
  simp only [State.resumeMachines]; (repeat' split) <;> simp [h]

@[simp] theorem motor_resumeMachines (s : State) (l : Fin 16) (w : Fin 8) :
    ((s.resumeMachines l).pair w).motor = (s.pair w).motor := by
  simp [State.resumeMachines]

@[simp] theorem record_resumeMachines (s : State) (l : Fin 16) (j : Fin 16) :
    ((s.resumeMachines l).lane j).session = (s.lane j).session := by
  simp [State.resumeMachines]

@[simp] theorem session_resumeMachines (s : State) (l : Fin 16) (j : Fin 16) :
    (s.resumeMachines l).session j = s.session j := by
  simp [State.session]

@[simp] theorem meter_resumeMachines (s : State) (l : Fin 16) (j : Fin 16) :
    ((s.resumeMachines l).lane j).meter = (s.lane j).meter := by
  simp [State.resumeMachines]

@[simp] theorem snapshot_resumeMachines (s : State) (l : Fin 16) (j : Fin 16) :
    ((s.resumeMachines l).lane j).snapshot = (s.lane j).snapshot := by
  simp [State.resumeMachines]

@[simp] theorem out_resumeMachines (s : State) (l : Fin 16) (j : Fin 16) :
    ((s.resumeMachines l).lane j).out = (s.lane j).out := by
  simp [State.resumeMachines]

/-! ### wake -/

@[simp] theorem chip_wake (s : State) (l : Fin 16) :
    (s.wake l).chip = s.chip := by
  simp only [State.wake]; (repeat' split) <;> simp

@[simp] theorem line_wake (s : State) (l : Fin 16) (o : Port) :
    ((s.wake l).port o).line = (s.port o).line := by
  simp only [State.wake]; (repeat' split) <;> simp

@[simp] theorem pairOther_wake (s : State) (l : Fin 16) (w : Fin 8) (h : w ≠ pairOf l) :
    (s.wake l).pair w = s.pair w := by
  simp only [State.wake]; (repeat' split) <;> simp [h]

@[simp] theorem motor_wake (s : State) (l : Fin 16) (w : Fin 8) :
    ((s.wake l).pair w).motor = (s.pair w).motor := by
  simp only [State.wake]; (repeat' split) <;> simp

@[simp] theorem out_wake (s : State) (l : Fin 16) (j : Fin 16) :
    ((s.wake l).lane j).out = (s.lane j).out := by
  simp only [State.wake]; (repeat' split) <;> simp

/-! ### retest -/

@[simp] theorem chip_retest (s : State) (l : Fin 16) :
    (s.retest l).chip = s.chip := by
  simp only [State.retest]; (repeat' split) <;> simp

@[simp] theorem line_retest (s : State) (l : Fin 16) (o : Port) :
    ((s.retest l).port o).line = (s.port o).line := by
  simp only [State.retest]; (repeat' split) <;> simp

@[simp] theorem pairOther_retest (s : State) (l : Fin 16) (w : Fin 8) (h : w ≠ pairOf l) :
    (s.retest l).pair w = s.pair w := by
  simp only [State.retest]; (repeat' split) <;> simp [h]

@[simp] theorem motor_retest (s : State) (l : Fin 16) (w : Fin 8) :
    ((s.retest l).pair w).motor = (s.pair w).motor := by
  simp only [State.retest]; (repeat' split) <;> simp

@[simp] theorem out_retest (s : State) (l : Fin 16) (j : Fin 16) :
    ((s.retest l).lane j).out = (s.lane j).out := by
  simp only [State.retest]; (repeat' split) <;> simp

/-! ### retestAll -/

@[simp] theorem chip_retestAll (s : State) :
    (s.retestAll).chip = s.chip := by
  simp [State.retestAll, foldl_keeps (fun t : State => t.chip)]

@[simp] theorem line_retestAll (s : State) (o : Port) :
    ((s.retestAll).port o).line = (s.port o).line := by
  simp [State.retestAll, foldl_keeps (fun t : State => (t.port o).line)]

@[simp] theorem motor_retestAll (s : State) (w : Fin 8) :
    ((s.retestAll).pair w).motor = (s.pair w).motor := by
  simp [State.retestAll, foldl_keeps (fun t : State => (t.pair w).motor)]

@[simp] theorem out_retestAll (s : State) (j : Fin 16) :
    ((s.retestAll).lane j).out = (s.lane j).out := by
  simp [State.retestAll, foldl_keeps (fun t : State => (t.lane j).out)]

/-! ### ballEdge -/

@[simp] theorem chip_ballEdge (s : State) (l : Fin 16) :
    (s.ballEdge l).chip = s.chip := by
  simp only [State.ballEdge]; split <;> simp

@[simp] theorem line_ballEdge (s : State) (l : Fin 16) (o : Port) :
    ((s.ballEdge l).port o).line = (s.port o).line := by
  simp only [State.ballEdge]; split <;> simp

@[simp] theorem pairOther_ballEdge (s : State) (l : Fin 16) (w : Fin 8) (h : w ≠ pairOf l) :
    (s.ballEdge l).pair w = s.pair w := by
  simp only [State.ballEdge]; (repeat' split) <;> simp [h]

@[simp] theorem motor_ballEdge (s : State) (l : Fin 16) (w : Fin 8) :
    ((s.ballEdge l).pair w).motor = (s.pair w).motor := by
  simp only [State.ballEdge]; split <;> simp

@[simp] theorem out_ballEdge (s : State) (l : Fin 16) (j : Fin 16) :
    ((s.ballEdge l).lane j).out = (s.lane j).out := by
  simp only [State.ballEdge]; split <;> simp

/-! ### bandEdge -/

@[simp] theorem chip_bandEdge (s : State) (l : Fin 16) :
    (s.bandEdge l).chip = s.chip := by
  simp only [State.bandEdge]; split <;> simp

@[simp] theorem line_bandEdge (s : State) (l : Fin 16) (o : Port) :
    ((s.bandEdge l).port o).line = (s.port o).line := by
  simp only [State.bandEdge]; split <;> simp

@[simp] theorem pairOther_bandEdge (s : State) (l : Fin 16) (w : Fin 8) (h : w ≠ pairOf l) :
    (s.bandEdge l).pair w = s.pair w := by
  simp only [State.bandEdge]; (repeat' split) <;> simp [h]

@[simp] theorem motor_bandEdge (s : State) (l : Fin 16) (w : Fin 8) :
    ((s.bandEdge l).pair w).motor = (s.pair w).motor := by
  simp only [State.bandEdge]; split <;> simp

@[simp] theorem out_bandEdge (s : State) (l : Fin 16) (j : Fin 16) :
    ((s.bandEdge l).lane j).out = (s.lane j).out := by
  simp only [State.bandEdge]; split <;> simp

/-! ### backGraceEnds -/

@[simp] theorem chip_backGraceEnds (s : State) (l : Fin 16) :
    (s.backGraceEnds l).chip = s.chip := by
  simp only [State.backGraceEnds]; (repeat' split) <;> simp

@[simp] theorem line_backGraceEnds (s : State) (l : Fin 16) (o : Port) :
    ((s.backGraceEnds l).port o).line = (s.port o).line := by
  simp only [State.backGraceEnds]; (repeat' split) <;> simp

@[simp] theorem pool_backGraceEnds (s : State) (l : Fin 16) :
    (s.backGraceEnds l).pool = s.pool := by
  simp only [State.backGraceEnds]; (repeat' split) <;> simp

@[simp] theorem pairOther_backGraceEnds (s : State) (l : Fin 16) (w : Fin 8) (h : w ≠ pairOf l) :
    (s.backGraceEnds l).pair w = s.pair w := by
  simp only [State.backGraceEnds]; (repeat' split) <;> simp [h]

@[simp] theorem motor_backGraceEnds (s : State) (l : Fin 16) (w : Fin 8) :
    ((s.backGraceEnds l).pair w).motor = (s.pair w).motor := by
  simp only [State.backGraceEnds]; (repeat' split) <;> simp

@[simp] theorem laneOther_backGraceEnds (s : State) (l : Fin 16) (j : Fin 16) (h : j ≠ l) :
    (s.backGraceEnds l).lane j = s.lane j := by
  simp only [State.backGraceEnds]; (repeat' split) <;> simp [h]

@[simp] theorem out_backGraceEnds (s : State) (l : Fin 16) (j : Fin 16) :
    ((s.backGraceEnds l).lane j).out = (s.lane j).out := by
  simp only [State.backGraceEnds]; (repeat' split) <;> simp

/-! ### frontGraceEnd -/

@[simp] theorem chip_frontGraceEnd (s : State) (l : Fin 16) :
    (frontGraceEnd l s).chip = s.chip := by
  simp only [frontGraceEnd]; split <;> simp

@[simp] theorem line_frontGraceEnd (s : State) (l : Fin 16) (o : Port) :
    ((frontGraceEnd l s).port o).line = (s.port o).line := by
  simp only [frontGraceEnd]; split <;> simp

@[simp] theorem directory_frontGraceEnd (s : State) (l : Fin 16) :
    (frontGraceEnd l s).directory = s.directory := by
  simp only [frontGraceEnd]; split <;> simp

@[simp] theorem pool_frontGraceEnd (s : State) (l : Fin 16) :
    (frontGraceEnd l s).pool = s.pool := by
  simp only [frontGraceEnd]; split <;> simp

@[simp] theorem turn_frontGraceEnd (s : State) (l : Fin 16) (w : Fin 8) :
    (frontGraceEnd l s).turn w = s.turn w := by
  simp only [frontGraceEnd]; split <;> simp

@[simp] theorem pairOther_frontGraceEnd (s : State) (l : Fin 16) (w : Fin 8) (h : w ≠ pairOf l) :
    (frontGraceEnd l s).pair w = s.pair w := by
  simp only [frontGraceEnd]; (repeat' split) <;> simp [h]

@[simp] theorem motor_frontGraceEnd (s : State) (l : Fin 16) (w : Fin 8) :
    ((frontGraceEnd l s).pair w).motor = (s.pair w).motor := by
  simp only [frontGraceEnd]; split <;> simp

@[simp] theorem laneOther_frontGraceEnd (s : State) (l : Fin 16) (j : Fin 16) (h : j ≠ l) :
    (frontGraceEnd l s).lane j = s.lane j := by
  simp only [frontGraceEnd]; (repeat' split) <;> simp [h]

@[simp] theorem snapshot_frontGraceEnd (s : State) (l : Fin 16) (j : Fin 16) :
    ((frontGraceEnd l s).lane j).snapshot = (s.lane j).snapshot := by
  simp only [frontGraceEnd]; split <;> simp

@[simp] theorem out_frontGraceEnd (s : State) (l : Fin 16) (j : Fin 16) :
    ((frontGraceEnd l s).lane j).out = (s.lane j).out := by
  simp only [frontGraceEnd]; split <;> simp

/-! ### unitEnd -/

@[simp] theorem chip_unitEnd (s : State) (l : Fin 16) :
    (unitEnd l s).chip = s.chip := by
  simp only [unitEnd]; split <;> simp

@[simp] theorem line_unitEnd (s : State) (l : Fin 16) (o : Port) :
    ((unitEnd l s).port o).line = (s.port o).line := by
  simp only [unitEnd]; split <;> simp

@[simp] theorem directory_unitEnd (s : State) (l : Fin 16) :
    (unitEnd l s).directory = s.directory := by
  simp only [unitEnd]; split <;> simp

@[simp] theorem pool_unitEnd (s : State) (l : Fin 16) :
    (unitEnd l s).pool = s.pool := by
  simp only [unitEnd]; split <;> simp

@[simp] theorem turn_unitEnd (s : State) (l : Fin 16) (w : Fin 8) :
    (unitEnd l s).turn w = s.turn w := by
  simp only [unitEnd]; split <;> simp

@[simp] theorem pairOther_unitEnd (s : State) (l : Fin 16) (w : Fin 8) (h : w ≠ pairOf l) :
    (unitEnd l s).pair w = s.pair w := by
  simp only [unitEnd]; (repeat' split) <;> simp [h]

@[simp] theorem motor_unitEnd (s : State) (l : Fin 16) (w : Fin 8) :
    ((unitEnd l s).pair w).motor = (s.pair w).motor := by
  simp only [unitEnd]; split <;> simp

@[simp] theorem laneOther_unitEnd (s : State) (l : Fin 16) (j : Fin 16) (h : j ≠ l) :
    (unitEnd l s).lane j = s.lane j := by
  simp only [unitEnd]; (repeat' split) <;> simp [h]

@[simp] theorem snapshot_unitEnd (s : State) (l : Fin 16) (j : Fin 16) :
    ((unitEnd l s).lane j).snapshot = (s.lane j).snapshot := by
  simp only [unitEnd]; split <;> simp

@[simp] theorem out_unitEnd (s : State) (l : Fin 16) (j : Fin 16) :
    ((unitEnd l s).lane j).out = (s.lane j).out := by
  simp only [unitEnd]; split <;> simp

/-! ### backGraceExpiry -/

@[simp] theorem chip_backGraceExpiry (s : State) (l : Fin 16) :
    (backGraceExpiry l s).chip = s.chip := by
  simp only [backGraceExpiry]; split <;> simp

@[simp] theorem line_backGraceExpiry (s : State) (l : Fin 16) (o : Port) :
    ((backGraceExpiry l s).port o).line = (s.port o).line := by
  simp only [backGraceExpiry]; split <;> simp

@[simp] theorem pool_backGraceExpiry (s : State) (l : Fin 16) :
    (backGraceExpiry l s).pool = s.pool := by
  simp only [backGraceExpiry]; split <;> simp

@[simp] theorem pairOther_backGraceExpiry (s : State) (l : Fin 16) (w : Fin 8) (h : w ≠ pairOf l) :
    (backGraceExpiry l s).pair w = s.pair w := by
  simp only [backGraceExpiry]; (repeat' split) <;> simp [h]

@[simp] theorem motor_backGraceExpiry (s : State) (l : Fin 16) (w : Fin 8) :
    ((backGraceExpiry l s).pair w).motor = (s.pair w).motor := by
  simp only [backGraceExpiry]; split <;> simp

@[simp] theorem laneOther_backGraceExpiry (s : State) (l : Fin 16) (j : Fin 16) (h : j ≠ l) :
    (backGraceExpiry l s).lane j = s.lane j := by
  simp only [backGraceExpiry]; (repeat' split) <;> simp [h]

@[simp] theorem out_backGraceExpiry (s : State) (l : Fin 16) (j : Fin 16) :
    ((backGraceExpiry l s).lane j).out = (s.lane j).out := by
  simp only [backGraceExpiry]; split <;> simp

/-! ### bandEdgeCommand -/

end Sys2Proof.Machine
end

