-- ==== Sys2Proof/Laws/FramesPlay.lean ====
section
/-! SUPPORT. Frame lemmas: what the operations on scores, deliveries, the mechanic's work and the ball return keep.
A lemma `<component>_<operation>` says that the operation leaves that component of the state as it was. -/

namespace Sys2Proof.Machine

set_option linter.unusedSimpArgs false
set_option linter.unnecessarySeqFocus false
set_option linter.unusedTactic false
set_option linter.unreachableTactic false

/-! ### onlyUp -/

@[simp] theorem queue_onlyUp (t : TurnUnit) (sd side : Side) (i : Fin 12) :
    (t.onlyUp sd i).queue side = t.queue side := by
  cases side <;> rfl

/-- A slot after `onlyUp`: QUEUED where it was UP in the lane's queue and is not the one named, else the same. -/
theorem getElem_onlyUp (t : TurnUnit) (sd : Side) (i j : Fin 12) :
    (t.onlyUp sd i).slots[j] =
      if t.slots[j].state = .up ∧ j ≠ i ∧ j ∈ t.queue sd then { t.slots[j] with state := .queued } else t.slots[j] := by
  simp [TurnUnit.onlyUp]

/-! ### applySnapshot -/

@[simp] theorem chip_applySnapshot (s : State) (l : Fin 16) (n : Snapshot) :
    (s.applySnapshot l n).chip = s.chip := by
  simp only [State.applySnapshot]; (repeat' split) <;> simp

@[simp] theorem line_applySnapshot (s : State) (l : Fin 16) (n : Snapshot) (o : Port) :
    ((s.applySnapshot l n).port o).line = (s.port o).line := by
  simp only [State.applySnapshot]; (repeat' split) <;> simp

@[simp] theorem pool_applySnapshot (s : State) (l : Fin 16) (n : Snapshot) :
    (s.applySnapshot l n).pool = s.pool := by
  simp only [State.applySnapshot]; (repeat' split) <;> simp

@[simp] theorem motor_applySnapshot (s : State) (l : Fin 16) (n : Snapshot) (w : Fin 8) :
    ((s.applySnapshot l n).pair w).motor = (s.pair w).motor := by
  simp only [State.applySnapshot]; (repeat' split) <;> simp

@[simp] theorem out_applySnapshot (s : State) (l : Fin 16) (n : Snapshot) (j : Fin 16) :
    ((s.applySnapshot l n).lane j).out = (s.lane j).out := by
  simp only [State.applySnapshot]; (repeat' split) <;> simp

/-! ### takeWaitingFoul -/

@[simp] theorem chip_takeWaitingFoul (s : State) (l : Fin 16) :
    (s.takeWaitingFoul l).chip = s.chip := by
  simp only [State.takeWaitingFoul]; (repeat' split) <;> simp

@[simp] theorem line_takeWaitingFoul (s : State) (l : Fin 16) (o : Port) :
    ((s.takeWaitingFoul l).port o).line = (s.port o).line := by
  simp only [State.takeWaitingFoul]; (repeat' split) <;> simp

@[simp] theorem directory_takeWaitingFoul (s : State) (l : Fin 16) :
    (s.takeWaitingFoul l).directory = s.directory := by
  simp only [State.takeWaitingFoul]; (repeat' split) <;> simp

@[simp] theorem pool_takeWaitingFoul (s : State) (l : Fin 16) :
    (s.takeWaitingFoul l).pool = s.pool := by
  simp only [State.takeWaitingFoul]; (repeat' split) <;> simp

@[simp] theorem ret_takeWaitingFoul (s : State) (l : Fin 16) (w : Fin 8) :
    (s.takeWaitingFoul l).ret w = s.ret w := by
  simp only [State.takeWaitingFoul]; (repeat' split) <;> simp

@[simp] theorem turn_takeWaitingFoul (s : State) (l : Fin 16) (w : Fin 8) :
    (s.takeWaitingFoul l).turn w = s.turn w := by
  simp only [State.takeWaitingFoul]; (repeat' split) <;> simp

@[simp] theorem pair_takeWaitingFoul (s : State) (l : Fin 16) (w : Fin 8) :
    (s.takeWaitingFoul l).pair w = s.pair w := by
  simp only [State.takeWaitingFoul]; (repeat' split) <;> simp

@[simp] theorem laneOther_takeWaitingFoul (s : State) (l : Fin 16) (j : Fin 16) (h : j ≠ l) :
    (s.takeWaitingFoul l).lane j = s.lane j := by
  simp only [State.takeWaitingFoul]; (repeat' split) <;> simp [h]

@[simp] theorem record_takeWaitingFoul (s : State) (l : Fin 16) (j : Fin 16) :
    ((s.takeWaitingFoul l).lane j).session = (s.lane j).session := by
  simp only [State.takeWaitingFoul]; (repeat' split) <;> simp

@[simp] theorem session_takeWaitingFoul (s : State) (l : Fin 16) (j : Fin 16) :
    (s.takeWaitingFoul l).session j = s.session j := by
  simp [State.session]

@[simp] theorem meter_takeWaitingFoul (s : State) (l : Fin 16) (j : Fin 16) :
    ((s.takeWaitingFoul l).lane j).meter = (s.lane j).meter := by
  simp only [State.takeWaitingFoul]; (repeat' split) <;> simp

@[simp] theorem snapshot_takeWaitingFoul (s : State) (l : Fin 16) (j : Fin 16) :
    ((s.takeWaitingFoul l).lane j).snapshot = (s.lane j).snapshot := by
  simp only [State.takeWaitingFoul]; (repeat' split) <;> simp

@[simp] theorem out_takeWaitingFoul (s : State) (l : Fin 16) (j : Fin 16) :
    ((s.takeWaitingFoul l).lane j).out = (s.lane j).out := by
  simp only [State.takeWaitingFoul]; (repeat' split) <;> simp

/-! ### release -/

@[simp] theorem chip_release (s : State) (l : Fin 16) :
    (release l s).chip = s.chip := by
  simp only [release]; split <;> simp

@[simp] theorem line_release (s : State) (l : Fin 16) (o : Port) :
    ((release l s).port o).line = (s.port o).line := by
  simp only [release]; split <;> simp

@[simp] theorem directory_release (s : State) (l : Fin 16) :
    (release l s).directory = s.directory := by
  simp only [release]; split <;> simp

@[simp] theorem pool_release (s : State) (l : Fin 16) :
    (release l s).pool = s.pool := by
  simp only [release]; split <;> simp

@[simp] theorem ret_release (s : State) (l : Fin 16) (w : Fin 8) :
    (release l s).ret w = s.ret w := by
  simp only [release]; split <;> simp

@[simp] theorem turn_release (s : State) (l : Fin 16) (w : Fin 8) :
    (release l s).turn w = s.turn w := by
  simp only [release]; split <;> simp

@[simp] theorem pair_release (s : State) (l : Fin 16) (w : Fin 8) :
    (release l s).pair w = s.pair w := by
  simp only [release]; split <;> simp

@[simp] theorem laneOther_release (s : State) (l : Fin 16) (j : Fin 16) (h : j ≠ l) :
    (release l s).lane j = s.lane j := by
  simp only [release]; (repeat' split) <;> simp [h]

@[simp] theorem record_release (s : State) (l : Fin 16) (j : Fin 16) :
    ((release l s).lane j).session = (s.lane j).session := by
  simp only [release]; split <;> simp

@[simp] theorem session_release (s : State) (l : Fin 16) (j : Fin 16) :
    (release l s).session j = s.session j := by
  simp [State.session]

@[simp] theorem meter_release (s : State) (l : Fin 16) (j : Fin 16) :
    ((release l s).lane j).meter = (s.lane j).meter := by
  simp only [release]; split <;> simp

@[simp] theorem snapshot_release (s : State) (l : Fin 16) (j : Fin 16) :
    ((release l s).lane j).snapshot = (s.lane j).snapshot := by
  simp only [release]; split <;> simp

@[simp] theorem out_release (s : State) (l : Fin 16) (j : Fin 16) :
    ((release l s).lane j).out = (s.lane j).out := by
  simp only [release]; split <;> simp

/-! ### deckInvalidates -/

@[simp] theorem chip_deckInvalidates (s : State) (l : Fin 16) :
    (s.deckInvalidates l).chip = s.chip := by
  simp only [State.deckInvalidates]; split <;> simp

@[simp] theorem line_deckInvalidates (s : State) (l : Fin 16) (o : Port) :
    ((s.deckInvalidates l).port o).line = (s.port o).line := by
  simp only [State.deckInvalidates]; split <;> simp

@[simp] theorem directory_deckInvalidates (s : State) (l : Fin 16) :
    (s.deckInvalidates l).directory = s.directory := by
  simp only [State.deckInvalidates]; split <;> simp

@[simp] theorem pool_deckInvalidates (s : State) (l : Fin 16) :
    (s.deckInvalidates l).pool = s.pool := by
  simp only [State.deckInvalidates]; split <;> simp

@[simp] theorem ret_deckInvalidates (s : State) (l : Fin 16) (w : Fin 8) :
    (s.deckInvalidates l).ret w = s.ret w := by
  simp only [State.deckInvalidates]; split <;> simp

@[simp] theorem turn_deckInvalidates (s : State) (l : Fin 16) (w : Fin 8) :
    (s.deckInvalidates l).turn w = s.turn w := by
  simp only [State.deckInvalidates]; split <;> simp

@[simp] theorem pair_deckInvalidates (s : State) (l : Fin 16) (w : Fin 8) :
    (s.deckInvalidates l).pair w = s.pair w := by
  simp only [State.deckInvalidates]; split <;> simp

@[simp] theorem record_deckInvalidates (s : State) (l : Fin 16) (j : Fin 16) :
    ((s.deckInvalidates l).lane j).session = (s.lane j).session := by
  simp only [State.deckInvalidates]; split <;> simp

@[simp] theorem session_deckInvalidates (s : State) (l : Fin 16) (j : Fin 16) :
    (s.deckInvalidates l).session j = s.session j := by
  simp [State.session]

@[simp] theorem sup_deckInvalidates (s : State) (l : Fin 16) (j : Fin 16) :
    ((s.deckInvalidates l).lane j).sup = (s.lane j).sup := by
  simp only [State.deckInvalidates]; split <;> simp

@[simp] theorem meter_deckInvalidates (s : State) (l : Fin 16) (j : Fin 16) :
    ((s.deckInvalidates l).lane j).meter = (s.lane j).meter := by
  simp only [State.deckInvalidates]; split <;> simp

@[simp] theorem out_deckInvalidates (s : State) (l : Fin 16) (j : Fin 16) :
    ((s.deckInvalidates l).lane j).out = (s.lane j).out := by
  simp only [State.deckInvalidates]; split <;> simp

/-! ### startBall -/

@[simp] theorem chip_startBall (s : State) (l : Fin 16) (d : Delivery) (kind : CycleKind) :
    (s.startBall l d kind).chip = s.chip := by
  simp [State.startBall]

@[simp] theorem line_startBall (s : State) (l : Fin 16) (d : Delivery) (kind : CycleKind) (o : Port) :
    ((s.startBall l d kind).port o).line = (s.port o).line := by
  simp [State.startBall]

@[simp] theorem directory_startBall (s : State) (l : Fin 16) (d : Delivery) (kind : CycleKind) :
    (s.startBall l d kind).directory = s.directory := by
  simp [State.startBall]

@[simp] theorem pool_startBall (s : State) (l : Fin 16) (d : Delivery) (kind : CycleKind) :
    (s.startBall l d kind).pool = s.pool := by
  simp [State.startBall]

@[simp] theorem ret_startBall (s : State) (l : Fin 16) (d : Delivery) (kind : CycleKind) (w : Fin 8) :
    (s.startBall l d kind).ret w = s.ret w := by
  simp [State.startBall]

@[simp] theorem turn_startBall (s : State) (l : Fin 16) (d : Delivery) (kind : CycleKind) (w : Fin 8) :
    (s.startBall l d kind).turn w = s.turn w := by
  simp [State.startBall]

@[simp] theorem pair_startBall (s : State) (l : Fin 16) (d : Delivery) (kind : CycleKind) (w : Fin 8) :
    (s.startBall l d kind).pair w = s.pair w := by
  simp [State.startBall]

@[simp] theorem laneOther_startBall (s : State) (l : Fin 16) (d : Delivery) (kind : CycleKind) (j : Fin 16) (h : j ≠ l) :
    (s.startBall l d kind).lane j = s.lane j := by
  simp only [State.startBall]; (repeat' split) <;> simp [h]

@[simp] theorem record_startBall (s : State) (l : Fin 16) (d : Delivery) (kind : CycleKind) (j : Fin 16) :
    ((s.startBall l d kind).lane j).session = (s.lane j).session := by
  simp [State.startBall]

@[simp] theorem session_startBall (s : State) (l : Fin 16) (d : Delivery) (kind : CycleKind) (j : Fin 16) :
    (s.startBall l d kind).session j = s.session j := by
  simp [State.session]

@[simp] theorem meter_startBall (s : State) (l : Fin 16) (d : Delivery) (kind : CycleKind) (j : Fin 16) :
    ((s.startBall l d kind).lane j).meter = (s.lane j).meter := by
  simp [State.startBall]

@[simp] theorem snapshot_startBall (s : State) (l : Fin 16) (d : Delivery) (kind : CycleKind) (j : Fin 16) :
    ((s.startBall l d kind).lane j).snapshot = (s.lane j).snapshot := by
  simp [State.startBall]

@[simp] theorem out_startBall (s : State) (l : Fin 16) (d : Delivery) (kind : CycleKind) (j : Fin 16) :
    ((s.startBall l d kind).lane j).out = (s.lane j).out := by
  simp [State.startBall]

/-! ### startScored -/

@[simp] theorem chip_startScored (s : State) (l : Fin 16) (d : Delivery) (i : Fin 12) :
    (s.startScored l d i).chip = s.chip := by
  simp [State.startScored]

@[simp] theorem line_startScored (s : State) (l : Fin 16) (d : Delivery) (i : Fin 12) (o : Port) :
    ((s.startScored l d i).port o).line = (s.port o).line := by
  simp [State.startScored]

@[simp] theorem directory_startScored (s : State) (l : Fin 16) (d : Delivery) (i : Fin 12) :
    (s.startScored l d i).directory = s.directory := by
  simp [State.startScored]

@[simp] theorem pool_startScored (s : State) (l : Fin 16) (d : Delivery) (i : Fin 12) :
    (s.startScored l d i).pool = s.pool := by
  simp [State.startScored]

@[simp] theorem ret_startScored (s : State) (l : Fin 16) (d : Delivery) (i : Fin 12) (w : Fin 8) :
    (s.startScored l d i).ret w = s.ret w := by
  simp [State.startScored]

@[simp] theorem pairOther_startScored (s : State) (l : Fin 16) (d : Delivery) (i : Fin 12) (w : Fin 8) (h : w ≠ pairOf l) :
    (s.startScored l d i).pair w = s.pair w := by
  simp only [State.startScored]; (repeat' split) <;> simp [h]

@[simp] theorem motor_startScored (s : State) (l : Fin 16) (d : Delivery) (i : Fin 12) (w : Fin 8) :
    ((s.startScored l d i).pair w).motor = (s.pair w).motor := by
  simp [State.startScored]

@[simp] theorem laneOther_startScored (s : State) (l : Fin 16) (d : Delivery) (i : Fin 12) (j : Fin 16) (h : j ≠ l) :
    (s.startScored l d i).lane j = s.lane j := by
  simp only [State.startScored]; (repeat' split) <;> simp [h]

@[simp] theorem record_startScored (s : State) (l : Fin 16) (d : Delivery) (i : Fin 12) (j : Fin 16) :
    ((s.startScored l d i).lane j).session = (s.lane j).session := by
  simp [State.startScored]

@[simp] theorem session_startScored (s : State) (l : Fin 16) (d : Delivery) (i : Fin 12) (j : Fin 16) :
    (s.startScored l d i).session j = s.session j := by
  simp [State.session]

@[simp] theorem meter_startScored (s : State) (l : Fin 16) (d : Delivery) (i : Fin 12) (j : Fin 16) :
    ((s.startScored l d i).lane j).meter = (s.lane j).meter := by
  simp [State.startScored]

@[simp] theorem snapshot_startScored (s : State) (l : Fin 16) (d : Delivery) (i : Fin 12) (j : Fin 16) :
    ((s.startScored l d i).lane j).snapshot = (s.lane j).snapshot := by
  simp [State.startScored]

@[simp] theorem out_startScored (s : State) (l : Fin 16) (d : Delivery) (i : Fin 12) (j : Fin 16) :
    ((s.startScored l d i).lane j).out = (s.lane j).out := by
  simp [State.startScored]

/-! ### startPractice -/

@[simp] theorem chip_startPractice (s : State) (l : Fin 16) (d : Delivery) :
    (s.startPractice l d).chip = s.chip := by
  simp [State.startPractice]

@[simp] theorem line_startPractice (s : State) (l : Fin 16) (d : Delivery) (o : Port) :
    ((s.startPractice l d).port o).line = (s.port o).line := by
  simp [State.startPractice]

@[simp] theorem directory_startPractice (s : State) (l : Fin 16) (d : Delivery) :
    (s.startPractice l d).directory = s.directory := by
  simp [State.startPractice]

@[simp] theorem pool_startPractice (s : State) (l : Fin 16) (d : Delivery) :
    (s.startPractice l d).pool = s.pool := by
  simp [State.startPractice]

@[simp] theorem ret_startPractice (s : State) (l : Fin 16) (d : Delivery) (w : Fin 8) :
    (s.startPractice l d).ret w = s.ret w := by
  simp [State.startPractice]

@[simp] theorem turn_startPractice (s : State) (l : Fin 16) (d : Delivery) (w : Fin 8) :
    (s.startPractice l d).turn w = s.turn w := by
  simp [State.startPractice]

@[simp] theorem pair_startPractice (s : State) (l : Fin 16) (d : Delivery) (w : Fin 8) :
    (s.startPractice l d).pair w = s.pair w := by
  simp [State.startPractice]

@[simp] theorem laneOther_startPractice (s : State) (l : Fin 16) (d : Delivery) (j : Fin 16) (h : j ≠ l) :
    (s.startPractice l d).lane j = s.lane j := by
  simp only [State.startPractice]; (repeat' split) <;> simp [h]

@[simp] theorem record_startPractice (s : State) (l : Fin 16) (d : Delivery) (j : Fin 16) :
    ((s.startPractice l d).lane j).session = (s.lane j).session := by
  simp [State.startPractice]

@[simp] theorem session_startPractice (s : State) (l : Fin 16) (d : Delivery) (j : Fin 16) :
    (s.startPractice l d).session j = s.session j := by
  simp [State.session]

@[simp] theorem meter_startPractice (s : State) (l : Fin 16) (d : Delivery) (j : Fin 16) :
    ((s.startPractice l d).lane j).meter = (s.lane j).meter := by
  simp [State.startPractice]

@[simp] theorem snapshot_startPractice (s : State) (l : Fin 16) (d : Delivery) (j : Fin 16) :
    ((s.startPractice l d).lane j).snapshot = (s.lane j).snapshot := by
  simp [State.startPractice]

@[simp] theorem out_startPractice (s : State) (l : Fin 16) (d : Delivery) (j : Fin 16) :
    ((s.startPractice l d).lane j).out = (s.lane j).out := by
  simp [State.startPractice]

/-! ### closeAtDeck -/

@[simp] theorem chip_closeAtDeck (s : State) (l : Fin 16) (d : Delivery) (f : Supervisor → Supervisor) :
    (s.closeAtDeck l d f).chip = s.chip := by
  simp [State.closeAtDeck]

@[simp] theorem line_closeAtDeck (s : State) (l : Fin 16) (d : Delivery) (f : Supervisor → Supervisor) (o : Port) :
    ((s.closeAtDeck l d f).port o).line = (s.port o).line := by
  simp [State.closeAtDeck]

@[simp] theorem directory_closeAtDeck (s : State) (l : Fin 16) (d : Delivery) (f : Supervisor → Supervisor) :
    (s.closeAtDeck l d f).directory = s.directory := by
  simp [State.closeAtDeck]

@[simp] theorem pool_closeAtDeck (s : State) (l : Fin 16) (d : Delivery) (f : Supervisor → Supervisor) :
    (s.closeAtDeck l d f).pool = s.pool := by
  simp [State.closeAtDeck]

@[simp] theorem ret_closeAtDeck (s : State) (l : Fin 16) (d : Delivery) (f : Supervisor → Supervisor) (w : Fin 8) :
    (s.closeAtDeck l d f).ret w = s.ret w := by
  simp [State.closeAtDeck]

@[simp] theorem turn_closeAtDeck (s : State) (l : Fin 16) (d : Delivery) (f : Supervisor → Supervisor) (w : Fin 8) :
    (s.closeAtDeck l d f).turn w = s.turn w := by
  simp [State.closeAtDeck]

@[simp] theorem pair_closeAtDeck (s : State) (l : Fin 16) (d : Delivery) (f : Supervisor → Supervisor) (w : Fin 8) :
    (s.closeAtDeck l d f).pair w = s.pair w := by
  simp [State.closeAtDeck]

@[simp] theorem laneOther_closeAtDeck (s : State) (l : Fin 16) (d : Delivery) (f : Supervisor → Supervisor) (j : Fin 16) (h : j ≠ l) :
    (s.closeAtDeck l d f).lane j = s.lane j := by
  simp only [State.closeAtDeck]; (repeat' split) <;> simp [h]

@[simp] theorem record_closeAtDeck (s : State) (l : Fin 16) (d : Delivery) (f : Supervisor → Supervisor) (j : Fin 16) :
    ((s.closeAtDeck l d f).lane j).session = (s.lane j).session := by
  simp [State.closeAtDeck]

@[simp] theorem session_closeAtDeck (s : State) (l : Fin 16) (d : Delivery) (f : Supervisor → Supervisor) (j : Fin 16) :
    (s.closeAtDeck l d f).session j = s.session j := by
  simp [State.session]

@[simp] theorem meter_closeAtDeck (s : State) (l : Fin 16) (d : Delivery) (f : Supervisor → Supervisor) (j : Fin 16) :
    ((s.closeAtDeck l d f).lane j).meter = (s.lane j).meter := by
  simp [State.closeAtDeck]

@[simp] theorem snapshot_closeAtDeck (s : State) (l : Fin 16) (d : Delivery) (f : Supervisor → Supervisor) (j : Fin 16) :
    ((s.closeAtDeck l d f).lane j).snapshot = (s.lane j).snapshot := by
  simp [State.closeAtDeck]

@[simp] theorem out_closeAtDeck (s : State) (l : Fin 16) (d : Delivery) (f : Supervisor → Supervisor) (j : Fin 16) :
    ((s.closeAtDeck l d f).lane j).out = (s.lane j).out := by
  simp [State.closeAtDeck]

/-! ### unpaidBall -/

@[simp] theorem chip_unpaidBall (s : State) (l : Fin 16) (d : Delivery) :
    (s.unpaidBall l d).chip = s.chip := by
  simp only [State.unpaidBall]; split <;> simp

@[simp] theorem line_unpaidBall (s : State) (l : Fin 16) (d : Delivery) (o : Port) :
    ((s.unpaidBall l d).port o).line = (s.port o).line := by
  simp only [State.unpaidBall]; split <;> simp

@[simp] theorem pairOther_unpaidBall (s : State) (l : Fin 16) (d : Delivery) (w : Fin 8) (h : w ≠ pairOf l) :
    (s.unpaidBall l d).pair w = s.pair w := by
  simp only [State.unpaidBall]; (repeat' split) <;> simp [h]

@[simp] theorem motor_unpaidBall (s : State) (l : Fin 16) (d : Delivery) (w : Fin 8) :
    ((s.unpaidBall l d).pair w).motor = (s.pair w).motor := by
  simp only [State.unpaidBall]; split <;> simp

@[simp] theorem out_unpaidBall (s : State) (l : Fin 16) (d : Delivery) (j : Fin 16) :
    ((s.unpaidBall l d).lane j).out = (s.lane j).out := by
  simp only [State.unpaidBall]; split <;> simp

/-! ### takeDeck -/

@[simp] theorem chip_takeDeck (s : State) (l : Fin 16) (missed : Bool) :
    (s.takeDeck l missed).chip = s.chip := by
  simp only [State.takeDeck]; split <;> simp

@[simp] theorem line_takeDeck (s : State) (l : Fin 16) (missed : Bool) (o : Port) :
    ((s.takeDeck l missed).port o).line = (s.port o).line := by
  simp only [State.takeDeck]; split <;> simp

@[simp] theorem pairOther_takeDeck (s : State) (l : Fin 16) (missed : Bool) (w : Fin 8) (h : w ≠ pairOf l) :
    (s.takeDeck l missed).pair w = s.pair w := by
  simp only [State.takeDeck]; (repeat' split) <;> simp [h]

@[simp] theorem motor_takeDeck (s : State) (l : Fin 16) (missed : Bool) (w : Fin 8) :
    ((s.takeDeck l missed).pair w).motor = (s.pair w).motor := by
  simp only [State.takeDeck]; split <;> simp

@[simp] theorem out_takeDeck (s : State) (l : Fin 16) (missed : Bool) (j : Fin 16) :
    ((s.takeDeck l missed).lane j).out = (s.lane j).out := by
  simp only [State.takeDeck]; split <;> simp

/-! ### deck -/

@[simp] theorem chip_deck (s : State) (l : Fin 16) :
    (deck l s).chip = s.chip := by
  simp [deck]

@[simp] theorem line_deck (s : State) (l : Fin 16) (o : Port) :
    ((deck l s).port o).line = (s.port o).line := by
  simp [deck]

@[simp] theorem pairOther_deck (s : State) (l : Fin 16) (w : Fin 8) (h : w ≠ pairOf l) :
    (deck l s).pair w = s.pair w := by
  simp only [deck]; (repeat' split) <;> simp [h]

@[simp] theorem motor_deck (s : State) (l : Fin 16) (w : Fin 8) :
    ((deck l s).pair w).motor = (s.pair w).motor := by
  simp [deck]

@[simp] theorem out_deck (s : State) (l : Fin 16) (j : Fin 16) :
    ((deck l s).lane j).out = (s.lane j).out := by
  simp [deck]

/-! ### travelTimeout -/

@[simp] theorem chip_travelTimeout (s : State) (l : Fin 16) :
    (travelTimeout l s).chip = s.chip := by
  simp only [travelTimeout]; (repeat' split) <;> simp

@[simp] theorem line_travelTimeout (s : State) (l : Fin 16) (o : Port) :
    ((travelTimeout l s).port o).line = (s.port o).line := by
  simp only [travelTimeout]; (repeat' split) <;> simp

@[simp] theorem pairOther_travelTimeout (s : State) (l : Fin 16) (w : Fin 8) (h : w ≠ pairOf l) :
    (travelTimeout l s).pair w = s.pair w := by
  simp only [travelTimeout]; (repeat' split) <;> simp [h]

@[simp] theorem motor_travelTimeout (s : State) (l : Fin 16) (w : Fin 8) :
    ((travelTimeout l s).pair w).motor = (s.pair w).motor := by
  simp only [travelTimeout]; (repeat' split) <;> simp

@[simp] theorem out_travelTimeout (s : State) (l : Fin 16) (j : Fin 16) :
    ((travelTimeout l s).lane j).out = (s.lane j).out := by
  simp only [travelTimeout]; (repeat' split) <;> simp

/-! ### foul -/

@[simp] theorem chip_foul (s : State) (l : Fin 16) :
    (foul l s).chip = s.chip := by
  simp only [foul]; (repeat' split) <;> simp

@[simp] theorem line_foul (s : State) (l : Fin 16) (o : Port) :
    ((foul l s).port o).line = (s.port o).line := by
  simp only [foul]; (repeat' split) <;> simp

@[simp] theorem directory_foul (s : State) (l : Fin 16) :
    (foul l s).directory = s.directory := by
  simp only [foul]; (repeat' split) <;> simp

@[simp] theorem pool_foul (s : State) (l : Fin 16) :
    (foul l s).pool = s.pool := by
  simp only [foul]; (repeat' split) <;> simp

@[simp] theorem ret_foul (s : State) (l : Fin 16) (w : Fin 8) :
    (foul l s).ret w = s.ret w := by
  simp only [foul]; (repeat' split) <;> simp

@[simp] theorem turn_foul (s : State) (l : Fin 16) (w : Fin 8) :
    (foul l s).turn w = s.turn w := by
  simp only [foul]; (repeat' split) <;> simp

@[simp] theorem pair_foul (s : State) (l : Fin 16) (w : Fin 8) :
    (foul l s).pair w = s.pair w := by
  simp only [foul]; (repeat' split) <;> simp

@[simp] theorem laneOther_foul (s : State) (l : Fin 16) (j : Fin 16) (h : j ≠ l) :
    (foul l s).lane j = s.lane j := by
  simp only [foul]; (repeat' split) <;> simp [h]

@[simp] theorem record_foul (s : State) (l : Fin 16) (j : Fin 16) :
    ((foul l s).lane j).session = (s.lane j).session := by
  simp only [foul]; (repeat' split) <;> simp

@[simp] theorem session_foul (s : State) (l : Fin 16) (j : Fin 16) :
    (foul l s).session j = s.session j := by
  simp [State.session]

@[simp] theorem meter_foul (s : State) (l : Fin 16) (j : Fin 16) :
    ((foul l s).lane j).meter = (s.lane j).meter := by
  simp only [foul]; (repeat' split) <;> simp

@[simp] theorem snapshot_foul (s : State) (l : Fin 16) (j : Fin 16) :
    ((foul l s).lane j).snapshot = (s.lane j).snapshot := by
  simp only [foul]; (repeat' split) <;> simp

@[simp] theorem out_foul (s : State) (l : Fin 16) (j : Fin 16) :
    ((foul l s).lane j).out = (s.lane j).out := by
  simp only [foul]; (repeat' split) <;> simp

/-! ### waitingFoulExpiry -/

@[simp] theorem chip_waitingFoulExpiry (s : State) (l : Fin 16) :
    (waitingFoulExpiry l s).chip = s.chip := by
  simp only [waitingFoulExpiry]; split <;> simp

@[simp] theorem line_waitingFoulExpiry (s : State) (l : Fin 16) (o : Port) :
    ((waitingFoulExpiry l s).port o).line = (s.port o).line := by
  simp only [waitingFoulExpiry]; split <;> simp

@[simp] theorem directory_waitingFoulExpiry (s : State) (l : Fin 16) :
    (waitingFoulExpiry l s).directory = s.directory := by
  simp only [waitingFoulExpiry]; split <;> simp

@[simp] theorem pool_waitingFoulExpiry (s : State) (l : Fin 16) :
    (waitingFoulExpiry l s).pool = s.pool := by
  simp only [waitingFoulExpiry]; split <;> simp

@[simp] theorem ret_waitingFoulExpiry (s : State) (l : Fin 16) (w : Fin 8) :
    (waitingFoulExpiry l s).ret w = s.ret w := by
  simp only [waitingFoulExpiry]; split <;> simp

@[simp] theorem turn_waitingFoulExpiry (s : State) (l : Fin 16) (w : Fin 8) :
    (waitingFoulExpiry l s).turn w = s.turn w := by
  simp only [waitingFoulExpiry]; split <;> simp

@[simp] theorem pair_waitingFoulExpiry (s : State) (l : Fin 16) (w : Fin 8) :
    (waitingFoulExpiry l s).pair w = s.pair w := by
  simp only [waitingFoulExpiry]; split <;> simp

@[simp] theorem laneOther_waitingFoulExpiry (s : State) (l : Fin 16) (j : Fin 16) (h : j ≠ l) :
    (waitingFoulExpiry l s).lane j = s.lane j := by
  simp only [waitingFoulExpiry]; (repeat' split) <;> simp [h]

@[simp] theorem record_waitingFoulExpiry (s : State) (l : Fin 16) (j : Fin 16) :
    ((waitingFoulExpiry l s).lane j).session = (s.lane j).session := by
  simp only [waitingFoulExpiry]; split <;> simp

@[simp] theorem session_waitingFoulExpiry (s : State) (l : Fin 16) (j : Fin 16) :
    (waitingFoulExpiry l s).session j = s.session j := by
  simp [State.session]

@[simp] theorem meter_waitingFoulExpiry (s : State) (l : Fin 16) (j : Fin 16) :
    ((waitingFoulExpiry l s).lane j).meter = (s.lane j).meter := by
  simp only [waitingFoulExpiry]; split <;> simp

@[simp] theorem snapshot_waitingFoulExpiry (s : State) (l : Fin 16) (j : Fin 16) :
    ((waitingFoulExpiry l s).lane j).snapshot = (s.lane j).snapshot := by
  simp only [waitingFoulExpiry]; split <;> simp

@[simp] theorem out_waitingFoulExpiry (s : State) (l : Fin 16) (j : Fin 16) :
    ((waitingFoulExpiry l s).lane j).out = (s.lane j).out := by
  simp only [waitingFoulExpiry]; split <;> simp

/-! ### hornEnd -/

@[simp] theorem chip_hornEnd (s : State) (l : Fin 16) :
    (hornEnd l s).chip = s.chip := by
  simp [hornEnd]

@[simp] theorem line_hornEnd (s : State) (l : Fin 16) (o : Port) :
    ((hornEnd l s).port o).line = (s.port o).line := by
  simp [hornEnd]

@[simp] theorem directory_hornEnd (s : State) (l : Fin 16) :
    (hornEnd l s).directory = s.directory := by
  simp [hornEnd]

@[simp] theorem pool_hornEnd (s : State) (l : Fin 16) :
    (hornEnd l s).pool = s.pool := by
  simp [hornEnd]

@[simp] theorem ret_hornEnd (s : State) (l : Fin 16) (w : Fin 8) :
    (hornEnd l s).ret w = s.ret w := by
  simp [hornEnd]

@[simp] theorem turn_hornEnd (s : State) (l : Fin 16) (w : Fin 8) :
    (hornEnd l s).turn w = s.turn w := by
  simp [hornEnd]

@[simp] theorem pair_hornEnd (s : State) (l : Fin 16) (w : Fin 8) :
    (hornEnd l s).pair w = s.pair w := by
  simp [hornEnd]

@[simp] theorem laneOther_hornEnd (s : State) (l : Fin 16) (j : Fin 16) (h : j ≠ l) :
    (hornEnd l s).lane j = s.lane j := by
  simp only [hornEnd]; (repeat' split) <;> simp [h]

@[simp] theorem record_hornEnd (s : State) (l : Fin 16) (j : Fin 16) :
    ((hornEnd l s).lane j).session = (s.lane j).session := by
  simp [hornEnd]

@[simp] theorem session_hornEnd (s : State) (l : Fin 16) (j : Fin 16) :
    (hornEnd l s).session j = s.session j := by
  simp [State.session]

@[simp] theorem meter_hornEnd (s : State) (l : Fin 16) (j : Fin 16) :
    ((hornEnd l s).lane j).meter = (s.lane j).meter := by
  simp [hornEnd]

@[simp] theorem snapshot_hornEnd (s : State) (l : Fin 16) (j : Fin 16) :
    ((hornEnd l s).lane j).snapshot = (s.lane j).snapshot := by
  simp [hornEnd]

@[simp] theorem out_hornEnd (s : State) (l : Fin 16) (j : Fin 16) :
    ((hornEnd l s).lane j).out = (s.lane j).out := by
  simp [hornEnd]

/-! ### scoreBall -/

@[simp] theorem chip_scoreBall (s : State) (l : Fin 16) (a : Place) (sh : Sheet) (pre after : PinSet) (m : Marks) :
    (s.scoreBall l a sh pre after m).state.chip = s.chip := by
  simp only [State.scoreBall]; split <;> simp

@[simp] theorem line_scoreBall (s : State) (l : Fin 16) (a : Place) (sh : Sheet) (pre after : PinSet) (m : Marks) (o : Port) :
    ((s.scoreBall l a sh pre after m).state.port o).line = (s.port o).line := by
  simp only [State.scoreBall]; split <;> simp

@[simp] theorem pool_scoreBall (s : State) (l : Fin 16) (a : Place) (sh : Sheet) (pre after : PinSet) (m : Marks) :
    (s.scoreBall l a sh pre after m).state.pool = s.pool := by
  simp only [State.scoreBall]; split <;> simp

@[simp] theorem motor_scoreBall (s : State) (l : Fin 16) (a : Place) (sh : Sheet) (pre after : PinSet) (m : Marks) (w : Fin 8) :
    ((s.scoreBall l a sh pre after m).state.pair w).motor = (s.pair w).motor := by
  simp only [State.scoreBall]; split <;> simp

@[simp] theorem out_scoreBall (s : State) (l : Fin 16) (a : Place) (sh : Sheet) (pre after : PinSet) (m : Marks) (j : Fin 16) :
    ((s.scoreBall l a sh pre after m).state.lane j).out = (s.lane j).out := by
  simp only [State.scoreBall, State.updLane, State.modSup]; (repeat' split) <;> simp [lane_modLane] <;> split <;> simp

/-! ### leaveUnscored -/

@[simp] theorem chip_leaveUnscored (s : State) (l : Fin 16) (d : Delivery) :
    (s.leaveUnscored l d).state.chip = s.chip := by
  simp [State.leaveUnscored]

@[simp] theorem line_leaveUnscored (s : State) (l : Fin 16) (d : Delivery) (o : Port) :
    ((s.leaveUnscored l d).state.port o).line = (s.port o).line := by
  simp [State.leaveUnscored]

@[simp] theorem directory_leaveUnscored (s : State) (l : Fin 16) (d : Delivery) :
    (s.leaveUnscored l d).state.directory = s.directory := by
  simp [State.leaveUnscored]

@[simp] theorem pool_leaveUnscored (s : State) (l : Fin 16) (d : Delivery) :
    (s.leaveUnscored l d).state.pool = s.pool := by
  simp [State.leaveUnscored]

@[simp] theorem ret_leaveUnscored (s : State) (l : Fin 16) (d : Delivery) (w : Fin 8) :
    (s.leaveUnscored l d).state.ret w = s.ret w := by
  simp [State.leaveUnscored]

@[simp] theorem pairOther_leaveUnscored (s : State) (l : Fin 16) (d : Delivery) (w : Fin 8) (h : w ≠ pairOf l) :
    (s.leaveUnscored l d).state.pair w = s.pair w := by
  simp only [State.leaveUnscored]; (repeat' split) <;> simp [h]

@[simp] theorem motor_leaveUnscored (s : State) (l : Fin 16) (d : Delivery) (w : Fin 8) :
    ((s.leaveUnscored l d).state.pair w).motor = (s.pair w).motor := by
  simp [State.leaveUnscored]

@[simp] theorem laneOther_leaveUnscored (s : State) (l : Fin 16) (d : Delivery) (j : Fin 16) (h : j ≠ l) :
    (s.leaveUnscored l d).state.lane j = s.lane j := by
  simp only [State.leaveUnscored]; (repeat' split) <;> simp [h]

@[simp] theorem record_leaveUnscored (s : State) (l : Fin 16) (d : Delivery) (j : Fin 16) :
    ((s.leaveUnscored l d).state.lane j).session = (s.lane j).session := by
  simp [State.leaveUnscored]

@[simp] theorem session_leaveUnscored (s : State) (l : Fin 16) (d : Delivery) (j : Fin 16) :
    (s.leaveUnscored l d).state.session j = s.session j := by
  simp [State.session]

@[simp] theorem meter_leaveUnscored (s : State) (l : Fin 16) (d : Delivery) (j : Fin 16) :
    ((s.leaveUnscored l d).state.lane j).meter = (s.lane j).meter := by
  simp [State.leaveUnscored]

@[simp] theorem snapshot_leaveUnscored (s : State) (l : Fin 16) (d : Delivery) (j : Fin 16) :
    ((s.leaveUnscored l d).state.lane j).snapshot = (s.lane j).snapshot := by
  simp [State.leaveUnscored]

@[simp] theorem out_leaveUnscored (s : State) (l : Fin 16) (d : Delivery) (j : Fin 16) :
    ((s.leaveUnscored l d).state.lane j).out = (s.lane j).out := by
  simp [State.leaveUnscored]

/-! ### passOn -/

@[simp] theorem chip_passOn (s : State) (l : Fin 16) (d : Delivery) :
    (s.passOn l d).state.chip = s.chip := by
  simp only [State.passOn]; (repeat' split) <;> simp

@[simp] theorem line_passOn (s : State) (l : Fin 16) (d : Delivery) (o : Port) :
    ((s.passOn l d).state.port o).line = (s.port o).line := by
  simp only [State.passOn]; (repeat' split) <;> simp

@[simp] theorem pool_passOn (s : State) (l : Fin 16) (d : Delivery) :
    (s.passOn l d).state.pool = s.pool := by
  simp only [State.passOn]; (repeat' split) <;> simp

@[simp] theorem motor_passOn (s : State) (l : Fin 16) (d : Delivery) (w : Fin 8) :
    ((s.passOn l d).state.pair w).motor = (s.pair w).motor := by
  simp only [State.passOn]; (repeat' split) <;> simp

@[simp] theorem out_passOn (s : State) (l : Fin 16) (d : Delivery) (j : Fin 16) :
    ((s.passOn l d).state.lane j).out = (s.lane j).out := by
  simp only [State.passOn]; (repeat' split) <;> simp

/-! ### takeRead -/

@[simp] theorem chip_takeRead (s : State) (l : Fin 16) (c : Cycle) (d : Delivery) :
    (s.takeRead l c d).chip = s.chip := by
  simp [State.takeRead]

@[simp] theorem line_takeRead (s : State) (l : Fin 16) (c : Cycle) (d : Delivery) (o : Port) :
    ((s.takeRead l c d).port o).line = (s.port o).line := by
  simp [State.takeRead]

@[simp] theorem pool_takeRead (s : State) (l : Fin 16) (c : Cycle) (d : Delivery) :
    (s.takeRead l c d).pool = s.pool := by
  simp [State.takeRead]

@[simp] theorem motor_takeRead (s : State) (l : Fin 16) (c : Cycle) (d : Delivery) (w : Fin 8) :
    ((s.takeRead l c d).pair w).motor = (s.pair w).motor := by
  simp [State.takeRead]

@[simp] theorem out_takeRead (s : State) (l : Fin 16) (c : Cycle) (d : Delivery) (j : Fin 16) :
    ((s.takeRead l c d).lane j).out = (s.lane j).out := by
  simp [State.takeRead]

/-! ### psRead -/

@[simp] theorem chip_psRead (s : State) (l : Fin 16) (sensed : PinSet) :
    (psRead l sensed s).chip = s.chip := by
  simp only [psRead]; (repeat' split) <;> simp

@[simp] theorem line_psRead (s : State) (l : Fin 16) (sensed : PinSet) (o : Port) :
    ((psRead l sensed s).port o).line = (s.port o).line := by
  simp only [psRead]; (repeat' split) <;> simp

@[simp] theorem pool_psRead (s : State) (l : Fin 16) (sensed : PinSet) :
    (psRead l sensed s).pool = s.pool := by
  simp only [psRead]; (repeat' split) <;> simp

@[simp] theorem motor_psRead (s : State) (l : Fin 16) (sensed : PinSet) (w : Fin 8) :
    ((psRead l sensed s).pair w).motor = (s.pair w).motor := by
  simp only [psRead]; (repeat' split) <;> simp

@[simp] theorem out_psRead (s : State) (l : Fin 16) (sensed : PinSet) (j : Fin 16) :
    ((psRead l sensed s).lane j).out = (s.lane j).out := by
  simp only [psRead]; (repeat' split) <;> simp

/-! ### nextAfter -/

@[simp] theorem chip_nextAfter (s : State) (l : Fin 16) (c : Cycle) :
    (s.nextAfter l c).chip = s.chip := by
  simp only [State.nextAfter]; (repeat' split) <;> simp

@[simp] theorem line_nextAfter (s : State) (l : Fin 16) (c : Cycle) (o : Port) :
    ((s.nextAfter l c).port o).line = (s.port o).line := by
  simp only [State.nextAfter]; (repeat' split) <;> simp

@[simp] theorem directory_nextAfter (s : State) (l : Fin 16) (c : Cycle) :
    (s.nextAfter l c).directory = s.directory := by
  simp only [State.nextAfter]; (repeat' split) <;> simp

@[simp] theorem ret_nextAfter (s : State) (l : Fin 16) (c : Cycle) (w : Fin 8) :
    (s.nextAfter l c).ret w = s.ret w := by
  simp only [State.nextAfter]; (repeat' split) <;> simp

@[simp] theorem turn_nextAfter (s : State) (l : Fin 16) (c : Cycle) (w : Fin 8) :
    (s.nextAfter l c).turn w = s.turn w := by
  simp only [State.nextAfter]; (repeat' split) <;> simp

@[simp] theorem pair_nextAfter (s : State) (l : Fin 16) (c : Cycle) (w : Fin 8) :
    (s.nextAfter l c).pair w = s.pair w := by
  simp only [State.nextAfter]; (repeat' split) <;> simp

@[simp] theorem laneOther_nextAfter (s : State) (l : Fin 16) (c : Cycle) (j : Fin 16) (h : j ≠ l) :
    (s.nextAfter l c).lane j = s.lane j := by
  simp only [State.nextAfter]; (repeat' split) <;> simp [h]

@[simp] theorem record_nextAfter (s : State) (l : Fin 16) (c : Cycle) (j : Fin 16) :
    ((s.nextAfter l c).lane j).session = (s.lane j).session := by
  simp only [State.nextAfter]; (repeat' split) <;> simp

@[simp] theorem session_nextAfter (s : State) (l : Fin 16) (c : Cycle) (j : Fin 16) :
    (s.nextAfter l c).session j = s.session j := by
  simp [State.session]

@[simp] theorem meter_nextAfter (s : State) (l : Fin 16) (c : Cycle) (j : Fin 16) :
    ((s.nextAfter l c).lane j).meter = (s.lane j).meter := by
  simp only [State.nextAfter]; (repeat' split) <;> simp

@[simp] theorem snapshot_nextAfter (s : State) (l : Fin 16) (c : Cycle) (j : Fin 16) :
    ((s.nextAfter l c).lane j).snapshot = (s.lane j).snapshot := by
  simp only [State.nextAfter]; (repeat' split) <;> simp

@[simp] theorem out_nextAfter (s : State) (l : Fin 16) (c : Cycle) (j : Fin 16) :
    ((s.nextAfter l c).lane j).out = (s.lane j).out := by
  simp only [State.nextAfter]; (repeat' split) <;> simp

/-! ### completeCycle -/

@[simp] theorem chip_completeCycle (s : State) (l : Fin 16) (c : Cycle) :
    (s.completeCycle l c).chip = s.chip := by
  simp [State.completeCycle]

@[simp] theorem line_completeCycle (s : State) (l : Fin 16) (c : Cycle) (o : Port) :
    ((s.completeCycle l c).port o).line = (s.port o).line := by
  simp [State.completeCycle]

@[simp] theorem directory_completeCycle (s : State) (l : Fin 16) (c : Cycle) :
    (s.completeCycle l c).directory = s.directory := by
  simp [State.completeCycle]

@[simp] theorem ret_completeCycle (s : State) (l : Fin 16) (c : Cycle) (w : Fin 8) :
    (s.completeCycle l c).ret w = s.ret w := by
  simp [State.completeCycle]

@[simp] theorem turn_completeCycle (s : State) (l : Fin 16) (c : Cycle) (w : Fin 8) :
    (s.completeCycle l c).turn w = s.turn w := by
  simp [State.completeCycle]

@[simp] theorem pair_completeCycle (s : State) (l : Fin 16) (c : Cycle) (w : Fin 8) :
    (s.completeCycle l c).pair w = s.pair w := by
  simp [State.completeCycle]

@[simp] theorem laneOther_completeCycle (s : State) (l : Fin 16) (c : Cycle) (j : Fin 16) (h : j ≠ l) :
    (s.completeCycle l c).lane j = s.lane j := by
  simp only [State.completeCycle]; (repeat' split) <;> simp [h]

@[simp] theorem record_completeCycle (s : State) (l : Fin 16) (c : Cycle) (j : Fin 16) :
    ((s.completeCycle l c).lane j).session = (s.lane j).session := by
  simp [State.completeCycle]

@[simp] theorem session_completeCycle (s : State) (l : Fin 16) (c : Cycle) (j : Fin 16) :
    (s.completeCycle l c).session j = s.session j := by
  simp [State.session]

@[simp] theorem meter_completeCycle (s : State) (l : Fin 16) (c : Cycle) (j : Fin 16) :
    ((s.completeCycle l c).lane j).meter = (s.lane j).meter := by
  simp [State.completeCycle]

@[simp] theorem snapshot_completeCycle (s : State) (l : Fin 16) (c : Cycle) (j : Fin 16) :
    ((s.completeCycle l c).lane j).snapshot = (s.lane j).snapshot := by
  simp [State.completeCycle]

@[simp] theorem out_completeCycle (s : State) (l : Fin 16) (c : Cycle) (j : Fin 16) :
    ((s.completeCycle l c).lane j).out = (s.lane j).out := by
  simp [State.completeCycle]

/-! ### psDone -/

@[simp] theorem chip_psDone (s : State) (l : Fin 16) :
    (psDone l s).chip = s.chip := by
  simp only [psDone]; (repeat' split) <;> simp

@[simp] theorem line_psDone (s : State) (l : Fin 16) (o : Port) :
    ((psDone l s).port o).line = (s.port o).line := by
  simp only [psDone]; (repeat' split) <;> simp

@[simp] theorem directory_psDone (s : State) (l : Fin 16) :
    (psDone l s).directory = s.directory := by
  simp only [psDone]; (repeat' split) <;> simp

@[simp] theorem pairOther_psDone (s : State) (l : Fin 16) (w : Fin 8) (h : w ≠ pairOf l) :
    (psDone l s).pair w = s.pair w := by
  simp only [psDone]; (repeat' split) <;> simp [h]

@[simp] theorem motor_psDone (s : State) (l : Fin 16) (w : Fin 8) :
    ((psDone l s).pair w).motor = (s.pair w).motor := by
  simp only [psDone]; (repeat' split) <;> simp

@[simp] theorem laneOther_psDone (s : State) (l : Fin 16) (j : Fin 16) (h : j ≠ l) :
    (psDone l s).lane j = s.lane j := by
  simp only [psDone]; (repeat' split) <;> simp [h]

@[simp] theorem meter_psDone (s : State) (l : Fin 16) (j : Fin 16) :
    ((psDone l s).lane j).meter = (s.lane j).meter := by
  simp only [psDone]; (repeat' split) <;> simp

@[simp] theorem snapshot_psDone (s : State) (l : Fin 16) (j : Fin 16) :
    ((psDone l s).lane j).snapshot = (s.lane j).snapshot := by
  simp only [psDone]; (repeat' split) <;> simp

@[simp] theorem out_psDone (s : State) (l : Fin 16) (j : Fin 16) :
    ((psDone l s).lane j).out = (s.lane j).out := by
  simp only [psDone]; (repeat' split) <;> simp

/-! ### psJam -/

@[simp] theorem chip_psJam (s : State) (l : Fin 16) :
    (psJam l s).chip = s.chip := by
  simp only [psJam]; split <;> simp

@[simp] theorem line_psJam (s : State) (l : Fin 16) (o : Port) :
    ((psJam l s).port o).line = (s.port o).line := by
  simp only [psJam]; split <;> simp

@[simp] theorem directory_psJam (s : State) (l : Fin 16) :
    (psJam l s).directory = s.directory := by
  simp only [psJam]; split <;> simp

@[simp] theorem pairOther_psJam (s : State) (l : Fin 16) (w : Fin 8) (h : w ≠ pairOf l) :
    (psJam l s).pair w = s.pair w := by
  simp only [psJam]; (repeat' split) <;> simp [h]

@[simp] theorem motor_psJam (s : State) (l : Fin 16) (w : Fin 8) :
    ((psJam l s).pair w).motor = (s.pair w).motor := by
  simp only [psJam]; split <;> simp

@[simp] theorem laneOther_psJam (s : State) (l : Fin 16) (j : Fin 16) (h : j ≠ l) :
    (psJam l s).lane j = s.lane j := by
  simp only [psJam]; (repeat' split) <;> simp [h]

@[simp] theorem meter_psJam (s : State) (l : Fin 16) (j : Fin 16) :
    ((psJam l s).lane j).meter = (s.lane j).meter := by
  simp only [psJam]; split <;> simp

@[simp] theorem snapshot_psJam (s : State) (l : Fin 16) (j : Fin 16) :
    ((psJam l s).lane j).snapshot = (s.lane j).snapshot := by
  simp only [psJam]; split <;> simp

@[simp] theorem out_psJam (s : State) (l : Fin 16) (j : Fin 16) :
    ((psJam l s).lane j).out = (s.lane j).out := by
  simp only [psJam]; split <;> simp

/-! ### cycleTimeout -/

@[simp] theorem chip_cycleTimeout (s : State) (l : Fin 16) :
    (cycleTimeout l s).chip = s.chip := by
  simp only [cycleTimeout]; split <;> simp

@[simp] theorem line_cycleTimeout (s : State) (l : Fin 16) (o : Port) :
    ((cycleTimeout l s).port o).line = (s.port o).line := by
  simp only [cycleTimeout]; split <;> simp

@[simp] theorem directory_cycleTimeout (s : State) (l : Fin 16) :
    (cycleTimeout l s).directory = s.directory := by
  simp only [cycleTimeout]; split <;> simp

@[simp] theorem pairOther_cycleTimeout (s : State) (l : Fin 16) (w : Fin 8) (h : w ≠ pairOf l) :
    (cycleTimeout l s).pair w = s.pair w := by
  simp only [cycleTimeout]; (repeat' split) <;> simp [h]

@[simp] theorem motor_cycleTimeout (s : State) (l : Fin 16) (w : Fin 8) :
    ((cycleTimeout l s).pair w).motor = (s.pair w).motor := by
  simp only [cycleTimeout]; split <;> simp

@[simp] theorem laneOther_cycleTimeout (s : State) (l : Fin 16) (j : Fin 16) (h : j ≠ l) :
    (cycleTimeout l s).lane j = s.lane j := by
  simp only [cycleTimeout]; (repeat' split) <;> simp [h]

@[simp] theorem meter_cycleTimeout (s : State) (l : Fin 16) (j : Fin 16) :
    ((cycleTimeout l s).lane j).meter = (s.lane j).meter := by
  simp only [cycleTimeout]; split <;> simp

@[simp] theorem snapshot_cycleTimeout (s : State) (l : Fin 16) (j : Fin 16) :
    ((cycleTimeout l s).lane j).snapshot = (s.lane j).snapshot := by
  simp only [cycleTimeout]; split <;> simp

@[simp] theorem out_cycleTimeout (s : State) (l : Fin 16) (j : Fin 16) :
    ((cycleTimeout l s).lane j).out = (s.lane j).out := by
  simp only [cycleTimeout]; split <;> simp

/-! ### setDue -/

@[simp] theorem chip_setDue (s : State) (l : Fin 16) (target : PinSet) :
    (s.setDue l target).chip = s.chip := by
  simp only [State.setDue]; split <;> simp

@[simp] theorem line_setDue (s : State) (l : Fin 16) (target : PinSet) (o : Port) :
    ((s.setDue l target).port o).line = (s.port o).line := by
  simp only [State.setDue]; split <;> simp

@[simp] theorem directory_setDue (s : State) (l : Fin 16) (target : PinSet) :
    (s.setDue l target).directory = s.directory := by
  simp only [State.setDue]; split <;> simp

@[simp] theorem ret_setDue (s : State) (l : Fin 16) (target : PinSet) (w : Fin 8) :
    (s.setDue l target).ret w = s.ret w := by
  simp only [State.setDue]; split <;> simp

@[simp] theorem turn_setDue (s : State) (l : Fin 16) (target : PinSet) (w : Fin 8) :
    (s.setDue l target).turn w = s.turn w := by
  simp only [State.setDue]; split <;> simp

@[simp] theorem pair_setDue (s : State) (l : Fin 16) (target : PinSet) (w : Fin 8) :
    (s.setDue l target).pair w = s.pair w := by
  simp only [State.setDue]; split <;> simp

@[simp] theorem laneOther_setDue (s : State) (l : Fin 16) (target : PinSet) (j : Fin 16) (h : j ≠ l) :
    (s.setDue l target).lane j = s.lane j := by
  simp only [State.setDue]; (repeat' split) <;> simp [h]

@[simp] theorem record_setDue (s : State) (l : Fin 16) (target : PinSet) (j : Fin 16) :
    ((s.setDue l target).lane j).session = (s.lane j).session := by
  simp only [State.setDue]; split <;> simp

@[simp] theorem session_setDue (s : State) (l : Fin 16) (target : PinSet) (j : Fin 16) :
    (s.setDue l target).session j = s.session j := by
  simp [State.session]

@[simp] theorem meter_setDue (s : State) (l : Fin 16) (target : PinSet) (j : Fin 16) :
    ((s.setDue l target).lane j).meter = (s.lane j).meter := by
  simp only [State.setDue]; split <;> simp

@[simp] theorem snapshot_setDue (s : State) (l : Fin 16) (target : PinSet) (j : Fin 16) :
    ((s.setDue l target).lane j).snapshot = (s.lane j).snapshot := by
  simp only [State.setDue]; split <;> simp

@[simp] theorem out_setDue (s : State) (l : Fin 16) (target : PinSet) (j : Fin 16) :
    ((s.setDue l target).lane j).out = (s.lane j).out := by
  simp only [State.setDue]; split <;> simp

/-! ### endWarmUp -/

@[simp] theorem chip_endWarmUp (s : State) (l : Fin 16) (w : WarmUp) :
    (s.endWarmUp l w).chip = s.chip := by
  simp only [State.endWarmUp]; split <;> simp

@[simp] theorem line_endWarmUp (s : State) (l : Fin 16) (w : WarmUp) (o : Port) :
    ((s.endWarmUp l w).port o).line = (s.port o).line := by
  simp only [State.endWarmUp]; split <;> simp

@[simp] theorem directory_endWarmUp (s : State) (l : Fin 16) (w : WarmUp) :
    (s.endWarmUp l w).directory = s.directory := by
  simp only [State.endWarmUp]; split <;> simp

@[simp] theorem laneOther_endWarmUp (s : State) (l : Fin 16) (w : WarmUp) (j : Fin 16) (h : j ≠ l) :
    (s.endWarmUp l w).lane j = s.lane j := by
  simp only [State.endWarmUp]; (repeat' split) <;> simp [h]

@[simp] theorem record_endWarmUp (s : State) (l : Fin 16) (w : WarmUp) (j : Fin 16) :
    ((s.endWarmUp l w).lane j).session = (s.lane j).session := by
  simp only [State.endWarmUp]; split <;> simp

@[simp] theorem session_endWarmUp (s : State) (l : Fin 16) (w : WarmUp) (j : Fin 16) :
    (s.endWarmUp l w).session j = s.session j := by
  simp [State.session]

@[simp] theorem meter_endWarmUp (s : State) (l : Fin 16) (w : WarmUp) (j : Fin 16) :
    ((s.endWarmUp l w).lane j).meter = (s.lane j).meter := by
  simp only [State.endWarmUp]; split <;> simp

@[simp] theorem snapshot_endWarmUp (s : State) (l : Fin 16) (w : WarmUp) (j : Fin 16) :
    ((s.endWarmUp l w).lane j).snapshot = (s.lane j).snapshot := by
  simp only [State.endWarmUp]; split <;> simp

@[simp] theorem out_endWarmUp (s : State) (l : Fin 16) (w : WarmUp) (j : Fin 16) :
    ((s.endWarmUp l w).lane j).out = (s.lane j).out := by
  simp only [State.endWarmUp]; split <;> simp

/-! ### warmUpEnd -/

@[simp] theorem chip_warmUpEnd (s : State) (l : Fin 16) :
    (warmUpEnd l s).chip = s.chip := by
  simp only [warmUpEnd]; split <;> simp

@[simp] theorem line_warmUpEnd (s : State) (l : Fin 16) (o : Port) :
    ((warmUpEnd l s).port o).line = (s.port o).line := by
  simp only [warmUpEnd]; split <;> simp

@[simp] theorem directory_warmUpEnd (s : State) (l : Fin 16) :
    (warmUpEnd l s).directory = s.directory := by
  simp only [warmUpEnd]; split <;> simp

@[simp] theorem laneOther_warmUpEnd (s : State) (l : Fin 16) (j : Fin 16) (h : j ≠ l) :
    (warmUpEnd l s).lane j = s.lane j := by
  simp only [warmUpEnd]; (repeat' split) <;> simp [h]

@[simp] theorem record_warmUpEnd (s : State) (l : Fin 16) (j : Fin 16) :
    ((warmUpEnd l s).lane j).session = (s.lane j).session := by
  simp only [warmUpEnd]; split <;> simp

@[simp] theorem session_warmUpEnd (s : State) (l : Fin 16) (j : Fin 16) :
    (warmUpEnd l s).session j = s.session j := by
  simp [State.session]

@[simp] theorem meter_warmUpEnd (s : State) (l : Fin 16) (j : Fin 16) :
    ((warmUpEnd l s).lane j).meter = (s.lane j).meter := by
  simp only [warmUpEnd]; split <;> simp

@[simp] theorem snapshot_warmUpEnd (s : State) (l : Fin 16) (j : Fin 16) :
    ((warmUpEnd l s).lane j).snapshot = (s.lane j).snapshot := by
  simp only [warmUpEnd]; split <;> simp

@[simp] theorem out_warmUpEnd (s : State) (l : Fin 16) (j : Fin 16) :
    ((warmUpEnd l s).lane j).out = (s.lane j).out := by
  simp only [warmUpEnd]; split <;> simp

/-! ### lockOut -/

@[simp] theorem chip_lockOut (s : State) (l : Fin 16) :
    (s.lockOut l).chip = s.chip := by
  simp only [State.lockOut]; (repeat' split) <;> simp

@[simp] theorem line_lockOut (s : State) (l : Fin 16) (o : Port) :
    ((s.lockOut l).port o).line = (s.port o).line := by
  simp only [State.lockOut]; (repeat' split) <;> simp

@[simp] theorem directory_lockOut (s : State) (l : Fin 16) :
    (s.lockOut l).directory = s.directory := by
  simp only [State.lockOut]; (repeat' split) <;> simp

@[simp] theorem pool_lockOut (s : State) (l : Fin 16) :
    (s.lockOut l).pool = s.pool := by
  simp only [State.lockOut]; (repeat' split) <;> simp

@[simp] theorem pairOther_lockOut (s : State) (l : Fin 16) (w : Fin 8) (h : w ≠ pairOf l) :
    (s.lockOut l).pair w = s.pair w := by
  simp only [State.lockOut]; (repeat' split) <;> simp [h]

@[simp] theorem motor_lockOut (s : State) (l : Fin 16) (w : Fin 8) :
    ((s.lockOut l).pair w).motor = (s.pair w).motor := by
  simp only [State.lockOut]; (repeat' split) <;> simp

@[simp] theorem laneOther_lockOut (s : State) (l : Fin 16) (j : Fin 16) (h : j ≠ l) :
    (s.lockOut l).lane j = s.lane j := by
  simp only [State.lockOut]; (repeat' split) <;> simp [h]

@[simp] theorem meter_lockOut (s : State) (l : Fin 16) (j : Fin 16) :
    ((s.lockOut l).lane j).meter = (s.lane j).meter := by
  simp only [State.lockOut]; (repeat' split) <;> simp

@[simp] theorem snapshot_lockOut (s : State) (l : Fin 16) (j : Fin 16) :
    ((s.lockOut l).lane j).snapshot = (s.lane j).snapshot := by
  simp only [State.lockOut]; (repeat' split) <;> simp

@[simp] theorem out_lockOut (s : State) (l : Fin 16) (j : Fin 16) :
    ((s.lockOut l).lane j).out = (s.lane j).out := by
  simp only [State.lockOut]; (repeat' split) <;> simp

/-! ### unlock -/

@[simp] theorem chip_unlock (s : State) (l : Fin 16) :
    (s.unlock l).chip = s.chip := by
  simp [State.unlock]

@[simp] theorem line_unlock (s : State) (l : Fin 16) (o : Port) :
    ((s.unlock l).port o).line = (s.port o).line := by
  simp [State.unlock]

@[simp] theorem directory_unlock (s : State) (l : Fin 16) :
    (s.unlock l).directory = s.directory := by
  simp [State.unlock]

@[simp] theorem pool_unlock (s : State) (l : Fin 16) :
    (s.unlock l).pool = s.pool := by
  simp [State.unlock]

@[simp] theorem ret_unlock (s : State) (l : Fin 16) (w : Fin 8) :
    (s.unlock l).ret w = s.ret w := by
  simp [State.unlock]

@[simp] theorem turn_unlock (s : State) (l : Fin 16) (w : Fin 8) :
    (s.unlock l).turn w = s.turn w := by
  simp [State.unlock]

@[simp] theorem pair_unlock (s : State) (l : Fin 16) (w : Fin 8) :
    (s.unlock l).pair w = s.pair w := by
  simp [State.unlock]

@[simp] theorem laneOther_unlock (s : State) (l : Fin 16) (j : Fin 16) (h : j ≠ l) :
    (s.unlock l).lane j = s.lane j := by
  simp only [State.unlock]; (repeat' split) <;> simp [h]

@[simp] theorem record_unlock (s : State) (l : Fin 16) (j : Fin 16) :
    ((s.unlock l).lane j).session = (s.lane j).session := by
  simp [State.unlock]

@[simp] theorem session_unlock (s : State) (l : Fin 16) (j : Fin 16) :
    (s.unlock l).session j = s.session j := by
  simp [State.session]

@[simp] theorem meter_unlock (s : State) (l : Fin 16) (j : Fin 16) :
    ((s.unlock l).lane j).meter = (s.lane j).meter := by
  simp [State.unlock]

@[simp] theorem snapshot_unlock (s : State) (l : Fin 16) (j : Fin 16) :
    ((s.unlock l).lane j).snapshot = (s.lane j).snapshot := by
  simp [State.unlock]

@[simp] theorem out_unlock (s : State) (l : Fin 16) (j : Fin 16) :
    ((s.unlock l).lane j).out = (s.lane j).out := by
  simp [State.unlock]

/-! ### leaveFault -/

@[simp] theorem chip_leaveFault (s : State) (l : Fin 16) (target : PinSet) (phase : CyclePhase) :
    (s.leaveFault l target phase).chip = s.chip := by
  simp only [State.leaveFault]; split <;> simp

@[simp] theorem line_leaveFault (s : State) (l : Fin 16) (target : PinSet) (phase : CyclePhase) (o : Port) :
    ((s.leaveFault l target phase).port o).line = (s.port o).line := by
  simp only [State.leaveFault]; split <;> simp

@[simp] theorem directory_leaveFault (s : State) (l : Fin 16) (target : PinSet) (phase : CyclePhase) :
    (s.leaveFault l target phase).directory = s.directory := by
  simp only [State.leaveFault]; split <;> simp

@[simp] theorem ret_leaveFault (s : State) (l : Fin 16) (target : PinSet) (phase : CyclePhase) (w : Fin 8) :
    (s.leaveFault l target phase).ret w = s.ret w := by
  simp only [State.leaveFault]; split <;> simp

@[simp] theorem turn_leaveFault (s : State) (l : Fin 16) (target : PinSet) (phase : CyclePhase) (w : Fin 8) :
    (s.leaveFault l target phase).turn w = s.turn w := by
  simp only [State.leaveFault]; split <;> simp

@[simp] theorem pair_leaveFault (s : State) (l : Fin 16) (target : PinSet) (phase : CyclePhase) (w : Fin 8) :
    (s.leaveFault l target phase).pair w = s.pair w := by
  simp only [State.leaveFault]; split <;> simp

@[simp] theorem laneOther_leaveFault (s : State) (l : Fin 16) (target : PinSet) (phase : CyclePhase) (j : Fin 16) (h : j ≠ l) :
    (s.leaveFault l target phase).lane j = s.lane j := by
  simp only [State.leaveFault]; (repeat' split) <;> simp [h]

@[simp] theorem record_leaveFault (s : State) (l : Fin 16) (target : PinSet) (phase : CyclePhase) (j : Fin 16) :
    ((s.leaveFault l target phase).lane j).session = (s.lane j).session := by
  simp only [State.leaveFault]; split <;> simp

@[simp] theorem session_leaveFault (s : State) (l : Fin 16) (target : PinSet) (phase : CyclePhase) (j : Fin 16) :
    (s.leaveFault l target phase).session j = s.session j := by
  simp [State.session]

@[simp] theorem meter_leaveFault (s : State) (l : Fin 16) (target : PinSet) (phase : CyclePhase) (j : Fin 16) :
    ((s.leaveFault l target phase).lane j).meter = (s.lane j).meter := by
  simp only [State.leaveFault]; split <;> simp

@[simp] theorem snapshot_leaveFault (s : State) (l : Fin 16) (target : PinSet) (phase : CyclePhase) (j : Fin 16) :
    ((s.leaveFault l target phase).lane j).snapshot = (s.lane j).snapshot := by
  simp only [State.leaveFault]; split <;> simp

@[simp] theorem out_leaveFault (s : State) (l : Fin 16) (target : PinSet) (phase : CyclePhase) (j : Fin 16) :
    ((s.leaveFault l target phase).lane j).out = (s.lane j).out := by
  simp only [State.leaveFault]; split <;> simp

/-! ### clearFault -/

@[simp] theorem chip_clearFault (s : State) (l : Fin 16) (choice : Nat) :
    (s.clearFault l choice).chip = s.chip := by
  simp only [State.clearFault]; (repeat' split) <;> simp

@[simp] theorem line_clearFault (s : State) (l : Fin 16) (choice : Nat) (o : Port) :
    ((s.clearFault l choice).port o).line = (s.port o).line := by
  simp only [State.clearFault]; (repeat' split) <;> simp

@[simp] theorem motor_clearFault (s : State) (l : Fin 16) (choice : Nat) (w : Fin 8) :
    ((s.clearFault l choice).pair w).motor = (s.pair w).motor := by
  simp only [State.clearFault]; (repeat' split) <;> simp

@[simp] theorem out_clearFault (s : State) (l : Fin 16) (choice : Nat) (j : Fin 16) :
    ((s.clearFault l choice).lane j).out = (s.lane j).out := by
  simp only [State.clearFault]; (repeat' split) <;> simp

/-! ### pinsStand -/

@[simp] theorem chip_pinsStand (s : State) (l : Fin 16) :
    (s.pinsStand l).chip = s.chip := by
  simp [State.pinsStand]

@[simp] theorem line_pinsStand (s : State) (l : Fin 16) (o : Port) :
    ((s.pinsStand l).port o).line = (s.port o).line := by
  simp [State.pinsStand]

@[simp] theorem directory_pinsStand (s : State) (l : Fin 16) :
    (s.pinsStand l).directory = s.directory := by
  simp [State.pinsStand]

@[simp] theorem pool_pinsStand (s : State) (l : Fin 16) :
    (s.pinsStand l).pool = s.pool := by
  simp [State.pinsStand]

@[simp] theorem ret_pinsStand (s : State) (l : Fin 16) (w : Fin 8) :
    (s.pinsStand l).ret w = s.ret w := by
  simp [State.pinsStand]

@[simp] theorem turn_pinsStand (s : State) (l : Fin 16) (w : Fin 8) :
    (s.pinsStand l).turn w = s.turn w := by
  simp [State.pinsStand]

@[simp] theorem pair_pinsStand (s : State) (l : Fin 16) (w : Fin 8) :
    (s.pinsStand l).pair w = s.pair w := by
  simp [State.pinsStand]

@[simp] theorem laneOther_pinsStand (s : State) (l : Fin 16) (j : Fin 16) (h : j ≠ l) :
    (s.pinsStand l).lane j = s.lane j := by
  simp only [State.pinsStand]; (repeat' split) <;> simp [h]

@[simp] theorem record_pinsStand (s : State) (l : Fin 16) (j : Fin 16) :
    ((s.pinsStand l).lane j).session = (s.lane j).session := by
  simp [State.pinsStand]

@[simp] theorem session_pinsStand (s : State) (l : Fin 16) (j : Fin 16) :
    (s.pinsStand l).session j = s.session j := by
  simp [State.session]

@[simp] theorem meter_pinsStand (s : State) (l : Fin 16) (j : Fin 16) :
    ((s.pinsStand l).lane j).meter = (s.lane j).meter := by
  simp [State.pinsStand]

@[simp] theorem snapshot_pinsStand (s : State) (l : Fin 16) (j : Fin 16) :
    ((s.pinsStand l).lane j).snapshot = (s.lane j).snapshot := by
  simp [State.pinsStand]

@[simp] theorem out_pinsStand (s : State) (l : Fin 16) (j : Fin 16) :
    ((s.pinsStand l).lane j).out = (s.lane j).out := by
  simp [State.pinsStand]

/-! ### liftArrive -/

@[simp] theorem chip_liftArrive (s : State) (p : Fin 8) :
    (liftArrive p s).chip = s.chip := by
  simp [liftArrive]

@[simp] theorem line_liftArrive (s : State) (p : Fin 8) (o : Port) :
    ((liftArrive p s).port o).line = (s.port o).line := by
  simp [liftArrive]

@[simp] theorem directory_liftArrive (s : State) (p : Fin 8) :
    (liftArrive p s).directory = s.directory := by
  simp [liftArrive]

@[simp] theorem turn_liftArrive (s : State) (p : Fin 8) (w : Fin 8) :
    (liftArrive p s).turn w = s.turn w := by
  simp [liftArrive]

@[simp] theorem pairOther_liftArrive (s : State) (p : Fin 8) (w : Fin 8) (h : w ≠ p) :
    (liftArrive p s).pair w = s.pair w := by
  simp only [liftArrive]; (repeat' split) <;> simp [h]

@[simp] theorem motor_liftArrive (s : State) (p : Fin 8) (w : Fin 8) :
    ((liftArrive p s).pair w).motor = (s.pair w).motor := by
  simp [liftArrive]

@[simp] theorem record_liftArrive (s : State) (p : Fin 8) (j : Fin 16) :
    ((liftArrive p s).lane j).session = (s.lane j).session := by
  simp [liftArrive]

@[simp] theorem session_liftArrive (s : State) (p : Fin 8) (j : Fin 16) :
    (liftArrive p s).session j = s.session j := by
  simp [State.session]

@[simp] theorem meter_liftArrive (s : State) (p : Fin 8) (j : Fin 16) :
    ((liftArrive p s).lane j).meter = (s.lane j).meter := by
  simp [liftArrive]

@[simp] theorem snapshot_liftArrive (s : State) (p : Fin 8) (j : Fin 16) :
    ((liftArrive p s).lane j).snapshot = (s.lane j).snapshot := by
  simp [liftArrive]

@[simp] theorem out_liftArrive (s : State) (p : Fin 8) (j : Fin 16) :
    ((liftArrive p s).lane j).out = (s.lane j).out := by
  simp [liftArrive]

/-! ### rackFullOn -/

@[simp] theorem chip_rackFullOn (s : State) (p : Fin 8) :
    (rackFullOn p s).chip = s.chip := by
  simp [rackFullOn]

@[simp] theorem line_rackFullOn (s : State) (p : Fin 8) (o : Port) :
    ((rackFullOn p s).port o).line = (s.port o).line := by
  simp [rackFullOn]

@[simp] theorem directory_rackFullOn (s : State) (p : Fin 8) :
    (rackFullOn p s).directory = s.directory := by
  simp [rackFullOn]

@[simp] theorem pool_rackFullOn (s : State) (p : Fin 8) :
    (rackFullOn p s).pool = s.pool := by
  simp [rackFullOn]

@[simp] theorem turn_rackFullOn (s : State) (p : Fin 8) (w : Fin 8) :
    (rackFullOn p s).turn w = s.turn w := by
  simp [rackFullOn]

@[simp] theorem pairOther_rackFullOn (s : State) (p : Fin 8) (w : Fin 8) (h : w ≠ p) :
    (rackFullOn p s).pair w = s.pair w := by
  simp only [rackFullOn]; (repeat' split) <;> simp [h]

@[simp] theorem motor_rackFullOn (s : State) (p : Fin 8) (w : Fin 8) :
    ((rackFullOn p s).pair w).motor = (s.pair w).motor := by
  simp [rackFullOn]

@[simp] theorem lane_rackFullOn (s : State) (p : Fin 8) (j : Fin 16) :
    (rackFullOn p s).lane j = s.lane j := by
  simp [rackFullOn]

@[simp] theorem session_rackFullOn (s : State) (p : Fin 8) (j : Fin 16) :
    (rackFullOn p s).session j = s.session j := by
  simp [State.session]

/-! ### rackFullOff -/

@[simp] theorem chip_rackFullOff (s : State) (p : Fin 8) :
    (rackFullOff p s).chip = s.chip := by
  simp [rackFullOff]

@[simp] theorem line_rackFullOff (s : State) (p : Fin 8) (o : Port) :
    ((rackFullOff p s).port o).line = (s.port o).line := by
  simp [rackFullOff]

@[simp] theorem directory_rackFullOff (s : State) (p : Fin 8) :
    (rackFullOff p s).directory = s.directory := by
  simp [rackFullOff]

@[simp] theorem pool_rackFullOff (s : State) (p : Fin 8) :
    (rackFullOff p s).pool = s.pool := by
  simp [rackFullOff]

@[simp] theorem turn_rackFullOff (s : State) (p : Fin 8) (w : Fin 8) :
    (rackFullOff p s).turn w = s.turn w := by
  simp [rackFullOff]

@[simp] theorem pairOther_rackFullOff (s : State) (p : Fin 8) (w : Fin 8) (h : w ≠ p) :
    (rackFullOff p s).pair w = s.pair w := by
  simp only [rackFullOff]; (repeat' split) <;> simp [h]

@[simp] theorem motor_rackFullOff (s : State) (p : Fin 8) (w : Fin 8) :
    ((rackFullOff p s).pair w).motor = (s.pair w).motor := by
  simp [rackFullOff]

@[simp] theorem lane_rackFullOff (s : State) (p : Fin 8) (j : Fin 16) :
    (rackFullOff p s).lane j = s.lane j := by
  simp [rackFullOff]

@[simp] theorem session_rackFullOff (s : State) (p : Fin 8) (j : Fin 16) :
    (rackFullOff p s).session j = s.session j := by
  simp [State.session]

/-! ### liftOverload -/

@[simp] theorem chip_liftOverload (s : State) (p : Fin 8) :
    (liftOverload p s).chip = s.chip := by
  simp only [liftOverload]; (repeat' split) <;> simp

@[simp] theorem line_liftOverload (s : State) (p : Fin 8) (o : Port) :
    ((liftOverload p s).port o).line = (s.port o).line := by
  simp only [liftOverload]; (repeat' split) <;> simp

@[simp] theorem directory_liftOverload (s : State) (p : Fin 8) :
    (liftOverload p s).directory = s.directory := by
  simp only [liftOverload]; (repeat' split) <;> simp

@[simp] theorem turn_liftOverload (s : State) (p : Fin 8) (w : Fin 8) :
    (liftOverload p s).turn w = s.turn w := by
  simp only [liftOverload]; (repeat' split) <;> simp

@[simp] theorem pairOther_liftOverload (s : State) (p : Fin 8) (w : Fin 8) (h : w ≠ p) :
    (liftOverload p s).pair w = s.pair w := by
  simp only [liftOverload]; (repeat' split) <;> simp [h]

@[simp] theorem motor_liftOverload (s : State) (p : Fin 8) (w : Fin 8) :
    ((liftOverload p s).pair w).motor = (s.pair w).motor := by
  simp only [liftOverload]; (repeat' split) <;> simp

@[simp] theorem record_liftOverload (s : State) (p : Fin 8) (j : Fin 16) :
    ((liftOverload p s).lane j).session = (s.lane j).session := by
  simp only [liftOverload]; (repeat' split) <;> simp

@[simp] theorem session_liftOverload (s : State) (p : Fin 8) (j : Fin 16) :
    (liftOverload p s).session j = s.session j := by
  simp [State.session]

@[simp] theorem meter_liftOverload (s : State) (p : Fin 8) (j : Fin 16) :
    ((liftOverload p s).lane j).meter = (s.lane j).meter := by
  simp only [liftOverload]; (repeat' split) <;> simp

@[simp] theorem snapshot_liftOverload (s : State) (p : Fin 8) (j : Fin 16) :
    ((liftOverload p s).lane j).snapshot = (s.lane j).snapshot := by
  simp only [liftOverload]; (repeat' split) <;> simp

@[simp] theorem out_liftOverload (s : State) (p : Fin 8) (j : Fin 16) :
    ((liftOverload p s).lane j).out = (s.lane j).out := by
  simp only [liftOverload]; (repeat' split) <;> simp

/-! ### liftOverloadLow -/

@[simp] theorem chip_liftOverloadLow (s : State) (p : Fin 8) :
    (liftOverloadLow p s).chip = s.chip := by
  simp [liftOverloadLow]

@[simp] theorem line_liftOverloadLow (s : State) (p : Fin 8) (o : Port) :
    ((liftOverloadLow p s).port o).line = (s.port o).line := by
  simp [liftOverloadLow]

@[simp] theorem directory_liftOverloadLow (s : State) (p : Fin 8) :
    (liftOverloadLow p s).directory = s.directory := by
  simp [liftOverloadLow]

@[simp] theorem pool_liftOverloadLow (s : State) (p : Fin 8) :
    (liftOverloadLow p s).pool = s.pool := by
  simp [liftOverloadLow]

@[simp] theorem turn_liftOverloadLow (s : State) (p : Fin 8) (w : Fin 8) :
    (liftOverloadLow p s).turn w = s.turn w := by
  simp [liftOverloadLow]

@[simp] theorem pairOther_liftOverloadLow (s : State) (p : Fin 8) (w : Fin 8) (h : w ≠ p) :
    (liftOverloadLow p s).pair w = s.pair w := by
  simp only [liftOverloadLow]; (repeat' split) <;> simp [h]

@[simp] theorem motor_liftOverloadLow (s : State) (p : Fin 8) (w : Fin 8) :
    ((liftOverloadLow p s).pair w).motor = (s.pair w).motor := by
  simp [liftOverloadLow]

@[simp] theorem lane_liftOverloadLow (s : State) (p : Fin 8) (j : Fin 16) :
    (liftOverloadLow p s).lane j = s.lane j := by
  simp [liftOverloadLow]

@[simp] theorem session_liftOverloadLow (s : State) (p : Fin 8) (j : Fin 16) :
    (liftOverloadLow p s).session j = s.session j := by
  simp [State.session]

/-! ### recordOverdue -/

@[simp] theorem chip_recordOverdue (s : State) (p : Fin 8) (seqs : List (BitVec 16)) :
    (recordOverdue p seqs s).chip = s.chip := by
  simp only [recordOverdue]; split <;> simp

@[simp] theorem line_recordOverdue (s : State) (p : Fin 8) (seqs : List (BitVec 16)) (o : Port) :
    ((recordOverdue p seqs s).port o).line = (s.port o).line := by
  simp only [recordOverdue]; split <;> simp

@[simp] theorem directory_recordOverdue (s : State) (p : Fin 8) (seqs : List (BitVec 16)) :
    (recordOverdue p seqs s).directory = s.directory := by
  simp only [recordOverdue]; split <;> simp

@[simp] theorem turn_recordOverdue (s : State) (p : Fin 8) (seqs : List (BitVec 16)) (w : Fin 8) :
    (recordOverdue p seqs s).turn w = s.turn w := by
  simp only [recordOverdue]; split <;> simp

@[simp] theorem pairOther_recordOverdue (s : State) (p : Fin 8) (seqs : List (BitVec 16)) (w : Fin 8) (h : w ≠ p) :
    (recordOverdue p seqs s).pair w = s.pair w := by
  simp only [recordOverdue]; (repeat' split) <;> simp [h]

@[simp] theorem motor_recordOverdue (s : State) (p : Fin 8) (seqs : List (BitVec 16)) (w : Fin 8) :
    ((recordOverdue p seqs s).pair w).motor = (s.pair w).motor := by
  simp only [recordOverdue]; split <;> simp

@[simp] theorem record_recordOverdue (s : State) (p : Fin 8) (seqs : List (BitVec 16)) (j : Fin 16) :
    ((recordOverdue p seqs s).lane j).session = (s.lane j).session := by
  simp only [recordOverdue]; split <;> simp

@[simp] theorem session_recordOverdue (s : State) (p : Fin 8) (seqs : List (BitVec 16)) (j : Fin 16) :
    (recordOverdue p seqs s).session j = s.session j := by
  simp [State.session]

@[simp] theorem meter_recordOverdue (s : State) (p : Fin 8) (seqs : List (BitVec 16)) (j : Fin 16) :
    ((recordOverdue p seqs s).lane j).meter = (s.lane j).meter := by
  simp only [recordOverdue]; split <;> simp

@[simp] theorem snapshot_recordOverdue (s : State) (p : Fin 8) (seqs : List (BitVec 16)) (j : Fin 16) :
    ((recordOverdue p seqs s).lane j).snapshot = (s.lane j).snapshot := by
  simp only [recordOverdue]; split <;> simp

@[simp] theorem out_recordOverdue (s : State) (p : Fin 8) (seqs : List (BitVec 16)) (j : Fin 16) :
    ((recordOverdue p seqs s).lane j).out = (s.lane j).out := by
  simp only [recordOverdue]; split <;> simp

/-! ### liftIdleExpiry -/

@[simp] theorem chip_liftIdleExpiry (s : State) (p : Fin 8) :
    (liftIdleExpiry p s).chip = s.chip := by
  simp only [liftIdleExpiry]; split <;> simp

@[simp] theorem line_liftIdleExpiry (s : State) (p : Fin 8) (o : Port) :
    ((liftIdleExpiry p s).port o).line = (s.port o).line := by
  simp only [liftIdleExpiry]; split <;> simp

@[simp] theorem directory_liftIdleExpiry (s : State) (p : Fin 8) :
    (liftIdleExpiry p s).directory = s.directory := by
  simp only [liftIdleExpiry]; split <;> simp

@[simp] theorem pool_liftIdleExpiry (s : State) (p : Fin 8) :
    (liftIdleExpiry p s).pool = s.pool := by
  simp only [liftIdleExpiry]; split <;> simp

@[simp] theorem turn_liftIdleExpiry (s : State) (p : Fin 8) (w : Fin 8) :
    (liftIdleExpiry p s).turn w = s.turn w := by
  simp only [liftIdleExpiry]; split <;> simp

@[simp] theorem pairOther_liftIdleExpiry (s : State) (p : Fin 8) (w : Fin 8) (h : w ≠ p) :
    (liftIdleExpiry p s).pair w = s.pair w := by
  simp only [liftIdleExpiry]; (repeat' split) <;> simp [h]

@[simp] theorem motor_liftIdleExpiry (s : State) (p : Fin 8) (w : Fin 8) :
    ((liftIdleExpiry p s).pair w).motor = (s.pair w).motor := by
  simp only [liftIdleExpiry]; split <;> simp

@[simp] theorem lane_liftIdleExpiry (s : State) (p : Fin 8) (j : Fin 16) :
    (liftIdleExpiry p s).lane j = s.lane j := by
  simp only [liftIdleExpiry]; split <;> simp

@[simp] theorem session_liftIdleExpiry (s : State) (p : Fin 8) (j : Fin 16) :
    (liftIdleExpiry p s).session j = s.session j := by
  simp [State.session]

/-! ### restartLift -/

@[simp] theorem chip_restartLift (s : State) (p : Fin 8) :
    (s.restartLift p).chip = s.chip := by
  simp [State.restartLift]

@[simp] theorem line_restartLift (s : State) (p : Fin 8) (o : Port) :
    ((s.restartLift p).port o).line = (s.port o).line := by
  simp [State.restartLift]

@[simp] theorem directory_restartLift (s : State) (p : Fin 8) :
    (s.restartLift p).directory = s.directory := by
  simp [State.restartLift]

@[simp] theorem pool_restartLift (s : State) (p : Fin 8) :
    (s.restartLift p).pool = s.pool := by
  simp [State.restartLift]

@[simp] theorem turn_restartLift (s : State) (p : Fin 8) (w : Fin 8) :
    (s.restartLift p).turn w = s.turn w := by
  simp [State.restartLift]

@[simp] theorem pairOther_restartLift (s : State) (p : Fin 8) (w : Fin 8) (h : w ≠ p) :
    (s.restartLift p).pair w = s.pair w := by
  simp only [State.restartLift]; (repeat' split) <;> simp [h]

@[simp] theorem motor_restartLift (s : State) (p : Fin 8) (w : Fin 8) :
    ((s.restartLift p).pair w).motor = (s.pair w).motor := by
  simp [State.restartLift]

@[simp] theorem lane_restartLift (s : State) (p : Fin 8) (j : Fin 16) :
    (s.restartLift p).lane j = s.lane j := by
  simp [State.restartLift]

@[simp] theorem session_restartLift (s : State) (p : Fin 8) (j : Fin 16) :
    (s.restartLift p).session j = s.session j := by
  simp [State.session]

/-! ### applyTimeout -/

@[simp] theorem chip_applyTimeout (s : State) (timeout : Nat) :
    (s.applyTimeout timeout).chip = s.chip := by
  simp [State.applyTimeout, foldl_keeps (fun t : State => t.chip)]

@[simp] theorem line_applyTimeout (s : State) (timeout : Nat) (o : Port) :
    ((s.applyTimeout timeout).port o).line = (s.port o).line := by
  simp [State.applyTimeout, foldl_keeps (fun t : State => (t.port o).line)]

@[simp] theorem directory_applyTimeout (s : State) (timeout : Nat) :
    (s.applyTimeout timeout).directory = s.directory := by
  simp [State.applyTimeout, foldl_keeps (fun t : State => t.directory)]

@[simp] theorem turn_applyTimeout (s : State) (timeout : Nat) (w : Fin 8) :
    (s.applyTimeout timeout).turn w = s.turn w := by
  simp [State.applyTimeout, foldl_keeps (fun t : State => t.turn w)]

@[simp] theorem motor_applyTimeout (s : State) (timeout : Nat) (w : Fin 8) :
    ((s.applyTimeout timeout).pair w).motor = (s.pair w).motor := by
  simp [State.applyTimeout, foldl_keeps (fun t : State => (t.pair w).motor)]

@[simp] theorem record_applyTimeout (s : State) (timeout : Nat) (j : Fin 16) :
    ((s.applyTimeout timeout).lane j).session = (s.lane j).session := by
  simp [State.applyTimeout, foldl_keeps (fun t : State => (t.lane j).session)]

@[simp] theorem session_applyTimeout (s : State) (timeout : Nat) (j : Fin 16) :
    (s.applyTimeout timeout).session j = s.session j := by
  simp [State.session]

@[simp] theorem meter_applyTimeout (s : State) (timeout : Nat) (j : Fin 16) :
    ((s.applyTimeout timeout).lane j).meter = (s.lane j).meter := by
  simp [State.applyTimeout, foldl_keeps (fun t : State => (t.lane j).meter)]

@[simp] theorem snapshot_applyTimeout (s : State) (timeout : Nat) (j : Fin 16) :
    ((s.applyTimeout timeout).lane j).snapshot = (s.lane j).snapshot := by
  simp [State.applyTimeout, foldl_keeps (fun t : State => (t.lane j).snapshot)]

@[simp] theorem out_applyTimeout (s : State) (timeout : Nat) (j : Fin 16) :
    ((s.applyTimeout timeout).lane j).out = (s.lane j).out := by
  simp [State.applyTimeout, foldl_keeps (fun t : State => (t.lane j).out)]

/-! ### writeReturnSettings -/

@[simp] theorem directory_writeReturnSettings (s : State) (timeout idle : Option Nat) :
    (s.writeReturnSettings timeout idle).directory = s.directory := by
  simp only [State.writeReturnSettings]; split <;> simp

end Sys2Proof.Machine
end

