-- ==== Sys2Proof/Laws/FramesDesk.lean ====
section
/-! SUPPORT. Frame lemmas: what the operations on rosters, sessions, corrections, bowlers, billing, slips, attention, settings and the reply line keep.
A lemma `<component>_<operation>` says that the operation leaves that component of the state as it was. -/

namespace Sys2Proof.Machine

set_option linter.unusedSimpArgs false
set_option linter.unnecessarySeqFocus false
set_option linter.unusedTactic false
set_option linter.unreachableTactic false

/-! ### rosterTaken -/

@[simp] theorem chip_rosterTaken (s : State) (p : Fin 8) :
    (s.rosterTaken p).chip = s.chip := by
  simp [State.rosterTaken]

@[simp] theorem line_rosterTaken (s : State) (p : Fin 8) (o : Port) :
    ((s.rosterTaken p).port o).line = (s.port o).line := by
  simp [State.rosterTaken]

@[simp] theorem directory_rosterTaken (s : State) (p : Fin 8) :
    (s.rosterTaken p).directory = s.directory := by
  simp [State.rosterTaken]

@[simp] theorem pool_rosterTaken (s : State) (p : Fin 8) :
    (s.rosterTaken p).pool = s.pool := by
  simp [State.rosterTaken]

@[simp] theorem ret_rosterTaken (s : State) (p : Fin 8) (w : Fin 8) :
    (s.rosterTaken p).ret w = s.ret w := by
  simp [State.rosterTaken]

@[simp] theorem turn_rosterTaken (s : State) (p : Fin 8) (w : Fin 8) :
    (s.rosterTaken p).turn w = s.turn w := by
  simp [State.rosterTaken]

@[simp] theorem pair_rosterTaken (s : State) (p : Fin 8) (w : Fin 8) :
    (s.rosterTaken p).pair w = s.pair w := by
  simp [State.rosterTaken]

@[simp] theorem record_rosterTaken (s : State) (p : Fin 8) (j : Fin 16) :
    ((s.rosterTaken p).lane j).session = (s.lane j).session := by
  simp [State.rosterTaken]

@[simp] theorem session_rosterTaken (s : State) (p : Fin 8) (j : Fin 16) :
    (s.rosterTaken p).session j = s.session j := by
  simp [State.session]

@[simp] theorem sup_rosterTaken (s : State) (p : Fin 8) (j : Fin 16) :
    ((s.rosterTaken p).lane j).sup = (s.lane j).sup := by
  simp [State.rosterTaken]

@[simp] theorem meter_rosterTaken (s : State) (p : Fin 8) (j : Fin 16) :
    ((s.rosterTaken p).lane j).meter = (s.lane j).meter := by
  simp [State.rosterTaken]

@[simp] theorem out_rosterTaken (s : State) (p : Fin 8) (j : Fin 16) :
    ((s.rosterTaken p).lane j).out = (s.lane j).out := by
  simp [State.rosterTaken]

/-! ### addBowler -/

@[simp] theorem chip_addBowler (s : State) (p : Fin 8) (i : Fin 12) (number : Nat) :
    (s.addBowler p i number).chip = s.chip := by
  simp [State.addBowler]

@[simp] theorem line_addBowler (s : State) (p : Fin 8) (i : Fin 12) (number : Nat) (o : Port) :
    ((s.addBowler p i number).port o).line = (s.port o).line := by
  simp [State.addBowler]

@[simp] theorem pool_addBowler (s : State) (p : Fin 8) (i : Fin 12) (number : Nat) :
    (s.addBowler p i number).pool = s.pool := by
  simp [State.addBowler]

@[simp] theorem motor_addBowler (s : State) (p : Fin 8) (i : Fin 12) (number : Nat) (w : Fin 8) :
    ((s.addBowler p i number).pair w).motor = (s.pair w).motor := by
  simp [State.addBowler]

@[simp] theorem out_addBowler (s : State) (p : Fin 8) (i : Fin 12) (number : Nat) (j : Fin 16) :
    ((s.addBowler p i number).lane j).out = (s.lane j).out := by
  simp [State.addBowler]

/-! ### removeBowler -/

/-! ### sendAway -/

/-! ### comeBack -/

/-! ### setMode -/

@[simp] theorem chip_setMode (s : State) (p : Fin 8) (mode : PairMode) :
    (s.setMode p mode).chip = s.chip := by
  simp [State.setMode]

@[simp] theorem line_setMode (s : State) (p : Fin 8) (mode : PairMode) (o : Port) :
    ((s.setMode p mode).port o).line = (s.port o).line := by
  simp [State.setMode]

@[simp] theorem pool_setMode (s : State) (p : Fin 8) (mode : PairMode) :
    (s.setMode p mode).pool = s.pool := by
  simp [State.setMode]

@[simp] theorem motor_setMode (s : State) (p : Fin 8) (mode : PairMode) (w : Fin 8) :
    ((s.setMode p mode).pair w).motor = (s.pair w).motor := by
  simp [State.setMode]

@[simp] theorem out_setMode (s : State) (p : Fin 8) (mode : PairMode) (j : Fin 16) :
    ((s.setMode p mode).lane j).out = (s.lane j).out := by
  simp [State.setMode]

/-! ### limitSlot -/

/-! ### writePairSettings -/

/-! ### beginMeter -/

@[simp] theorem chip_beginMeter (s : State) (l : Fin 16) (kind : MeterKind) (mode : MeterMode) (credit : Nat) :
    (s.beginMeter l kind mode credit).chip = s.chip := by
  simp only [State.beginMeter]; split <;> simp

@[simp] theorem line_beginMeter (s : State) (l : Fin 16) (kind : MeterKind) (mode : MeterMode) (credit : Nat) (o : Port) :
    ((s.beginMeter l kind mode credit).port o).line = (s.port o).line := by
  simp only [State.beginMeter]; split <;> simp

@[simp] theorem directory_beginMeter (s : State) (l : Fin 16) (kind : MeterKind) (mode : MeterMode) (credit : Nat) :
    (s.beginMeter l kind mode credit).directory = s.directory := by
  simp only [State.beginMeter]; split <;> simp

@[simp] theorem pool_beginMeter (s : State) (l : Fin 16) (kind : MeterKind) (mode : MeterMode) (credit : Nat) :
    (s.beginMeter l kind mode credit).pool = s.pool := by
  simp only [State.beginMeter]; split <;> simp

@[simp] theorem ret_beginMeter (s : State) (l : Fin 16) (kind : MeterKind) (mode : MeterMode) (credit : Nat) (w : Fin 8) :
    (s.beginMeter l kind mode credit).ret w = s.ret w := by
  simp only [State.beginMeter]; split <;> simp

@[simp] theorem turn_beginMeter (s : State) (l : Fin 16) (kind : MeterKind) (mode : MeterMode) (credit : Nat) (w : Fin 8) :
    (s.beginMeter l kind mode credit).turn w = s.turn w := by
  simp only [State.beginMeter]; split <;> simp

@[simp] theorem pair_beginMeter (s : State) (l : Fin 16) (kind : MeterKind) (mode : MeterMode) (credit : Nat) (w : Fin 8) :
    (s.beginMeter l kind mode credit).pair w = s.pair w := by
  simp only [State.beginMeter]; split <;> simp

@[simp] theorem laneOther_beginMeter (s : State) (l : Fin 16) (kind : MeterKind) (mode : MeterMode) (credit : Nat) (j : Fin 16) (h : j ≠ l) :
    (s.beginMeter l kind mode credit).lane j = s.lane j := by
  simp only [State.beginMeter, State.updLane, State.modSup]; (repeat' split) <;> simp [lane_modLane, h]

@[simp] theorem sup_beginMeter (s : State) (l : Fin 16) (kind : MeterKind) (mode : MeterMode) (credit : Nat) (j : Fin 16) :
    ((s.beginMeter l kind mode credit).lane j).sup = (s.lane j).sup := by
  simp only [State.beginMeter, State.updLane, State.modSup]; (repeat' split) <;> simp [lane_modLane] <;> split <;> simp

@[simp] theorem snapshot_beginMeter (s : State) (l : Fin 16) (kind : MeterKind) (mode : MeterMode) (credit : Nat) (j : Fin 16) :
    ((s.beginMeter l kind mode credit).lane j).snapshot = (s.lane j).snapshot := by
  simp only [State.beginMeter, State.updLane, State.modSup]; (repeat' split) <;> simp [lane_modLane] <;> split <;> simp

@[simp] theorem out_beginMeter (s : State) (l : Fin 16) (kind : MeterKind) (mode : MeterMode) (credit : Nat) (j : Fin 16) :
    ((s.beginMeter l kind mode credit).lane j).out = (s.lane j).out := by
  simp only [State.beginMeter, State.updLane, State.modSup]; (repeat' split) <;> simp [lane_modLane] <;> split <;> simp

/-! ### openLane -/

@[simp] theorem chip_openLane (s : State) (l : Fin 16) (kind : MeterKind) (mode : MeterMode) (credit cls : Nat) :
    (s.openLane l kind mode credit cls).chip = s.chip := by
  simp [State.openLane]

@[simp] theorem line_openLane (s : State) (l : Fin 16) (kind : MeterKind) (mode : MeterMode) (credit cls : Nat) (o : Port) :
    ((s.openLane l kind mode credit cls).port o).line = (s.port o).line := by
  simp [State.openLane]

@[simp] theorem pairOther_openLane (s : State) (l : Fin 16) (kind : MeterKind) (mode : MeterMode) (credit cls : Nat) (w : Fin 8) (h : w ≠ pairOf l) :
    (s.openLane l kind mode credit cls).pair w = s.pair w := by
  simp only [State.openLane]; (repeat' split) <;> simp [h]

@[simp] theorem motor_openLane (s : State) (l : Fin 16) (kind : MeterKind) (mode : MeterMode) (credit cls : Nat) (w : Fin 8) :
    ((s.openLane l kind mode credit cls).pair w).motor = (s.pair w).motor := by
  simp [State.openLane]

@[simp] theorem out_openLane (s : State) (l : Fin 16) (kind : MeterKind) (mode : MeterMode) (credit cls : Nat) (j : Fin 16) :
    ((s.openLane l kind mode credit cls).lane j).out = (s.lane j).out := by
  simp [State.openLane]

/-! ### endSession -/

@[simp] theorem chip_endSession (s : State) (l : Fin 16) :
    (s.endSession l).chip = s.chip := by
  simp [State.endSession]

@[simp] theorem line_endSession (s : State) (l : Fin 16) (o : Port) :
    ((s.endSession l).port o).line = (s.port o).line := by
  simp [State.endSession]

@[simp] theorem directory_endSession (s : State) (l : Fin 16) :
    (s.endSession l).directory = s.directory := by
  simp [State.endSession]

@[simp] theorem pool_endSession (s : State) (l : Fin 16) :
    (s.endSession l).pool = s.pool := by
  simp [State.endSession]

@[simp] theorem ret_endSession (s : State) (l : Fin 16) (w : Fin 8) :
    (s.endSession l).ret w = s.ret w := by
  simp [State.endSession]

@[simp] theorem turn_endSession (s : State) (l : Fin 16) (w : Fin 8) :
    (s.endSession l).turn w = s.turn w := by
  simp [State.endSession]

@[simp] theorem pair_endSession (s : State) (l : Fin 16) (w : Fin 8) :
    (s.endSession l).pair w = s.pair w := by
  simp [State.endSession]

@[simp] theorem laneOther_endSession (s : State) (l : Fin 16) (j : Fin 16) (h : j ≠ l) :
    (s.endSession l).lane j = s.lane j := by
  simp [State.endSession, lane_modLane, h]

@[simp] theorem snapshot_endSession (s : State) (l : Fin 16) (j : Fin 16) :
    ((s.endSession l).lane j).snapshot = (s.lane j).snapshot := by
  simp only [State.endSession, State.updLane, State.modSup]; (repeat' split) <;> simp [lane_modLane] <;> split <;> simp

@[simp] theorem out_endSession (s : State) (l : Fin 16) (j : Fin 16) :
    ((s.endSession l).lane j).out = (s.lane j).out := by
  simp only [State.endSession, State.updLane, State.modSup]; (repeat' split) <;> simp [lane_modLane] <;> split <;> simp

/-! ### stopMachines -/

@[simp] theorem chip_stopMachines (s : State) (l : Fin 16) :
    (s.stopMachines l).chip = s.chip := by
  simp [State.stopMachines]

@[simp] theorem line_stopMachines (s : State) (l : Fin 16) (o : Port) :
    ((s.stopMachines l).port o).line = (s.port o).line := by
  simp [State.stopMachines]

@[simp] theorem directory_stopMachines (s : State) (l : Fin 16) :
    (s.stopMachines l).directory = s.directory := by
  simp [State.stopMachines]

@[simp] theorem pool_stopMachines (s : State) (l : Fin 16) :
    (s.stopMachines l).pool = s.pool := by
  simp [State.stopMachines]

@[simp] theorem turn_stopMachines (s : State) (l : Fin 16) (w : Fin 8) :
    (s.stopMachines l).turn w = s.turn w := by
  simp [State.stopMachines]

@[simp] theorem pairOther_stopMachines (s : State) (l : Fin 16) (w : Fin 8) (h : w ≠ pairOf l) :
    (s.stopMachines l).pair w = s.pair w := by
  simp only [State.stopMachines]; (repeat' split) <;> simp [h]

@[simp] theorem motor_stopMachines (s : State) (l : Fin 16) (w : Fin 8) :
    ((s.stopMachines l).pair w).motor = (s.pair w).motor := by
  simp [State.stopMachines]

@[simp] theorem laneOther_stopMachines (s : State) (l : Fin 16) (j : Fin 16) (h : j ≠ l) :
    (s.stopMachines l).lane j = s.lane j := by
  simp only [State.stopMachines]; (repeat' split) <;> simp [h]

@[simp] theorem record_stopMachines (s : State) (l : Fin 16) (j : Fin 16) :
    ((s.stopMachines l).lane j).session = (s.lane j).session := by
  simp [State.stopMachines]

@[simp] theorem session_stopMachines (s : State) (l : Fin 16) (j : Fin 16) :
    (s.stopMachines l).session j = s.session j := by
  simp [State.session]

@[simp] theorem meter_stopMachines (s : State) (l : Fin 16) (j : Fin 16) :
    ((s.stopMachines l).lane j).meter = (s.lane j).meter := by
  simp [State.stopMachines]

@[simp] theorem out_stopMachines (s : State) (l : Fin 16) (j : Fin 16) :
    ((s.stopMachines l).lane j).out = (s.lane j).out := by
  simp [State.stopMachines]

/-! ### vacate -/

@[simp] theorem chip_vacate (s : State) (p : Fin 8) (i : Fin 12) :
    (s.vacate p i).chip = s.chip := by
  simp only [State.vacate]; split <;> simp

@[simp] theorem line_vacate (s : State) (p : Fin 8) (i : Fin 12) (o : Port) :
    ((s.vacate p i).port o).line = (s.port o).line := by
  simp only [State.vacate]; split <;> simp

@[simp] theorem pool_vacate (s : State) (p : Fin 8) (i : Fin 12) :
    (s.vacate p i).pool = s.pool := by
  simp only [State.vacate]; split <;> simp

@[simp] theorem ret_vacate (s : State) (p : Fin 8) (i : Fin 12) (w : Fin 8) :
    (s.vacate p i).ret w = s.ret w := by
  simp only [State.vacate]; split <;> simp

@[simp] theorem motor_vacate (s : State) (p : Fin 8) (i : Fin 12) (w : Fin 8) :
    ((s.vacate p i).pair w).motor = (s.pair w).motor := by
  simp only [State.vacate]; split <;> simp

@[simp] theorem record_vacate (s : State) (p : Fin 8) (i : Fin 12) (j : Fin 16) :
    ((s.vacate p i).lane j).session = (s.lane j).session := by
  simp only [State.vacate]; split <;> simp

@[simp] theorem sup_vacate (s : State) (p : Fin 8) (i : Fin 12) (j : Fin 16) :
    ((s.vacate p i).lane j).sup = (s.lane j).sup := by
  simp only [State.vacate]; split <;> simp

@[simp] theorem meter_vacate (s : State) (p : Fin 8) (i : Fin 12) (j : Fin 16) :
    ((s.vacate p i).lane j).meter = (s.lane j).meter := by
  simp only [State.vacate]; split <;> simp

@[simp] theorem out_vacate (s : State) (p : Fin 8) (i : Fin 12) (j : Fin 16) :
    ((s.vacate p i).lane j).out = (s.lane j).out := by
  simp only [State.vacate]; split <;> simp

/-! ### emptyQueue -/

@[simp] theorem chip_emptyQueue (s : State) (l : Fin 16) :
    (s.emptyQueue l).chip = s.chip := by
  simp [State.emptyQueue]

@[simp] theorem line_emptyQueue (s : State) (l : Fin 16) (o : Port) :
    ((s.emptyQueue l).port o).line = (s.port o).line := by
  simp [State.emptyQueue]

@[simp] theorem directory_emptyQueue (s : State) (l : Fin 16) :
    (s.emptyQueue l).directory = s.directory := by
  simp [State.emptyQueue]

@[simp] theorem pool_emptyQueue (s : State) (l : Fin 16) :
    (s.emptyQueue l).pool = s.pool := by
  simp [State.emptyQueue]

@[simp] theorem ret_emptyQueue (s : State) (l : Fin 16) (w : Fin 8) :
    (s.emptyQueue l).ret w = s.ret w := by
  simp [State.emptyQueue]

@[simp] theorem pairOther_emptyQueue (s : State) (l : Fin 16) (w : Fin 8) (h : w ≠ pairOf l) :
    (s.emptyQueue l).pair w = s.pair w := by
  simp only [State.emptyQueue]; (repeat' split) <;> simp [h]

@[simp] theorem motor_emptyQueue (s : State) (l : Fin 16) (w : Fin 8) :
    ((s.emptyQueue l).pair w).motor = (s.pair w).motor := by
  simp [State.emptyQueue]

@[simp] theorem lane_emptyQueue (s : State) (l : Fin 16) (j : Fin 16) :
    (s.emptyQueue l).lane j = s.lane j := by
  simp [State.emptyQueue]

@[simp] theorem session_emptyQueue (s : State) (l : Fin 16) (j : Fin 16) :
    (s.emptyQueue l).session j = s.session j := by
  simp [State.session]

/-! ### closeAlone -/

@[simp] theorem chip_closeAlone (s : State) (l : Fin 16) :
    (s.closeAlone l).chip = s.chip := by
  simp [State.closeAlone, foldl_keeps (fun t : State => t.chip)]

@[simp] theorem line_closeAlone (s : State) (l : Fin 16) (o : Port) :
    ((s.closeAlone l).port o).line = (s.port o).line := by
  simp [State.closeAlone, foldl_keeps (fun t : State => (t.port o).line)]

@[simp] theorem pool_closeAlone (s : State) (l : Fin 16) :
    (s.closeAlone l).pool = s.pool := by
  simp [State.closeAlone, foldl_keeps (fun t : State => t.pool)]

@[simp] theorem motor_closeAlone (s : State) (l : Fin 16) (w : Fin 8) :
    ((s.closeAlone l).pair w).motor = (s.pair w).motor := by
  simp [State.closeAlone, foldl_keeps (fun t : State => (t.pair w).motor)]

@[simp] theorem out_closeAlone (s : State) (l : Fin 16) (j : Fin 16) :
    ((s.closeAlone l).lane j).out = (s.lane j).out := by
  simp [State.closeAlone, foldl_keeps (fun t : State => (t.lane j).out)]

/-! ### closeOne -/

@[simp] theorem chip_closeOne (s : State) (l : Fin 16) :
    (s.closeOne l).chip = s.chip := by
  simp only [State.closeOne]; split <;> simp

@[simp] theorem line_closeOne (s : State) (l : Fin 16) (o : Port) :
    ((s.closeOne l).port o).line = (s.port o).line := by
  simp only [State.closeOne]; split <;> simp

@[simp] theorem directory_closeOne (s : State) (l : Fin 16) :
    (s.closeOne l).directory = s.directory := by
  simp only [State.closeOne]; split <;> simp

@[simp] theorem pool_closeOne (s : State) (l : Fin 16) :
    (s.closeOne l).pool = s.pool := by
  simp only [State.closeOne]; split <;> simp

@[simp] theorem turn_closeOne (s : State) (l : Fin 16) (w : Fin 8) :
    (s.closeOne l).turn w = s.turn w := by
  simp only [State.closeOne]; split <;> simp

@[simp] theorem pairOther_closeOne (s : State) (l : Fin 16) (w : Fin 8) (h : w ≠ pairOf l) :
    (s.closeOne l).pair w = s.pair w := by
  simp only [State.closeOne]; (repeat' split) <;> simp [h]

@[simp] theorem motor_closeOne (s : State) (l : Fin 16) (w : Fin 8) :
    ((s.closeOne l).pair w).motor = (s.pair w).motor := by
  simp only [State.closeOne]; split <;> simp

@[simp] theorem laneOther_closeOne (s : State) (l : Fin 16) (j : Fin 16) (h : j ≠ l) :
    (s.closeOne l).lane j = s.lane j := by
  simp only [State.closeOne]; (repeat' split) <;> simp [h]

@[simp] theorem out_closeOne (s : State) (l : Fin 16) (j : Fin 16) :
    ((s.closeOne l).lane j).out = (s.lane j).out := by
  simp only [State.closeOne]; split <;> simp

/-! ### closeBoth -/

@[simp] theorem chip_closeBoth (s : State) (p : Fin 8) :
    (s.closeBoth p).chip = s.chip := by
  simp [State.closeBoth, foldl_keeps (fun t : State => t.chip)]

@[simp] theorem line_closeBoth (s : State) (p : Fin 8) (o : Port) :
    ((s.closeBoth p).port o).line = (s.port o).line := by
  simp [State.closeBoth, foldl_keeps (fun t : State => (t.port o).line)]

@[simp] theorem pool_closeBoth (s : State) (p : Fin 8) :
    (s.closeBoth p).pool = s.pool := by
  simp [State.closeBoth, foldl_keeps (fun t : State => t.pool)]

@[simp] theorem motor_closeBoth (s : State) (p : Fin 8) (w : Fin 8) :
    ((s.closeBoth p).pair w).motor = (s.pair w).motor := by
  simp [State.closeBoth, foldl_keeps (fun t : State => (t.pair w).motor)]

@[simp] theorem out_closeBoth (s : State) (p : Fin 8) (j : Fin 16) :
    ((s.closeBoth p).lane j).out = (s.lane j).out := by
  simp [State.closeBoth, foldl_keeps (fun t : State => (t.lane j).out)]

/-! ### closeLane -/

@[simp] theorem chip_closeLane (s : State) (l : Fin 16) :
    (s.closeLane l).chip = s.chip := by
  simp only [State.closeLane]; split <;> simp

@[simp] theorem line_closeLane (s : State) (l : Fin 16) (o : Port) :
    ((s.closeLane l).port o).line = (s.port o).line := by
  simp only [State.closeLane]; split <;> simp

@[simp] theorem pool_closeLane (s : State) (l : Fin 16) :
    (s.closeLane l).pool = s.pool := by
  simp only [State.closeLane]; split <;> simp

@[simp] theorem motor_closeLane (s : State) (l : Fin 16) (w : Fin 8) :
    ((s.closeLane l).pair w).motor = (s.pair w).motor := by
  simp only [State.closeLane]; split <;> simp

@[simp] theorem out_closeLane (s : State) (l : Fin 16) (j : Fin 16) :
    ((s.closeLane l).lane j).out = (s.lane j).out := by
  simp only [State.closeLane]; split <;> simp

/-! ### parkWoke -/

@[simp] theorem chip_parkWoke (s : State) (l : Fin 16) :
    (s.parkWoke l).chip = s.chip := by
  simp only [State.parkWoke]; split <;> simp

@[simp] theorem line_parkWoke (s : State) (l : Fin 16) (o : Port) :
    ((s.parkWoke l).port o).line = (s.port o).line := by
  simp only [State.parkWoke]; split <;> simp

@[simp] theorem pairOther_parkWoke (s : State) (l : Fin 16) (w : Fin 8) (h : w ≠ pairOf l) :
    (s.parkWoke l).pair w = s.pair w := by
  simp only [State.parkWoke]; (repeat' split) <;> simp [h]

@[simp] theorem motor_parkWoke (s : State) (l : Fin 16) (w : Fin 8) :
    ((s.parkWoke l).pair w).motor = (s.pair w).motor := by
  simp only [State.parkWoke]; split <;> simp

@[simp] theorem out_parkWoke (s : State) (l : Fin 16) (j : Fin 16) :
    ((s.parkWoke l).lane j).out = (s.lane j).out := by
  simp only [State.parkWoke]; split <;> simp

/-! ### parkTaken -/

@[simp] theorem chip_parkTaken (s : State) (l : Fin 16) (mask : WakeMask) (cause : ParkCause) :
    (s.parkTaken l mask cause).chip = s.chip := by
  simp only [State.parkTaken]; split <;> simp

@[simp] theorem line_parkTaken (s : State) (l : Fin 16) (mask : WakeMask) (cause : ParkCause) (o : Port) :
    ((s.parkTaken l mask cause).port o).line = (s.port o).line := by
  simp only [State.parkTaken]; split <;> simp

@[simp] theorem directory_parkTaken (s : State) (l : Fin 16) (mask : WakeMask) (cause : ParkCause) :
    (s.parkTaken l mask cause).directory = s.directory := by
  simp only [State.parkTaken]; split <;> simp

@[simp] theorem pool_parkTaken (s : State) (l : Fin 16) (mask : WakeMask) (cause : ParkCause) :
    (s.parkTaken l mask cause).pool = s.pool := by
  simp only [State.parkTaken]; split <;> simp

@[simp] theorem turn_parkTaken (s : State) (l : Fin 16) (mask : WakeMask) (cause : ParkCause) (w : Fin 8) :
    (s.parkTaken l mask cause).turn w = s.turn w := by
  simp only [State.parkTaken]; split <;> simp

@[simp] theorem pairOther_parkTaken (s : State) (l : Fin 16) (mask : WakeMask) (cause : ParkCause) (w : Fin 8) (h : w ≠ pairOf l) :
    (s.parkTaken l mask cause).pair w = s.pair w := by
  simp only [State.parkTaken]; (repeat' split) <;> simp [h]

@[simp] theorem motor_parkTaken (s : State) (l : Fin 16) (mask : WakeMask) (cause : ParkCause) (w : Fin 8) :
    ((s.parkTaken l mask cause).pair w).motor = (s.pair w).motor := by
  simp only [State.parkTaken]; split <;> simp

@[simp] theorem laneOther_parkTaken (s : State) (l : Fin 16) (mask : WakeMask) (cause : ParkCause) (j : Fin 16) (h : j ≠ l) :
    (s.parkTaken l mask cause).lane j = s.lane j := by
  simp only [State.parkTaken]; (repeat' split) <;> simp [h]

@[simp] theorem meter_parkTaken (s : State) (l : Fin 16) (mask : WakeMask) (cause : ParkCause) (j : Fin 16) :
    ((s.parkTaken l mask cause).lane j).meter = (s.lane j).meter := by
  simp only [State.parkTaken]; split <;> simp

@[simp] theorem snapshot_parkTaken (s : State) (l : Fin 16) (mask : WakeMask) (cause : ParkCause) (j : Fin 16) :
    ((s.parkTaken l mask cause).lane j).snapshot = (s.lane j).snapshot := by
  simp only [State.parkTaken]; split <;> simp

@[simp] theorem out_parkTaken (s : State) (l : Fin 16) (mask : WakeMask) (cause : ParkCause) (j : Fin 16) :
    ((s.parkTaken l mask cause).lane j).out = (s.lane j).out := by
  simp only [State.parkTaken]; split <;> simp

/-! ### writeLane -/

@[simp] theorem chip_writeLane (s : State) (l : Fin 16) (cls foul mask lamps : Option Nat) :
    (s.writeLane l cls foul mask lamps).chip = s.chip := by
  simp only [State.writeLane]; split <;> simp

@[simp] theorem line_writeLane (s : State) (l : Fin 16) (cls foul mask lamps : Option Nat) (o : Port) :
    ((s.writeLane l cls foul mask lamps).port o).line = (s.port o).line := by
  simp only [State.writeLane]; split <;> simp

@[simp] theorem directory_writeLane (s : State) (l : Fin 16) (cls foul mask lamps : Option Nat) :
    (s.writeLane l cls foul mask lamps).directory = s.directory := by
  simp only [State.writeLane]; split <;> simp

@[simp] theorem pool_writeLane (s : State) (l : Fin 16) (cls foul mask lamps : Option Nat) :
    (s.writeLane l cls foul mask lamps).pool = s.pool := by
  simp only [State.writeLane]; split <;> simp

@[simp] theorem ret_writeLane (s : State) (l : Fin 16) (cls foul mask lamps : Option Nat) (w : Fin 8) :
    (s.writeLane l cls foul mask lamps).ret w = s.ret w := by
  simp only [State.writeLane]; split <;> simp

@[simp] theorem turn_writeLane (s : State) (l : Fin 16) (cls foul mask lamps : Option Nat) (w : Fin 8) :
    (s.writeLane l cls foul mask lamps).turn w = s.turn w := by
  simp only [State.writeLane]; split <;> simp

@[simp] theorem pair_writeLane (s : State) (l : Fin 16) (cls foul mask lamps : Option Nat) (w : Fin 8) :
    (s.writeLane l cls foul mask lamps).pair w = s.pair w := by
  simp only [State.writeLane]; split <;> simp

@[simp] theorem laneOther_writeLane (s : State) (l : Fin 16) (cls foul mask lamps : Option Nat) (j : Fin 16) (h : j ≠ l) :
    (s.writeLane l cls foul mask lamps).lane j = s.lane j := by
  simp only [State.writeLane, State.updLane, State.modSup]; (repeat' split) <;> simp [lane_modLane, h]

@[simp] theorem session_writeLane (s : State) (l : Fin 16) (cls foul mask lamps : Option Nat) (j : Fin 16) :
    (s.writeLane l cls foul mask lamps).session j = s.session j := by
  simp only [State.writeLane, State.session, State.updLane, State.updSession]; (repeat' split) <;> simp [lane_modLane] <;> split <;> simp

@[simp] theorem meter_writeLane (s : State) (l : Fin 16) (cls foul mask lamps : Option Nat) (j : Fin 16) :
    ((s.writeLane l cls foul mask lamps).lane j).meter = (s.lane j).meter := by
  simp only [State.writeLane, State.updLane, State.modSup]; (repeat' split) <;> simp [lane_modLane] <;> split <;> simp

@[simp] theorem snapshot_writeLane (s : State) (l : Fin 16) (cls foul mask lamps : Option Nat) (j : Fin 16) :
    ((s.writeLane l cls foul mask lamps).lane j).snapshot = (s.lane j).snapshot := by
  simp only [State.writeLane, State.updLane, State.modSup]; (repeat' split) <;> simp [lane_modLane] <;> split <;> simp

@[simp] theorem out_writeLane (s : State) (l : Fin 16) (cls foul mask lamps : Option Nat) (j : Fin 16) :
    ((s.writeLane l cls foul mask lamps).lane j).out = (s.lane j).out := by
  simp only [State.writeLane, State.updLane, State.modSup]; (repeat' split) <;> simp [lane_modLane] <;> split <;> simp

/-! ### writeLanes -/

@[simp] theorem chip_writeLanes (s : State) (scope : Nat) (l : Fin 16) (cls foul mask lamps : Option Nat) :
    (s.writeLanes scope l cls foul mask lamps).chip = s.chip := by
  simp only [State.writeLanes]; (repeat' split) <;> simp [foldl_keeps (fun t : State => t.chip)]

@[simp] theorem line_writeLanes (s : State) (scope : Nat) (l : Fin 16) (cls foul mask lamps : Option Nat) (o : Port) :
    ((s.writeLanes scope l cls foul mask lamps).port o).line = (s.port o).line := by
  simp only [State.writeLanes]; (repeat' split) <;> simp [foldl_keeps (fun t : State => (t.port o).line)]

@[simp] theorem motor_writeLanes (s : State) (scope : Nat) (l : Fin 16) (cls foul mask lamps : Option Nat) (w : Fin 8) :
    ((s.writeLanes scope l cls foul mask lamps).pair w).motor = (s.pair w).motor := by
  simp only [State.writeLanes]; (repeat' split) <;> simp [foldl_keeps (fun t : State => (t.pair w).motor)]

@[simp] theorem out_writeLanes (s : State) (scope : Nat) (l : Fin 16) (cls foul mask lamps : Option Nat) (j : Fin 16) :
    ((s.writeLanes scope l cls foul mask lamps).lane j).out = (s.lane j).out := by
  simp only [State.writeLanes]; (repeat' split) <;> simp [foldl_keeps (fun t : State => (t.lane j).out)]

/-! ### reball -/

@[simp] theorem chip_reball (s : State) (l : Fin 16) :
    (s.reball l).chip = s.chip := by
  simp only [State.reball]; split <;> simp

@[simp] theorem line_reball (s : State) (l : Fin 16) (o : Port) :
    ((s.reball l).port o).line = (s.port o).line := by
  simp only [State.reball]; split <;> simp

@[simp] theorem motor_reball (s : State) (l : Fin 16) (w : Fin 8) :
    ((s.reball l).pair w).motor = (s.pair w).motor := by
  simp only [State.reball]; split <;> simp

@[simp] theorem out_reball (s : State) (l : Fin 16) (j : Fin 16) :
    ((s.reball l).lane j).out = (s.lane j).out := by
  simp only [State.reball]; split <;> simp

/-! ### writeOutcome -/

@[simp] theorem chip_writeOutcome (s : State) (n : Fin 64) (o : SlipOutcome) :
    (s.writeOutcome n o).chip = s.chip := by
  simp [State.writeOutcome]

@[simp] theorem directory_writeOutcome (s : State) (n : Fin 64) (o : SlipOutcome) :
    (s.writeOutcome n o).directory = s.directory := by
  simp [State.writeOutcome]

@[simp] theorem ret_writeOutcome (s : State) (n : Fin 64) (o : SlipOutcome) (w : Fin 8) :
    (s.writeOutcome n o).ret w = s.ret w := by
  simp [State.writeOutcome]

@[simp] theorem turn_writeOutcome (s : State) (n : Fin 64) (o : SlipOutcome) (w : Fin 8) :
    (s.writeOutcome n o).turn w = s.turn w := by
  simp [State.writeOutcome]

@[simp] theorem pair_writeOutcome (s : State) (n : Fin 64) (o : SlipOutcome) (w : Fin 8) :
    (s.writeOutcome n o).pair w = s.pair w := by
  simp [State.writeOutcome]

@[simp] theorem lane_writeOutcome (s : State) (n : Fin 64) (o : SlipOutcome) (j : Fin 16) :
    (s.writeOutcome n o).lane j = s.lane j := by
  simp [State.writeOutcome]

@[simp] theorem session_writeOutcome (s : State) (n : Fin 64) (o : SlipOutcome) (j : Fin 16) :
    (s.writeOutcome n o).session j = s.session j := by
  simp [State.session]

/-! ### applyCorrected -/

@[simp] theorem chip_applyCorrected (s : State) (c : Correction) (g : NamedGame) :
    (s.applyCorrected c g).chip = s.chip := by
  simp only [State.applyCorrected]; split <;> simp

@[simp] theorem line_applyCorrected (s : State) (c : Correction) (g : NamedGame) (o : Port) :
    ((s.applyCorrected c g).port o).line = (s.port o).line := by
  simp only [State.applyCorrected]; split <;> simp

@[simp] theorem directory_applyCorrected (s : State) (c : Correction) (g : NamedGame) :
    (s.applyCorrected c g).directory = s.directory := by
  simp only [State.applyCorrected]; split <;> simp

@[simp] theorem ret_applyCorrected (s : State) (c : Correction) (g : NamedGame) (w : Fin 8) :
    (s.applyCorrected c g).ret w = s.ret w := by
  simp only [State.applyCorrected]; split <;> simp

@[simp] theorem motor_applyCorrected (s : State) (c : Correction) (g : NamedGame) (w : Fin 8) :
    ((s.applyCorrected c g).pair w).motor = (s.pair w).motor := by
  simp only [State.applyCorrected]; split <;> simp

@[simp] theorem record_applyCorrected (s : State) (c : Correction) (g : NamedGame) (j : Fin 16) :
    ((s.applyCorrected c g).lane j).session = (s.lane j).session := by
  simp only [State.applyCorrected]; split <;> simp

@[simp] theorem session_applyCorrected (s : State) (c : Correction) (g : NamedGame) (j : Fin 16) :
    (s.applyCorrected c g).session j = s.session j := by
  simp [State.session]

@[simp] theorem meter_applyCorrected (s : State) (c : Correction) (g : NamedGame) (j : Fin 16) :
    ((s.applyCorrected c g).lane j).meter = (s.lane j).meter := by
  simp only [State.applyCorrected]; split <;> simp

@[simp] theorem out_applyCorrected (s : State) (c : Correction) (g : NamedGame) (j : Fin 16) :
    ((s.applyCorrected c g).lane j).out = (s.lane j).out := by
  simp only [State.applyCorrected]; split <;> simp

/-! ### decideCorrection -/

@[simp] theorem chip_decideCorrection (s : State) (n : Fin 64) (c : Correction) :
    (s.decideCorrection n c).1.chip = s.chip := by
  simp only [State.decideCorrection]; split <;> simp

@[simp] theorem directory_decideCorrection (s : State) (n : Fin 64) (c : Correction) :
    (s.decideCorrection n c).1.directory = s.directory := by
  simp only [State.decideCorrection]; split <;> simp

@[simp] theorem ret_decideCorrection (s : State) (n : Fin 64) (c : Correction) (w : Fin 8) :
    (s.decideCorrection n c).1.ret w = s.ret w := by
  simp only [State.decideCorrection]; split <;> simp

@[simp] theorem motor_decideCorrection (s : State) (n : Fin 64) (c : Correction) (w : Fin 8) :
    ((s.decideCorrection n c).1.pair w).motor = (s.pair w).motor := by
  simp only [State.decideCorrection]; split <;> simp

@[simp] theorem record_decideCorrection (s : State) (n : Fin 64) (c : Correction) (j : Fin 16) :
    ((s.decideCorrection n c).1.lane j).session = (s.lane j).session := by
  simp only [State.decideCorrection]; split <;> simp

@[simp] theorem session_decideCorrection (s : State) (n : Fin 64) (c : Correction) (j : Fin 16) :
    (s.decideCorrection n c).1.session j = s.session j := by
  simp [State.session]

@[simp] theorem meter_decideCorrection (s : State) (n : Fin 64) (c : Correction) (j : Fin 16) :
    ((s.decideCorrection n c).1.lane j).meter = (s.lane j).meter := by
  simp only [State.decideCorrection]; split <;> simp

@[simp] theorem out_decideCorrection (s : State) (n : Fin 64) (c : Correction) (j : Fin 16) :
    ((s.decideCorrection n c).1.lane j).out = (s.lane j).out := by
  simp only [State.decideCorrection]; split <;> simp

/-! ### applyCorrection -/

@[simp] theorem chip_applyCorrection (s : State) (n : Fin 64) :
    (s.applyCorrection n).state.chip = s.chip := by
  simp only [State.applyCorrection]; split <;> simp

@[simp] theorem directory_applyCorrection (s : State) (n : Fin 64) :
    (s.applyCorrection n).state.directory = s.directory := by
  simp only [State.applyCorrection]; split <;> simp

@[simp] theorem ret_applyCorrection (s : State) (n : Fin 64) (w : Fin 8) :
    (s.applyCorrection n).state.ret w = s.ret w := by
  simp only [State.applyCorrection]; split <;> simp

@[simp] theorem motor_applyCorrection (s : State) (n : Fin 64) (w : Fin 8) :
    ((s.applyCorrection n).state.pair w).motor = (s.pair w).motor := by
  simp only [State.applyCorrection]; split <;> simp

@[simp] theorem record_applyCorrection (s : State) (n : Fin 64) (j : Fin 16) :
    ((s.applyCorrection n).state.lane j).session = (s.lane j).session := by
  simp only [State.applyCorrection]; split <;> simp

@[simp] theorem session_applyCorrection (s : State) (n : Fin 64) (j : Fin 16) :
    (s.applyCorrection n).state.session j = s.session j := by
  simp [State.session]

@[simp] theorem meter_applyCorrection (s : State) (n : Fin 64) (j : Fin 16) :
    ((s.applyCorrection n).state.lane j).meter = (s.lane j).meter := by
  simp only [State.applyCorrection]; split <;> simp

@[simp] theorem out_applyCorrection (s : State) (n : Fin 64) (j : Fin 16) :
    ((s.applyCorrection n).state.lane j).out = (s.lane j).out := by
  simp only [State.applyCorrection]; split <;> simp

/-! ### writeRecord -/

@[simp] theorem chip_writeRecord (s : State) (number average : Nat) (override : Option Nat) :
    (s.writeRecord number average override).chip = s.chip := by
  simp only [State.writeRecord, port_modPort]; split <;> rfl

@[simp] theorem line_writeRecord (s : State) (number average : Nat) (override : Option Nat) (o : Port) :
    ((s.writeRecord number average override).port o).line = (s.port o).line := by
  simp only [State.writeRecord, port_modPort]; split <;> rfl

@[simp] theorem pool_writeRecord (s : State) (number average : Nat) (override : Option Nat) :
    (s.writeRecord number average override).pool = s.pool := by
  simp [State.writeRecord]

@[simp] theorem ret_writeRecord (s : State) (number average : Nat) (override : Option Nat) (w : Fin 8) :
    (s.writeRecord number average override).ret w = s.ret w := by
  simp only [State.writeRecord, port_modPort]; split <;> rfl

@[simp] theorem turn_writeRecord (s : State) (number average : Nat) (override : Option Nat) (w : Fin 8) :
    (s.writeRecord number average override).turn w = s.turn w := by
  simp only [State.writeRecord, port_modPort]; split <;> rfl

@[simp] theorem pair_writeRecord (s : State) (number average : Nat) (override : Option Nat) (w : Fin 8) :
    (s.writeRecord number average override).pair w = s.pair w := by
  simp only [State.writeRecord, port_modPort]; split <;> rfl

@[simp] theorem lane_writeRecord (s : State) (number average : Nat) (override : Option Nat) (j : Fin 16) :
    (s.writeRecord number average override).lane j = s.lane j := by
  simp only [State.writeRecord, port_modPort]; split <;> rfl

@[simp] theorem session_writeRecord (s : State) (number average : Nat) (override : Option Nat) (j : Fin 16) :
    (s.writeRecord number average override).session j = s.session j := by
  simp [State.session]

/-! ### resolveEntry -/

@[simp] theorem chip_resolveEntry (s : State) (number : Nat) :
    (s.resolveEntry number).chip = s.chip := by
  simp only [State.resolveEntry]; split <;> simp

@[simp] theorem line_resolveEntry (s : State) (number : Nat) (o : Port) :
    ((s.resolveEntry number).port o).line = (s.port o).line := by
  simp only [State.resolveEntry]; split <;> simp

@[simp] theorem directory_resolveEntry (s : State) (number : Nat) :
    (s.resolveEntry number).directory = s.directory := by
  simp only [State.resolveEntry]; split <;> simp

@[simp] theorem pool_resolveEntry (s : State) (number : Nat) :
    (s.resolveEntry number).pool = s.pool := by
  simp only [State.resolveEntry]; split <;> simp

@[simp] theorem ret_resolveEntry (s : State) (number : Nat) (w : Fin 8) :
    (s.resolveEntry number).ret w = s.ret w := by
  simp only [State.resolveEntry]; split <;> simp

@[simp] theorem motor_resolveEntry (s : State) (number : Nat) (w : Fin 8) :
    ((s.resolveEntry number).pair w).motor = (s.pair w).motor := by
  simp only [State.resolveEntry]; split <;> simp

@[simp] theorem lane_resolveEntry (s : State) (number : Nat) (j : Fin 16) :
    (s.resolveEntry number).lane j = s.lane j := by
  simp only [State.resolveEntry]; split <;> simp

@[simp] theorem session_resolveEntry (s : State) (number : Nat) (j : Fin 16) :
    (s.resolveEntry number).session j = s.session j := by
  simp [State.session]

/-! ### supply -/

@[simp] theorem chip_supply (s : State) (number average : Nat) (override : Option Nat) :
    (s.supply number average override).chip = s.chip := by
  simp [State.supply]

@[simp] theorem line_supply (s : State) (number average : Nat) (override : Option Nat) (o : Port) :
    ((s.supply number average override).port o).line = (s.port o).line := by
  simp [State.supply]

@[simp] theorem pool_supply (s : State) (number average : Nat) (override : Option Nat) :
    (s.supply number average override).pool = s.pool := by
  simp [State.supply]

@[simp] theorem ret_supply (s : State) (number average : Nat) (override : Option Nat) (w : Fin 8) :
    (s.supply number average override).ret w = s.ret w := by
  simp [State.supply]

@[simp] theorem motor_supply (s : State) (number average : Nat) (override : Option Nat) (w : Fin 8) :
    ((s.supply number average override).pair w).motor = (s.pair w).motor := by
  simp [State.supply]

@[simp] theorem lane_supply (s : State) (number average : Nat) (override : Option Nat) (j : Fin 16) :
    (s.supply number average override).lane j = s.lane j := by
  simp [State.supply]

@[simp] theorem session_supply (s : State) (number average : Nat) (override : Option Nat) (j : Fin 16) :
    (s.supply number average override).session j = s.session j := by
  simp [State.session]

/-! ### unknownNumber -/

@[simp] theorem chip_unknownNumber (s : State) (number : Nat) :
    (s.unknownNumber number).chip = s.chip := by
  simp only [State.unknownNumber]; split <;> simp

@[simp] theorem line_unknownNumber (s : State) (number : Nat) (o : Port) :
    ((s.unknownNumber number).port o).line = (s.port o).line := by
  simp only [State.unknownNumber]; split <;> simp

@[simp] theorem pool_unknownNumber (s : State) (number : Nat) :
    (s.unknownNumber number).pool = s.pool := by
  simp only [State.unknownNumber]; split <;> simp

@[simp] theorem ret_unknownNumber (s : State) (number : Nat) (w : Fin 8) :
    (s.unknownNumber number).ret w = s.ret w := by
  simp only [State.unknownNumber]; split <;> simp

@[simp] theorem motor_unknownNumber (s : State) (number : Nat) (w : Fin 8) :
    ((s.unknownNumber number).pair w).motor = (s.pair w).motor := by
  simp only [State.unknownNumber]; split <;> simp

@[simp] theorem lane_unknownNumber (s : State) (number : Nat) (j : Fin 16) :
    (s.unknownNumber number).lane j = s.lane j := by
  simp only [State.unknownNumber]; split <;> simp

@[simp] theorem session_unknownNumber (s : State) (number : Nat) (j : Fin 16) :
    (s.unknownNumber number).session j = s.session j := by
  simp [State.session]

/-! ### setClock -/

/-! ### setLayout -/

/-! ### setPrices -/

/-! ### afterCredit -/

@[simp] theorem chip_afterCredit (s : State) (l : Fin 16) :
    (s.afterCredit l).chip = s.chip := by
  simp only [State.afterCredit]; (repeat' split) <;> simp

@[simp] theorem line_afterCredit (s : State) (l : Fin 16) (o : Port) :
    ((s.afterCredit l).port o).line = (s.port o).line := by
  simp only [State.afterCredit]; (repeat' split) <;> simp

@[simp] theorem pairOther_afterCredit (s : State) (l : Fin 16) (w : Fin 8) (h : w ≠ pairOf l) :
    (s.afterCredit l).pair w = s.pair w := by
  simp only [State.afterCredit]; (repeat' split) <;> simp [h]

@[simp] theorem motor_afterCredit (s : State) (l : Fin 16) (w : Fin 8) :
    ((s.afterCredit l).pair w).motor = (s.pair w).motor := by
  simp only [State.afterCredit]; (repeat' split) <;> simp

@[simp] theorem out_afterCredit (s : State) (l : Fin 16) (j : Fin 16) :
    ((s.afterCredit l).lane j).out = (s.lane j).out := by
  simp only [State.afterCredit]; (repeat' split) <;> simp

/-! ### addCredit -/

@[simp] theorem chip_addCredit (s : State) (l : Fin 16) (amount : Nat) :
    (s.addCredit l amount).chip = s.chip := by
  simp [State.addCredit]

@[simp] theorem line_addCredit (s : State) (l : Fin 16) (amount : Nat) (o : Port) :
    ((s.addCredit l amount).port o).line = (s.port o).line := by
  simp [State.addCredit]

@[simp] theorem pairOther_addCredit (s : State) (l : Fin 16) (amount : Nat) (w : Fin 8) (h : w ≠ pairOf l) :
    (s.addCredit l amount).pair w = s.pair w := by
  simp only [State.addCredit]; (repeat' split) <;> simp [h]

@[simp] theorem motor_addCredit (s : State) (l : Fin 16) (amount : Nat) (w : Fin 8) :
    ((s.addCredit l amount).pair w).motor = (s.pair w).motor := by
  simp [State.addCredit]

@[simp] theorem out_addCredit (s : State) (l : Fin 16) (amount : Nat) (j : Fin 16) :
    ((s.addCredit l amount).lane j).out = (s.lane j).out := by
  simp [State.addCredit]

/-! ### takeSlip -/

@[simp] theorem chip_takeSlip (s : State) (p : Port) :
    (s.takeSlip p).state.chip = s.chip := by
  simp only [State.takeSlip]; split <;> simp

@[simp] theorem line_takeSlip (s : State) (p : Port) (o : Port) :
    ((s.takeSlip p).state.port o).line = (s.port o).line := by
  simp only [State.takeSlip]; split <;> simp

@[simp] theorem directory_takeSlip (s : State) (p : Port) :
    (s.takeSlip p).state.directory = s.directory := by
  simp only [State.takeSlip]; split <;> simp

@[simp] theorem ret_takeSlip (s : State) (p : Port) (w : Fin 8) :
    (s.takeSlip p).state.ret w = s.ret w := by
  simp only [State.takeSlip]; split <;> simp

@[simp] theorem turn_takeSlip (s : State) (p : Port) (w : Fin 8) :
    (s.takeSlip p).state.turn w = s.turn w := by
  simp only [State.takeSlip]; split <;> simp

@[simp] theorem pair_takeSlip (s : State) (p : Port) (w : Fin 8) :
    (s.takeSlip p).state.pair w = s.pair w := by
  simp only [State.takeSlip]; split <;> simp

@[simp] theorem lane_takeSlip (s : State) (p : Port) (j : Fin 16) :
    (s.takeSlip p).state.lane j = s.lane j := by
  simp only [State.takeSlip]; split <;> simp

@[simp] theorem session_takeSlip (s : State) (p : Port) (j : Fin 16) :
    (s.takeSlip p).state.session j = s.session j := by
  simp [State.session]

/-! ### fetchSlip -/

@[simp] theorem chip_fetchSlip (s : State) (p : Port) :
    (s.fetchSlip p).state.chip = s.chip := by
  simp only [State.fetchSlip]; split <;> simp

@[simp] theorem line_fetchSlip (s : State) (p : Port) (o : Port) :
    ((s.fetchSlip p).state.port o).line = (s.port o).line := by
  simp only [State.fetchSlip]; split <;> simp

@[simp] theorem directory_fetchSlip (s : State) (p : Port) :
    (s.fetchSlip p).state.directory = s.directory := by
  simp only [State.fetchSlip]; split <;> simp

@[simp] theorem ret_fetchSlip (s : State) (p : Port) (w : Fin 8) :
    (s.fetchSlip p).state.ret w = s.ret w := by
  simp only [State.fetchSlip]; split <;> simp

@[simp] theorem turn_fetchSlip (s : State) (p : Port) (w : Fin 8) :
    (s.fetchSlip p).state.turn w = s.turn w := by
  simp only [State.fetchSlip]; split <;> simp

@[simp] theorem pair_fetchSlip (s : State) (p : Port) (w : Fin 8) :
    (s.fetchSlip p).state.pair w = s.pair w := by
  simp only [State.fetchSlip]; split <;> simp

@[simp] theorem lane_fetchSlip (s : State) (p : Port) (j : Fin 16) :
    (s.fetchSlip p).state.lane j = s.lane j := by
  simp only [State.fetchSlip]; split <;> simp

@[simp] theorem session_fetchSlip (s : State) (p : Port) (j : Fin 16) :
    (s.fetchSlip p).state.session j = s.session j := by
  simp [State.session]

/-! ### postSlip -/

@[simp] theorem chip_postSlip (s : State) (n : Fin 64) (dest : Port) :
    (s.postSlip n dest).chip = s.chip := by
  simp [State.postSlip]

@[simp] theorem line_postSlip (s : State) (n : Fin 64) (dest : Port) (o : Port) :
    ((s.postSlip n dest).port o).line = (s.port o).line := by
  simp [State.postSlip]

@[simp] theorem directory_postSlip (s : State) (n : Fin 64) (dest : Port) :
    (s.postSlip n dest).directory = s.directory := by
  simp [State.postSlip]

@[simp] theorem ret_postSlip (s : State) (n : Fin 64) (dest : Port) (w : Fin 8) :
    (s.postSlip n dest).ret w = s.ret w := by
  simp [State.postSlip]

@[simp] theorem turn_postSlip (s : State) (n : Fin 64) (dest : Port) (w : Fin 8) :
    (s.postSlip n dest).turn w = s.turn w := by
  simp [State.postSlip]

@[simp] theorem pair_postSlip (s : State) (n : Fin 64) (dest : Port) (w : Fin 8) :
    (s.postSlip n dest).pair w = s.pair w := by
  simp [State.postSlip]

@[simp] theorem lane_postSlip (s : State) (n : Fin 64) (dest : Port) (j : Fin 16) :
    (s.postSlip n dest).lane j = s.lane j := by
  simp [State.postSlip]

@[simp] theorem session_postSlip (s : State) (n : Fin 64) (dest : Port) (j : Fin 16) :
    (s.postSlip n dest).session j = s.session j := by
  simp [State.session]

/-! ### portBreak -/

@[simp] theorem chip_portBreak (s : State) (p : Port) :
    (portBreak p s).chip = s.chip := by
  simp only [portBreak]; split <;> simp

@[simp] theorem directory_portBreak (s : State) (p : Port) :
    (portBreak p s).directory = s.directory := by
  simp only [portBreak]; split <;> simp

@[simp] theorem ret_portBreak (s : State) (p : Port) (w : Fin 8) :
    (portBreak p s).ret w = s.ret w := by
  simp only [portBreak]; split <;> simp

@[simp] theorem turn_portBreak (s : State) (p : Port) (w : Fin 8) :
    (portBreak p s).turn w = s.turn w := by
  simp only [portBreak]; split <;> simp

@[simp] theorem pair_portBreak (s : State) (p : Port) (w : Fin 8) :
    (portBreak p s).pair w = s.pair w := by
  simp only [portBreak]; split <;> simp

@[simp] theorem lane_portBreak (s : State) (p : Port) (j : Fin 16) :
    (portBreak p s).lane j = s.lane j := by
  simp only [portBreak]; split <;> simp

@[simp] theorem session_portBreak (s : State) (p : Port) (j : Fin 16) :
    (portBreak p s).session j = s.session j := by
  simp [State.session]

/-! ### lineReturnsToMark -/

@[simp] theorem chip_lineReturnsToMark (s : State) (p : Port) :
    (lineReturnsToMark p s).chip = s.chip := by
  simp [lineReturnsToMark]

@[simp] theorem directory_lineReturnsToMark (s : State) (p : Port) :
    (lineReturnsToMark p s).directory = s.directory := by
  simp [lineReturnsToMark]

@[simp] theorem pool_lineReturnsToMark (s : State) (p : Port) :
    (lineReturnsToMark p s).pool = s.pool := by
  simp [lineReturnsToMark]

@[simp] theorem ret_lineReturnsToMark (s : State) (p : Port) (w : Fin 8) :
    (lineReturnsToMark p s).ret w = s.ret w := by
  simp [lineReturnsToMark]

@[simp] theorem turn_lineReturnsToMark (s : State) (p : Port) (w : Fin 8) :
    (lineReturnsToMark p s).turn w = s.turn w := by
  simp [lineReturnsToMark]

@[simp] theorem pair_lineReturnsToMark (s : State) (p : Port) (w : Fin 8) :
    (lineReturnsToMark p s).pair w = s.pair w := by
  simp [lineReturnsToMark]

@[simp] theorem lane_lineReturnsToMark (s : State) (p : Port) (j : Fin 16) :
    (lineReturnsToMark p s).lane j = s.lane j := by
  simp [lineReturnsToMark]

@[simp] theorem session_lineReturnsToMark (s : State) (p : Port) (j : Fin 16) :
    (lineReturnsToMark p s).session j = s.session j := by
  simp [State.session]

/-! ### frameTruncated -/

@[simp] theorem chip_frameTruncated (s : State) (p : Port) :
    (frameTruncated p s).chip = s.chip := by
  simp only [frameTruncated]; split <;> simp

@[simp] theorem directory_frameTruncated (s : State) (p : Port) :
    (frameTruncated p s).directory = s.directory := by
  simp only [frameTruncated]; split <;> simp

@[simp] theorem pool_frameTruncated (s : State) (p : Port) :
    (frameTruncated p s).pool = s.pool := by
  simp only [frameTruncated]; split <;> simp

@[simp] theorem ret_frameTruncated (s : State) (p : Port) (w : Fin 8) :
    (frameTruncated p s).ret w = s.ret w := by
  simp only [frameTruncated]; split <;> simp

@[simp] theorem turn_frameTruncated (s : State) (p : Port) (w : Fin 8) :
    (frameTruncated p s).turn w = s.turn w := by
  simp only [frameTruncated]; split <;> simp

@[simp] theorem pair_frameTruncated (s : State) (p : Port) (w : Fin 8) :
    (frameTruncated p s).pair w = s.pair w := by
  simp only [frameTruncated]; split <;> simp

@[simp] theorem lane_frameTruncated (s : State) (p : Port) (j : Fin 16) :
    (frameTruncated p s).lane j = s.lane j := by
  simp only [frameTruncated]; split <;> simp

@[simp] theorem session_frameTruncated (s : State) (p : Port) (j : Fin 16) :
    (frameTruncated p s).session j = s.session j := by
  simp [State.session]

/-! ### storeEnd -/

@[simp] theorem directory_storeEnd (s : State) (result : StoreResult) :
    (storeEnd result s).directory = s.directory := by
  simp only [storeEnd]; split <;> simp

@[simp] theorem pool_storeEnd (s : State) (result : StoreResult) :
    (storeEnd result s).pool = s.pool := by
  simp only [storeEnd]; split <;> simp

@[simp] theorem ret_storeEnd (s : State) (result : StoreResult) (w : Fin 8) :
    (storeEnd result s).ret w = s.ret w := by
  simp only [storeEnd, port_modPort]; split <;> rfl

@[simp] theorem turn_storeEnd (s : State) (result : StoreResult) (w : Fin 8) :
    (storeEnd result s).turn w = s.turn w := by
  simp only [storeEnd, port_modPort]; split <;> rfl

@[simp] theorem pair_storeEnd (s : State) (result : StoreResult) (w : Fin 8) :
    (storeEnd result s).pair w = s.pair w := by
  simp only [storeEnd, port_modPort]; split <;> rfl

@[simp] theorem lane_storeEnd (s : State) (result : StoreResult) (j : Fin 16) :
    (storeEnd result s).lane j = s.lane j := by
  simp only [storeEnd, port_modPort]; split <;> rfl

@[simp] theorem session_storeEnd (s : State) (result : StoreResult) (j : Fin 16) :
    (storeEnd result s).session j = s.session j := by
  simp [State.session]

/-! ### setRx -/

@[simp] theorem chip_setRx (s : State) (p : Port) (m : RxMode) :
    (s.setRx p m).chip = s.chip := by
  simp [State.setRx]

@[simp] theorem directory_setRx (s : State) (p : Port) (m : RxMode) :
    (s.setRx p m).directory = s.directory := by
  simp [State.setRx]

@[simp] theorem pool_setRx (s : State) (p : Port) (m : RxMode) :
    (s.setRx p m).pool = s.pool := by
  simp [State.setRx]

@[simp] theorem ret_setRx (s : State) (p : Port) (m : RxMode) (w : Fin 8) :
    (s.setRx p m).ret w = s.ret w := by
  simp [State.setRx]

@[simp] theorem turn_setRx (s : State) (p : Port) (m : RxMode) (w : Fin 8) :
    (s.setRx p m).turn w = s.turn w := by
  simp [State.setRx]

@[simp] theorem pair_setRx (s : State) (p : Port) (m : RxMode) (w : Fin 8) :
    (s.setRx p m).pair w = s.pair w := by
  simp [State.setRx]

@[simp] theorem lane_setRx (s : State) (p : Port) (m : RxMode) (j : Fin 16) :
    (s.setRx p m).lane j = s.lane j := by
  simp [State.setRx]

@[simp] theorem session_setRx (s : State) (p : Port) (m : RxMode) (j : Fin 16) :
    (s.setRx p m).session j = s.session j := by
  simp [State.session]

/-! ### endReply -/

@[simp] theorem chip_endReply (s : State) (p : Port) :
    (s.endReply p).chip = s.chip := by
  simp [State.endReply]

@[simp] theorem directory_endReply (s : State) (p : Port) :
    (s.endReply p).directory = s.directory := by
  simp [State.endReply]

@[simp] theorem pool_endReply (s : State) (p : Port) :
    (s.endReply p).pool = s.pool := by
  simp [State.endReply]

@[simp] theorem ret_endReply (s : State) (p : Port) (w : Fin 8) :
    (s.endReply p).ret w = s.ret w := by
  simp [State.endReply]

@[simp] theorem turn_endReply (s : State) (p : Port) (w : Fin 8) :
    (s.endReply p).turn w = s.turn w := by
  simp [State.endReply]

@[simp] theorem pair_endReply (s : State) (p : Port) (w : Fin 8) :
    (s.endReply p).pair w = s.pair w := by
  simp [State.endReply]

@[simp] theorem lane_endReply (s : State) (p : Port) (j : Fin 16) :
    (s.endReply p).lane j = s.lane j := by
  simp [State.endReply]

@[simp] theorem session_endReply (s : State) (p : Port) (j : Fin 16) :
    (s.endReply p).session j = s.session j := by
  simp [State.session]

end Sys2Proof.Machine
end

