-- ==== Sys2Proof/Laws/Image.lean ====
section
/-! SUPPORT. The settings image read back (R199): the numbers of a line read as they were written, and the image of
settings in their ranges spells those settings. -/

namespace Sys2Proof.Machine

/-! ## Numbers on a line -/

theorem foldl_writeNat (w n a : Nat) :
    (writeNat w n).foldl (fun n b => n * 256 + b.toNat) a = a * 256 ^ w + n % 256 ^ w := by
  induction w generalizing a with
  | zero => simp [writeNat, Nat.mod_one]
  | succ w ih =>
    simp only [writeNat, List.foldl_cons, ih, BitVec.toNat_ofNat]
    rw [show n % 256 ^ (w + 1) = _ from Nat.mod_pow_succ, show (2 : Nat) ^ 8 = 256 from rfl]
    generalize n / 256 ^ w % 256 = q
    generalize n % 256 ^ w = r
    ring

theorem readNat_writeNat {w n : Nat} (h : n < 256 ^ w) : readNat (writeNat w n) = n := by
  simp [readNat, foldl_writeNat, Nat.mod_eq_of_lt h]

@[simp] theorem length_writeNat (w n : Nat) : (writeNat w n).length = w := by
  induction w with
  | zero => rfl
  | succ w ih => simp [writeNat, ih]

/-- Numbers that fit their widths are read as they were written. -/
theorem readFields_writeFields {ws ns : List Nat} (h : List.Forall₂ (fun w n => n < 256 ^ w) ws ns) :
    readFields ws (writeFields ws ns) = some ns := by
  induction h with
  | nil => rfl
  | cons hn _ ih =>
    simp [writeFields, readFields, ih, readNat_writeNat hn]

/-! ## The values of the image -/

theorem forall₂_flatMap {α : Type} {r : Nat → Nat → Prop} {layout : List Nat} {f : α → List Nat} (xs : List α)
    (h : ∀ x ∈ xs, List.Forall₂ r layout (f x)) :
    List.Forall₂ r (List.replicate xs.length layout).flatten (xs.flatMap f) := by
  induction xs with
  | nil => exact .nil
  | cons x xs ih =>
    simp only [List.length_cons, List.replicate_succ, List.flatten_cons, List.flatMap_cons]
    exact List.rel_append (h x (.head _)) (ih fun y hy => h y (.tail _ hy))

theorem length_flatMap_const {α : Type} {f : α → List Nat} {m : Nat} (xs : List α) (hf : ∀ x, (f x).length = m) :
    (xs.flatMap f).length = m * xs.length := by
  induction xs with
  | nil => simp
  | cons x xs ih => rw [List.flatMap_cons, List.length_append, hf, ih, List.length_cons, Nat.mul_succ, Nat.add_comm]

theorem getD_flatMap {α : Type} {f : α → List Nat} {m j : Nat} (xs : List α) (hf : ∀ x, (f x).length = m) (hj : j < m)
    (i : Nat) (hi : i < xs.length) : (xs.flatMap f).getD (m * i + j) 0 = (f xs[i]).getD j 0 := by
  induction xs generalizing i with
  | nil => simp at hi
  | cons x xs ih =>
    rw [List.flatMap_cons]
    cases i with
    | zero => rw [List.getD_append _ _ _ _ (by rw [hf]; omega)]; simp
    | succ i =>
      rw [List.getD_append_right _ _ _ _ (by rw [hf]; rw [Nat.mul_succ]; omega), hf,
        show m * (i + 1) + j - m = m * i + j by rw [Nat.mul_succ]; omega, ih i (by simpa using hi)]
      rfl

/-! ## The prices -/

@[simp] theorem Tariff.length_allPrices (t : Tariff) : t.allPrices.length = 64 := by simp [Tariff.allPrices]

theorem Tariff.getElem_allPrices_prices (t : Tariff) {i : Nat} (h : i < 32) :
    t.allPrices[i]'(by simp; omega) = t.prices[i] := by
  simp [Tariff.allPrices, List.getElem_append_left, h]

theorem Tariff.getElem_allPrices_further (t : Tariff) {i : Nat} (h : i < 32) :
    t.allPrices[32 + i]'(by simp; omega) = t.further[i] := by
  simp [Tariff.allPrices, List.getElem_append_right]

/-! ## The image -/

/-- Settings in their ranges fit the widths of the image. -/
theorem fields_fit {c : SettingsCopy} (h : c.good = true) :
    List.Forall₂ (fun w n => n < 256 ^ w) imageLayout c.fields := by
  have split : imageLayout =
      [1, 1, 1, 1, 1, 2, 2, 2, 2, 2, 1, 2] ++ ((List.replicate c.tariff.allPrices.length [2, 2]).flatten ++
        ((List.replicate c.lanes.toList.length [1, 1, 1, 1]).flatten ++
          ((List.replicate c.pairs.toList.length [1, 2, 1, 2]).flatten ++
            (List.replicate c.ranges.toList.length [1, 2, 2, 2]).flatten))) := by
    simp only [Tariff.length_allPrices, Vector.length_toList]; rfl
  simp only [SettingsCopy.good, PinsetterTimers.good, ReturnSettings.good, BillingSettings.good, Tariff.good, layoutIn,
    unitIn, within, Bool.and_eq_true, decide_eq_true_eq, List.all_eq_true, PairSettings.good, RangeEntry.good,
    inBowlers, beq_iff_eq, Bool.or_eq_true] at h
  obtain ⟨⟨⟨⟨⟨⟨timers, ret⟩, billing⟩, layout, prices⟩, lanes⟩, pairs⟩, ranges⟩ := h
  rw [split]
  refine List.rel_append ?_ (List.rel_append (forall₂_flatMap _ fun x hx => ?_) (List.rel_append
    (forall₂_flatMap _ fun x hx => ?_) (List.rel_append (forall₂_flatMap _ fun x hx => ?_)
      (forall₂_flatMap _ fun x hx => ?_))))
  · simp only [SettingsCopy.sectionFields, List.forall₂_cons, List.Forall₂.nil, and_true, Nat.reducePow]
    omega
  · have := prices x hx
    simp only [Price.fields, List.forall₂_cons, List.Forall₂.nil, and_true, Nat.reducePow]
    omega
  · have := lanes x hx
    have mask : x.parkMask.toNat < 16 := by
      rcases x.parkMask with ⟨a, b, c, d⟩
      revert a b c d; decide
    have := Bool.toNat_le x.foulDetection
    have := Bool.toNat_le x.pinLamps
    simp only [LaneSettings.fields, List.forall₂_cons, List.Forall₂.nil, and_true, Nat.reducePow]
    omega
  · have := pairs x hx
    simp only [PairSettings.fields, List.forall₂_cons, List.Forall₂.nil, and_true, Nat.reducePow]
    omega
  · have := ranges x hx
    have := Bool.toNat_le x.enabled
    simp only [RangeEntry.fields, List.forall₂_cons, List.Forall₂.nil, and_true, Nat.reducePow]
    omega

/-- Past the front part of a list. -/
theorem getD_past {xs ys : List Nat} {n k : Nat} (h : xs.length = n) : (xs ++ ys).getD (n + k) 0 = ys.getD k 0 := by
  rw [List.getD_append_right _ _ _ _ (by omega), h, Nat.add_sub_cancel_left]

/-- A value of one of the parts that stand between others. -/
theorem getD_part {α : Type} {f : α → List Nat} {m j i : Nat} {xs : List α} {ys : List Nat} (hf : ∀ x, (f x).length = m)
    (hj : j < m) (hi : i < xs.length) : (xs.flatMap f ++ ys).getD (m * i + j) 0 = (f xs[i]).getD j 0 := by
  rw [List.getD_append _ _ _ _ (by rw [length_flatMap_const xs hf]; nlinarith), getD_flatMap xs hf hj i hi]

@[simp] theorem length_price (x : Price) : x.fields.length = 2 := rfl
@[simp] theorem length_laneSettings (x : LaneSettings) : x.fields.length = 4 := rfl
@[simp] theorem length_pairSettings (x : PairSettings) : x.fields.length = 4 := rfl
@[simp] theorem length_rangeEntry (x : RangeEntry) : x.fields.length = 4 := rfl

/-- A price of the image by its place among all 64 pairs. -/
theorem getD_price (c : SettingsCopy) {k j : Nat} (hk : k < c.tariff.allPrices.length) (h : j < 2) :
    c.fields.getD (12 + (2 * k + j)) 0 = c.tariff.allPrices[k].fields.getD j 0 := by
  rw [SettingsCopy.fields, getD_past (n := 12) rfl, getD_part length_price h hk]

theorem getD_lane (c : SettingsCopy) (l : Fin 16) (j : Nat) (h : j < 4) :
    c.fields.getD (12 + (128 + (4 * l + j))) 0 = c.lanes[l].fields.getD j 0 := by
  rw [SettingsCopy.fields, getD_past (n := 12) rfl, getD_past (by simp),
    getD_part length_laneSettings h (by simp)]
  simp

theorem getD_pair (c : SettingsCopy) (p : Fin 8) (j : Nat) (h : j < 4) :
    c.fields.getD (12 + (128 + (64 + (4 * p + j)))) 0 = c.pairs[p].fields.getD j 0 := by
  rw [SettingsCopy.fields, getD_past (n := 12) rfl, getD_past (by simp),
    getD_past (by simp), getD_part length_pairSettings h (by simp)]
  simp

theorem getD_range (c : SettingsCopy) (r : Fin 8) (j : Nat) (h : j < 4) :
    c.fields.getD (12 + (128 + (64 + (32 + (4 * r + j))))) 0 = c.ranges[r].fields.getD j 0 := by
  rw [SettingsCopy.fields, getD_past (n := 12) rfl, getD_past (by simp),
    getD_past (by simp),
    getD_past (by simp), getD_flatMap _ length_rangeEntry h _ (by simp)]
  simp

theorem ofNat_toNat (m : WakeMask) : WakeMask.ofNat m.toNat = m := by
  rcases m with ⟨a, b, c, d⟩
  revert a b c d; decide

/-- The values of the image spell the settings they were taken from. -/
theorem ofFields_fields (c : SettingsCopy) : SettingsCopy.ofFields (fun i => c.fields.getD i 0) = c := by
  have prices : (Vector.ofFn fun k : Fin 32 =>
      (⟨c.fields.getD (12 + 2 * k) 0, c.fields.getD (13 + 2 * k) 0⟩ : Price)) = c.tariff.prices := by
    ext1 i hi
    have v (j : Nat) (h : j < 2) := getD_price c (k := i) (by simp; omega) h
    simp only [Vector.getElem_ofFn]
    rw [show 12 + 2 * i = 12 + (2 * i + 0) by omega, show 13 + 2 * i = 12 + (2 * i + 1) by omega,
      v 0 (by omega), v 1 (by omega), Tariff.getElem_allPrices_prices _ hi]
    rfl
  have further : (Vector.ofFn fun k : Fin 32 =>
      (⟨c.fields.getD (76 + 2 * k) 0, c.fields.getD (77 + 2 * k) 0⟩ : Price)) = c.tariff.further := by
    ext1 i hi
    have v (j : Nat) (h : j < 2) := getD_price c (k := 32 + i) (by simp; omega) h
    simp only [Vector.getElem_ofFn]
    rw [show 76 + 2 * i = 12 + (2 * (32 + i) + 0) by omega, show 77 + 2 * i = 12 + (2 * (32 + i) + 1) by omega,
      v 0 (by omega), v 1 (by omega), Tariff.getElem_allPrices_further _ hi]
    rfl
  have lanes : (Vector.ofFn fun l : Fin 16 =>
      (⟨c.fields.getD (140 + 4 * l) 0, c.fields.getD (141 + 4 * l) 0 == 1, WakeMask.ofNat (c.fields.getD (142 + 4 * l) 0),
        c.fields.getD (143 + 4 * l) 0 == 1⟩ : LaneSettings)) = c.lanes := by
    ext1 i hi
    have v := getD_lane c ⟨i, hi⟩
    simp only [Vector.getElem_ofFn]
    rw [show 140 + 4 * i = 12 + (128 + (4 * i + 0)) by omega, show 141 + 4 * i = 12 + (128 + (4 * i + 1)) by omega,
      show 142 + 4 * i = 12 + (128 + (4 * i + 2)) by omega, show 143 + 4 * i = 12 + (128 + (4 * i + 3)) by omega,
      v 0 (by omega), v 1 (by omega), v 2 (by omega), v 3 (by omega)]
    simp [LaneSettings.fields, ofNat_toNat]
  have pairs : (Vector.ofFn fun p : Fin 8 =>
      (⟨c.fields.getD (204 + 4 * p) 0, c.fields.getD (205 + 4 * p) 0, c.fields.getD (206 + 4 * p) 0,
        c.fields.getD (207 + 4 * p) 0⟩ : PairSettings)) = c.pairs := by
    ext1 i hi
    have v := getD_pair c ⟨i, hi⟩
    simp only [Vector.getElem_ofFn]
    rw [show 204 + 4 * i = 12 + (128 + (64 + (4 * i + 0))) by omega,
      show 205 + 4 * i = 12 + (128 + (64 + (4 * i + 1))) by omega,
      show 206 + 4 * i = 12 + (128 + (64 + (4 * i + 2))) by omega,
      show 207 + 4 * i = 12 + (128 + (64 + (4 * i + 3))) by omega,
      v 0 (by omega), v 1 (by omega), v 2 (by omega), v 3 (by omega)]
    rfl
  have ranges : (Vector.ofFn fun r : Fin 8 =>
      (⟨c.fields.getD (236 + 4 * r) 0 == 1, c.fields.getD (237 + 4 * r) 0, c.fields.getD (238 + 4 * r) 0,
        c.fields.getD (239 + 4 * r) 0⟩ : RangeEntry)) = c.ranges := by
    ext1 i hi
    have v := getD_range c ⟨i, hi⟩
    simp only [Vector.getElem_ofFn]
    rw [show 236 + 4 * i = 12 + (128 + (64 + (32 + (4 * i + 0)))) by omega,
      show 237 + 4 * i = 12 + (128 + (64 + (32 + (4 * i + 1)))) by omega,
      show 238 + 4 * i = 12 + (128 + (64 + (32 + (4 * i + 2)))) by omega,
      show 239 + 4 * i = 12 + (128 + (64 + (32 + (4 * i + 3)))) by omega,
      v 0 (by omega), v 1 (by omega), v 2 (by omega), v 3 (by omega)]
    simp [RangeEntry.fields]
  simp only [SettingsCopy.ofFields, prices, further, lanes, pairs, ranges]
  rfl

theorem writeFields_append {ws ns : List Nat} (ws' ns' : List Nat) (h : ws.length = ns.length) :
    writeFields (ws ++ ws') (ns ++ ns') = writeFields ws ns ++ writeFields ws' ns' := by
  induction ws generalizing ns with
  | nil => simp [List.length_eq_zero_iff.mp h.symm, writeFields]
  | cons w ws ih =>
    cases ns with
    | nil => simp at h
    | cons n ns => simp [writeFields, ih (Nat.succ.inj h), List.append_assoc]

theorem writeFields_prices (xs : List Price) :
    writeFields (List.replicate (2 * xs.length) 2) (xs.flatMap Price.fields) =
      xs.flatMap fun x => byte2 x.game ++ byte2 x.unit := by
  induction xs with
  | nil => rfl
  | cons x xs ih =>
    rw [List.length_cons, Nat.mul_succ, List.replicate_succ, List.replicate_succ, List.flatMap_cons, List.flatMap_cons,
      ← ih]
    simp [Price.fields, writeFields, writeNat, byte2]

/-- The image holds a game price and a unit price for each of the 64 pairs (R199), after its first 18 bytes. -/
theorem image_prices (c : SettingsCopy) :
    (c.image.drop 18).take 256 = c.tariff.allPrices.flatMap fun x => byte2 x.game ++ byte2 x.unit := by
  have split : imageLayout = [1, 1, 1, 1, 1, 2, 2, 2, 2, 2, 1, 2] ++ (List.replicate (2 * c.tariff.allPrices.length) 2 ++
      (List.replicate 64 1 ++ ((List.replicate 8 [1, 2, 1, 2]).flatten ++ (List.replicate 8 [1, 2, 2, 2]).flatten))) := by
    rw [Tariff.length_allPrices]; decide +kernel
  have front : (writeFields [1, 1, 1, 1, 1, 2, 2, 2, 2, 2, 1, 2] c.sectionFields).length = 18 := by
    simp [SettingsCopy.sectionFields, writeFields]
  have prices : (c.tariff.allPrices.flatMap fun x => byte2 x.game ++ byte2 x.unit).length = 256 := by
    simp [byte2]
  rw [SettingsCopy.image, SettingsCopy.fields, split, writeFields_append _ _ (by rfl),
    writeFields_append _ _ (by rw [length_flatMap_const _ length_price, List.length_replicate]), writeFields_prices,
    List.drop_left' front, List.take_left' prices]

/-- The image of settings in their ranges spells those settings (R199). -/
theorem ofImage_image {c : SettingsCopy} (h : c.good = true) : SettingsCopy.ofImage c.image = some c := by
  rw [SettingsCopy.ofImage, SettingsCopy.image, readFields_writeFields (fields_fit h), Option.map_some, ofFields_fields]

@[simp] theorem good_written (c : SettingsCopy) : c.written.good = true := by
  simp [ConfigMemory.good, SettingsCopy.written]

@[simp] theorem good_spoiled (m : ConfigMemory) : m.spoiled.good = false := by
  simp [ConfigMemory.good, ConfigMemory.spoiled]

/-- A load takes settings exactly where the memory answers, the check is good, and the data bytes are the image of
settings in their ranges (R199, R200). -/
theorem load_eq_some (m : ConfigMemory) (answers : Bool) (c : SettingsCopy) :
    m.load answers = some c ↔ answers = true ∧ m.good = true ∧ c.good = true ∧ m.data = c.image := by
  unfold ConfigMemory.load
  split
  · next h =>
    simp only [Bool.and_eq_true] at h
    simp only [Option.filter_eq_some_iff, Bool.and_eq_true, beq_iff_eq, h, true_and]
    constructor
    · rintro ⟨-, good, image⟩; exact ⟨good, image.symm⟩
    · rintro ⟨good, image⟩; exact ⟨by rw [image]; exact ofImage_image good, good, image.symm⟩
  · next h =>
    simp only [Bool.and_eq_true] at h
    simp only [reduceCtorEq, false_iff]
    exact fun e => h ⟨e.1, e.2.1⟩

/-- What a store has written, the next load takes (R199 to R201). -/
theorem load_written {c : SettingsCopy} (h : c.good = true) : c.written.load true = some c := by
  rw [load_eq_some]; exact ⟨rfl, good_written c, h, rfl⟩

end Sys2Proof.Machine
end

