-- ==== Sys2Proof/Laws/Inputs.lean ====
section
/-! SUPPORT. The scan of the inputs, line by line (R20): what it confirms, and which commands it gives. -/

namespace Sys2Proof.Machine

theorem getLsbD_confirms {n : Nat} (x : Scanned n) {k : Nat} (h : k < n) :
    x.confirms.getLsbD k =
      if x.wire.getLsbD k = x.seen.getLsbD k then x.wire.getLsbD k else x.confirmed.getLsbD k := by
  simp only [Scanned.confirms, Scanned.steady, BitVec.getLsbD_or, BitVec.getLsbD_and, BitVec.getLsbD_not,
    BitVec.getLsbD_xor, h, decide_true, Bool.true_and]
  cases x.wire.getLsbD k <;> cases x.seen.getLsbD k <;> simp

/-- A rise is confirmed where this scan and the one before find the line raised and it was not confirmed so. -/
theorem getLsbD_rises {n : Nat} (x : Scanned n) {k : Nat} (h : k < n) :
    x.rises.getLsbD k = (x.wire.getLsbD k && x.seen.getLsbD k && !x.confirmed.getLsbD k) := by
  simp only [Scanned.rises, BitVec.getLsbD_and, BitVec.getLsbD_not, getLsbD_confirms x h, h, decide_true,
    Bool.true_and]
  cases x.wire.getLsbD k <;> cases x.seen.getLsbD k <;> cases x.confirmed.getLsbD k <;> rfl

/-- A fall is confirmed where this scan and the one before find the line low and it was confirmed raised. -/
theorem getLsbD_falls {n : Nat} (x : Scanned n) {k : Nat} (h : k < n) :
    x.falls.getLsbD k = (x.confirmed.getLsbD k && !x.wire.getLsbD k && !x.seen.getLsbD k) := by
  simp only [Scanned.falls, BitVec.getLsbD_and, BitVec.getLsbD_not, getLsbD_confirms x h, h, decide_true,
    Bool.true_and]
  cases x.wire.getLsbD k <;> cases x.seen.getLsbD k <;> cases x.confirmed.getLsbD k <;> rfl

theorem mem_dueIf {c : Bool} {i j : Instr} : j ∈ dueIf c i ↔ c = true ∧ j = i := by
  cases c <;> simp [dueIf]

/-- A line held at its confirmed level gives nothing at a scan. -/
theorem scan_settled {n : Nat} (x : Scanned n) (a : x.seen = x.wire) (b : x.confirmed = x.wire) :
    x.rises = 0 ∧ x.falls = 0 ∧ x.scan = x := by
  have same : x.confirms = x.wire := BitVec.eq_of_getLsbD_eq fun k h => by rw [getLsbD_confirms x h, a, b]; simp
  obtain ⟨w, s, c⟩ := x
  simp only at a b same
  subst a b
  refine ⟨BitVec.eq_of_getLsbD_eq fun k h => ?_, BitVec.eq_of_getLsbD_eq fun k h => ?_, ?_⟩
  · simp [getLsbD_rises _ h]
  · simp [getLsbD_falls _ h]
  · simp [Scanned.scan, same]

end Sys2Proof.Machine
end

