-- ==== Sys2Proof/Laws/Serving.lean ====
section
/-! SUPPORT. Serving, said once: what a command at a port does when the port is idle, what a served request does
when a check refuses, and how the numbers on a line name lanes, pairs, slots and slips. -/

namespace Sys2Proof.Machine

/-! ## Numbers on a line -/

@[simp] theorem laneIx_laneNo (l : Fin 16) : laneIx (laneNo l) = l := by
  revert l; decide
@[simp] theorem pairIx_pairNo (p : Fin 8) : pairIx (pairNo p) = p := by
  revert p; decide
@[simp] theorem slotIx_slotNo (i : Fin 12) : slotIx (slotNo i) = i := by
  revert i; decide
@[simp] theorem slipIx_slipNo (n : Fin 64) : slipIx (slipNo n) = n := by
  revert n; decide
@[simp] theorem inLanes_laneNo (l : Fin 16) : inLanes (laneNo l) = true := by
  revert l; decide
@[simp] theorem inPairs_pairNo (p : Fin 8) : inPairs (pairNo p) = true := by
  revert p; decide
@[simp] theorem inSlots_slotNo (i : Fin 12) : inSlots (slotNo i) = true := by
  revert i; decide
@[simp] theorem inSlips_slipNo (n : Fin 64) : inSlips (slipNo n) = true := by
  revert n; decide

/-! ## Lanes and pairs -/

@[simp] theorem pairOf_laneAt (p : Fin 8) (sd : Side) : pairOf (laneAt p sd) = p := by
  cases sd <;> revert p <;> decide
@[simp] theorem sideOf_laneAt (p : Fin 8) (sd : Side) : sideOf (laneAt p sd) = sd := by
  cases sd <;> revert p <;> decide
@[simp] theorem laneAt_pairOf (l : Fin 16) : laneAt (pairOf l) (sideOf l) = l := by
  revert l; decide
@[simp] theorem pairOf_otherLane (l : Fin 16) : pairOf (otherLane l) = pairOf l := by
  revert l; decide
@[simp] theorem sideOf_otherLane (l : Fin 16) : sideOf (otherLane l) = (sideOf l).other := by
  revert l; decide
@[simp] theorem otherLane_otherLane (l : Fin 16) : otherLane (otherLane l) = l := by
  revert l; decide
theorem otherLane_ne (l : Fin 16) : otherLane l ≠ l := by
  revert l; decide
theorem lane_of_pair (l k : Fin 16) : pairOf k = pairOf l ↔ k = l ∨ k = otherLane l := by
  revert l k; decide
@[simp] theorem other_other (sd : Side) : sd.other.other = sd := by cases sd <;> rfl
theorem side_ne (sd : Side) : sd.other ≠ sd := by cases sd <;> decide

/-! ## Whom a console may name -/

@[simp] theorem ownsPair_dk (p : Fin 8) : ownsPair .dk p := by intro n h; cases h
@[simp] theorem ownsPair_mc (p : Fin 8) : ownsPair .mc p := by intro n h; cases h
@[simp] theorem ownsPair_console (n p : Fin 8) : ownsPair (.console n) p ↔ n = p :=
  ⟨fun h => h n rfl, fun h m e => by cases e; exact h⟩

theorem outsideLane_of_owns {q : Port} {l : Fin 16} (h : ownsPair q (pairOf l)) :
    outsideLane q (laneNo l) = false := by
  cases q with
  | dk => rfl
  | mc => rfl
  | console n =>
    rw [ownsPair_console] at h; subst h
    revert l; decide

theorem outsidePair_of_owns {q : Port} {p : Fin 8} (h : ownsPair q p) : outsidePair q (pairNo p) = false := by
  cases q with
  | dk => rfl
  | mc => rfl
  | console n =>
    rw [ownsPair_console] at h; subst h
    revert n; decide

/-! ## A served request -/

@[simp] theorem firstRefusal_nil : firstRefusal [] = none := rfl
@[simp] theorem firstRefusal_true (o : ReplyOutcome) (rest : List (Bool × ReplyOutcome)) :
    firstRefusal ((true, o) :: rest) = some o := rfl
@[simp] theorem firstRefusal_false (o : ReplyOutcome) (rest : List (Bool × ReplyOutcome)) :
    firstRefusal ((false, o) :: rest) = firstRefusal rest := rfl

theorem after_taken {s : State} {checks : List (Bool × ReplyOutcome)} {taken : Served}
    (h : firstRefusal checks = none) : Served.after s checks taken = taken := by
  simp [Served.after, h]

theorem after_refused {s : State} {checks : List (Bool × ReplyOutcome)} {taken : Served} {o : ReplyOutcome}
    (h : firstRefusal checks = some o) : Served.after s checks taken = ⟨s, o, []⟩ := by
  simp [Served.after, h]

/-- A request is refused with nothing changed, or taken. -/
theorem after_cases (s : State) (checks : List (Bool × ReplyOutcome)) (taken : Served) :
    (∃ o, firstRefusal checks = some o ∧ Served.after s checks taken = ⟨s, o, []⟩) ∨
      (firstRefusal checks = none ∧ Served.after s checks taken = taken) := by
  cases h : firstRefusal checks with
  | none => exact .inr ⟨rfl, after_taken h⟩
  | some o => exact .inl ⟨o, rfl, after_refused h⟩

/-! ## A frame at a port -/

/-- Every command that is a frame at a port is received there. -/
theorem exec_frame {i : Instr} {p : Port} (h : framePort i = some p) (s : State) :
    exec i s = .next (s.receive p i) := by
  cases i <;> simp [framePort, requestPlace] at h <;> subst h <;> rfl

/-- A frame at a port that receives is taken, and leaves the port in HUNT. -/
theorem receive_takes {s : State} {p : Port} (h : s.receives p) (i : Instr) :
    s.receive p i = (s.takeFrame p i).setRx p .hunt := by
  simp [State.receive, h.1, h.2]

theorem receive_idle {s : State} {p : Port} (h : s.idleAt p) (i : Instr) :
    s.receive p i = (s.serveAt p i).setRx p .hunt := by
  obtain ⟨h1, h3, h4⟩ := h
  simp [receive_takes h1, State.takeFrame, h3, h4]

theorem receive_waits {s : State} {p : Port} (h : s.receives p) (b : (s.port p).reply ≠ none ∨ (s.port p).queue ≠ [])
    (room : (s.port p).queue.length < 2) (i : Instr) :
    s.receive p i = s.modPort p fun x => { x with rx := .hunt, queue := x.queue ++ [i] } := by
  have h3 : ¬ ((s.port p).reply.isNone && (s.port p).queue.isEmpty) = true := by
    simp only [Bool.and_eq_true, Option.isNone_iff_eq_none, List.isEmpty_iff, not_and]
    intro e; rcases b with b | b
    · exact absurd e b
    · exact b
  simp only [receive_takes h, State.takeFrame, if_neg h3, if_pos room, State.setRx, modPort_modPort]

theorem receive_overruns {s : State} {p : Port} (h : s.receives p) (full : 2 ≤ (s.port p).queue.length) (i : Instr) :
    s.receive p i = s.modPort p fun x => { x.overran with rx := .hunt } := by
  have h3 : (s.port p).queue.isEmpty = false := by
    cases e : (s.port p).queue with
    | nil => rw [e] at full; simp at full
    | cons => rfl
  have h4 : ¬ (s.port p).queue.length < 2 := by omega
  simp [receive_takes h, State.takeFrame, State.setRx, h3, h4]

/-- A frame served with any outcome but FRAME begins its reply, puts the port in HUNT and does nothing else to the port. -/
theorem serveAt_replying {s : State} {p : Port} {i : Instr} (h : (serve i s).outcome ≠ .frame) :
    (s.serveAt p i).setRx p .hunt =
      (serve i s).state.replying p (echoOf i) (serve i s).outcome (serve i s).results := by
  simp [State.serveAt, State.setRx, State.replying, PortIf.answer, h]

/-- A request at an idle port: served, and its reply begun. -/
theorem exec_idle {i : Instr} {p : Port} {s : State} (hp : framePort i = some p) (h : s.idleAt p)
    (hf : (serve i s).outcome ≠ .frame) :
    exec i s = .next ((serve i s).state.replying p (echoOf i) (serve i s).outcome (serve i s).results) := by
  rw [exec_frame hp, receive_idle h, serveAt_replying hf]

/-! ## A reply begun -/

@[simp] theorem chip_replying (s : State) (p : Port) (b : Byte) (o : ReplyOutcome) (r : List Byte) :
    (s.replying p b o r).chip = s.chip := rfl
@[simp] theorem lane_replying (s : State) (p : Port) (b : Byte) (o : ReplyOutcome) (r : List Byte) (l : Fin 16) :
    (s.replying p b o r).lane l = s.lane l := rfl
@[simp] theorem pair_replying (s : State) (p : Port) (b : Byte) (o : ReplyOutcome) (r : List Byte) (q : Fin 8) :
    (s.replying p b o r).pair q = s.pair q := rfl
@[simp] theorem pool_replying (s : State) (p : Port) (b : Byte) (o : ReplyOutcome) (r : List Byte) :
    (s.replying p b o r).pool = s.pool := rfl
@[simp] theorem directory_replying (s : State) (p : Port) (b : Byte) (o : ReplyOutcome) (r : List Byte) :
    (s.replying p b o r).directory = s.directory := rfl
@[simp] theorem events_replying (s : State) (p q : Port) (b : Byte) (o : ReplyOutcome) (r : List Byte) :
    ((s.replying p b o r).port q).events = (s.port q).events := by
  simp only [State.replying, port_modPort]; split <;> rfl

end Sys2Proof.Machine
end

