-- ==== Sys2Proof/Tests/Slice0.lean ====
section
/-! SUPPORT. Own tests: ill-formed commands, one-step examples on small states, and for every statement with
hypotheses a state and operands that meet them. -/

namespace Sys2Proof.Tests

open Sys2Proof.Machine

set_option Elab.async false

/-! ## Small states -/

/-- The state a command leaves. -/
def after (c : Instr) (s : State) : State :=
  match exec c s with
  | .next t => t
  | _ => s

/-- The outcome and results of the reply in progress at a port. -/
def replyOf (s : State) (p : Port) : Option (ReplyOutcome × List Byte) := (s.port p).reply.map fun r => (r.outcome, r.results)

/-- The part loaded, with its clock set to 10:00:00. -/
def ready : State := { State.reset with loading := false, clock := ⟨10, 0, 0, false, 0⟩ }

/-- Lane 1 in a session, its pinsetter READY with the full rack standing. -/
def session (kind : MeterKind) (mode : MeterMode) (balance : Nat) (s : State) : State :=
  s.modLane 0 fun a =>
    { a with
      session := a.session.asOpen
      meter := some { Meter.fresh kind mode balance 600 with phase := .metered }
      sup := { a.sup with state := .ready, standing := some fullRack } }

/-- Lane 1 OPEN by games, prepaid with 10.00. -/
def opened : State := session .games .prepaid 1000 ready

/-- Lane 1's pinsetter changed. -/
def withSup (f : Supervisor → Supervisor) (s : State) : State := s.modSup 0 f

/-- Lane 1's session changed. -/
def withSession (f : Session → Session) (s : State) : State := s.modLane 0 fun a => { a with session := f a.session }

/-- Pair 1's Turn Unit changed. -/
def withTurn (f : TurnUnit → TurnUnit) (s : State) : State := s.modPair 0 fun a => { a with turn := f a.turn }

/-- Bowler 7 in slot 1, in game 1 at a frame and ball of a sheet. -/
def player (state : SlotState) (stage : GameStage) (frame ball : Nat) (sh : Sheet) : Slot :=
  { Slot.empty with
    bowler := some 7, state := state, game := some 1, stage := stage, frame := frame, ball := ball
    handicap := .value 0, sheet := some sh }

/-- Slot 1 at the head of lane 1's queue. -/
def seated (x : Slot) (s : State) : State :=
  withTurn (fun t => { t with queueOdd := [0], slots := t.slots.set 0 x }) s

/-- Bowler 7 UP on lane 1 at frame 1, ball 1. -/
def playing : State := seated (player .up .started 1 1 (Sheet.new 1)) opened

/-- No marks. -/
def noMarks : Marks := ⟨false, false, false, false⟩

/-- Bowler 7 in slot 1, UP, and bowler 9 in slot 2 behind. -/
def twoPlayers : State :=
  withTurn (fun t =>
    { t with queueOdd := [0, 1], slots := t.slots.set 1 { player .queued .waiting 1 1 (Sheet.new 1) with bowler := some 9 } })
    playing

/-- A ball past its DECK at frame 1, ball 1 of slot 1. -/
def ballAt (frame ball : Nat) : Delivery where
  step := .awaitingRead
  release := some 0
  cls := some .scored
  place := some ⟨0, 1, frame, ball⟩
  practice := none
  pre := some fullRack
  counted := none
  marks := noMarks
  travel := 0
  laneClosed := false

/-- A delivery released and not yet at its DECK. -/
def rolling : Delivery := { ballAt 1 1 with step := .awaitingDeck, cls := none, place := none, pre := none, travel := 6000 }

/-- Lane 1's pinsetter in a cycle. -/
def cycling (c : Cycle) (d : Option Delivery) (s : State) : State :=
  withSup (fun u => { u with state := .cycling, cycle := some c, delivery := d }) s

/-- A ball cycle that awaits its READ. -/
def ballCycle (kind : CycleKind) : Cycle := newCycle kind .ball 14 (some fullRack)

/-- A ball on its way in bowler 7's frame 1. -/
def inFlight : State :=
  cycling (ballCycle .first) (some (ballAt 1 1))
    (seated { player .up .started 1 1 (Sheet.new 1) with inFlight := true } opened)

/-- One record on pair 1's list. -/
def returning (overdue : Bool) (lift : LiftState) (s : State) : State :=
  s.modRet 0 fun r => { r with transit := [⟨.odd, 0, 0, overdue, false⟩], nextSeq := 1, created := 1, lift := lift, episodeOdd := overdue }

/-- A port with a reply in progress and frames that wait. -/
def replyingWith (queue : List Instr) : State :=
  ready.modPort .dk fun x => { x with reply := some ⟨0x11, .ok, []⟩, queue := queue }

/-- Slip 1 held by a port, with a body. -/
def holding (p : Port) (body : Option SlipBody) (s : State) : State :=
  s.modPool fun q =>
    { q with
      generalFree := q.generalFree.drop 1
      slips := q.slips.set 0 ⟨.held p, body, some (.port p), 1, .none⟩ }

/-- The snapshot of bowler 7's ball 1 of frame 1, at a set of pins. -/
def snap (pre : PinSet) (turnEnded : Bool) : Snapshot :=
  { takeSnapshot ⟨0, 1, 1, 1⟩ (Sheet.new 1) ((Sheet.new 1).addBall 1 pre 0x3FE noMarks) pre with turnEnded := turnEnded }

/-- Ball 1 of frame 1 read with one pin down, and its snapshot. -/
def snapped (pre : PinSet) (turnEnded : Bool) (state : SlotState) : State :=
  (seated (player state .inProgress 1 2 ((Sheet.new 1).addBall 1 pre 0x3FE noMarks)) opened).modLane 0 fun a =>
    { a with snapshot := some (snap pre turnEnded) }

/-! ## Ill-formed commands -/

theorem test_wellFormed_refuses_lane_requests :
    ([.openLane .dk 256 0 0 0 0, .openLane .dk 1 256 0 0 0, .openLane .dk 1 0 256 0 0, .openLane .dk 1 0 0 4294967296 0,
        .openLane .dk 1 0 0 0 256, .closeLane .dk 256, .parkLane .dk 256 0, .parkLane .dk 1 256, .resumeLane .dk 256,
        .setLaneSettings .dk 256 1 none none none none, .setLaneSettings .dk 0 256 none none none none,
        .setLaneSettings .dk 0 1 (some 256) none none none, .setLaneSettings .dk 0 1 none (some 256) none none,
        .setLaneSettings .dk 0 1 none none (some 256) none, .setLaneSettings .dk 0 1 none none none (some 256),
        .readLaneStatus .dk 256, .lockout .mc 256, .unlock .mc 256, .manualCycle .mc 256 0, .manualCycle .mc 1 256,
        .clearFault .mc 256 0, .clearFault .mc 1 256, .pinsSet .mc 256] : List Instr).all (fun i => !wellFormed i) =
      true := by decide

theorem test_wellFormed_refuses_pair_requests :
    ([.setPinsetterTimers .dk (some 256) none none none, .setPinsetterTimers .dk none (some 256) none none,
        .setPinsetterTimers .dk none none (some 256) none, .setPinsetterTimers .dk none none none (some 256),
        .readReturn .dk 256, .clearOverdue .mc 256 0, .clearOverdue .mc 1 256, .liftRestart .mc 256,
        .setReturnSettings .dk (some 256) none, .setReturnSettings .dk none (some 65536), .addBowler .dk 256 1 1,
        .addBowler .dk 1 256 1, .addBowler .dk 1 1 65536, .removeBowler .dk 256 1, .removeBowler .dk 1 256,
        .away .dk 256 1, .away .dk 1 256, .back .dk 256 1, .back .dk 1 256, .setPairMode .dk 256 0,
        .setPairMode .dk 1 256] : List Instr).all (fun i => !wellFormed i) = true := by decide

theorem test_wellFormed_refuses_game_requests :
    ([.setPairSettings .dk 256 none none none none, .setPairSettings .dk 1 (some 256) none none none,
        .setPairSettings .dk 1 none (some 65536) none none, .setPairSettings .dk 1 none none (some 256) none,
        .setPairSettings .dk 1 none none none (some 65536), .readRoster .dk 256, .readFrameSheet .dk 256 1 0,
        .readFrameSheet .dk 1 256 0, .readFrameSheet .dk 1 1 256, .reball .dk 256, .applyCorrection .dk 256,
        .supplyBowler .dk 65536 0 none, .supplyBowler .dk 1 65536 none, .supplyBowler .dk 1 0 (some 65536),
        .unknownBowler .dk 65536, .updateBowler .dk 65536 0 none, .updateBowler .dk 1 65536 none,
        .updateBowler .dk 1 0 (some 65536), .dropBowler .dk 65536, .setRangeEntry .dk 256 0 1 1 0,
        .setRangeEntry .dk 1 256 1 1 0, .setRangeEntry .dk 1 0 65536 1 0, .setRangeEntry .dk 1 0 1 65536 0,
        .setRangeEntry .dk 1 0 1 1 65536, .readBowler .dk 65536] : List Instr).all (fun i => !wellFormed i) = true := by
  decide

theorem test_wellFormed_refuses_billing_and_slip_requests :
    ([.setClock .dk 256 0 0, .setClock .dk 0 256 0, .setClock .dk 0 0 256, .setTariffLayout .dk 65536 1 15,
        .setTariffLayout .dk 0 256 15, .setTariffLayout .dk 0 1 65536, .setPrices .dk 256 1 none none,
        .setPrices .dk 0 256 none none, .setPrices .dk 0 1 (some 65536) none, .setPrices .dk 0 1 none (some 65536),
        .setBillingSettings .dk (some 65536) none none, .setBillingSettings .dk none (some 65536) none,
        .setBillingSettings .dk none none (some 65536), .addCredit .dk 256 1, .addCredit .dk 1 4294967296,
        .readMeter .dk 256, .writeSlip .dk 256 0 0 [0, 0, 0, 0, 0, 0], .writeSlip .dk 1 256 0 [0, 0, 0, 0, 0, 0],
        .writeSlip .dk 1 0 256 [0, 0, 0, 0, 0, 0], .writeSlip .dk 1 0 0 [0, 0, 0, 0, 0], .postSlip .dk 256 0,
        .postSlip .dk 1 256, .setOutcome .dk 256 1, .setOutcome .dk 1 256, .returnSlip .dk 256, .setMask .dk 65536,
        .clearAttention .dk 65536, .signal .dk 256] : List Instr).all (fun i => !wellFormed i) = true := by decide

theorem test_wellFormed_refuses_events :
    ([.unknownCode .dk 0x10, .unknownCode .dk 0x45, .frameReceived .dk [], .recordOverdue 0 [], .recordOverdue 0 [1, 1],
        .bandEdge 0, .bandEdge 9] : List Instr).all (fun i => !wellFormed i) = true := by decide

theorem test_wellFormed_takes_the_largest_values :
    ([.openLane .dk 255 255 255 4294967295 255, .addBowler .dk 255 255 65535, .setMask .dk 65535,
        .setLaneSettings .dk 255 255 (some 255) (some 255) (some 255) (some 255), .unknownCode .dk 0x46,
        .unknownCode .dk 0x0F, .bandEdge 1, .bandEdge 8] : List Instr).all wellFormed = true := by decide

/-! ## One step -/

theorem test_no_word_spells_a_command : decodeTableWord 8 0x10 = none ∧ State.reset.withFetchWord 8 0x10 = State.reset := by
  decide +kernel

theorem test_empty_queue_is_a_millisecond :
    (match step ready with | .next t => (t.now, t.clock.ms, t.pending) | _ => (0, 0, [])) = (1, 1, []) := by decide

/-- The state a step's outcome holds. -/
def stateOf (o : Host.Outcome State Fault Refusal) : Option State :=
  match o with
  | .next t => some t
  | _ => none

theorem test_front_command_runs :
    stateOf (step { ready with pending := [.release 0, .deck 0] }) =
      stateOf (exec (.release 0) { ready with pending := [.deck 0] }) := by decide +kernel

/-- Lane 1's six input lines, and pair 1's three, at the levels given. -/
def wired (lane : Scanned 6) (lift : Scanned 3) : State :=
  { ready with chain := { lanes := ready.chain.lanes.set 0 ⟨lane, 0x201⟩, lifts := ready.chain.lifts.set 0 lift } }

/-- The queue that a millisecond leaves, and lane 1's lines. -/
def scannedAs (s : State) : Option (List Instr × Scanned 6) :=
  (stateOf (step s)).map fun t => (t.pending, (t.chain.lanes[(0 : Fin 16)]).lines)

theorem test_scan_confirms_a_rise_once :
    scannedAs (wired ⟨1, 0, 0⟩ ⟨0, 0, 0⟩) = some ([], ⟨1, 1, 0⟩) ∧
      scannedAs (wired ⟨1, 1, 0⟩ ⟨0, 0, 0⟩) = some ([.release 0], ⟨1, 1, 1⟩) ∧
      scannedAs (wired ⟨1, 1, 1⟩ ⟨0, 0, 0⟩) = some ([], ⟨1, 1, 1⟩) ∧
      scannedAs (wired ⟨0, 1, 0⟩ ⟨0, 0, 0⟩) = some ([], ⟨0, 0, 0⟩) ∧
      scannedAs (wired ⟨0x3F, 0x3F, 0x01⟩ ⟨6, 6, 4⟩) =
        some ([.deck 0, .foul 0, .psRead 0 0x201, .psDone 0, .psJam 0, .rackFullOn 0], ⟨0x3F, 0x3F, 0x3F⟩) ∧
      scannedAs (wired ⟨0, 0, 0x3F⟩ ⟨1, 1, 6⟩) =
        some ([.liftArrive 0, .rackFullOff 0, .liftOverloadLow 0], ⟨0, 0, 0⟩) := by decide +kernel

/-! ### Requests on a lane -/

theorem test_open_lane :
    (let t := after (.openLane .dk 1 0 0 1000 2) ready
     (t.session 0, (t.lane 0).session.settings.priceClass, (t.lane 0).meter.map (·.balance), (t.lane 0).sup.state,
       (t.ret 0).lift)) = (.opened, 2, some 1000, .warming, .running) ∧
      replyOf (after (.openLane .dk 1 0 0 1000 2) ready) .dk = some (.ok, []) := by decide +kernel

theorem test_open_lane_needs_the_clock :
    replyOf (after (.openLane .dk 1 0 0 1000 0) { ready with clock := .initial }) .dk = some (.state, []) := by decide +kernel

theorem test_close_lane :
    (let t := after (.closeLane .dk 1) opened
     (t.session 0, (t.lane 0).meter, (t.lane 0).sup.state, replyOf t .dk)) =
      (.closed, none, .off,
        some (.ok, [1, 1, 0, 0, 0, 0, 0x03, 0xE8, 0, 0, 0, 0, 0, 0, 0x03, 0xE8, 0, 0, 0, 0, 0, 0, 0])) := by decide +kernel

theorem test_park_lane :
    (let t := after (.parkLane .dk 1 2) opened
     (t.session 0, (t.lane 0).session.light, (t.lane 0).session.wakeMask.ball, (t.lane 0).session.parkCause)) =
      (.parked, .dim, true, .desk) := by decide +kernel

theorem test_resume_lane :
    (let t := after (.resumeLane .dk 1) (withSession (·.asParked ⟨false, true, false, false⟩ .desk) opened)
     (t.session 0, (t.lane 0).session.light, replyOf t .dk)) = (.opened, .full, some (.ok, [])) := by decide +kernel

theorem test_set_lane_settings :
    (let t := after (.setLaneSettings .dk 2 1 none (some 1) none none) ready
     allLanes.all fun l => (t.lane l).session.settings.foulDetection) = true := by decide +kernel

theorem test_lockout_and_unlock :
    ((after (.lockout .mc 1) opened).lane 0).sup.state = .lockout ∧
      ((after (.unlock .mc 1) (withSup (fun u => { u with state := .lockout }) opened)).lane 0).sup.state = .warming ∧
      replyOf (after (.unlock .mc 1) opened) .mc = some (.state, []) := by decide +kernel

theorem test_manual_cycle :
    ((after (.manualCycle .mc 1 1) opened).lane 0).sup.cycle.map (fun c => (c.kind, c.origin, c.phase, c.timer)) =
      some (.final, .manual, .afterRead, 14000) := by decide +kernel

theorem test_pins_set :
    (let t := after (.pinsSet .mc 1) (withSup (fun u => { u with state := .handSet, handSet := some ⟨0x201, 0⟩ }) opened)
     ((t.lane 0).sup.state, (t.lane 0).sup.standing)) = (.ready, some 0x201) := by decide +kernel

theorem test_clear_fault_asks_for_the_pins :
    (let t := after (.clearFault .mc 1 0)
       (withSup (fun u =>
         { u with
           state := .fault
           fault := some ⟨.jam, .beforeRead, .ball, .first, some 0x201, none, false, false, none⟩ }) opened)
     ((t.lane 0).sup.state, (t.lane 0).sup.handSet.map (·.target))) = (.handSet, some 0x201) := by decide +kernel

theorem test_timers_in_range :
    (after (.setPinsetterTimers .mc (some 30) none (some 2) none) ready).timers = ⟨30, 14, 2, 10⟩ ∧
      replyOf (after (.setPinsetterTimers .mc (some 31) none none none) ready) .mc = some (.range, []) := by decide +kernel

/-! ### Requests on a return -/

theorem test_clear_overdue :
    (let t := after (.clearOverdue .mc 1 0) (returning true .running ready)
     ((t.ret 0).transit, (t.ret 0).writtenOff, (t.ret 0).episodeOdd, replyOf t .mc)) =
      ([], 1, false, some (.ok, [1])) := by decide +kernel

theorem test_lift_restart :
    ((after (.liftRestart .mc 1) (ready.modRet 0 fun r => { r with lift := .stall })).ret 0).lift = .running ∧
      replyOf (after (.liftRestart .mc 1) (ready.modRet 0 fun r => { r with lift := .stall, overload := true })) .mc =
        some (.state, []) := by decide +kernel

theorem test_return_settings_make_overdue :
    (let t := after (.setReturnSettings .mc (some 10) none)
       (ready.modRet 0 fun r => { r with transit := [⟨.odd, 0, 10000, false, false⟩], lift := .running })
     ((t.ret 0).transit.map (·.overdue), (t.ret 0).episodeOdd)) = ([true], true) := by decide +kernel

/-! ### Requests on a roster -/

theorem test_add_bowler_is_up :
    (let t := after (.addBowler .dk 1 1 7) opened
     ((t.slot 0 0).state, (t.slot 0 0).stage, (t.slot 0 0).game, (t.turn 0).queueOdd, t.directory.fetch)) =
      (.up, .started, some 1, [0], [7]) := by decide +kernel

theorem test_remove_bowler :
    (let t := after (.removeBowler .dk 1 1) playing
     (t.slot 0 0, (t.turn 0).queueOdd)) = (Slot.empty, []) := by decide +kernel

theorem test_away_and_back :
    ((after (.away .dk 1 1) playing).slot 0 0).state = .queued ∧ ((after (.away .dk 1 1) playing).slot 0 0).away = true ∧
      ((after (.back .dk 1 1) (seated { player .queued .started 1 1 (Sheet.new 1) with away := true } opened)).slot 0 0).state =
        .up := by decide +kernel

theorem test_pair_mode :
    ((after (.setPairMode .dk 1 1) playing).turn 0).mode = .alternate ∧
      replyOf (after (.setPairMode .dk 1 1) inFlight) .dk = some (.state, []) := by decide +kernel

theorem test_series_limit_makes_done :
    (let t := after (.setPairSettings .dk 1 (some 3) none none none)
       (withTurn (fun t =>
         { t with
           queueOdd := [0, 1]
           slots := t.slots.set 1 { player .queued .waiting 1 1 (Sheet.new 4) with bowler := some 9, finished := 3 } }) playing)
     ((t.slot 0 1).state, (t.slot 0 0).state, (t.turn 0).queueOdd)) = (.done, .up, [0]) := by decide +kernel

theorem test_pair_settings :
    ((after (.setPairSettings .dk 1 (some 3) none (some 80) none) ready).turn 0).settings = ⟨3, 220, 80, 100⟩ ∧
      replyOf (after (.setPairSettings (.console 0) 1 none (some 200) none none) ready) (.console 0) =
        some (.denied, []) := by decide +kernel

/-! ### Requests on games -/

theorem test_reball :
    (let t := after (.reball .dk 1) (snapped fullRack false .up)
     ((t.slot 0 0).frame, (t.slot 0 0).ball, (t.slot 0 0).sheet, (t.lane 0).snapshot, (t.lane 0).sup.state)) =
      (1, 1, some (Sheet.new 1), none, .cycling) := by decide +kernel

/-- Bowler 7's frame has ended, with no slot made UP, and bowler 9's turn has come to lane 1 since. -/
def reballAfterAppend : State :=
  (withTurn (fun t =>
    { t with
      mode := .alternate, queueOdd := [1], queueEven := [0]
      slots := (t.slots.set 0 (player .queued .inProgress 2 1 ((Sheet.new 1).addBall 1 fullRack 0 noMarks))).set 1
        { player .up .inProgress 2 1 (Sheet.new 1) with bowler := some 9 } }) opened).modLane 0 fun a =>
    { a with snapshot := some { snap fullRack true with nextLane := some .even } }

theorem test_reball_leaves_one_slot_up :
    (let t := after (.reball .dk 1) reballAfterAppend
     ((t.turn 0).queueOdd, (t.turn 0).queueEven, (t.slot 0 0).state, (t.slot 0 1).state)) =
      ([0, 1], [], .up, .queued) := by decide +kernel

theorem test_apply_correction :
    (let t := after (.applyCorrection .dk 1)
       (holding .dk (some (.correction 1 1 1 1 0x0FF)) (snapped fullRack false .queued))
     (replyOf t .dk, (t.slip 0).outcome,
       (t.slot 0 0).sheet.map fun sh => (frameAt sh.frames 1).balls.map fun b => (b.down, b.corrected))) =
      (some (.ok, [3, 0xFF]), .applied, some [(2, true)]) := by decide +kernel

/-- Section 5.11's kind of tenth frame: a strike, seven pins, three pins. -/
def tenth : List BallEntry :=
  [makeEntry true [] fullRack 0 noMarks, makeEntry true [makeEntry true [] fullRack 0 noMarks] fullRack 0x007 noMarks]

/-- The third ball stands on what the second left. -/
def third (after : PinSet) : List BallEntry := tenth ++ [makeEntry true tenth 0x007 after noMarks]

theorem test_correction_reaches_every_later_standing_ball :
    (correctedBalls (third 0) 1 0).map (fun b => (b.rack, b.pre, b.down)) =
        [(.fresh, fullRack, 10), (.fresh, fullRack, 7), (.standing, 0, 0)] ∧
      correctionRefusal true (third 0) 1 0 = none ∧ correctionRefusal true (third 1) 1 0 = some .conflict := by
  decide +kernel

/-! ### Requests on the Directory -/

theorem test_supply_bowler :
    (let t := after (.supplyBowler .dk 7 150 none)
       (seated { player .up .started 1 1 (Sheet.new 1) with handicap := .pending, source := .pending, fetch := .requested } opened)
     (replyOf t .dk, (t.slot 0 0).handicap, (t.slot 0 0).source)) =
      (some (.ok, [1, 0]), .value 63, .entry) := by decide +kernel

theorem test_unknown_bowler :
    ((after (.unknownBowler .dk 7)
      (seated { player .up .started 1 1 (Sheet.new 1) with handicap := .pending, source := .pending } opened)).slot 0 0).handicap =
        .value 0 := by decide +kernel

theorem test_update_and_drop_bowler :
    (after (.updateBowler .dk 9 200 (some 20)) ready).directory.entries[0] = ⟨true, 9, 200, some 20, true, false⟩ ∧
      replyOf (after (.dropBowler .dk 9) ready) .dk = some (.state, []) := by decide +kernel

theorem test_range_entry :
    (after (.setRangeEntry .dk 8 1 100 200 160) ready).directory.ranges[7] = ⟨true, 100, 200, 160⟩ := by decide +kernel

/-- Settings other than the factory's. -/
def settled : SettingsCopy :=
  { SettingsCopy.factory with
    timers := ⟨30, 29, 10, 20⟩
    tariff :=
      { SettingsCopy.factory.tariff with
        prices := Vector.replicate 32 ⟨65535, 258⟩, further := Vector.replicate 32 ⟨772, 1286⟩ } }

/-! ### Requests on billing -/

theorem test_clock_and_layout :
    (after (.setClock .dk 23 59 59) ready).clock = ⟨23, 59, 59, false, 0⟩ ∧
      replyOf (after (.setClock .dk 24 0 0) ready) .dk = some (.range, []) ∧
      (let t := after (.setTariffLayout .dk 600 4 240) ready
       (t.tariff.dayStart, t.tariff.bands, t.tariff.length)) = (600, 4, 240) := by decide +kernel

/-- R154: 64 pairs of prices, four bytes each, stand in the reply between the layout's L and the billing settings. -/
theorem test_tariff_reply_carries_64_pairs :
    (let t := { ready with tariff := settled.tariff }
     (t.tariffBytes.length, (t.tariffBytes.drop 12).take 4, (t.tariffBytes.drop 264).take 6)) =
      (12 + 64 * 4 + 6, [0xFF, 0xFF, 0x01, 0x02], [0x03, 0x04, 0x05, 0x06, 0x01, 0x2C]) := by decide +kernel

theorem test_prices_and_billing :
    (after (.setPrices .dk 3 8 (some 450) none) ready).tariff.prices[31] = ⟨450, 0⟩ ∧
      (after (.setBillingSettings .dk (some 60) none (some 0)) ready).billing = ⟨60, 600, 0⟩ ∧
      replyOf (after (.setBillingSettings .dk (some 90) none none) ready) .dk = some (.range, []) := by decide +kernel

theorem test_add_credit_holds_at_the_ceiling :
    (let t := after (.addCredit .dk 1 9999999) opened
     (replyOf t .dk, (t.lane 0).meter.map (·.balance))) =
      (some (.ok, [0, 0x0F, 0x3E, 0x57, 0, 0x0F, 0x42, 0x3F]), some 999999) := by decide +kernel

/-! ### Requests on slips -/

theorem test_take_and_write_slip :
    replyOf (after (.takeSlip (.console 0)) ready) (.console 0) = some (.ok, [1]) ∧
      ((after (.writeSlip (.console 0) 1 1 1 [0, 0, 0x01, 0xF4, 0xFF, 0xFF]) (holding (.console 0) none ready)).slip 0).origin =
        some (.port (.console 0)) := by decide +kernel

theorem test_post_and_fetch_slip :
    (after (.postSlip (.console 0) 1 0) (holding (.console 0) (some (.reballRequest 1)) ready)).pool.posts[0] = [0] ∧
      replyOf (after (.fetchSlip .dk) ready) .dk = some (.empty, []) := by decide +kernel

theorem test_set_outcome_and_return_slip :
    ((after (.setOutcome .dk 1 1) (holding .dk (some (.reballRequest 1)) ready)).slip 0).outcome = .granted ∧
      (after (.returnSlip .dk 1) (holding .dk none ready)).pool.generalFree.getLast? = some 0 := by decide +kernel

/-! ### Requests on the port and the part -/

theorem test_masks_and_signal :
    ((after (.setMask .dk 0x1) ready).port .dk).mask = 1 ∧
      ((after (.clearAttention .mc 0x4) (ready.modPort .mc fun x => { x with events := 0x6 })).port .mc).events = 2 ∧
      ((after (.signal (.console 0) 0) ready).port .dk).events ≠ 0 ∧
      replyOf (after (.signal (.console 0) 2) ready) (.console 0) = some (.denied, []) := by decide +kernel

theorem test_section_restart :
    (let t := after (.sectionRestart .dk) playing
     (t.session 0, t.slot 0 0, t.clock, replyOf t .dk)) = (.closed, Slot.empty, ⟨10, 0, 0, false, 0⟩, some (.ok, [])) := by
  decide +kernel

theorem test_store_settings :
    (after (.storeSettings .dk) ready).storing = some ready.settings ∧
      (let t := after (.storeEnd .written) { ready with storing := some ready.settings }
       (t.storing, t.memory.good)) = (none, true) := by decide +kernel

theorem test_image_bytes :
    settled.image.length = 442 ∧ settled.image.take 8 = [30, 29, 10, 20, 40, 0, 120, 0x01] ∧
      (settled.image.drop 18).take 4 = [0xFF, 0xFF, 0x01, 0x02] ∧
      (settled.image.drop 142).take 8 = [0xFF, 0xFF, 0x01, 0x02, 0x03, 0x04, 0x05, 0x06] ∧ settled.written.good = true ∧
      settled.written.spoiled.good = false := by decide +kernel

theorem test_load_takes_a_good_image :
    (let t := after (.settingsLoadEnd true) { State.reset with memory := settled.written }
     (t.loading, t.settings)) = (false, settled) ∧
      (after (.settingsLoadEnd true) { State.reset with memory := settled.written.spoiled }).settings =
        SettingsCopy.factory := by decide +kernel

/-! ### The line -/

theorem test_a_frame_is_the_request_it_carries :
    stateOf (exec (.frameReceived .dk ([0xA5, 0x02, 0x11, 0x01, 0xEC].map (⟨·, true⟩))) opened) =
      stateOf (exec (.closeLane .dk 1) opened) := by decide +kernel

theorem test_a_bad_check_is_answered_frame :
    (let t := after (.frameReceived .dk ([0xA5, 0x02, 0x11, 0x01, 0xED].map (⟨·, true⟩))) opened
     (replyOf t .dk, (t.port .dk).framed, t.session 0)) = (some (.frame, []), 1, .opened) := by decide +kernel

theorem test_an_unknown_code :
    replyOf (after (.unknownCode .mc 0x46) ready) .mc = some (.unknown, []) := by decide +kernel

theorem test_a_truncated_frame :
    (let t := after (.frameTruncated .dk) (ready.modPort .dk fun x => { x with rx := .body 2 [0x11] })
     ((t.port .dk).rx, (t.port .dk).truncated, (t.port .dk).lastError)) = (.hunt, 1, .truncated) := by decide +kernel

theorem test_a_frame_leaves_the_port_in_hunt :
    ((after (.closeLane .dk 1) (opened.modPort .dk fun x => { x with rx := .body 2 [0x11] })).port .dk).rx = .hunt ∧
      ((after (.closeLane .dk 1) (replyingWith [])).port .dk).queue = [.closeLane .dk 1] := by decide +kernel

theorem test_line_events_complete :
    (let t := after (.badFrame .dk 0x11) ready
     (replyOf t .dk, (t.port .dk).framed)) = (some (.frame, []), 1) ∧
      ((after (.lineReturnsToMark .dk) (ready.modPort .dk fun x => { x with inSpace := true })).port .dk).inSpace = false := by
  decide +kernel

theorem test_reply_end_serves_the_oldest :
    (let t := after (.replyEnd .dk)
       (opened.modPort .dk fun x => { x with reply := some ⟨0, .ok, []⟩, queue := [.closeLane .dk 1, .readTariff .dk] })
     (t.session 0, (t.port .dk).queue, (t.port .dk).reply.map (·.code))) =
      (.closed, [.readTariff .dk], some 0x11) := by decide +kernel

theorem test_port_break_returns_slips :
    (let t := after (.portBreak (.console 0)) (holding (.console 0) (some (.reballRequest 1)) ready)
     ((t.slip 0), (t.port (.console 0)).inSpace)) = (Slip.blank, true) := by decide +kernel

/-! ### Balls -/

theorem test_release :
    ((after (.release 0) opened).lane 0).sup.delivery.map (fun d => (d.step, d.release, d.travel)) =
      some (.awaitingDeck, some 0, 6000) := by decide +kernel

theorem test_deck_starts_a_ball :
    (let t := after (.deck 0) (withSup (fun u => { u with delivery := some rolling }) playing)
     ((t.lane 0).sup.state, (t.lane 0).sup.cycle.map (·.kind), (t.lane 0).sup.delivery.bind (·.place),
       (t.slot 0 0).inFlight, (t.ret 0).transit.length)) = (.cycling, some .first, some ⟨0, 1, 1, 1⟩, true, 1) := by decide +kernel

theorem test_deck_on_a_closed_lane_is_unpaid :
    ((after (.deck 0) ready).lane 0).sup.closedUnpaid = 1 := by decide +kernel

theorem test_travel_timeout_is_a_missed_deck :
    (((after (.travelTimeout 0) (withSup (fun u => { u with delivery := some rolling }) playing)).lane 0).sup.delivery.map
      fun d => (d.step, d.marks.deckMissed)) = some (.awaitingRead, true) := by decide +kernel

theorem test_foul_marks_the_delivery :
    (let t := after (.foul 0)
       (withSession (fun n => { n with settings := { n.settings with foulDetection := true } })
         (withSup (fun u => { u with delivery := some rolling, lastRelease := some ⟨0, false⟩ }) playing))
     ((t.lane 0).sup.delivery.map (·.marks.foul), (t.lane 0).sup.horn)) = (some true, some ⟨.foul, 1000⟩) := by decide +kernel

theorem test_read_of_a_strike :
    (let t := after (.psRead 0 0) inFlight
     ((t.slot 0 0).frame, (t.slot 0 0).ball, (t.slot 0 0).sheet.map fun sh => (frameAt sh.frames 1).kind,
       (t.lane 0).sup.cycle.map (·.followOn))) = (2, 1, some .strike, some true) := by decide +kernel

theorem test_read_of_nine :
    (let t := after (.psRead 0 0x200) inFlight
     ((t.slot 0 0).frame, (t.slot 0 0).ball,
       (t.slot 0 0).sheet.map fun sh => (frameAt sh.frames 1).balls.map (·.down))) = (1, 2, some [9]) := by decide +kernel

theorem test_done_makes_ready :
    ((after (.psDone 0) (cycling { ballCycle .first with phase := .afterRead, result := some 0x200 } none playing)).lane 0).sup.state =
      .ready := by decide +kernel

theorem test_jam_is_a_fault :
    (let t := after (.psJam 0) inFlight
     ((t.lane 0).sup.state, (t.lane 0).sup.fault.map (·.reason), t.pool.posts[1])) = (.fault, some .jam, [56]) := by decide +kernel

theorem test_warm_up_end_sets_the_rack :
    ((after (.warmUpEnd 0) (withSup (fun u => { u with state := .warming, standing := none, warmUp := some ⟨0, none⟩ })
      opened)).lane 0).sup.cycle.map (fun c => (c.kind, c.origin)) = some (.final, .wake) := by decide +kernel

/-! ### The return -/

theorem test_lift_arrive :
    ((after (.liftArrive 0) (returning false .running ready)).ret 0).matched = 1 ∧
      ((after (.liftArrive 0) ready).ret 0).stray = 1 := by decide +kernel

theorem test_levels_are_sent_by_position :
    (replyOf (after (.readReturn .mc 1) (ready.modRet 0 fun r => { r with rackFull := true })) .mc).map
      (fun r => r.2.take 4) = some [0, 0, 1, 0] := by decide +kernel

theorem test_rack_full_and_overload :
    ((after (.rackFullOn 0) (returning false .running ready)).ret 0).lift = .fullPause ∧
      ((after (.rackFullOff 0) (returning false .fullPause ready)).ret 0).lift = .running ∧
      ((after (.liftOverload 0) (returning false .running ready)).ret 0).lift = .stall ∧
      ((after (.liftOverload 0) ready).ret 0).lift = .off := by decide +kernel

theorem test_no_call_during_the_load :
    (let t := after (.liftOverload 0) { returning false .running ready with loading := true }
     ((t.ret 0).lift, (t.ret 0).overload, t.pool.posts[1])) = (.stall, true, []) ∧
      (let t := after (.deck 0) (State.reset.modRet 0 fun r => { r with overload := true })
       ((t.ret 0).lift, t.pool.posts[1], (t.port .mc).events)) = (.stall, [], 0x040) := by decide +kernel

theorem test_record_overdue_calls_the_mechanic :
    (let t := after (.recordOverdue 0 [0]) (returning false .running ready)
     ((t.ret 0).episodeOdd, (t.slip 56).body, (t.slip 56).lane)) = (true, some (.mechCall .returnOverdue 1), 1) := by decide +kernel

/-! ### Meters and bands -/

theorem test_unit_end_declines :
    (let t := after (.unitEnd 0) (session .time .prepaid 0 { ready with tariff := { Tariff.factory with prices := Vector.replicate 32 ⟨300, 200⟩ } })
     (t.session 0, (t.lane 0).meter.map fun m => (m.declined, m.left))) = (.closing, some (some .unit, 120)) := by decide +kernel

theorem test_back_grace_expiry_parks :
    (let t := after (.backGraceExpiry 0)
       (withSession (fun n => { n with state := .closing, closingReason := .noCredit })
         ((session .games .prepaid 0
           { ready with tariff := { Tariff.factory with prices := Vector.replicate 32 ⟨300, 200⟩ } }).modMeter 0
             fun m => { m with phase := .back, declined := some .game }))
     (t.session 0, (t.lane 0).session.parkCause)) = (.parked, .noCredit) := by decide +kernel

theorem test_band_edge_wakes :
    (after (.bandEdge 1) (withSession (·.asParked ⟨false, false, false, true⟩ .desk) opened)).session 0 = .opened := by decide +kernel

/-! ### Scoring -/

/-- The table of R95. -/
theorem test_split_examples :
    [isSplit false fullRack 0x2C8, isSplit false fullRack 0x240, isSplit false fullRack 0x042,
      isSplit false fullRack 0x01A, isSplit false fullRack 0x324, isSplit false fullRack 0x040] =
      [true, true, true, false, false, false] := by decide +kernel

/-- A ball of a worked game: its frame, pre-ball set, after set and foul mark. -/
structure WorkedBall where
  frame : Nat
  pre : PinSet
  after : PinSet
  foul : Bool := false

/-- The sheet of a worked game. -/
def worked (balls : List WorkedBall) : Sheet :=
  balls.foldl (fun sh b => sh.addBall b.frame b.pre b.after { noMarks with foul := b.foul }) (Sheet.new 1)

/-- Section 5.10: two frames waiting. -/
theorem test_worked_game_two_frames_waiting :
    (worked ([⟨1, 0x3FF, 0, false⟩, ⟨2, 0x3FF, 0x007, false⟩, ⟨2, 0x007, 0, false⟩, ⟨3, 0x3FF, 1, false⟩, ⟨3, 1, 1, false⟩,
        ⟨4, 0x3FF, 0, false⟩, ⟨5, 0x3FF, 0, false⟩, ⟨6, 0x3FF, 0, false⟩, ⟨7, 0x3FF, 3, false⟩, ⟨7, 3, 1, false⟩] ++
        [⟨8, 0x3FF, 0x3FF, false⟩, ⟨8, 0x3FF, 0, false⟩, ⟨9, 0x3FF, 0, false⟩, ⟨10, 0x3FF, 0, false⟩, ⟨10, 0x3FF, 7, false⟩,
          ⟨10, 7, 1, false⟩])).frames.map (·.cumulative) =
      [20, 39, 48, 78, 106, 125, 134, 154, 181, 200].map some := by decide +kernel

/-- Section 5.11: a foul, a split and a tenth frame. -/
theorem test_worked_game_a_foul_and_a_split :
    (let sh := worked ([⟨1, 0x3FF, 0x04B, true⟩, ⟨1, 0x3FF, 0, false⟩, ⟨2, 0x3FF, 0x240, false⟩, ⟨2, 0x240, 0x200, false⟩,
        ⟨3, 0x3FF, 0, false⟩, ⟨4, 0x3FF, 0, false⟩, ⟨5, 0x3FF, 0x200, false⟩, ⟨5, 0x200, 0x200, false⟩, ⟨6, 0x3FF, 0x01A, false⟩] ++
        [⟨6, 0x01A, 0, false⟩, ⟨7, 0x3FF, 0, false⟩, ⟨8, 0x3FF, 0x324, false⟩, ⟨8, 0x324, 0x300, false⟩, ⟨9, 0x3FF, 0x040, false⟩,
          ⟨9, 0x040, 0, false⟩, ⟨10, 0x3FF, 0, false⟩, ⟨10, 0x3FF, 0x048, false⟩, ⟨10, 0x048, 0x008, false⟩])
     (sh.frames.map (·.cumulative), (sh.frames.flatMap fun f => f.balls.map (·.split)).findIdxs (·), sh.gameFinished)) =
      ([18, 27, 56, 75, 84, 104, 122, 130, 150, 169].map some, [2], true) := by decide +kernel

/-! ## Hypotheses that are met

`test_hyp_<Name>` shows states and operands that meet the hypotheses of the statement `Obligations.<Name>`, clause by
clause. -/

/-- Every price 3.00 a game and 2.00 a unit. -/
def priced (s : State) : State := { s with tariff := { s.tariff with prices := Vector.replicate 32 ⟨300, 200⟩ } }

/-- Lane 1 CLOSING, with a charge owed. -/
def closing (s : State) : State :=
  (withSession (fun n => { n with state := .closing, closingReason := .noCredit }) s).modMeter 0 fun m =>
    { m with phase := .back, declined := some .game, left := 60 }

/-- Lane 1 PARKED with a mask. -/
def parked (mask : WakeMask) (s : State) : State :=
  withSup (fun u => { u with state := .off }) (withSession (·.asParked mask .desk) s)

/-- A pending park of lane 1. -/
def waiting (mask : WakeMask) (s : State) : State := withSession (fun n => { n with pendingPark := some ⟨mask, .desk⟩ }) s

/-- BALL in the mask. -/
def ballMask : WakeMask := ⟨false, true, false, false⟩
/-- CREDIT in the mask. -/
def creditMask : WakeMask := ⟨true, false, false, false⟩

theorem test_hyp_canServe : ready.canServe .dk ∧ ready.canServe .mc ∧ ∀ n, ready.canServe (.console n) := by
  simp only [State.canServe, State.idleAt, State.receives]; decide +kernel

theorem test_hyp_TimePassesUnlessResetIsHeld :
    ready.pending = [] ∧ ready.resetHeld = false ∧ (returning false .stall ready).pending = [] ∧
      (let x := (wired ⟨1, 1, 0⟩ ⟨0, 0, 6⟩).chain
       ((x.lanes[(0 : Fin 16)]).lines.wire.getLsbD 0 = true ∧ (x.lanes[(0 : Fin 16)]).lines.seen.getLsbD 0 = true ∧
         (x.lanes[(0 : Fin 16)]).lines.confirmed.getLsbD 0 = false) ∧
       ((x.lifts[(0 : Fin 8)]).wire.getLsbD 1 = false ∧ (x.lifts[(0 : Fin 8)]).seen.getLsbD 1 = false ∧
         (x.lifts[(0 : Fin 8)]).confirmed.getLsbD 1 = true)) ∧
      { ready with resetHeld := true }.resetHeld = true ∧ Instr.release 0 ≠ .resetAssertedOrPowerLoss ∧
      ∀ a b c, Instr.release 0 ≠ .powerReset a b c := by
  refine ⟨rfl, rfl, rfl, by decide, rfl, by decide, nofun⟩

/-- Every timer of lane 1 and pair 1 at its last millisecond, at the last millisecond before 10:00. -/
def runningOut (phase : MeterPhase) : State :=
  let s : State := { session .time .prepaid 1000 ready with clock := ⟨9, 59, 59, false, 999⟩, now := 2000 }
  let s := (s.modMeter 0 fun m => { m with phase := phase, left := 1 }).modRet 0 fun r =>
    { r with lift := .running, idle := some 1, transit := [⟨.odd, 5, 39999, false, false⟩] }
  withSup (fun u =>
    { u with
      horn := some ⟨.call, 1⟩, cycle := some { ballCycle .first with timer := 1 }, warmUp := some ⟨1, none⟩
      waitingFoul := some 1000, delivery := some { rolling with travel := 1 } })
    { s with tariff := { s.tariff with dayStart := 600, bands := 4, length := 240 } }

theorem test_hyp_TimePassesUnlessResetIsHeld_timers :
    layoutIn 600 4 240 = true ∧
      ((runningOut .metered).pending, (runningOut .metered).resetHeld, (runningOut .metered).running 0) =
        ([], false, true) ∧
      (stateOf (step (runningOut .metered))).map (·.pending) =
        some [.hornEnd 0, .waitingFoulExpiry 0, .unitEnd 0, .warmUpEnd 0, .cycleTimeout 0, .travelTimeout 0,
          .recordOverdue 0 [5], .liftIdleExpiry 0, .bandEdge 1] ∧
      ((stateOf (step (runningOut .front))).map fun t => (t.pending[2]?, (t.lane 0).meter.map (·.left))) =
        some (some (.frontGraceEnd 0), some 0) ∧
      ((stateOf (step (runningOut .back))).map fun t => t.pending[2]?) = some (some (.backGraceExpiry 0)) := by
  decide +kernel

theorem test_hyp_CodesOutcomesAndRefusals :
    requestPlace (.openLane .dk 1 0 0 0 0) = some (0, .dk) ∧ requestPlace (.storeSettings .dk) = some (53, .dk) ∧
      knownCode 0x0F = false ∧ knownCode 0x10 = true ∧ knownCode 0x45 = true ∧ knownCode 0x46 = false ∧
      (serve (.closeLane .dk 1) ready).outcome = .state := by decide +kernel

theorem test_hyp_PortsAreLimited :
    requestPlace (.openLane .mc 1 0 0 0 0) = some (0, .mc) ∧ catalogue[0]? = some .desk ∧ Access.desk.permits .mc = false ∧
      (2 : Nat) ≠ (0 : Fin 8).val + 1 ∧ (3 : Nat) ≠ 2 * (0 : Fin 8).val + 1 ∧ (3 : Nat) ≠ 2 * (0 : Fin 8).val + 2 ∧
      (15 : Nat) ≠ 2 * (6 : Fin 8).val + 1 := by decide +kernel

theorem test_hyp_LoadAnswersBusy :
    State.reset.loading = true ∧ requestPlace (.closeLane .dk 1) ≠ none ∧
      (serve (.closeLane .dk 1) { State.reset with loading := false }).outcome = .state ∧
      (serve (.closeLane .dk 1) State.reset).outcome = .busy ∧ (serve (.closeLane .dk 17) State.reset).outcome = .range := by
  decide +kernel

theorem test_hyp_FramesAreServedInOrder :
    framePort (.readTariff .dk) = some .dk ∧ ready.idleAt .dk ∧ (serve (.readTariff .dk) ready).outcome ≠ .frame ∧
      (replyingWith []).receives .dk ∧ ((replyingWith []).port .dk).reply ≠ none ∧ ((replyingWith []).port .dk).queue = [] ∧
      ((replyingWith [.closeLane .dk 1]).port .dk).queue.length < 2 ∧
      2 ≤ ((replyingWith [.closeLane .dk 1, .readTariff .dk]).port .dk).queue.length ∧
      ((replyingWith [.closeLane .dk 1, .readTariff .dk]).port .dk).queue = .closeLane .dk 1 :: [.readTariff .dk] ∧
      Instr.closeLane .dk 1 ≠ .sectionRestart .dk ∧ (ready.port .dk).reply = none ∧
      (serve (.closeLane .dk 1) (replyingWith [.closeLane .dk 1])).outcome ≠ .frame := by
  simp only [State.idleAt, State.receives]; decide +kernel

theorem test_hyp_RequestBodyRoundTrip :
    wellFormed (.openLane .dk 255 255 255 4294967295 255) = true ∧
      requestPlace (.openLane .dk 255 255 255 4294967295 255) = some (0, .dk) ∧
      wellFormed (.setPairSettings .mc 0 none (some 65535) none (some 0)) = true ∧
      wellFormed (.writeSlip (.console 7) 64 2 255 [0, 255, 0, 255, 0, 255]) = true := by decide +kernel

theorem test_hyp_ReceiverReadsFrames :
    ready.receives .dk ∧ (ready.port .dk).rx = .hunt ∧ wellFormed (.closeLane .dk 1) = true ∧
      requestPlace (.closeLane .dk 1) = some (1, .dk) ∧ (List.replicate 62 (0 : Byte)).length ≤ 62 ∧
      byteSum (BitVec.ofNat 8 62 :: List.replicate 62 0) + 1 ≠ 0 ∧ byteSum [1, 0x11] + 1 ≠ 0 ∧ (62 < (63 : Byte).toNat) ∧
      (0 : Byte).toNat = 0 ∧ (0xA4 : Byte) ≠ startByte := by
  simp only [State.receives]; decide +kernel

/-- A port that holds every reserve slip, with a call that waits. -/
def calling (p : Port) : State :=
  ready.modPool fun q =>
    { q with
      reserveFree := [], backlog := [⟨1, .handSet, 0⟩]
      slips := Vector.ofFn fun n =>
        if isReserve n then ⟨.held p, some (.mechCall .handSet 0), some .part, 1, .none⟩ else q.slips[n] }

theorem test_hyp_PortBreakClearsThePort :
    ready.resetHeld = false ∧ (ready.port .dk).inSpace = false ∧
      ((ready.modPort .dk fun x => { x with inSpace := true }).port .dk).inSpace = true ∧
      ((holding .dk none ready).slip 0).state = .held .dk ∧ isReserve 0 = false ∧ ready.pool.backlog = [] ∧
      (ready.slip 63).state ≠ .held .dk ∧ ((calling .dk).slip 63).state = .held .dk ∧
      (calling .dk).pool.backlog = [⟨1, .handSet, 0⟩] := by decide +kernel

theorem test_hyp_PortBreakClearsThePort_lawful : (holding .dk none ready).pool.lawful ∧ (calling .dk).pool.lawful := by
  refine ⟨⟨by decide +kernel, by decide +kernel, by decide +kernel, ?_, by decide +kernel, by decide +kernel,
    by decide +kernel, by decide +kernel⟩, ⟨by decide +kernel, by decide +kernel, by decide +kernel, ?_,
    by decide +kernel, by decide +kernel, by decide +kernel, by decide +kernel⟩⟩ <;>
  · intro n p
    cases p with
    | dk => revert n; decide +kernel
    | mc => revert n; decide +kernel
    | console k => revert n k; decide +kernel

theorem test_hyp_MasksAndSignals :
    BitVec.ofNat 9 128 &&& ~~~(ownFlags (.console 0)) ≠ 0 ∧ BitVec.ofNat 9 64 &&& ~~~(ownFlags (.console 0)) = 0 ∧
      BitVec.ofNat 9 511 &&& ~~~(ownFlags .dk) = 0 ∧ (Port.console 0).isConsole = true ∧ Port.dk.isConsole = false ∧
      (9 : Nat) = (Port.console 7).index.val ∧ (1 : Nat) = Port.mc.index.val := by decide +kernel

theorem test_hyp_ReadsAnswer :
    ownsPair (.console 0) (pairOf 1) ∧ ¬ ownsPair (.console 0) (pairOf 2) ∧ ownsPair .mc 7 ∧
      ((playing.slot 0 0).namedGame 0).isSome = true ∧ (0 : Nat) ≤ 99 ∧ (Port.mc).isConsole = false ∧ (65534 : Nat) ≤ 65534 := by
  simp only [ownsPair]; decide +kernel

/-- Pair 1's lift RUNNING with nothing on its list. -/
def lifting (idle : Option Nat) (s : State) : State := s.modRet 0 fun r => { r with lift := .running, idle := idle }

/-- The idle timer (R60): discarded as a lane opens, started as the last one parks or closes, kept by a second. -/
theorem test_idle_timer_follows :
    ((after (.openLane .dk 1 0 0 500 0) (lifting (some 5) ready)).ret 0).idle = none ∧
      ((after (.parkLane .dk 1 2) (lifting none opened)).ret 0).idle = some 120000 ∧
      ((after (.closeLane .dk 1) (lifting none opened)).ret 0).idle = some 120000 ∧
      ((after (.closeLane .dk 1) (lifting (some 5) (parked ballMask opened))).ret 0).idle = some 5 ∧
      ((after (.resumeLane .dk 1) (lifting (some 5) (parked ballMask opened))).ret 0).idle = none := by decide +kernel

theorem test_hyp_OpenLaneOpens :
    ready.canServe .dk ∧ ready.session 0 = .closed ∧ ready.clock.unset = false ∧ creditOut 0 999999 = false ∧
      creditOut 1 0 = false ∧ ready.nobodyQueued 0 ∧ ready.billing.front ≠ 0 := by
  simp only [State.canServe, State.idleAt, State.receives, State.nobodyQueued]; decide +kernel

theorem test_hyp_CloseLaneClosesOne :
    opened.canServe .dk ∧ opened.session 0 ≠ .closed ∧ (opened.turn (pairOf 0)).mode = .opened ∧
      (opened.lane 0).meter = some { Meter.fresh .games .prepaid 1000 600 with phase := .metered } ∧
      playing.session 0 ≠ .closed := by
  simp only [State.canServe, State.idleAt, State.receives]; decide +kernel

theorem test_hyp_CloseLaneClosesBoth :
    (let s := withTurn (fun t => { t with mode := .alternate }) playing
     s.canServe .dk ∧ s.session 0 ≠ .closed ∧ (s.turn (pairOf 0)).mode = .alternate ∧ s.session 1 = .closed) := by
  simp only [State.canServe, State.idleAt, State.receives]; decide +kernel

/-- A TIME meter 60 s into a unit at 2.00. -/
def timed (mode : MeterMode) (balance : Nat) : Meter :=
  { Meter.fresh .time mode balance 600 with phase := .metered, unit := some ⟨300, some 200⟩, left := 240 }

theorem test_hyp_UnitsAndCloseSummaries :
    (let s := priced (session .time .tab 0 ready)
     s.resetHeld = false ∧ s.running 0 = true ∧ ready.running 0 = false ∧
       ((s.modMeter 0 fun m => { m with phase := .front }).lane 0).meter.map (·.phase) = some .front ∧
       (s.lane 0).meter.map (·.phase) = some .metered ∧ (s.priceOf 0).unit = 200 ∧ s.billing.back ≠ 0) ∧
      (9999999 < ({ timed .tab 0 with charged := 9999999 } : Meter).charged + 200) ∧ (200 ≤ (timed .prepaid 200).balance) ∧
      ((timed .prepaid 199).balance < 200) ∧ (timed .tab 0).kind = .time ∧ (timed .tab 0).mode = .tab ∧
      (timed .tab 0).unit = some ⟨300, some 200⟩ ∧ (timed .tab 0).left ≤ 300 := by decide +kernel

theorem test_hyp_ParkLaneParks :
    opened.canServe (.console 0) ∧ ownsPair (.console 0) (pairOf 0) ∧ maskBarred (.console 0) 5 = false ∧
      maskBarred .dk 15 = false ∧ opened.session 0 = .opened ∧
      (WakeMask.ofNat 1).credit = true ∧ (priced (parked creditMask opened)).creditHolds 0 = true ∧
      (priced (parked creditMask opened)).session 0 = .parked ∧ (priced opened).creditHolds 0 = true ∧
      (priced (session .games .prepaid 0 ready)).creditHolds 0 = false ∧
      (cycling (newCycle .final .manual 14 none) none opened).session 0 ≠ .parked ∧
      ((cycling (newCycle .final .manual 14 none) none opened).lane 0).sup.state = .cycling ∧
      (opened.lane 0).sup.state ≠ .cycling := by
  simp only [State.canServe, State.idleAt, State.receives, ownsPair]; decide +kernel

theorem test_hyp_ResumeLaneWakes :
    (parked ballMask opened).canServe (.console 0) ∧ (parked ballMask opened).session 0 = .parked ∧
      ((parked ballMask opened).lane 0).session.wakeMask.console = false ∧ opened.session 0 ≠ .parked ∧
      ready.session 0 = .closed ∧ (opened.lane 0).session.pendingPark = none ∧
      ((waiting ballMask opened).lane 0).session.pendingPark ≠ none ∧ (waiting ballMask opened).running 0 = true ∧
      ((parked ballMask opened).lane 0).meter.map (fun m => (m.declined, m.kind)) = some (none, .games) ∧
      (parked ballMask opened).nobodyQueued 0 ∧
      ((priced (parked ballMask (closing opened))).lane 0).meter.map (fun m => (m.declined, m.mode, m.phase, m.balance)) =
        some (some .game, .prepaid, .back, 1000) ∧
      ((priced (parked ballMask (closing (session .games .prepaid 299 ready)))).lane 0).meter.map (·.balance) = some 299 ∧
      Declined.price .game ((priced (parked ballMask (closing opened))).priceOf 0) = 300 := by
  simp only [State.canServe, State.idleAt, State.receives, State.nobodyQueued]; decide +kernel

theorem test_hyp_SetLaneSettingsWrites :
    ready.canServe (.console 0) ∧ ownsPair (.console 0) (pairOf 1) ∧ 1 ∈ scopeLanes 1 0 ∧ 2 ∉ scopeLanes 1 0 ∧
      15 ∈ scopeLanes 2 0 ∧ 0 ∈ scopeLanes 0 0 ∧ 1 ∉ scopeLanes 0 0 := by
  simp only [State.canServe, State.idleAt, State.receives, ownsPair]; decide +kernel

theorem test_hyp_LockoutDropsEverything :
    inFlight.canServe .mc ∧ (inFlight.lane 0).sup.state ≠ .lockout ∧
      (inFlight.lane 0).sup.delivery = some (ballAt 1 1) ∧ (inFlight.lane 0).sup.cycle = some (ballCycle .first) ∧
      (ballAt 1 1).step = .awaitingRead ∧ (ballCycle .first).origin = .ball ∧ rolling.step = .awaitingDeck ∧
      (ballAt 1 1).laneClosed = false ∧ (inFlight.slot 0 0).inFlight = true ∧
      ((after (.lockout .mc 1) inFlight).slot 0 0).inFlight = false ∧
      (opened.lane 0).sup.state ≠ .cycling ∧ (opened.lane 0).sup.delivery = none ∧
      (opened.lane 0).session.pendingPark = none ∧
      ((waiting creditMask opened).lane 0).session.pendingPark = some ⟨creditMask, .desk⟩ := by
  simp only [State.canServe, State.idleAt, State.receives]; decide +kernel

theorem test_hyp_MechanicSetsToWork :
    opened.canServe .mc ∧ (opened.lane 0).sup.state = .ready ∧ (ready.lane 0).sup.state ≠ .ready ∧
      ((withSup (fun u => { u with state := .lockout }) opened).lane 0).sup.state = .lockout ∧
      (let s := withSup (fun u => { u with state := .handSet, handSet := some ⟨0, 0⟩ }) opened
       (s.lane 0).sup.state = .handSet ∧ (s.lane 0).sup.handSet = some ⟨0, 0⟩ ∧
         (s.lane 0).session.settings.pinLamps = true ∧ s.running 0 = true) := by
  simp only [State.canServe, State.idleAt, State.receives]; decide +kernel

/-- A fault after the READ of a ball. -/
def jammed (replaced : Option PinSet) : FaultRec :=
  ⟨.jam, .afterRead, .ball, .first, some fullRack, some 0x201, false, false, replaced⟩

theorem test_hyp_ClearFaultRestores :
    (let s := withSup (fun u => { u with state := .fault, fault := some (jammed none) }) (snapped fullRack false .up)
     s.canServe .mc ∧ (s.lane 0).sup.state = .fault ∧ (s.lane 0).sup.fault = some (jammed none) ∧
       (jammed none).reballs 1 = true ∧ (jammed none).reballs 0 = false ∧ reballBarred (s.lane 0).snapshot = false ∧
       (s.lane 0).snapshot = some (snap fullRack false) ∧ s.powerGranted 0 = true ∧ (jammed none).target ≠ fullRack) ∧
      (jammed (some fullRack)).target = fullRack ∧ (opened.lane 0).sup.state ≠ .fault ∧
      reballBarred (opened.lane 0).snapshot = true ∧ ready.powerGranted 0 = false := by
  simp only [State.canServe, State.idleAt, State.receives]; decide +kernel

theorem test_hyp_ReleaseOpensADelivery :
    opened.resetHeld = false ∧ (opened.lane 0).sup.delivery = none ∧
      ((withSup (fun u => { u with delivery := some rolling }) opened).lane 0).sup.delivery = some rolling ∧
      (opened.lane 0).sup.waitingFoul = none ∧
      (let s := withSup (fun u => { u with waitingFoul := some 0 }) { opened with now := 1000 }
       (s.lane 0).sup.waitingFoul = some 0 ∧ s.now - 0 ≤ s.timers.window * 100) ∧
      (let s := withSup (fun u => { u with waitingFoul := some 0 }) { opened with now := 1001 }
       s.timers.window * 100 < s.now - 0) := by decide +kernel

/-- Lane 1 with foul detection on and a release at 0, at a moment. -/
def detecting (now : Nat) (fouled : Bool) (d last : Option Delivery) : State :=
  withSession (fun n => { n with settings := { n.settings with foulDetection := true } })
    (withSup (fun u => { u with delivery := d, last := last, lastRelease := some ⟨0, fouled⟩ }) { opened with now := now })

theorem test_hyp_FoulsAreAttributed :
    (opened.lane 0).session.settings.foulDetection = false ∧
      ((detecting 1000 false (some rolling) none).lane 0).session.settings.foulDetection = true ∧
      ((detecting 1000 false (some rolling) none).lane 0).sup.lastRelease = some ⟨0, false⟩ ∧
      (1000 - 0 ≤ (detecting 1000 false none none).timers.window * 100) ∧ rolling.release.isSome = true ∧
      ((detecting 1000 false none (some (ballAt 1 1))).lane 0).sup.delivery = none ∧
      ((detecting 1000 false none (some (ballAt 1 1))).lane 0).sup.last = some (ballAt 1 1) ∧
      ((detecting 1000 true none none).lane 0).sup.lastRelease = some ⟨0, true⟩ ∧
      ((detecting 1001 false none none).timers.window * 100 < 1001 - 0) ∧
      ((detecting 1001 false none none).lane 0).sup.waitingFoul = none ∧
      ((withSup (fun u => { u with waitingFoul := some 1 }) opened).lane 0).sup.waitingFoul ≠ none := by decide +kernel

/-- A full list of sixteen records. -/
def crowded (overdue : Bool) : State :=
  opened.modRet 0 fun r =>
    { r with
      transit := ⟨.odd, 0, 0, overdue, false⟩ :: (List.range 15).map fun k => ⟨.even, BitVec.ofNat 16 (k + 1), 0, false, false⟩ }

theorem test_hyp_EveryDeckIsABallInTransit :
    opened.resetHeld = false ∧ (opened.ret 0).transit.length < 16 ∧ 16 ≤ ((crowded true).ret 0).transit.length ∧
      ((crowded true).ret 0).transit.head? = some ⟨.odd, 0, 0, true, false⟩ ∧
      ((crowded false).ret 0).transit.head? = some ⟨.odd, 0, 0, false, false⟩ ∧
      ((withSup (fun u => { u with delivery := some rolling }) opened).lane 0).sup.delivery = some rolling ∧
      rolling.step = .awaitingDeck ∧ (opened.lane 0).sup.delivery = none := by decide +kernel

theorem test_hyp_ReadyDeckStartsABall :
    playing.resetHeld = false ∧ playing.running 0 = true ∧ (playing.lane 0).sup.state = .ready ∧
      playing.upSlot 0 = some 0 ∧ opened.upSlot 0 = none ∧
      ((playing.modLane 1 fun a => { a with snapshot := some (snap fullRack false) }).lane (otherLane 0)).snapshot =
        some (snap fullRack false) ∧ (snap fullRack false).slot = 0 := by decide +kernel

theorem test_hyp_OtherDecksCloseAtOnce :
    inFlight.running 0 = true ∧ (inFlight.lane 0).sup.state = .cycling ∧ ready.running 0 = false ∧
      ready.session 0 = .closed ∧ (parked ballMask opened).session 0 = .parked ∧
      ((parked ballMask opened).lane 0).session.wakeMask.ball = true ∧
      ((parked creditMask opened).lane 0).session.wakeMask.ball = false ∧ opened.billing.back ≠ 0 ∧
      ((withSup (fun u => { u with state := .warming }) opened).lane 0).sup.state = .warming ∧
      ((withSup (fun u => { u with state := .lockout }) opened).lane 0).sup.state = .lockout := by decide +kernel

/-- A practice ball that awaits its READ. -/
def practising : State := cycling (ballCycle .first) (some { ballAt 1 1 with cls := some .practice, practice := some 1 }) opened

theorem test_hyp_ReadCountsTheBall :
    (inFlight.lane 0).sup.state = .cycling ∧ (inFlight.lane 0).sup.cycle = some (ballCycle .first) ∧
      (inFlight.lane 0).sup.delivery = some (ballAt 1 1) ∧ (ballCycle .first).origin = .ball ∧
      (ballCycle .first).phase = .beforeRead ∧ (ballAt 1 1).step = .awaitingRead ∧
      (practising.lane 0).sup.delivery = some { ballAt 1 1 with cls := some .practice, practice := some 1 } ∧
      (let a : Place := ⟨0, 1, 1, 1⟩
       let x := inFlight.slot (pairOf 0) a.slot
       (ballAt 1 1).place = some a ∧ x.state ≠ .empty ∧ x.frame = a.frame ∧ x.ball = a.ball ∧
         x.sheet = some (Sheet.new 1) ∧ (Sheet.new 1).game = a.game ∧
         (snapped fullRack false .up |>.slot (pairOf 0) a.slot).ball ≠ a.ball) ∧
      (ballAt 1 1).cls ≠ some .practice ∧ ({ ballAt 1 1 with laneClosed := true } : Delivery).laneClosed = true ∧
      (opened.lane 0).sup.state ≠ .cycling := by decide +kernel

/-- Bowler 7 at the last ball of a game of ten gutter frames. -/
def lastSheet : Sheet :=
  ([1, 2, 3, 4, 5, 6, 7, 8, 9].foldl (fun sh n => (sh.addBall n fullRack fullRack noMarks).addBall n fullRack fullRack noMarks)
    (Sheet.new 1)).addBall 10 fullRack fullRack noMarks

theorem test_hyp_ReadScoresTheBall :
    inFlight.running 0 = true ∧ (ballAt 1 1).cls = some .scored ∧ (ballAt 1 1).laneClosed = false ∧
      (ballAt 1 1).place = some ⟨0, 1, 1, 1⟩ ∧ (inFlight.slot (pairOf 0) 0).state ≠ .empty ∧
      (inFlight.slot (pairOf 0) 0).frame = 1 ∧ (inFlight.slot (pairOf 0) 0).ball = 1 ∧
      (inFlight.slot (pairOf 0) 0).sheet = some (Sheet.new 1) ∧ (Sheet.new 1).game = 1 ∧
      ((Sheet.new 1).addBall 1 fullRack 0x200 noMarks).frameComplete 1 = false ∧
      ((Sheet.new 1).addBall 1 fullRack 0 noMarks).frameComplete 1 = true ∧
      ((Sheet.new 1).addBall 1 fullRack 0 noMarks).gameFinished = false ∧
      (lastSheet.addBall 10 fullRack fullRack noMarks).gameFinished = true ∧
      (let s (n : Nat) := withTurn (fun t =>
         { t with settings := { t.settings with games := n }, queueOdd := [0, 1]
                  slots := t.slots.set 0 { player .up .inProgress 10 2 lastSheet with inFlight := true } })
         (cycling (ballCycle .first) (some (ballAt 10 2)) twoPlayers)
       let t (n : Nat) := after (.psRead 0 fullRack) (s n)
       ((t 1).slot 0 0).state = .done ∧ ((t 1).turn 0).queueOdd = [1] ∧
         ((t 2).slot 0 0).state = .queued ∧ ((t 2).turn 0).queueOdd = [1, 0]) := by decide +kernel

theorem test_hyp_DoneCompletesTheCycle :
    (let c : Cycle := { ballCycle .first with phase := .afterRead, result := some 0x200 }
     let s := cycling c none playing
     s.resetHeld = false ∧ (s.lane 0).sup.state = .cycling ∧ (s.lane 0).sup.cycle = some c ∧ c.origin = .ball ∧
       c.phase = .afterRead ∧ c.restore = none ∧ c.followOn = false ∧ ({ c with followOn := true } : Cycle).followOn = true ∧
       ({ c with restore := some 0x201 } : Cycle).restore = some 0x201 ∧ s.powerGranted 0 = true ∧
       ((after (.psDone 0) (waiting ballMask (cycling { c with restore := some 0x201, followOn := true } none playing))).lane
         0).sup.state = .off ∧
       (s.lane 0).session.pendingPark = none ∧
       ((waiting creditMask s).lane 0).session.pendingPark = some ⟨creditMask, .desk⟩ ∧ (priced s).creditHolds 0 = true ∧
       (cycling c none ready).powerGranted 0 = false ∧ ballMask.credit = false) := by decide +kernel

theorem test_hyp_FaultsStopTheCycle :
    (inFlight.lane 0).sup.state = .cycling ∧ (inFlight.lane 0).sup.cycle = some (ballCycle .first) ∧
      (ballCycle .first).origin = .ball ∧ (ballCycle .first).phase = .beforeRead ∧
      (inFlight.lane 0).sup.delivery = some (ballAt 1 1) ∧ (ballAt 1 1).step = .awaitingRead ∧
      (inFlight.lane 0).session.pendingPark = none ∧ (newCycle .final .manual 14 none).origin ≠ .ball ∧
      ((waiting ballMask inFlight).lane 0).session.pendingPark = some ⟨ballMask, .desk⟩ ∧
      (opened.lane 0).sup.state ≠ .cycling ∧ (inFlight.slot 0 0).inFlight = true ∧ (ballAt 1 1).laneClosed = false ∧
      ((ballAt 1 1).place.any fun a => a.slot == 0) = true ∧
      ((after (.psJam 0) inFlight).slot 0 0).inFlight = false := by decide +kernel

/-- Lane 1 warming up. -/
def warming (restore standing : Option PinSet) (s : State) : State :=
  withSup (fun u => { u with state := .warming, warmUp := some ⟨0, restore⟩, standing := standing }) s

theorem test_hyp_WarmUpEnds :
    ((warming none none opened).lane 0).sup.state = .warming ∧ ((warming none none opened).lane 0).sup.warmUp = some ⟨0, none⟩ ∧
      ((warming none (some 0x201) opened).lane 0).sup.standing ≠ none ∧ (warming none none opened).upSlot 0 = none ∧
      ((warming (some fullRack) none opened).lane 0).sup.warmUp = some ⟨0, some fullRack⟩ ∧
      ((warming (some 0x201) none opened).lane 0).sup.warmUp = some ⟨0, some 0x201⟩ ∧
      (let s := warming none none (snapped fullRack false .up)
       s.upSlot 0 = some 0 ∧
         (s.slot (pairOf 0) 0).sheet = some ((Sheet.new 1).addBall 1 fullRack 0x3FE noMarks) ∧
         ((frameAt ((Sheet.new 1).addBall 1 fullRack 0x3FE noMarks).frames 1).balls.getLast?.map (·.after)) = some 0x3FE ∧
         rackOf false (frameAt ((Sheet.new 1).addBall 1 fullRack 0x3FE noMarks).frames 1).balls = .standing) ∧
      (let s := warming none none (seated (player .up .inProgress 10 2 (worked [⟨10, 0x3FF, 0, false⟩])) opened)
       s.upSlot 0 = some 0 ∧ (s.slot (pairOf 0) 0).sheet = some (worked [⟨10, 0x3FF, 0, false⟩]) ∧
         rackOf true (frameAt (worked [⟨10, 0x3FF, 0, false⟩]).frames 10).balls = .fresh ∧
         ((after (.warmUpEnd 0) s).lane 0).sup.cycle.map (·.origin) = some .wake) ∧
      ((frameAt ((Sheet.new 1).addBall 1 fullRack fullRack noMarks).frames 1).balls.getLast?.map (·.after)) =
        some fullRack ∧
      (warming none none playing).upSlot 0 = some 0 ∧ (frameAt (Sheet.new 1).frames 1).balls = [] := by decide +kernel

theorem test_hyp_LiftArriveMatchesTheOldest :
    (ready.ret 0).transit = [] ∧ ((returning false .running ready).ret 0).transit = [⟨.odd, 0, 0, false, false⟩] ∧
      ((returning true .running ready).ret 0).transit = [⟨.odd, 0, 0, true, false⟩] ∧
      ((returning true .running ready).ret 0).episode .odd = true := by decide +kernel

theorem test_hyp_LiftInputsMoveTheLift :
    ready.resetHeld = false ∧ (ready.ret 0).lift = .off ∧ ((returning false .running ready).ret 0).lift = .running ∧
      ((returning false .fullPause ready).ret 0).lift = .fullPause ∧ ((returning false .stall ready).ret 0).lift = .stall ∧
      State.reset.loading = true ∧ ready.loading = false := by
  decide +kernel

theorem test_hyp_OverdueRecordsOpenEpisodes :
    (ready.ret 0).lift = .off ∧ ((returning false .running ready).ret 0).lift = .running ∧
      ((returning false .running ready).ret 0).episode .odd = false ∧
      ((returning false .running ready).ret 0).transit.map (·.seq) = [0] ∧
      ((returning false .stall ready).ret 0).lift = .stall := by decide +kernel

theorem test_hyp_OverdueAndStallAreCleared :
    ready.idleAt .mc ∧ State.reset.idleAt .mc ∧ State.reset.loading = true ∧ ready.loading = false ∧
      (1 : Nat) = pairNo 0 ∧ (8 : Nat) = pairNo 7 ∧ (16 : Nat) = 2 * (7 : Fin 8).val + 2 ∧ (1 : Nat) = 2 * (0 : Fin 8).val + 1 ∧
      (3 : Nat) ≠ 2 * 1 - 1 ∧ (3 : Nat) ≠ 2 * 1 ∧ ((returning true .stall ready).ret 0).lift = .stall ∧
      ((returning true .stall ready).ret 0).overload = false ∧ (ready.ret 0).lift ≠ .stall := by
  simp only [State.idleAt, State.receives]; decide +kernel

theorem test_hyp_ReturnSettingsApplyAtOnce :
    ready.canServe .mc ∧ (Port.mc).isConsole = false ∧ (ready.ret 0).idle = none ∧
      ((ready.modRet 0 fun r => { r with idle := some 5, lift := .running }).ret 0).idle ≠ none := by
  simp only [State.canServe, State.idleAt, State.receives]; decide +kernel

/-- One record of pair 1, 30 s old, while the return timeout is 40 s. -/
def aged (lift : LiftState) : State :=
  (returning false lift ready).modRet 0 fun r => { r with transit := r.transit.map fun x => { x with age := 30000 } }

theorem test_hyp_ReturnSettingsApplyAtOnce_episodes :
    (((aged .fullPause).ret 0).transit.any fun x => decide (30 * 1000 ≤ x.age)) = true ∧
      ((aged .fullPause).ret 0).episode .odd = false ∧ ((aged .stall).ret 0).lift = .stall ∧
      (let t := after (.setReturnSettings .mc (some 30) none) (aged .fullPause)
       ((t.ret 0).episode .odd, (t.port .mc).events.getLsbD 3, (t.lane 0).sup.horn, (t.pool.posts[(1 : Fin 10)]).length) =
         (true, true, some ⟨.call, 2000⟩, 1)) ∧
      (let t := after (.setReturnSettings .mc (some 30) none) (aged .stall)
       ((t.ret 0).episode .odd, (t.port .mc).events.getLsbD 3, (t.lane 0).sup.horn, (t.pool.posts[(1 : Fin 10)]).length) =
         (true, false, none, 0)) := by decide +kernel

theorem test_hyp_AddBowlerFillsASlot :
    opened.canServe (.console 0) ∧ ownsPair (.console 0) 0 ∧ (opened.slot 0 11).state = .empty ∧
      opened.findSlot 65534 = none ∧ opened.running (laneAt 0 (homeSide 11)) = false ∧
      opened.running (laneAt 0 (homeSide 0)) = true ∧ opened.directory.find 7 = none ∧ opened.directory.cover 7 = none ∧
      opened.directory.fetch.length < 16 ∧
      (let s := opened.modDirectory fun d => { d with fetch := List.range 16 }
       16 ≤ s.directory.fetch.length) ∧
      (let s := opened.modDirectory fun d => { d with entries := d.entries.set 0 ⟨true, 7, 150, none, true, false⟩ }
       s.directory.find 7 = some 0) ∧
      (let s := opened.modDirectory fun d => { d with ranges := d.ranges.set 0 ⟨true, 7, 7, 150⟩ }
       s.directory.cover 7 ≠ none ∧ s.directory.find 7 = none) := by
  simp only [State.canServe, State.idleAt, State.receives, ownsPair]; decide +kernel

theorem test_hyp_RemoveBowlerClearsTheSlot :
    twoPlayers.canServe .dk ∧ (twoPlayers.slot 0 1).state ≠ .empty ∧ (inFlight.slot 0 0).inFlight = true ∧
      (twoPlayers.slot 0 1).inFlight = false ∧ (twoPlayers.turn 0).queueOdd.head? ≠ some 1 ∧
      (twoPlayers.turn 0).queueEven.head? ≠ some 1 ∧ (twoPlayers.slot 0 1).bowler = some 9 := by
  simp only [State.canServe, State.idleAt, State.receives]; decide +kernel

/-- Bowler 9 of slot 2 asked of the desk behind fifteen others, and bowler 50 of slot 9 deferred. -/
def asking : State :=
  withTurn (fun t =>
    { t with
      queueEven := [8]
      slots := (t.slots.set 1 { t.slots[1] with source := .pending, fetch := .requested }).set 8
        { player .queued .waiting 1 1 (Sheet.new 1) with bowler := some 50, source := .pending, fetch := .deferred } })
    (twoPlayers.modDirectory fun d => { d with fetch := 101 :: 9 :: (List.range 14).map (· + 102) })

theorem test_hyp_RemoveBowlerClearsTheSlot_fetch :
    (asking.slot 0 1).bowler = some 9 ∧ (asking.slot 0 1).source = .pending ∧ (asking.slot 0 1).fetch = .requested ∧
      9 ∈ asking.directory.fetch ∧ (asking.turn 0).queueOdd.head? ≠ some 1 ∧ (asking.turn 0).queueEven.head? ≠ some 1 ∧
      (asking.slot 0 8).fetch = .deferred ∧ (asking.slot 0 8).source ≠ .entry ∧
      (let t := after (.removeBowler .dk 1 2) asking
       t.directory.fetch = (List.range 15).map (· + 101) ++ [50] ∧ (t.slot 0 8).fetch = .requested) := by decide +kernel

/-- A head with no credit for its game and no back grace: the lane parks as the slot before it goes away. -/
theorem test_hyp_sameReturnButIdle_stops :
    (let s : State :=
       lifting none (priced ((twoPlayers.modMeter 0 fun m => { m with balance := 299 })))
     let s : State := { s with billing := { s.billing with back := 0 } }
     let t := after (.away .dk 1 1) s
     s.running 0 = true ∧ t.running 0 = false ∧ (s.ret 0).idle = none ∧ (t.ret 0).idle = some 120000) := by decide +kernel

theorem test_hyp_AwayAndBackMarkTheSlot :
    (twoPlayers.slot 0 1).state = .queued ∧ (twoPlayers.slot 0 0).state = .up ∧ (twoPlayers.slot 0 0).ball = 1 ∧
      (twoPlayers.slot 0 0).inFlight = false ∧ (twoPlayers.slot 0 2).state = .empty ∧ (inFlight.slot 0 0).inFlight = true ∧
      (twoPlayers.slot 0 1).away = false := by decide +kernel

theorem test_hyp_PairModeMovesTurns :
    (∀ i, (twoPlayers.slot 0 i).stage ≠ .inProgress ∧ (twoPlayers.slot 0 i).inFlight = false) ∧
      (∀ i, i ∈ (twoPlayers.turn 0).queueOdd → i ∉ (twoPlayers.turn 0).queueEven) ∧
      ((snapped fullRack false .up).slot 0 0).stage = .inProgress := by decide +kernel

theorem test_hyp_PairSettingsActOnSlots :
    (let s := withTurn (fun t => { t with slots := t.slots.set 2 { player .done .waiting 1 1 (Sheet.new 1) with finished := 3 } })
       twoPlayers
     s.canServe .dk ∧ (twoPlayers.slot 0 1).stage = .waiting ∧ (twoPlayers.slot 0 1).state ≠ .empty ∧
     ∀ i, (s.slot 0 i).state = .done → i ∉ (s.turn 0).queueOdd ∧ i ∉ (s.turn 0).queueEven) := by
  simp only [State.canServe, State.idleAt, State.receives]; decide +kernel

theorem test_hyp_HeadRulesSettleTheHead :
    (let s (stage : GameStage) (away : Bool) := seated { player .queued stage 1 1 (Sheet.new 1) with away := away } opened
     (s .started false).running 0 = true ∧ (s .started false).upSlot 0 = none ∧
       ((s .started false).turn (pairOf 0)).queue (sideOf 0) = [] ++ 0 :: [] ∧
       ((s .started false).slot 0 0).away = false ∧ ((s .started false).slot 0 0).stage ≠ .waiting ∧
       ((s .waiting false).slot 0 0).stage = .waiting ∧ (closing (s .waiting false)).session 0 = .closing ∧
       (s .waiting false).session 0 = .opened ∧
       ((after (.back .dk 1 1) (priced (s .waiting true))).lane 0).meter.map (fun m => (m.balance, m.charged, m.games)) =
         some (700, 300, 1) ∧ ((s .waiting true).slot 0 0).away = true ∧
       ((s .waiting false).turn (pairOf 0)).paid (sideOf 0) = false ∧
       ((s .waiting false).lane 0).meter.map (fun m => (m.kind, m.mode, m.balance)) = some (.games, .prepaid, 1000) ∧
       ((priced (s .waiting false)).priceOf 0).game = 300) ∧
      playing.upSlot 0 ≠ none ∧ ready.running 0 = false := by decide +kernel

/-- Bowler 7 at the head of lane 1's queue, away, with the next game to start, an average source and range 1. -/
def starting (source : AverageSource) (enabled : Bool) (fetch : List Nat) : State :=
  (seated { player .queued .waiting 1 1 (Sheet.new 1) with source := source, away := true } opened).modDirectory fun d =>
    { d with
      fetch := fetch, ranges := d.ranges.set 0 ⟨enabled, 7, 7, 150⟩
      entries := d.entries.set 0 ⟨source == .entry, 7, 120, some 30, true, true⟩ }

theorem test_hyp_HeadRulesSettleTheHead_start :
    (starting .range false []).directory.cover 7 = none ∧ (starting .range true []).directory.cover 7 = some 0 ∧
      (starting .entry false []).directory.find 7 = some 0 ∧ 16 ≤ (starting .range false (List.range 16)).directory.fetch.length ∧
      ([starting .none false [], starting .pending false [], starting .entry false [], starting .range true [],
        starting .range false [], starting .range false (List.range 16)].map fun s =>
        let x := (after (.back .dk 1 1) s).slot 0 0
        (x.source, x.fetch, x.handicap)) =
        [(.none, .none, .value 0), (.pending, .none, .pending), (.entry, .none, .value 30), (.range, .none, .value 63),
          (.pending, .requested, .pending), (.pending, .deferred, .pending)] ∧
      (after (.back .dk 1 1) (starting .range false [])).directory.fetch = [7] := by decide +kernel

/-- A game start on a lane with a valid snapshot. -/
theorem test_hyp_HeadRulesSettleTheHead_snapshot :
    (let s := (starting .none false []).modLane 0 fun a => { a with snapshot := some (snap fullRack true) }
     let s := withTurn (fun t => t.modSlot 0 fun x => { x with away := false }) s
     s.upSlot 0 = none ∧ ((s.headRules 0).lane 0).snapshot.map (·.gameStarted) = some true) := by decide +kernel

theorem test_hyp_ReballTakesTheBallBack :
    (Sheet.new 1).frames.length = 10 ∧ (1 : Nat) = (frameAt (Sheet.new 1).frames 1).balls.length + 1 ∧
      (∀ f ∈ (Sheet.new 1).frames, f.score.isSome = f.cumulative.isSome) ∧
      (∀ n ≤ 10, 1 < n → (frameAt (Sheet.new 1).frames n).kind = .incomplete) ∧
      (snapped fullRack false .up).canServe .dk ∧ ((snapped fullRack false .up).lane 0).snapshot = some (snap fullRack false) ∧
      (snap fullRack false).gameFinished = false ∧ (snap fullRack false).gameStarted = false ∧
      (snap fullRack true).turnEnded = true ∧ (snap 0x201 false).pre ≠ fullRack ∧
      ((withTurn (fun t => { t with mode := .alternate }) opened).turn (pairOf 0)).mode = .alternate ∧
      (opened.lane 0).snapshot = none ∧ (opened.turn (pairOf 0)).mode = .opened := by
  simp only [State.canServe, State.idleAt, State.receives]; decide +kernel

/-- Slip 1 held by the desk: a correction of bowler 7's ball 1 of frame 1 to {1 … 8}. -/
def correcting : State := holding .dk (some (.correction 1 1 1 1 0x0FF)) (snapped fullRack false .up)

theorem test_hyp_ApplyCorrectionDecides :
    correcting.canServe .dk ∧ (correcting.slip 0).state = .held .dk ∧
      (correcting.slip 0).body = some (.correction (slotNo 0) 1 1 1 0x0FF) ∧ (correcting.slip 0).outcome = .none ∧
      (correcting.slip 0).lane = laneNo 0 ∧ 0 ∉ correcting.pool.reserveFree ∧
      (correcting.slot (pairOf 0) 0).inFlight = false ∧
      (correcting.slot (pairOf 0) 0).state = .up ∧ correcting.upSlot 0 = some 0 ∧ correcting.upSlot (otherLane 0) ≠ some 0 ∧
      (correcting.lane 0).sup.state = .ready ∧
      (match (correcting.slot (pairOf 0) 0).checkCorrection ⟨0, 0, 1, 1, 1, 0x0FF⟩ with
        | .ok g => (correcting.slot (pairOf 0) 0).pinsChange ⟨0, 0, 1, 1, 1, 0x0FF⟩ g
        | .error _ => false) = true ∧
      (match (correcting.slot (pairOf 0) 0).checkCorrection ⟨0, 0, 1, 1, 2, 0x0FF⟩ with
        | .ok _ => none
        | .error why => some why) = some .notFound ∧
      (inFlight.slot (pairOf 0) 0).inFlight = true ∧
      ((third 1)[0]?.map fun b => (0 : PinSet) &&& ~~~b.pre) = some 0 ∧
      ((third 1)[2]?.map fun c => (c.rack, c.after &&& ~~~0)) = some (.standing, 1) ∧ (third 1).length < 4 ∧
      ((third 1)[2]?.map fun c => fullRack &&& ~~~c.pre) ≠ some 0 := by
  simp only [State.canServe, State.idleAt, State.receives]; decide +kernel

theorem test_hyp_ApplyCorrectionDecides_checks :
    (let first : List BallEntry := [makeEntry false [] fullRack 0x201 noMarks]
     let spare := first ++ [makeEntry false first 0x201 0x001 noMarks]
     let again := first ++ [makeEntry false first fullRack 0x001 noMarks]
     correctionRefusal false first 1 0 = some .shape ∧ correctionRefusal true (third 0) 1 1 = some .shape ∧
       correctionRefusal true (third 0) 2 0 = some .shape ∧
       correctionRefusal true (spare.map fun b => { b with rack := .fresh }) 1 0x003 = none ∧
       correctionRefusal true spare 2 0 = some .shape ∧ correctionRefusal false again 2 0 = some .shape ∧
       correctionRefusal false spare 2 0x200 = none ∧ correctionRefusal false spare 1 0x202 = some .conflict ∧
       correctionRefusal false spare 2 0x002 = some .notSubset) ∧
      Slot.empty.state = .empty ∧
      (let x := { player .queued .waiting 1 1 (Sheet.new 2) with retained := [GameRecord.finish (worked []) .absent] }
       x.state ≠ .empty ∧ x.sheet = some (Sheet.new 2) ∧ x.retained[0]?.map (·.game) = some 1 ∧ (Sheet.new 2).game ≠ 1 ∧
         x.retained.all (fun r => r.game != 3) = true) ∧
      (let x := correcting.slot 0 0
       x.frame = 1 ∧ x.ball = 1 + 1 ∧
         rackOf false (frameAt ((Sheet.new 1).addBall 1 fullRack 0x3FE noMarks).frames 1).balls = .standing) := by
  decide +kernel

/-- Slot 1 holds bowler 7, whose average is PENDING. -/
def pendingBowler : State :=
  seated { player .up .started 1 1 (Sheet.new 1) with handicap := .pending, source := .pending, fetch := .requested } opened

theorem test_hyp_DeskAnswersTheDirectory :
    pendingBowler.canServe .dk ∧ pendingBowler.findSlot 7 = some (0, 0) ∧ (pendingBowler.slot 0 0).source = .pending ∧
      pendingBowler.pendingNumber 7 = true ∧ pendingBowler.pendingNumber 9 = false ∧
      pendingBowler.firstDeferred = none ∧ pendingBowler.directory.find 9 = none ∧
      pendingBowler.directory.entries[(0 : Fin 112)].valid = false ∧
      (let s := ready.modDirectory fun d => { d with entries := Vector.replicate 112 ⟨true, 9, 0, none, true, false⟩ }
       ∀ o : Fin 112, s.directory.entries[o].valid = true ∧
         (s.directory.entries[o].locked = true ∨ s.directory.entries[o].used = true)) ∧
      (let s := ready.modDirectory fun d => { d with entries := Vector.replicate 112 ⟨true, 9, 0, none, false, false⟩ }
       s.directory.find 9 = some 0 ∧ s.directory.find 8 = none ∧ s.directory.entries[(0 : Fin 112)].used = false) ∧
      playing.findSlot 7 = some (0, 0) ∧ (playing.slot 0 0).source ≠ .pending := by
  simp only [State.canServe, State.idleAt, State.receives]; decide +kernel

theorem test_hyp_DropAndRangeEntries :
    ready.idleAt .dk ∧ State.reset.idleAt .dk ∧ State.reset.loading = true ∧
      (∀ k : Fin 112, ready.directory.entries[k].valid = true → ready.directory.entries[k].number ≠ 65534) ∧
      (let s (locked : Bool) := ready.modDirectory fun d => { d with entries := d.entries.set 0 ⟨true, 9, 0, none, true, locked⟩ }
       (s false).directory.entries[(0 : Fin 112)].valid = true ∧ (s false).directory.entries[(0 : Fin 112)].number = 9 ∧
         (s false).directory.entries[(0 : Fin 112)].locked = false ∧ (s true).directory.entries[(0 : Fin 112)].locked = true) := by
  simp only [State.idleAt, State.receives]; decide +kernel

theorem test_hyp_BandOfAMinute :
    layoutIn 600 4 240 = true ∧ layoutIn 1425 1 1440 = true ∧ layoutIn 0 8 15 = true ∧ layoutIn 0 8 210 = false ∧
      (let x : Tariff := { Tariff.factory with dayStart := 600, bands := 4, length := 240 }
       (x.bandAt 599, x.bandAt 600, x.bandAt 839, x.bandAt 840, x.bandAt 1439)) = (4, 1, 1, 2, 4) := by decide +kernel

/-- Lane 1 PARKED for CREDIT, a game owed, with a balance of 2.99. -/
def owing : State := parked creditMask (closing (session .games .prepaid 299 ready))

theorem test_hyp_ClockAndTariffChange :
    ready.canServe .dk ∧ ready.noneAwaitsCredit ∧ layoutIn 600 4 240 = true ∧ layoutIn 7 4 240 = false ∧
      owing.session 0 = .parked ∧ (owing.lane 0).session.wakeMask.credit = true ∧ owing.creditHolds 0 = true ∧
      (priced owing).creditHolds 0 = false ∧ owing.billing.back ≠ 0 ∧
      ready.tariff.bands = 1 ∧ ready.clock.hour < 24 ∧ ready.clock.minute < 60 ∧
      ((parked ⟨false, false, false, true⟩ opened).lane 0).session.wakeMask.band = true := by
  have session : ∀ l, ready.session l = .closed := by decide +kernel
  have running : ∀ l, ready.running l = false := by decide +kernel
  refine ⟨by simp only [State.canServe, State.idleAt, State.receives]; decide +kernel, ?_, by decide +kernel⟩
  exact fun l => ⟨fun h => by simp [session] at h, fun k h => by simp [running] at h⟩

theorem test_hyp_CreditAndBackGrace :
    ready.canServe .dk ∧ ready.session 0 = .closed ∧ (ready.lane 0).meter = none ∧ (opened.lane 0).meter = some { Meter.fresh .games .prepaid 1000 600 with phase := .metered } ∧
      opened.session 0 = .opened ∧ (opened.lane 0).session.pendingPark = none ∧
      ((parked ballMask opened).lane 0).session.wakeMask.credit = false ∧
      ((parked creditMask opened).lane 0).session.wakeMask.credit = true ∧
      (parked creditMask opened).creditHolds 0 = true ∧ (priced owing).creditHolds 0 = false ∧
      ((waiting creditMask opened).lane 0).session.pendingPark = some ⟨creditMask, .desk⟩ ∧
      (closing (priced (session .games .prepaid 299 ready))).session 0 = .closing ∧
      ((closing (priced (session .games .prepaid 299 ready))).lane 0).meter.map (fun m => (m.declined, m.phase, m.balance)) =
        some (some .game, .back, 299) ∧
      (299 + 1 ≥ Declined.price .game ((priced opened).priceOf 0)) ∧ (299 < Declined.price .game ((priced opened).priceOf 0)) ∧
      (closing opened).creditHolds 0 = true ∧ (closing (priced (session .games .prepaid 299 ready))).creditHolds 0 = false ∧
      ((closing opened).lane 0).session.settings.parkMask.credit = true ∧
      ((closing opened).lane 0).sup.state ≠ .cycling ∧
      ((closing inFlight).lane 0).sup.state = .cycling := by
  simp only [State.canServe, State.idleAt, State.receives]; decide +kernel

/-- A console that holds eight slips, and a pool with no free general slip. -/
def hoarding : State :=
  ready.modPool fun q =>
    { q with
      slips := Vector.ofFn fun n => if n.val < 8 then ⟨.held (.console 0), none, some (.port (.console 0)), 0, .none⟩ else q.slips[n]
      generalFree := [] }

theorem test_hyp_TakeSlipGivesTheHead :
    (8 ≤ (List.finRange 64).countP fun n => (hoarding.slip n).state == .held (.console 0)) ∧
      ((List.finRange 64).countP fun n => (hoarding.slip n).state == .held .dk) < 24 ∧ hoarding.pool.generalFree = [] ∧
      ready.pool.generalFree.head? = some 0 := by decide +kernel

/-- A pool whose reserve slips are all away, with calls that wait. -/
def backlogged (calls : List Call) : State :=
  ready.modPool fun q => { q with reserveFree := [], backlog := calls, slips := q.slips.set 63 ⟨.held .mc, none, some .part, 1, .none⟩ }

theorem test_hyp_SlipsAndCallsMove :
    (hoarding.holdsLimit (.console 0) = true ∧ ready.holdsLimit .dk = false ∧ ready.pool.posts[Port.dk.index] = []) ∧
      (ready.modPool fun q => { q with posts := q.posts.set 0 [3] }).pool.posts[Port.dk.index] = [3] ∧
      ((holding .dk (some (.gamesRequest 500)) ready).slip 0).state = .held .dk ∧
      slipBodyOf 1 [0, 0, 0x01, 0xF4, 0xFF, 0xFF] = some (.gamesRequest 500) ∧
      slipLaneBarred (.console 0) 2 (some (.reballRequest 1)) = false ∧
      ((holding .dk (some (.gamesRequest 500)) ready).slip 0).origin ≠ some .part ∧
      ((holding .dk (some (.gamesRequest 500)) ready).slip 0).outcome = .none ∧ isReserve 0 = false ∧ isReserve 63 = true ∧
      ((backlogged [⟨1, .handSet, 0⟩]).slip 63).state = .held .mc ∧
      (backlogged [⟨1, .handSet, 0⟩]).pool.backlog = [⟨1, .handSet, 0⟩] ∧ (backlogged []).pool.reserveFree = [] ∧
      ready.pool.reserveFree.head? = some 56 ∧ State.reset.loading = true ∧ ready.loading = false ∧
      32 ≤ (backlogged (List.replicate 32 ⟨1, .handSet, 0⟩)).pool.backlog.length := by decide +kernel

theorem test_hyp_ResetAndRestartValues :
    playing.canServe .dk ∧
      (let s := ready.modPool fun q =>
         { q with
           slips := q.slips.set 56 ⟨.posted .mc, some (.mechCall .handSet 0), some .part, 1, .none⟩
           posts := q.posts.set 1 [56] }
       56 ∈ s.pool.posts[Port.mc.index] ∧ (s.slip 56).origin = some .part ∧
         ¬ (57 ∈ s.pool.posts[Port.mc.index] ∧ (s.slip 57).origin = some .part)) := by
  simp only [State.canServe, State.idleAt, State.receives]; decide +kernel

theorem test_hyp_SettingsAreStoredAndLoaded :
    ready.storing = none ∧ { ready with storing := some ready.settings }.storing ≠ none ∧ ready.loading = false ∧
      State.reset.loading = true ∧ State.reset.memory.good = false ∧
      (let s : State := { State.reset with memory := settled.written }
       s.memory.good = true ∧ s.memory.data = settled.image ∧ settled.good = true ∧ s.loading = true) := by decide +kernel

theorem test_hyp_SectionSettingsAreWritten :
    ready.canServe .dk ∧ (Port.console 0).isConsole = true ∧ Port.mc.isConsole = false ∧
      (2 ≤ 30 ∧ 30 ≤ 30 ∧ 6 ≤ 6) ∧ (60 ≤ 3600 ∧ 3600 % 60 = 0 ∧ 90 % 60 ≠ 0) := by
  simp only [State.canServe, State.idleAt, State.receives]; decide +kernel

theorem test_hyp_SheetTables :
    (let e : BallEntry := makeEntry false [] fullRack 0x201 noMarks
     e.foul = false ∧ e.rack = .fresh ∧ e.down = 8 ∧ ¬ (e.rack = .fresh ∧ e.down = 10)) ∧
      (let f : BallEntry := makeEntry true [] fullRack 0 noMarks
       f.rack = .fresh ∧ f.down = 10) ∧
      (makeEntry false [] fullRack 0 { noMarks with foul := true }).foul = true ∧
      ((FrameRec.fresh : FrameRec).kind = .incomplete) := by decide +kernel

/-- R98, R99: two strikes wait, and the ball of a third frame resolves the first of them. -/
theorem test_hyp_SheetTables_resolution :
    (let two := worked [⟨1, 0x3FF, 0, false⟩, ⟨2, 0x3FF, 0, false⟩]
     let three := two.addBall 3 fullRack 0x201 noMarks
     two.awaiting = 2 ∧ (frameScore (frameAt two.frames 1) (two.frames.drop 1)) = none ∧
       three.awaiting = 1 ∧ three.frames.map (·.cumulative) = [some 28] ++ List.replicate 9 none ∧
       (frameScore (frameAt three.frames 1) (three.frames.drop 1)) = some 28 ∧
       (∀ f ∈ three.frames, f.balls.length ≤ 3 ∧ ∀ b ∈ f.balls, b.down ≤ 10) ∧
       (∀ f ∈ three.frames.take 2, f.kind = .strike ∧ 1 ≤ f.balls.length) ∧
       (∀ f ∈ three.frames.drop 2, f.kind = .incomplete)) := by decide +kernel

theorem test_hyp_SplitMark :
    (let old : List BallEntry := [makeEntry false [] fullRack 0x240 noMarks]
     let new := correctedBalls old 1 0x0C0
     old[0]?.map (·.after) = some 0x240 ∧ new[0]?.map (·.after) = some 0x0C0) := by decide +kernel

theorem test_hyp_TransitRecordsBalance :
    (returning false .running ready).transitLaw ∧ ∃ t, step (returning false .running ready) = .next t := by
  refine ⟨?_, _, rfl⟩
  simp only [State.transitLaw, ReturnMonitor.balanced]; decide +kernel

/-- Lane 1's meter in play is lawful. -/
theorem test_hyp_LaneRecordsStayLawful :
    opened.meterLaw ∧ opened.lightLaw ∧ opened.supervisorLaw ∧ ∃ t, step opened = .next t := by
  refine ⟨?_, ?_, ?_, _, rfl⟩
  · have h : ∀ l, (opened.lane l).meter =
        if l = 0 then some { Meter.fresh .games .prepaid 1000 600 with phase := .metered } else none := by decide +kernel
    intro l m hm
    rw [h] at hm
    split at hm
    · injection hm with hm; subst hm; simp only [Meter.lawful, Meter.fresh]; decide
    · simp at hm
  · simp only [State.lightLaw]; decide +kernel
  · simp only [State.supervisorLaw, Supervisor.lawful]; decide +kernel

theorem test_hyp_ListsStayLawful : opened.pool.lawful ∧ opened.listLaw ∧ ∃ t, step opened = .next t := by
  refine ⟨⟨by decide +kernel, by decide +kernel, by decide +kernel, ?_, by decide +kernel, by decide +kernel,
    by decide +kernel, by decide +kernel⟩, ⟨?_, by decide +kernel, by decide +kernel, by decide +kernel⟩, _, rfl⟩
  · intro n p
    cases p with
    | dk => revert n; decide +kernel
    | mc => revert n; decide +kernel
    | console k => revert n k; decide +kernel
  · intro p
    cases p with
    | dk => decide +kernel
    | mc => decide +kernel
    | console k => revert k; decide +kernel

end Sys2Proof.Tests
end

section
/-! SUPPORT. The rules of the Return Monitor (03), said once: what the idle rule and the episode rule make of a pair's
record, and what they leave alone. -/

namespace Sys2Proof.Machine

/-! ## A pair's record rewritten -/

theorem modRet_modRet (s : State) (p : Fin 8) (f g : ReturnMonitor → ReturnMonitor) :
    (s.modRet p f).modRet p g = s.modRet p fun r => g (f r) := by
  simp [State.modRet, State.modPair, State.pair]

theorem modRet_congr {s : State} {p : Fin 8} {f g : ReturnMonitor → ReturnMonitor} (h : f (s.ret p) = g (s.ret p)) :
    s.modRet p f = s.modRet p g := by
  have e : f (s.pair p).ret = g (s.pair p).ret := h
  simp only [State.modRet, State.modPair, e]

theorem modRet_eq_self {s : State} {p : Fin 8} {f : ReturnMonitor → ReturnMonitor} (h : f (s.ret p) = s.ret p) :
    s.modRet p f = s := by
  have e : f (s.pair p).ret = (s.pair p).ret := h
  simp only [State.modRet, State.modPair, e]
  change { s with pairs := s.pairs.set p (s.pair p) } = s
  simp [State.pair]

@[simp] theorem lanes_modRet (s : State) (p : Fin 8) (f : ReturnMonitor → ReturnMonitor) :
    (s.modRet p f).lanes = s.lanes := rfl
@[simp] theorem ports_modRet (s : State) (p : Fin 8) (f : ReturnMonitor → ReturnMonitor) :
    (s.modRet p f).ports = s.ports := rfl

/-- The idle timer of R60 is worked out from the sessions and the settings, which no Return Monitor holds. -/
@[simp] theorem idleAfter_modRet (s : State) (q p : Fin 8) (f : ReturnMonitor → ReturnMonitor) (r : ReturnMonitor) :
    (s.modRet q f).idleAfter p r = s.idleAfter p r := rfl

/-! ## The idle timer (R60) -/

theorem idleHolds_iff (s : State) (p : Fin 8) :
    s.idleHolds p = true ↔
      (s.ret p).lift = .running ∧ (s.ret p).transit = [] ∧ s.running (laneAt p .odd) = false ∧
        s.running (laneAt p .even) = false := by
  simp [State.idleHolds, State.pairIdle, and_assoc]

/-- The idle rule writes the timer that R60 gives, and nothing else. -/
theorem idleRule_eq (s : State) (p : Fin 8) :
    s.idleRule p = s.modRet p fun r => { r with idle := s.idleAfter p r } := by
  unfold State.idleRule
  split
  next holds =>
    have runs := (idleHolds_iff s p).mp holds
    split
    next stopped =>
      refine modRet_congr ?_
      simp [State.idleAfter, runs, Option.isNone_iff_eq_none.mp stopped]
    next started =>
      obtain ⟨n, timer⟩ := Option.ne_none_iff_exists'.mp (by simpa using started)
      have kept : s.idleAfter p (s.ret p) = (s.ret p).idle := by simp [State.idleAfter, runs, timer]
      exact (modRet_eq_self (by simp only [kept])).symm
  next fails =>
    have stops := mt (idleHolds_iff s p).mpr fails
    refine modRet_congr ?_
    simp [State.idleAfter, stops]

/-! ## The episode of a lane (R53) -/

@[simp] theorem transit_setEpisode (r : ReturnMonitor) (sd : Side) (b : Bool) :
    (r.setEpisode sd b).transit = r.transit := by cases sd <;> rfl
@[simp] theorem lift_setEpisode (r : ReturnMonitor) (sd : Side) (b : Bool) :
    (r.setEpisode sd b).lift = r.lift := by cases sd <;> rfl
@[simp] theorem created_setEpisode (r : ReturnMonitor) (sd : Side) (b : Bool) :
    (r.setEpisode sd b).created = r.created := by cases sd <;> rfl
@[simp] theorem matched_setEpisode (r : ReturnMonitor) (sd : Side) (b : Bool) :
    (r.setEpisode sd b).matched = r.matched := by cases sd <;> rfl
@[simp] theorem writtenOff_setEpisode (r : ReturnMonitor) (sd : Side) (b : Bool) :
    (r.setEpisode sd b).writtenOff = r.writtenOff := by cases sd <;> rfl
@[simp] theorem stray_setEpisode (r : ReturnMonitor) (sd : Side) (b : Bool) :
    (r.setEpisode sd b).stray = r.stray := by cases sd <;> rfl
@[simp] theorem overdueCount_setEpisode (r : ReturnMonitor) (sd side : Side) (b : Bool) :
    (r.setEpisode sd b).overdueCount side = r.overdueCount side := by cases sd <;> rfl
@[simp] theorem episode_setEpisode_same (r : ReturnMonitor) (sd : Side) (b : Bool) :
    (r.setEpisode sd b).episode sd = b := by cases sd <;> rfl
@[simp] theorem episode_setEpisode_other (r : ReturnMonitor) (sd : Side) (b : Bool) :
    (r.setEpisode sd b).episode sd.other = r.episode sd.other := by cases sd <;> rfl

theorem setEpisode_episode (r : ReturnMonitor) (sd : Side) : r.setEpisode sd (r.episode sd) = r := by
  cases sd <;> rfl

theorem episode_congr {q r : ReturnMonitor} (odd : q.episodeOdd = r.episodeOdd) (even : q.episodeEven = r.episodeEven)
    (sd : Side) : q.episode sd = r.episode sd := by
  cases sd with
  | odd => exact odd
  | even => exact even

theorem overdueCount_pos (r : ReturnMonitor) (sd : Side) :
    0 < r.overdueCount sd ↔ ∃ x ∈ r.transit, x.lane = sd ∧ x.overdue = true := by
  simp [ReturnMonitor.overdueCount, List.countP_pos_iff]

/-- Where no episode opens, the episode rule writes the lane's episode and nothing else: no call, flag or tone. -/
theorem episodeRule_quiet {s : State} {p : Fin 8} {sd : Side}
    (h : ¬ (0 < (s.ret p).overdueCount sd ∧ (s.ret p).episode sd = false)) :
    s.episodeRule p sd = s.modRet p fun r => r.setEpisode sd (decide (0 < r.overdueCount sd)) := by
  simp only [State.episodeRule, if_neg h]
  split
  next closes => exact modRet_congr (by simp [closes.1])
  next stays =>
    have same : decide (0 < (s.ret p).overdueCount sd) = (s.ret p).episode sd := by
      cases e : (s.ret p).episode sd with
      | false => simpa [e] using h
      | true => simpa [e, Nat.pos_iff_ne_zero] using stays
    refine (modRet_eq_self ?_).symm
    rw [same, setEpisode_episode]

/-- A lane's episode is open after the episode rule exactly where the lane has an overdue record. -/
@[simp] theorem ret_episodeRule (s : State) (p : Fin 8) (sd : Side) :
    (s.episodeRule p sd).ret p = (s.ret p).setEpisode sd (decide (0 < (s.ret p).overdueCount sd)) := by
  by_cases opens : 0 < (s.ret p).overdueCount sd ∧ (s.ret p).episode sd = false
  · simp only [State.episodeRule, if_pos opens]
    split <;> simp [opens.1]
  · simp [episodeRule_quiet opens]

/-! ## What the rules leave of lanes and flags -/

/-- A tone changes only the horn of its lane. -/
theorem sameLaneButHorn_sound (s : State) (l : Fin 16) (t : Tone) (k : Fin 16) : s.sameLaneButHorn (s.sound l t) k := by
  simp only [State.sameLaneButHorn, State.sound, State.modSup, lane_modLane]
  split <;> rfl

theorem sameLaneButHorn_congr {s s' t t' : State} {k : Fin 16} (hs : s'.lane k = s.lane k)
    (ht : t'.lane k = t.lane k) (h : s'.sameLaneButHorn t' k) : s.sameLaneButHorn t k := by
  simpa only [State.sameLaneButHorn, hs, ht] using h

theorem sameLaneButHorn_of_lane {s t : State} {k : Fin 16} (h : t.lane k = s.lane k) : s.sameLaneButHorn t k := by
  simp only [State.sameLaneButHorn, h]

/-- Opening an episode sounds the lane's horn; the episode rule changes no lane otherwise. -/
theorem sameLaneButHorn_episodeRule (s : State) (p : Fin 8) (sd : Side) (k : Fin 16) :
    s.sameLaneButHorn (s.episodeRule p sd) k := by
  by_cases opens : 0 < (s.ret p).overdueCount sd ∧ (s.ret p).episode sd = false
  · simp only [State.episodeRule, if_pos opens]
    split
    · exact sameLaneButHorn_of_lane (lane_modRet ..)
    · exact sameLaneButHorn_congr (by simp) rfl (sameLaneButHorn_sound _ _ .call k)
  · exact sameLaneButHorn_of_lane (by rw [episodeRule_quiet opens, lane_modRet])

theorem getLsbD_flagBit : ∀ k : Fin 9, (flagBit k).getLsbD k = true := by decide

theorem flagged_setEvent_same (s : State) (q : Port) (k : Fin 9) : (s.setEvent q k).flagged q k := by
  simp only [State.flagged, State.setEvent, port_modPort_same, BitVec.getLsbD_or, getLsbD_flagBit, Bool.or_true]

/-- A flag once set stays set when another is set. -/
theorem flagged_setEvent {s : State} {q : Port} {k : Nat} (h : s.flagged q k) (p : Port) (j : Nat) :
    (s.setEvent p j).flagged q k := by
  unfold State.flagged at *
  simp only [State.setEvent, port_modPort]
  split <;> simp [h]

theorem flagged_raiseCall {s : State} {q : Port} {k : Nat} (h : s.flagged q k) (c : Call) :
    (s.raiseCall c).flagged q k := by
  unfold State.raiseCall
  split
  · exact h
  · split
    · exact h
    · unfold State.backlogCall
      split
      · exact h
      · split
        · exact h
        · exact flagged_setEvent h .mc _

theorem flagged_episodeRule {s : State} {q : Port} {k : Nat} (h : s.flagged q k) (p : Fin 8) (sd : Side) :
    (s.episodeRule p sd).flagged q k := by
  by_cases opens : 0 < (s.ret p).overdueCount sd ∧ (s.ret p).episode sd = false
  · simp only [State.episodeRule, if_pos opens]
    split
    · exact h
    · have called := flagged_raiseCall (s := s.modRet p fun r => r.setEpisode sd true) h
        ⟨laneNo (laneAt p sd), .returnOverdue, (s.ret p).overdueCount sd⟩
      exact flagged_setEvent called .mc _
  · rw [episodeRule_quiet opens]; exact h

/-! ## Events -/

theorem unlessHeld_released {s : State} (h : s.resetHeld = false) (f : State → State) : s.unlessHeld f = f s := by
  simp [State.unlessHeld, h]

end Sys2Proof.Machine
end

section
/-! PROOFS. LIFT ARRIVE (R49), CLEAR OVERDUE (R54) and LIFT RESTART (R59). -/

namespace Sys2Proof.Machine

/-! ## LIFT ARRIVE (R49) -/

theorem arrive_stray {s : State} {p : Fin 8} (h : (s.ret p).transit = []) :
    s.arrive p = s.modRet p fun r => { r with stray := r.stray + 1 } := by
  simp [State.arrive, h]

/-- The oldest record leaves the list and is counted as matched. -/
def ReturnMonitor.matchOldest (r : ReturnMonitor) : ReturnMonitor :=
  { r with transit := r.transit.tail, matched := r.matched + 1 }

theorem arrive_matched {s : State} {p : Fin 8} {x : Transit} {rest : List Transit}
    (list : (s.ret p).transit = x :: rest) :
    s.arrive p =
      (if x.overdue then
        ((s.modRet p ReturnMonitor.matchOldest).flagMc .returnRecovered).episodeRule p x.lane
      else s.modRet p ReturnMonitor.matchOldest).idleRule p := by
  have taken : s.modRet p ReturnMonitor.matchOldest =
      s.modRet p fun r => { r with transit := rest, matched := r.matched + 1 } :=
    modRet_congr (by simp [ReturnMonitor.matchOldest, list])
  simp only [State.arrive, list, taken]

theorem arrive_in_time {s : State} {p : Fin 8} {x : Transit} {rest : List Transit}
    (list : (s.ret p).transit = x :: rest) (inTime : x.overdue = false) :
    s.arrive p = (s.modRet p ReturnMonitor.matchOldest).idleRule p := by
  simp only [arrive_matched list, inTime, Bool.false_eq_true, if_false]

theorem arrive_overdue {s : State} {p : Fin 8} {x : Transit} {rest : List Transit}
    (list : (s.ret p).transit = x :: rest) (late : x.overdue = true) :
    s.arrive p =
      (((s.modRet p ReturnMonitor.matchOldest).flagMc .returnRecovered).episodeRule p x.lane).idleRule p := by
  simp only [arrive_matched list, late, if_true]

/-- Whether the record matched was overdue or not, a LIFT ARRIVE changes no lane but for its horn. -/
theorem sameLaneButHorn_arrive (s : State) (p : Fin 8) (k : Fin 16) : s.sameLaneButHorn (s.arrive p) k := by
  cases list : (s.ret p).transit with
  | nil => exact sameLaneButHorn_of_lane (by rw [arrive_stray list, lane_modRet])
  | cons x rest =>
    cases late : x.overdue with
    | false => exact sameLaneButHorn_of_lane (by rw [arrive_in_time list late, lane_idleRule, lane_modRet])
    | true =>
      rw [arrive_overdue list late]
      exact sameLaneButHorn_congr (by simp) (lane_idleRule ..).symm (sameLaneButHorn_episodeRule _ p x.lane k)

/-- The pair's record after an overdue record was matched: the episode of its lane is open where the lane still has
an overdue record, and the idle timer follows R60. -/
theorem ret_arrive_overdue {s : State} {p : Fin 8} {x : Transit} {rest : List Transit}
    (list : (s.ret p).transit = x :: rest) (late : x.overdue = true) :
    ∃ idle, (s.arrive p).ret p =
      { (s.ret p).matchOldest.setEpisode x.lane (decide (∃ y ∈ rest, y.lane = x.lane ∧ y.overdue = true)) with
        idle := idle } := by
  have left : (0 < (s.ret p).matchOldest.overdueCount x.lane) =
      ∃ y ∈ rest, y.lane = x.lane ∧ y.overdue = true := by
    simp [overdueCount_pos, ReturnMonitor.matchOldest, list]
  simp only [arrive_overdue list late, idleRule_eq, ret_modRet_same, ret_episodeRule, ret_flagMc, left]
  exact ⟨_, rfl⟩

theorem flagged_arrive_overdue {s : State} {p : Fin 8} {x : Transit} {rest : List Transit}
    (list : (s.ret p).transit = x :: rest) (late : x.overdue = true) : (s.arrive p).flagged .mc 4 := by
  rw [arrive_overdue list late, idleRule_eq]
  exact flagged_episodeRule (flagged_setEvent_same _ .mc 4) p x.lane

/-- While the lane's episode is open, matching an overdue record raises no call and sounds no horn. -/
theorem arrive_overdue_in_episode {s : State} {p : Fin 8} {x : Transit} {rest : List Transit}
    (list : (s.ret p).transit = x :: rest) (late : x.overdue = true) (isOpen : (s.ret p).episode x.lane = true) :
    (s.arrive p).lanes = s.lanes ∧ (s.arrive p).pool = s.pool := by
  have still : ((s.modRet p ReturnMonitor.matchOldest).flagMc .returnRecovered).ret p = (s.ret p).matchOldest := by simp
  have episode : (s.ret p).matchOldest.episode x.lane = true := by
    rw [← isOpen]; cases x.lane <;> rfl
  rw [arrive_overdue list late, idleRule_eq, episodeRule_quiet (by rw [still, episode]; simp)]
  exact ⟨rfl, rfl⟩

/-- Settles O34, by whether the list is empty and whether its oldest record is overdue. -/
theorem liftArriveMatchesTheOldest : Obligations.LiftArriveMatchesTheOldest := by
  intro p s released
  have run : exec (.liftArrive p) s = .next (s.arrive p) :=
    congrArg Host.Outcome.next (unlessHeld_released released (liftArrive p))
  refine ⟨fun empty => by rw [run, arrive_stray empty], fun x rest list => ?_⟩
  refine ⟨s.arrive p, run, chip_arrive s p, line_arrive s p,
    fun q other => pairOther_arrive s p q (by simpa using other), turn_arrive s p p, directory_arrive s p,
    sameLaneButHorn_arrive s p, fun inTime => ?_, fun late => ?_⟩
  · rw [arrive_in_time list inTime, idleRule_eq, modRet_modRet]
    simp [ReturnMonitor.matchOldest, list]
  · obtain ⟨idle, after⟩ := ret_arrive_overdue list late
    refine ⟨flagged_arrive_overdue list late, ?_⟩
    simp only [after, transit_setEpisode, lift_setEpisode, created_setEpisode, matched_setEpisode,
      writtenOff_setEpisode, stray_setEpisode]
    refine ⟨by simp [ReturnMonitor.matchOldest, list], rfl, rfl, rfl, rfl, rfl, ?_, ?_,
      arrive_overdue_in_episode list late⟩
    · exact (episode_congr rfl rfl _).trans (episode_setEpisode_same ..)
    · exact (episode_congr rfl rfl _).trans ((episode_setEpisode_other ..).trans (episode_congr rfl rfl _))

/-! ## CLEAR OVERDUE (R54) -/

/-- The overdue records of the lanes in scope leave the list and are counted as written off. -/
def ReturnMonitor.writeOff (r : ReturnMonitor) (scope : Side → Bool) : ReturnMonitor :=
  { r with
    transit := r.transit.filter fun x => !(x.overdue && scope x.lane)
    writtenOff := r.writtenOff + BitVec.ofNat 32 (r.transit.countP fun x => x.overdue && scope x.lane) }

/-- With them gone the episodes in scope are closed. -/
def ReturnMonitor.cleared (r : ReturnMonitor) (scope : Side → Bool) : ReturnMonitor :=
  { r.writeOff scope with
    episodeOdd := if scope .odd then false else r.episodeOdd
    episodeEven := if scope .even then false else r.episodeEven }

/-- A lane without overdue records: its episode closes, and nothing else happens. -/
theorem episodeRule_closes {s : State} {p : Fin 8} {sd : Side} (h : (s.ret p).overdueCount sd = 0) :
    s.episodeRule p sd = s.modRet p fun r => r.setEpisode sd false := by
  rw [episodeRule_quiet (by simp [h])]
  exact modRet_congr (by simp [h])

/-- No record of a lane in scope is overdue once the overdue records in scope are written off. -/
theorem overdueCount_writeOff {scope : Side → Bool} {sd : Side} (inScope : scope sd = true) (r : ReturnMonitor) :
    (r.writeOff scope).overdueCount sd = 0 := by
  simp only [ReturnMonitor.overdueCount, ReturnMonitor.writeOff, List.countP_eq_zero, List.mem_filter]
  rintro x ⟨-, kept⟩ found
  simp only [Bool.and_eq_true, beq_iff_eq] at found
  simp [found.1, found.2, inScope] at kept

/-- The episode rule run on a lane where it is in scope. -/
theorem episodeRule_inScope {s : State} {p : Fin 8} {sd : Side} {scope : Side → Bool}
    (h : scope sd = true → (s.ret p).overdueCount sd = 0) :
    (if scope sd then s.episodeRule p sd else s) =
      s.modRet p fun r => r.setEpisode sd (if scope sd then false else r.episode sd) := by
  cases e : scope sd with
  | true => simpa using episodeRule_closes (h e)
  | false => simpa using (modRet_eq_self (setEpisode_episode _ sd)).symm

theorem clearOverdue_eq (s : State) (p : Fin 8) (scope : Side → Bool) :
    s.clearOverdue p scope =
      s.modRet p fun r => { r.cleared scope with idle := s.idleAfter p (r.cleared scope) } := by
  unfold State.clearOverdue
  extract_lets gone taken odd even
  have htaken : taken = s.modRet p fun r => r.writeOff scope := rfl
  have hodd : odd = taken.modRet p fun r => r.setEpisode .odd (if scope .odd then false else r.episode .odd) :=
    episodeRule_inScope fun h => by rw [htaken, ret_modRet_same, overdueCount_writeOff h]
  have heven : even = odd.modRet p fun r => r.setEpisode .even (if scope .even then false else r.episode .even) :=
    episodeRule_inScope fun h => by
      rw [hodd, htaken, ret_modRet_same, ret_modRet_same, overdueCount_setEpisode, overdueCount_writeOff h]
  rw [idleRule_eq, heven, hodd, htaken]
  simp only [modRet_modRet, idleAfter_modRet]
  rfl

/-! ## LIFT RESTART (R59) -/

/-- The lift started again: paused where the rack is full. -/
def ReturnMonitor.restarted (r : ReturnMonitor) : ReturnMonitor :=
  { r with lift := if r.rackFull then .fullPause else .running }

theorem restartLift_eq (s : State) (p : Fin 8) :
    s.restartLift p = s.modRet p fun r => { r.restarted with idle := s.idleAfter p r.restarted } := by
  unfold State.restartLift
  rw [idleRule_eq, modRet_modRet]
  rfl

/-! ## The requests as they are served -/

@[simp] theorem ret_replying (s : State) (q : Port) (b : Byte) (o : ReplyOutcome) (r : List Byte) (p : Fin 8) :
    (s.replying q b o r).ret p = s.ret p := rfl
@[simp] theorem turn_replying (s : State) (q : Port) (b : Byte) (o : ReplyOutcome) (r : List Byte) (p : Fin 8) :
    (s.replying q b o r).turn p = s.turn p := rfl

theorem exec_clearOverdue {q : Port} {s : State} (h : s.idleAt q) (pair lane : Nat) {o : ReplyOutcome}
    (ho : o ≠ .frame) {t : State} {results : List Byte}
    (served : serveClearOverdue q pair lane s = ⟨t, o, results⟩) :
    exec (.clearOverdue q pair lane) s = .next (t.replying q 0x1E o results) := by
  have e : serve (.clearOverdue q pair lane) s = ⟨t, o, results⟩ := served
  rw [exec_idle rfl h (by rw [e]; exact ho), e]
  rfl

theorem exec_liftRestart {q : Port} {s : State} (h : s.idleAt q) (pair : Nat) {o : ReplyOutcome} (ho : o ≠ .frame)
    {t : State} {results : List Byte} (served : serveLiftRestart q pair s = ⟨t, o, results⟩) :
    exec (.liftRestart q pair) s = .next (t.replying q 0x1F o results) := by
  have e : serve (.liftRestart q pair) s = ⟨t, o, results⟩ := served
  rw [exec_idle rfl h (by rw [e]; exact ho), e]
  rfl

theorem not_inPairs {pair : Nat} (h : pair = 0 ∨ 8 < pair) : inPairs pair = false := by
  simp only [inPairs, Bool.and_eq_false_iff, decide_eq_false_iff_not]; omega

theorem val_pairIx {pair : Nat} (h : inPairs pair = true) : (pairIx pair).val = pair - 1 := by
  simp only [inPairs, Bool.and_eq_true, decide_eq_true_eq] at h
  simp only [pairIx, Fin.ofNat]; omega

theorem overdueScope_odd (p : Fin 8) (lane : Nat) :
    overdueScope p lane .odd = (lane == 0 || lane == 2 * p.val + 1) := rfl
theorem overdueScope_even (p : Fin 8) (lane : Nat) :
    overdueScope p lane .even = (lane == 0 || lane == 2 * p.val + 2) := rfl

/-- The lane of a CLEAR OVERDUE puts a lane of the pair in scope where it is 0 or a lane of the pair (R54). -/
theorem overdueScope_any (p : Fin 8) (lane : Nat) :
    (overdueScope p lane .odd || overdueScope p lane .even) = true ↔
      lane = 0 ∨ lane = 2 * p.val + 1 ∨ lane = 2 * p.val + 2 := by
  simp only [overdueScope_odd, overdueScope_even, Bool.or_eq_true, beq_iff_eq]; omega

/-- The RANGE check of CLEAR OVERDUE, by the numbers of R54. -/
theorem clearOverdue_outOfRange {pair lane : Nat}
    (h : pair = 0 ∨ 8 < pair ∨ lane ≠ 0 ∧ lane ≠ 2 * pair - 1 ∧ lane ≠ 2 * pair) :
    (!inPairs pair || !(overdueScope (pairIx pair) lane .odd || overdueScope (pairIx pair) lane .even)) = true := by
  cases e : inPairs pair with
  | false => rfl
  | true =>
    have known := val_pairIx e
    simp only [inPairs, Bool.and_eq_true, decide_eq_true_eq] at e
    have outside : ¬ (overdueScope (pairIx pair) lane .odd || overdueScope (pairIx pair) lane .even) = true := by
      rw [overdueScope_any]; omega
    simp [outside]

/-- CLEAR OVERDUE: its refusals in order, and its effects (R54). -/
theorem clearOverdue_served (q : Port) (pair lane : Nat) (s : State) (idle : s.idleAt q) :
    (q ≠ .mc → exec (.clearOverdue q pair lane) s = .next (s.replying q 0x1E .denied [])) ∧
    (q = .mc → (pair = 0 ∨ 8 < pair ∨ lane ≠ 0 ∧ lane ≠ 2 * pair - 1 ∧ lane ≠ 2 * pair) →
      exec (.clearOverdue q pair lane) s = .next (s.replying q 0x1E .range [])) ∧
    ∀ p : Fin 8, q = .mc → pair = pairNo p → (lane = 0 ∨ lane = 2 * p.val + 1 ∨ lane = 2 * p.val + 2) →
      (s.loading = true → exec (.clearOverdue q pair lane) s = .next (s.replying q 0x1E .busy [])) ∧
      (s.loading = false →
        exec (.clearOverdue q pair lane) s =
          .next ((s.clearOverdue p (overdueScope p lane)).replying q 0x1E .ok
            (byte1 (s.overdueIn p (overdueScope p lane))))) := by
  refine ⟨fun other => ?_, fun mc out => ?_, fun p mc named inScope => ⟨fun busy => ?_, fun free => ?_⟩⟩
  · exact exec_clearOverdue idle pair lane (by decide) (after_refused (by rw [bne_iff_ne.mpr other]; rfl))
  · exact exec_clearOverdue idle pair lane (by decide) (after_refused (by
      rw [clearOverdue_outOfRange out, mc]; rfl))
  · subst named
    have any := (overdueScope_any p lane).mpr inScope
    exact exec_clearOverdue idle _ lane (by decide) (after_refused (by
      rw [pairIx_pairNo, inPairs_pairNo, any, busy, mc]; rfl))
  · subst named
    have any := (overdueScope_any p lane).mpr inScope
    refine exec_clearOverdue idle _ lane (by decide) ((after_taken ?_).trans ?_)
    · rw [pairIx_pairNo, inPairs_pairNo, any, free, mc]; rfl
    · rw [pairIx_pairNo]

/-- LIFT RESTART: its refusals in order, and its effects (R59). -/
theorem liftRestart_served (q : Port) (pair : Nat) (s : State) (idle : s.idleAt q) :
    (q ≠ .mc → exec (.liftRestart q pair) s = .next (s.replying q 0x1F .denied [])) ∧
    (q = .mc → (pair = 0 ∨ 8 < pair) → exec (.liftRestart q pair) s = .next (s.replying q 0x1F .range [])) ∧
    ∀ p : Fin 8, q = .mc → pair = pairNo p →
      (s.loading = true → exec (.liftRestart q pair) s = .next (s.replying q 0x1F .busy [])) ∧
      (s.loading = false → ((s.ret p).lift ≠ .stall ∨ (s.ret p).overload = true) →
        exec (.liftRestart q pair) s = .next (s.replying q 0x1F .state [])) ∧
      (s.loading = false → (s.ret p).lift = .stall → (s.ret p).overload = false →
        exec (.liftRestart q pair) s = .next ((s.restartLift p).replying q 0x1F .ok [])) := by
  refine ⟨fun other => ?_, fun mc out => ?_, fun p mc named =>
    ⟨fun busy => ?_, fun free stuck => ?_, fun free stall low => ?_⟩⟩
  · exact exec_liftRestart idle pair (by decide) (after_refused (by rw [bne_iff_ne.mpr other]; rfl))
  · exact exec_liftRestart idle pair (by decide) (after_refused (by rw [not_inPairs out, mc]; rfl))
  · subst named
    exact exec_liftRestart idle _ (by decide) (after_refused (by rw [inPairs_pairNo, busy, mc]; rfl))
  · subst named
    refine exec_liftRestart idle _ (by decide) (after_refused ?_)
    rw [pairIx_pairNo, inPairs_pairNo, free, mc]
    rcases stuck with moving | raised
    · rw [bne_iff_ne.mpr moving]; rfl
    · rw [raised]; cases (s.ret p).lift <;> rfl
  · subst named
    refine exec_liftRestart idle _ (by decide) ((after_taken ?_).trans ?_)
    · rw [pairIx_pairNo, inPairs_pairNo, free, mc, stall, low]; rfl
    · rw [pairIx_pairNo]; rfl

/-- Settles O37, by the requests as they are served and what they make of the pair's record. -/
theorem overdueAndStallAreCleared : Obligations.OverdueAndStallAreCleared := by
  refine ⟨fun q pair lane s idle => ?_, fun q pair s idle => ?_⟩
  · obtain ⟨denied, range, named⟩ := clearOverdue_served q pair lane s idle
    refine ⟨denied, range, fun p mc number inScope => ?_⟩
    obtain ⟨busy, taken⟩ := named p mc number inScope
    refine ⟨busy, fun free => ⟨_, taken free, ?_⟩⟩
    rw [clearOverdue_eq]
    refine ⟨rfl, fun o other => ?_, ?_, rfl, rfl, rfl, rfl, ?_⟩
    · exact (pair_replying ..).trans (pairOther_modRet _ _ _ _ (by simpa using other))
    · exact (turn_replying ..).trans (turn_modRet ..)
    · exact (ret_replying ..).trans (ret_modRet_same ..)
  · obtain ⟨denied, range, named⟩ := liftRestart_served q pair s idle
    refine ⟨denied, range, fun p mc number => ?_⟩
    obtain ⟨busy, state, taken⟩ := named p mc number
    refine ⟨busy, state, fun free stall low => ?_⟩
    rw [taken free stall low, restartLift_eq]
    rfl

end Sys2Proof.Machine
end

section
/-! SUPPORT. The ledger of a pair's transit records (R51): what each operation leaves of the numbers created, matched,
written off and on the list. A lemma `ledger_<operation>` says that the operation leaves every pair's ledger as it
was. -/

namespace Sys2Proof.Machine

/-- What R51 speaks of: the records created, matched and written off, and how many are on the list. -/
def ReturnMonitor.ledger (r : ReturnMonitor) : BitVec 32 × BitVec 32 × BitVec 32 × Nat :=
  (r.created, r.matched, r.writtenOff, r.transit.length)

/-- A rewriting of a pair's record that keeps its ledger keeps every ledger. -/
theorem ledger_modRet {f : ReturnMonitor → ReturnMonitor} (s : State) (p w : Fin 8)
    (h : (f (s.ret p)).ledger = (s.ret p).ledger) : ((s.modRet p f).ret w).ledger = (s.ret w).ledger := by
  rw [ret_modRet]
  split
  next same => rw [same, h]
  next => rfl

@[simp] theorem ledger_setEpisode (r : ReturnMonitor) (sd : Side) (b : Bool) :
    (r.setEpisode sd b).ledger = r.ledger := by cases sd <;> rfl

/-! ## The lift and the episodes -/

@[simp] theorem ledger_episodeRule (s : State) (p : Fin 8) (sd : Side) (w : Fin 8) :
    ((s.episodeRule p sd).ret w).ledger = (s.ret w).ledger := by
  by_cases same : w = p
  · rw [same, ret_episodeRule, ledger_setEpisode]
  · simp only [State.ret, pairOther_episodeRule s p sd w same]

@[simp] theorem ledger_idleRule (s : State) (p w : Fin 8) : ((s.idleRule p).ret w).ledger = (s.ret w).ledger := by
  rw [idleRule_eq]
  exact ledger_modRet s p w rfl

@[simp] theorem ledger_enterStall (s : State) (p w : Fin 8) : ((s.enterStall p).ret w).ledger = (s.ret w).ledger := by
  simpa [State.enterStall] using ledger_modRet s p w rfl

@[simp] theorem ledger_startLift (s : State) (p w : Fin 8) : ((s.startLift p).ret w).ledger = (s.ret w).ledger := by
  simp only [State.startLift]
  split
  · split
    · exact ledger_enterStall s p w
    · exact ledger_modRet s p w rfl
  · rfl

@[simp] theorem ledger_restartLift (s : State) (p w : Fin 8) :
    ((s.restartLift p).ret w).ledger = (s.ret w).ledger := by
  rw [restartLift_eq]
  exact ledger_modRet s p w rfl

@[simp] theorem ledger_rackFullOn (s : State) (p w : Fin 8) : ((rackFullOn p s).ret w).ledger = (s.ret w).ledger := by
  refine ledger_modRet s p w ?_
  dsimp only
  split <;> rfl

@[simp] theorem ledger_rackFullOff (s : State) (p w : Fin 8) : ((rackFullOff p s).ret w).ledger = (s.ret w).ledger := by
  refine (ledger_idleRule _ p w).trans (ledger_modRet s p w ?_)
  dsimp only
  split <;> rfl

@[simp] theorem ledger_liftOverload (s : State) (p w : Fin 8) :
    ((liftOverload p s).ret w).ledger = (s.ret w).ledger := by
  have level : ((s.modRet p fun r => { r with overload := true }).ret w).ledger = (s.ret w).ledger :=
    ledger_modRet s p w rfl
  simp only [liftOverload]
  split <;> simp only [ledger_enterStall, level]

@[simp] theorem ledger_liftOverloadLow (s : State) (p w : Fin 8) :
    ((liftOverloadLow p s).ret w).ledger = (s.ret w).ledger := ledger_modRet s p w rfl

@[simp] theorem ledger_liftIdleExpiry (s : State) (p w : Fin 8) :
    ((liftIdleExpiry p s).ret w).ledger = (s.ret w).ledger := by
  simp only [liftIdleExpiry]
  split
  · exact ledger_modRet s p w rfl
  · rfl

/-- Records are made overdue where they stand: the list keeps its length. -/
@[simp] theorem ledger_markOverdue (s : State) (p : Fin 8) (f : Transit → Transit) (w : Fin 8) :
    ((s.markOverdue p f).ret w).ledger = (s.ret w).ledger := by
  simp only [State.markOverdue, ledger_episodeRule]
  exact ledger_modRet s p w (by simp [ReturnMonitor.ledger])

@[simp] theorem ledger_recordOverdue (s : State) (p : Fin 8) (seqs : List (BitVec 16)) (w : Fin 8) :
    ((recordOverdue p seqs s).ret w).ledger = (s.ret w).ledger := by
  simp only [recordOverdue]; split <;> simp

@[simp] theorem ledger_liftLaneOpen (s : State) (p : Fin 8) (w : Fin 8) :
    ((s.liftLaneOpen p).ret w).ledger = (s.ret w).ledger := by
  simp [State.liftLaneOpen]

@[simp] theorem ledger_liftLaneStopped (s : State) (l : Fin 16) (w : Fin 8) :
    ((s.liftLaneStopped l).ret w).ledger = (s.ret w).ledger := by
  simp [State.liftLaneStopped]

/-! ## Parks and pending parks -/

@[simp] theorem ledger_enterParked (s : State) (l : Fin 16) (mask : WakeMask) (cause : ParkCause) (w : Fin 8) :
    ((s.enterParked l mask cause).ret w).ledger = (s.ret w).ledger := by
  simp [State.enterParked]

@[simp] theorem ledger_park (s : State) (l : Fin 16) (mask : WakeMask) (cause : ParkCause) (w : Fin 8) :
    ((s.park l mask cause).ret w).ledger = (s.ret w).ledger := by
  simp only [State.park]; split <;> simp

@[simp] theorem ledger_enterPending (s : State) (l : Fin 16) (w : Fin 8) :
    ((s.enterPending l).ret w).ledger = (s.ret w).ledger := by
  simp only [State.enterPending]; (repeat' split) <;> simp

@[simp] theorem ledger_afterCycle (s : State) (l : Fin 16) (w : Fin 8) :
    ((s.afterCycle l).ret w).ledger = (s.ret w).ledger := by
  simp only [State.afterCycle]; split <;> simp

@[simp] theorem ledger_parkExhausted (s : State) (l : Fin 16) (w : Fin 8) :
    ((s.parkExhausted l).ret w).ledger = (s.ret w).ledger := by
  simp [State.parkExhausted]

@[simp] theorem ledger_zeroBackGrace (s : State) (l : Fin 16) (w : Fin 8) :
    ((s.zeroBackGrace l).ret w).ledger = (s.ret w).ledger := by
  simp only [State.zeroBackGrace]; (repeat' split) <;> simp

/-! ## Heads, games and turns -/

@[simp] theorem ledger_askGame (s : State) (l : Fin 16) (i : Fin 12) (w : Fin 8) :
    ((s.askGame l i).ret w).ledger = (s.ret w).ledger := by
  simp only [State.askGame]; (repeat' split) <;> simp

@[simp] theorem ledger_raiseHead (s : State) (l : Fin 16) (i : Fin 12) (w : Fin 8) :
    ((s.raiseHead l i).ret w).ledger = (s.ret w).ledger := by
  simp only [State.raiseHead]; (repeat' split) <;> simp

@[simp] theorem ledger_headRules (s : State) (l : Fin 16) (w : Fin 8) :
    ((s.headRules l).ret w).ledger = (s.ret w).ledger := by
  simp only [State.headRules]; (repeat' split) <;> simp

@[simp] theorem ledger_takePaid (s : State) (l : Fin 16) (w : Fin 8) :
    ((s.takePaid l).ret w).ledger = (s.ret w).ledger := by
  simp only [State.takePaid]; (repeat' split) <;> simp

@[simp] theorem ledger_endTurn (s : State) (l : Fin 16) (i : Fin 12) (finished : Bool) (w : Fin 8) :
    ((s.endTurn l i finished).ret w).ledger = (s.ret w).ledger := by
  simp only [State.endTurn]; split <;> simp

@[simp] theorem ledger_turnPaid (s : State) (l : Fin 16) (m : Meter) (w : Fin 8) :
    ((s.turnPaid l m).ret w).ledger = (s.ret w).ledger := by
  simp only [State.turnPaid]; split <;> simp

@[simp] theorem ledger_paidRetry (s : State) (l : Fin 16) (m : Meter) (w : Fin 8) :
    ((s.paidRetry l m).ret w).ledger = (s.ret w).ledger := by
  simp [State.paidRetry]

/-! ## Wakes, re-tests of CREDIT and the periods of a meter -/

@[simp] theorem ledger_resumeMachines (s : State) (l : Fin 16) (w : Fin 8) :
    ((s.resumeMachines l).ret w).ledger = (s.ret w).ledger := by
  simp [State.resumeMachines]

@[simp] theorem ledger_wake (s : State) (l : Fin 16) (w : Fin 8) :
    ((s.wake l).ret w).ledger = (s.ret w).ledger := by
  simp only [State.wake]; (repeat' split) <;> simp

@[simp] theorem ledger_retest (s : State) (l : Fin 16) (w : Fin 8) :
    ((s.retest l).ret w).ledger = (s.ret w).ledger := by
  simp only [State.retest]; (repeat' split) <;> simp

@[simp] theorem ledger_retestAll (s : State) (w : Fin 8) :
    ((s.retestAll).ret w).ledger = (s.ret w).ledger := by
  simp [State.retestAll, foldl_keeps (fun t : State => (t.ret w).ledger)]

@[simp] theorem ledger_ballEdge (s : State) (l : Fin 16) (w : Fin 8) :
    ((s.ballEdge l).ret w).ledger = (s.ret w).ledger := by
  simp only [State.ballEdge]; split <;> simp

@[simp] theorem ledger_bandEdge (s : State) (l : Fin 16) (w : Fin 8) :
    ((s.bandEdge l).ret w).ledger = (s.ret w).ledger := by
  simp only [State.bandEdge]; split <;> simp

@[simp] theorem ledger_backGraceEnds (s : State) (l : Fin 16) (w : Fin 8) :
    ((s.backGraceEnds l).ret w).ledger = (s.ret w).ledger := by
  simp only [State.backGraceEnds]; (repeat' split) <;> simp

@[simp] theorem ledger_frontGraceEnd (s : State) (l : Fin 16) (w : Fin 8) :
    ((frontGraceEnd l s).ret w).ledger = (s.ret w).ledger := by
  simp only [frontGraceEnd]; split <;> simp

@[simp] theorem ledger_unitEnd (s : State) (l : Fin 16) (w : Fin 8) :
    ((unitEnd l s).ret w).ledger = (s.ret w).ledger := by
  simp only [unitEnd]; split <;> simp

@[simp] theorem ledger_backGraceExpiry (s : State) (l : Fin 16) (w : Fin 8) :
    ((backGraceExpiry l s).ret w).ledger = (s.ret w).ledger := by
  simp only [backGraceExpiry]; split <;> simp

/-! ## Balls, cycles and the mechanic -/

@[simp] theorem ledger_applySnapshot (s : State) (l : Fin 16) (n : Snapshot) (w : Fin 8) :
    ((s.applySnapshot l n).ret w).ledger = (s.ret w).ledger := by
  simp only [State.applySnapshot]; (repeat' split) <;> simp

@[simp] theorem ledger_unpaidBall (s : State) (l : Fin 16) (d : Delivery) (w : Fin 8) :
    ((s.unpaidBall l d).ret w).ledger = (s.ret w).ledger := by
  simp only [State.unpaidBall]; split <;> simp

@[simp] theorem ledger_scoreBall (s : State) (l : Fin 16) (a : Place) (sh : Sheet) (pre after : PinSet) (m : Marks)
    (w : Fin 8) :
    ((s.scoreBall l a sh pre after m).state.ret w).ledger = (s.ret w).ledger := by
  simp only [State.scoreBall]; split <;> simp

@[simp] theorem ledger_passOn (s : State) (l : Fin 16) (d : Delivery) (w : Fin 8) :
    ((s.passOn l d).state.ret w).ledger = (s.ret w).ledger := by
  simp only [State.passOn]; (repeat' split) <;> simp

@[simp] theorem ledger_takeRead (s : State) (l : Fin 16) (c : Cycle) (d : Delivery) (w : Fin 8) :
    ((s.takeRead l c d).ret w).ledger = (s.ret w).ledger := by
  simp [State.takeRead]

@[simp] theorem ledger_psRead (s : State) (l : Fin 16) (sensed : PinSet) (w : Fin 8) :
    ((psRead l sensed s).ret w).ledger = (s.ret w).ledger := by
  simp only [psRead]; (repeat' split) <;> simp

@[simp] theorem ledger_psDone (s : State) (l : Fin 16) (w : Fin 8) :
    ((psDone l s).ret w).ledger = (s.ret w).ledger := by
  simp only [psDone]; (repeat' split) <;> simp

@[simp] theorem ledger_psJam (s : State) (l : Fin 16) (w : Fin 8) :
    ((psJam l s).ret w).ledger = (s.ret w).ledger := by
  simp only [psJam]; split <;> simp

@[simp] theorem ledger_cycleTimeout (s : State) (l : Fin 16) (w : Fin 8) :
    ((cycleTimeout l s).ret w).ledger = (s.ret w).ledger := by
  simp only [cycleTimeout]; split <;> simp

@[simp] theorem ledger_lockOut (s : State) (l : Fin 16) (w : Fin 8) :
    ((s.lockOut l).ret w).ledger = (s.ret w).ledger := by
  simp only [State.lockOut]; (repeat' split) <;> simp

@[simp] theorem ledger_clearFault (s : State) (l : Fin 16) (choice : Nat) (w : Fin 8) :
    ((s.clearFault l choice).ret w).ledger = (s.ret w).ledger := by
  simp only [State.clearFault]; (repeat' split) <;> simp

/-! ## The requests to lanes and pairs -/

@[simp] theorem ledger_applyTimeout (s : State) (timeout : Nat) (w : Fin 8) :
    ((s.applyTimeout timeout).ret w).ledger = (s.ret w).ledger := by
  simp [State.applyTimeout, foldl_keeps (fun t : State => (t.ret w).ledger)]

@[simp] theorem ledger_addBowler (s : State) (p : Fin 8) (i : Fin 12) (number : Nat) (w : Fin 8) :
    ((s.addBowler p i number).ret w).ledger = (s.ret w).ledger := by
  simp [State.addBowler]

@[simp] theorem ledger_setMode (s : State) (p : Fin 8) (mode : PairMode) (w : Fin 8) :
    ((s.setMode p mode).ret w).ledger = (s.ret w).ledger := by
  simp [State.setMode]

@[simp] theorem ledger_openLane (s : State) (l : Fin 16) (kind : MeterKind) (mode : MeterMode) (credit cls : Nat)
    (w : Fin 8) :
    ((s.openLane l kind mode credit cls).ret w).ledger = (s.ret w).ledger := by
  simp [State.openLane]

@[simp] theorem ledger_stopMachines (s : State) (l : Fin 16) (w : Fin 8) :
    ((s.stopMachines l).ret w).ledger = (s.ret w).ledger := by
  simp [State.stopMachines]

@[simp] theorem ledger_closeAlone (s : State) (l : Fin 16) (w : Fin 8) :
    ((s.closeAlone l).ret w).ledger = (s.ret w).ledger := by
  simp [State.closeAlone, foldl_keeps (fun t : State => (t.ret w).ledger)]

@[simp] theorem ledger_closeOne (s : State) (l : Fin 16) (w : Fin 8) :
    ((s.closeOne l).ret w).ledger = (s.ret w).ledger := by
  simp only [State.closeOne]; split <;> simp

@[simp] theorem ledger_closeBoth (s : State) (p : Fin 8) (w : Fin 8) :
    ((s.closeBoth p).ret w).ledger = (s.ret w).ledger := by
  simp [State.closeBoth, foldl_keeps (fun t : State => (t.ret w).ledger)]

@[simp] theorem ledger_closeLane (s : State) (l : Fin 16) (w : Fin 8) :
    ((s.closeLane l).ret w).ledger = (s.ret w).ledger := by
  simp only [State.closeLane]; split <;> simp

@[simp] theorem ledger_parkWoke (s : State) (l : Fin 16) (w : Fin 8) :
    ((s.parkWoke l).ret w).ledger = (s.ret w).ledger := by
  simp only [State.parkWoke]; split <;> simp

@[simp] theorem ledger_parkTaken (s : State) (l : Fin 16) (mask : WakeMask) (cause : ParkCause) (w : Fin 8) :
    ((s.parkTaken l mask cause).ret w).ledger = (s.ret w).ledger := by
  simp only [State.parkTaken]; split <;> simp

@[simp] theorem ledger_writeLanes (s : State) (scope : Nat) (l : Fin 16) (cls foul mask lamps : Option Nat)
    (w : Fin 8) :
    ((s.writeLanes scope l cls foul mask lamps).ret w).ledger = (s.ret w).ledger := by
  simp only [State.writeLanes]; (repeat' split) <;> simp [foldl_keeps (fun t : State => (t.ret w).ledger)]

@[simp] theorem ledger_reball (s : State) (l : Fin 16) (w : Fin 8) :
    ((s.reball l).ret w).ledger = (s.ret w).ledger := by
  simp only [State.reball]; split <;> simp

@[simp] theorem ledger_afterCredit (s : State) (l : Fin 16) (w : Fin 8) :
    ((s.afterCredit l).ret w).ledger = (s.ret w).ledger := by
  simp only [State.afterCredit]; (repeat' split) <;> simp

@[simp] theorem ledger_addCredit (s : State) (l : Fin 16) (amount : Nat) (w : Fin 8) :
    ((s.addCredit l amount).ret w).ledger = (s.ret w).ledger := by
  simp [State.addCredit]

/-! ## The rosters and the pair settings -/

@[simp] theorem ledger_headRulesAt (s : State) (p : Fin 8) (sd : Option Side) (w : Fin 8) :
    ((s.headRulesAt p sd).ret w).ledger = (s.ret w).ledger := by
  cases sd <;> simp [State.headRulesAt]

@[simp] theorem ledger_removeBowler (s : State) (p : Fin 8) (i : Fin 12) (w : Fin 8) :
    ((s.removeBowler p i).ret w).ledger = (s.ret w).ledger := by
  simp [State.removeBowler]

@[simp] theorem ledger_sendAway (s : State) (p : Fin 8) (i : Fin 12) (w : Fin 8) :
    ((s.sendAway p i).ret w).ledger = (s.ret w).ledger := by
  simp [State.sendAway]

@[simp] theorem ledger_comeBack (s : State) (p : Fin 8) (i : Fin 12) (w : Fin 8) :
    ((s.comeBack p i).ret w).ledger = (s.ret w).ledger := by
  simp only [State.comeBack]; split <;> simp

@[simp] theorem ledger_limitSlot (s : State) (p : Fin 8) (i : Fin 12) (w : Fin 8) :
    ((s.limitSlot p i).ret w).ledger = (s.ret w).ledger := by
  simp only [State.limitSlot]; (repeat' split) <;> simp

@[simp] theorem ledger_writePairSettings (s : State) (p : Fin 8) (games base percent cap : Option Nat) (w : Fin 8) :
    ((s.writePairSettings p games base percent cap).ret w).ledger = (s.ret w).ledger := by
  simp only [State.writePairSettings]
  split <;> simp [foldl_keeps (fun t : State => (t.ret w).ledger)]

/-! ## The clock, the tariff and the settings -/

@[simp] theorem ledger_bandEdgeCommand (s : State) (band : Nat) (w : Fin 8) :
    ((bandEdge band s).ret w).ledger = (s.ret w).ledger := by
  simp only [bandEdge]
  split
  · rw [foldl_keeps (fun t : State => (t.ret w).ledger) fun s l => ledger_bandEdge s l w]
    split <;> rfl
  · rfl

@[simp] theorem ledger_setClock (s : State) (hour minute second : Nat) (w : Fin 8) :
    ((s.setClock hour minute second).ret w).ledger = (s.ret w).ledger := ledger_retestAll _ w

@[simp] theorem ledger_setLayout (s : State) (dayStart bands length : Nat) (w : Fin 8) :
    ((s.setLayout dayStart bands length).ret w).ledger = (s.ret w).ledger := ledger_retestAll _ w

@[simp] theorem ledger_setPrices (s : State) (cls band : Nat) (game unit : Option Nat) (w : Fin 8) :
    ((s.setPrices cls band game unit).ret w).ledger = (s.ret w).ledger := ledger_retestAll _ w

@[simp] theorem ledger_writeReturnSettings (s : State) (timeout idle : Option Nat) (w : Fin 8) :
    ((s.writeReturnSettings timeout idle).ret w).ledger = (s.ret w).ledger := by
  cases timeout with
  | none => rfl
  | some n => exact ledger_applyTimeout _ n w

/-- The settings of a load leave every Return Monitor as it is. -/
@[simp] theorem ret_takeSettings (s : State) (c : SettingsCopy) (w : Fin 8) :
    (s.takeSettings c).ret w = s.ret w := by
  simp [State.takeSettings, State.ret, State.pair, Pair.withSettings]

@[simp] theorem ret_settingsLoadEnd (s : State) (answers : Bool) (w : Fin 8) :
    (settingsLoadEnd answers s).ret w = s.ret w := by
  simp only [settingsLoadEnd]
  split
  · split
    · exact ret_takeSettings s _ w
    · exact (ret_flagDk ..).trans (ret_takeSettings s _ w)
  · rfl

/-! ## The end of a warm-up, and a millisecond -/

@[simp] theorem ret_endWarmUp (s : State) (l : Fin 16) (u : WarmUp) (w : Fin 8) :
    (s.endWarmUp l u).ret w = s.ret w := by
  simp only [State.endWarmUp]; split <;> simp

@[simp] theorem ret_warmUpEnd (s : State) (l : Fin 16) (w : Fin 8) : (warmUpEnd l s).ret w = s.ret w := by
  simp only [warmUpEnd]; split <;> simp

/-- Ages advance in place: the list keeps its length. -/
theorem ledger_returnTick (r : ReturnMonitor) : r.tick.ledger = r.ledger := by
  simp only [ReturnMonitor.tick, ReturnMonitor.ledger]
  split <;> simp

@[simp] theorem ledger_tick (s : State) (w : Fin 8) : (s.tick.ret w).ledger = (s.ret w).ledger := by
  simp only [State.tick]
  split
  · rfl
  · refine Eq.trans ?_ (ledger_returnTick (s.ret w))
    simp [State.ret, State.pair, State.advance, State.driveOutputs, Pair.tick]

end Sys2Proof.Machine
end

section
/-! PROOFS. Records created equal records matched, written off and on the list, after every step (R51). -/

namespace Sys2Proof.Machine

/-! ## The balance of one pair's record -/

/-- R51 and R48 for one pair. -/
def ReturnMonitor.lawful (r : ReturnMonitor) : Prop := r.balanced ∧ r.transit.length ≤ transitLimit

theorem transitLaw_iff (s : State) : s.transitLaw ↔ ∀ p, (s.ret p).lawful := Iff.rfl

/-- The law speaks of the ledger only. -/
theorem lawful_of_ledger {q r : ReturnMonitor} (h : q.ledger = r.ledger) (law : r.lawful) : q.lawful := by
  obtain ⟨created, matched, writtenOff, length⟩ :
      q.created = r.created ∧ q.matched = r.matched ∧ q.writtenOff = r.writtenOff ∧
        q.transit.length = r.transit.length := by
    simpa [ReturnMonitor.ledger] using h
  unfold ReturnMonitor.lawful ReturnMonitor.balanced at *
  rwa [created, matched, writtenOff, length]

theorem lawful_initial (rackFull overload : Bool) : (ReturnMonitor.initial rackFull overload).lawful :=
  ⟨rfl, Nat.zero_le _⟩

/-- A record leaves the list and is counted once, as matched (R49) or as written off (R48). -/
theorem lawful_of_left {q r : ReturnMonitor} (law : r.lawful) (created : q.created = r.created)
    (counted : q.matched + q.writtenOff = r.matched + r.writtenOff + 1)
    (left : r.transit.length = q.transit.length + 1) : q.lawful := by
  obtain ⟨balance, limit⟩ := law
  simp only [ReturnMonitor.balanced, left] at balance limit
  refine ⟨?_, by omega⟩
  rw [ReturnMonitor.balanced, created, counted, balance]
  bv_omega

theorem length_tail_succ {list : List Transit} (notEmpty : list ≠ []) : list.length = list.tail.length + 1 := by
  have := List.length_pos_iff.mpr notEmpty
  rw [List.length_tail]; omega

theorem lawful_matchOldest {r : ReturnMonitor} (law : r.lawful) (notEmpty : r.transit ≠ []) : r.matchOldest.lawful :=
  lawful_of_left law rfl (add_right_comm ..) (length_tail_succ notEmpty)

/-- The oldest record leaves a full list and is counted as written off (R48). -/
def ReturnMonitor.dropOldest (r : ReturnMonitor) : ReturnMonitor :=
  { r with transit := r.transit.tail, writtenOff := r.writtenOff + 1 }

theorem lawful_dropOldest {r : ReturnMonitor} (law : r.lawful) (notEmpty : r.transit ≠ []) : r.dropOldest.lawful :=
  lawful_of_left law rfl (BitVec.add_assoc ..).symm (length_tail_succ notEmpty)

/-- A record joins the list and is counted as created (R48). -/
def ReturnMonitor.create (sd : Side) (unpaid : Bool) (r : ReturnMonitor) : ReturnMonitor :=
  { r with
    transit := r.transit ++ [⟨sd, r.nextSeq, 0, false, unpaid⟩]
    nextSeq := r.nextSeq + 1
    created := r.created + 1 }

theorem lawful_create {r : ReturnMonitor} (law : r.lawful) (room : r.transit.length < transitLimit) (sd : Side)
    (unpaid : Bool) : (r.create sd unpaid).lawful := by
  obtain ⟨balance, -⟩ := law
  simp only [ReturnMonitor.balanced] at balance
  refine ⟨?_, ?_⟩
  · simp only [ReturnMonitor.balanced, ReturnMonitor.create, List.length_append, List.length_singleton, balance]
    bv_omega
  · simp only [ReturnMonitor.create, List.length_append, List.length_singleton]; omega

/-- The overdue records in scope leave the list, and as many are counted as written off (R54). -/
theorem lawful_writeOff {r : ReturnMonitor} (law : r.lawful) (scope : Side → Bool) : (r.writeOff scope).lawful := by
  obtain ⟨balance, limit⟩ := law
  have parts := List.length_eq_countP_add_countP (fun x : Transit => x.overdue && scope x.lane) (l := r.transit)
  have kept : (r.writeOff scope).transit.length =
      r.transit.countP fun x => ¬ (x.overdue && scope x.lane) = true := by
    simp [ReturnMonitor.writeOff, List.countP_eq_length_filter]
  refine ⟨?_, by rw [kept]; omega⟩
  simp only [ReturnMonitor.balanced, parts, BitVec.ofNat_add] at balance
  simp only [ReturnMonitor.balanced, kept]
  simp only [ReturnMonitor.writeOff, balance]
  ac_rfl

/-! ## The operations that change the balance's terms -/

theorem transitLaw_of_ledger {s t : State} (h : ∀ w, (t.ret w).ledger = (s.ret w).ledger) (law : s.transitLaw) :
    t.transitLaw := fun w => lawful_of_ledger (h w) (law w)

theorem transitLaw_modRet {s : State} {p : Fin 8} {f : ReturnMonitor → ReturnMonitor} (law : s.transitLaw)
    (h : (f (s.ret p)).lawful) : (s.modRet p f).transitLaw := by
  refine (transitLaw_iff _).mpr fun w => ?_
  rw [ret_modRet]
  split
  next same => rwa [same]
  next => exact law w

theorem transitLaw_arrive {s : State} (law : s.transitLaw) (p : Fin 8) : (s.arrive p).transitLaw := by
  cases list : (s.ret p).transit with
  | nil =>
    rw [arrive_stray list]
    exact transitLaw_modRet law (lawful_of_ledger rfl (law p))
  | cons x rest =>
    have taken : (s.modRet p ReturnMonitor.matchOldest).transitLaw :=
      transitLaw_modRet law (lawful_matchOldest (law p) (by simp [list]))
    refine transitLaw_of_ledger (fun w => ?_) taken
    rw [arrive_matched list, ledger_idleRule]
    split <;> simp

theorem transitLaw_clearOverdue {s : State} (law : s.transitLaw) (p : Fin 8) (scope : Side → Bool) :
    (s.clearOverdue p scope).transitLaw := by
  rw [clearOverdue_eq]
  exact transitLaw_modRet law (lawful_of_ledger rfl (lawful_writeOff (law p) scope))

theorem writeOffOldest_eq {s : State} {p : Fin 8} {x : Transit} {rest : List Transit}
    (list : (s.ret p).transit = x :: rest) :
    s.writeOffOldest p =
      if x.overdue then ((s.modRet p ReturnMonitor.dropOldest).flagMc .returnWriteOff).episodeRule p x.lane
      else (s.modRet p ReturnMonitor.dropOldest).flagMc .returnWriteOff := by
  have taken : s.modRet p ReturnMonitor.dropOldest =
      s.modRet p fun r => { r with transit := rest, writtenOff := r.writtenOff + 1 } :=
    modRet_congr (by simp [ReturnMonitor.dropOldest, list])
  simp only [State.writeOffOldest, list, taken]

theorem ledger_writeOffOldest {s : State} {p : Fin 8} (notEmpty : (s.ret p).transit ≠ []) (w : Fin 8) :
    ((s.writeOffOldest p).ret w).ledger = ((s.modRet p ReturnMonitor.dropOldest).ret w).ledger := by
  obtain ⟨x, rest, list⟩ := List.exists_cons_of_ne_nil notEmpty
  rw [writeOffOldest_eq list]
  split <;> simp

/-- A list that was full has room after its write-off. -/
theorem writeOffOldest_makes_room {s : State} (law : s.transitLaw) (p : Fin 8)
    (full : transitLimit ≤ (s.ret p).transit.length) :
    (s.writeOffOldest p).transitLaw ∧ ((s.writeOffOldest p).ret p).transit.length < transitLimit := by
  have limit := (law p).2
  have notEmpty : (s.ret p).transit ≠ [] := by
    intro e; simp [e, transitLimit] at full
  refine ⟨transitLaw_of_ledger (ledger_writeOffOldest notEmpty)
    (transitLaw_modRet law (lawful_dropOldest (law p) notEmpty)), ?_⟩
  have length : ((s.writeOffOldest p).ret p).transit.length = (s.ret p).transit.tail.length := by
    have same := congrArg (·.2.2.2) (ledger_writeOffOldest notEmpty p)
    rwa [ret_modRet_same] at same
  rw [length, List.length_tail]
  simp only [transitLimit] at *
  omega

theorem transitLaw_createTransit {s : State} (law : s.transitLaw) (p : Fin 8) (sd : Side) (unpaid : Bool) :
    (s.createTransit p sd unpaid).transitLaw := by
  have append {u : State} (lawU : u.transitLaw) (room : (u.ret p).transit.length < transitLimit) :
      (((u.modRet p (ReturnMonitor.create sd unpaid)).startLift p).idleRule p).transitLaw :=
    transitLaw_of_ledger (fun w => by rw [ledger_idleRule, ledger_startLift])
      (transitLaw_modRet lawU (lawful_create (lawU p) room sd unpaid))
  unfold State.createTransit
  split
  next full =>
    obtain ⟨lawU, room⟩ := writeOffOldest_makes_room law p full
    exact append lawU room
  next roomy => exact append law (Nat.lt_of_not_le roomy)

/-- A DECK creates its record, and keeps the ledgers otherwise. -/
theorem ledger_takeDeck (s : State) (l : Fin 16) (missed : Bool) (w : Fin 8) :
    ((s.takeDeck l missed).ret w).ledger =
      ((s.createTransit (pairOf l) (sideOf l)
        (deckClass (s.session l) (s.lane l).sup.state (s.upSlot l) == .unpaid)).ret w).ledger := by
  simp only [State.takeDeck]
  split <;> simp

theorem transitLaw_takeDeck {s : State} (law : s.transitLaw) (l : Fin 16) (missed : Bool) :
    (s.takeDeck l missed).transitLaw :=
  transitLaw_of_ledger (ledger_takeDeck s l missed) (transitLaw_createTransit law _ _ _)

theorem transitLaw_travelTimeout {s : State} (law : s.transitLaw) (l : Fin 16) : (travelTimeout l s).transitLaw := by
  unfold travelTimeout
  split
  · split
    · exact transitLaw_takeDeck law l true
    · exact law
  · exact law

/-! ## Resets -/

theorem transitLaw_afterReset (rate : Bool) (rackFull overload : BitVec 8) (c : Chain) (m : ConfigMemory)
    (pending : List Instr) : (State.afterReset rate rackFull overload c m pending).transitLaw := by
  refine (transitLaw_iff _).mpr fun p => ?_
  have fresh : (State.afterReset rate rackFull overload c m pending).ret p =
      .initial (rackFull.getLsbD p) (overload.getLsbD p) := by
    simp [State.afterReset, State.ret, State.pair, Pair.initial]
  rw [fresh]
  exact lawful_initial _ _

theorem transitLaw_restarted (s : State) : s.restarted.transitLaw := by
  refine (transitLaw_iff _).mpr fun p => ?_
  have fresh : s.restarted.ret p = .initial (s.ret p).rackFull (s.ret p).overload := by
    simp [State.restarted, State.ret, State.pair, Pair.restarted, Pair.initial]
  rw [fresh]
  exact lawful_initial _ _

/-! ## Requests -/

/-- A request keeps the law where taking it does: refused, it changes nothing. -/
theorem transitLaw_after {s : State} (law : s.transitLaw) (checks : List (Bool × ReplyOutcome)) {taken : Served}
    (h : taken.state.transitLaw) : (Served.after s checks taken).state.transitLaw := by
  rcases after_cases s checks taken with ⟨o, -, refused⟩ | ⟨-, accepted⟩
  · rw [refused]; exact law
  · rw [accepted]; exact h

/-- A taken request that keeps every ledger keeps the law. -/
theorem transitLaw_after_ledger {s : State} (law : s.transitLaw) (checks : List (Bool × ReplyOutcome)) {taken : Served}
    (h : ∀ w, (taken.state.ret w).ledger = (s.ret w).ledger) : (Served.after s checks taken).state.transitLaw :=
  transitLaw_after law checks (transitLaw_of_ledger h law)

@[simp] theorem state_ok (s : State) : (Served.ok s).state = s := rfl

/-- What is served keeps the law: CLEAR OVERDUE moves records to the written off, a section restart clears every
ledger, and every other request leaves the ledgers alone. -/
theorem transitLaw_serve {s : State} (law : s.transitLaw) (i : Instr) : (serve i s).state.transitLaw := by
  cases i
  case clearOverdue => exact transitLaw_after law _ (transitLaw_clearOverdue law _ _)
  case sectionRestart => exact transitLaw_after law _ (transitLaw_restarted s)
  case parkLane => exact transitLaw_after_ledger law _ fun w => by split <;> simp
  case openLane | closeLane | resumeLane | setLaneSettings | lockout | unlock | manualCycle | clearFault | pinsSet
      | liftRestart | setReturnSettings | addBowler | removeBowler | away | back | setPairMode | setPairSettings
      | reball | applyCorrection | supplyBowler | unknownBowler | updateBowler | dropBowler | setRangeEntry | setClock
      | setTariffLayout | setPrices | addCredit | takeSlip | writeSlip | postSlip | fetchSlip | setOutcome
      | returnSlip | signal =>
    exact transitLaw_after_ledger law _ fun w => by simp
  case setPinsetterTimers | setBillingSettings | storeSettings | setMask | clearAttention =>
    exact transitLaw_after_ledger law _ fun w => rfl
  case readLaneStatus | readLaneSummary | readReturn | readRoster | readFrameSheet | readBowler | readFetchQueue
      | readTariff | readMeter | readSlipPool | readPort =>
    exact transitLaw_after law _ law
  all_goals exact law

/-! ## Frames at a port -/

theorem transitLaw_modPort {s : State} (law : s.transitLaw) (p : Port) (f : PortIf → PortIf) :
    (s.modPort p f).transitLaw :=
  transitLaw_of_ledger (fun w => by rw [ret_modPort]) law

theorem transitLaw_serveAt {s : State} (law : s.transitLaw) (p : Port) (i : Instr) : (s.serveAt p i).transitLaw :=
  transitLaw_modPort (transitLaw_serve law i) p _

theorem transitLaw_takeFrame {s : State} (law : s.transitLaw) (p : Port) (i : Instr) :
    (s.takeFrame p i).transitLaw := by
  unfold State.takeFrame
  split
  · exact transitLaw_serveAt law p i
  · split
    · exact transitLaw_modPort law p _
    · exact transitLaw_modPort law p _

theorem transitLaw_receive {s : State} (law : s.transitLaw) (p : Port) (i : Instr) : (s.receive p i).transitLaw := by
  unfold State.receive
  split
  · exact law
  · exact transitLaw_modPort (transitLaw_takeFrame law p i) p _

theorem transitLaw_receiveByte {s : State} (law : s.transitLaw) (p : Port) (b : Byte) :
    (s.receiveByte p b).transitLaw := by
  have awaiting (m : RxMode) : (s.setRx p m).transitLaw := transitLaw_modPort law p _
  unfold State.receiveByte
  split
  · split
    · exact awaiting _
    · exact law
  · split
    · exact awaiting _
    · exact transitLaw_receive (awaiting _) p _
  · split
    · exact awaiting _
    · exact transitLaw_receive (awaiting _) p _

theorem transitLaw_receiveChar {s : State} (law : s.transitLaw) (p : Port) (c : LineChar) :
    (s.receiveChar p c).transitLaw := by
  unfold State.receiveChar
  split
  · exact transitLaw_receiveByte law p c.data
  · exact law

theorem transitLaw_frameReceived {s : State} (law : s.transitLaw) (p : Port) (chars : List LineChar) :
    (frameReceived p chars s).transitLaw := by
  have received : (chars.foldl (fun s c => s.receiveChar p c) s).transitLaw := by
    induction chars generalizing s with
    | nil => exact law
    | cons c chars ih => exact ih (transitLaw_receiveChar law p c)
  unfold frameReceived
  split
  · exact law
  · exact received

theorem transitLaw_replyEnd {s : State} (law : s.transitLaw) (p : Port) : (replyEnd p s).transitLaw := by
  have ended : (s.endReply p).transitLaw := transitLaw_modPort law p _
  unfold replyEnd
  split
  · split
    · exact ended
    · exact transitLaw_serveAt (transitLaw_modPort ended p _) p _
  · exact law

/-! ## Steps -/

theorem transitLaw_unlessHeld {s : State} (law : s.transitLaw) {f : State → State} (h : (f s).transitLaw) :
    (s.unlessHeld f).transitLaw := by
  unfold State.unlessHeld
  split
  · exact law
  · exact h

/-- An event that keeps every ledger keeps the law, held or not. -/
theorem transitLaw_event {s : State} (law : s.transitLaw) {f : State → State}
    (h : ∀ w, ((f s).ret w).ledger = (s.ret w).ledger) : (s.unlessHeld f).transitLaw :=
  transitLaw_unlessHeld law (transitLaw_of_ledger h law)

theorem transitLaw_exec {s t : State} (law : s.transitLaw) (i : Instr) (taken : exec i s = .next t) :
    t.transitLaw := by
  cases frame : framePort i with
  | some p =>
    rw [exec_frame frame] at taken
    cases taken
    exact transitLaw_receive law p i
  | none =>
    cases i
    case frameReceived p chars => cases taken; exact transitLaw_unlessHeld law (transitLaw_frameReceived law p chars)
    case replyEnd p => cases taken; exact transitLaw_unlessHeld law (transitLaw_replyEnd law p)
    case powerReset => cases taken; exact transitLaw_afterReset _ _ _ _ _ _
    case resetAssertedOrPowerLoss => cases taken; exact law
    case deck l => cases taken; exact transitLaw_unlessHeld law (transitLaw_takeDeck law l false)
    case travelTimeout l => cases taken; exact transitLaw_unlessHeld law (transitLaw_travelTimeout law l)
    case liftArrive p => cases taken; exact transitLaw_unlessHeld law (transitLaw_arrive law p)
    case frameTruncated | portBreak | settingsLoadEnd | storeEnd | release | foul | psRead | psDone | psJam
        | rackFullOn | rackFullOff | liftOverload | liftOverloadLow | cycleTimeout | warmUpEnd | waitingFoulExpiry
        | hornEnd | recordOverdue | liftIdleExpiry | bandEdge | frontGraceEnd | unitEnd | backGraceExpiry
        | lineReturnsToMark =>
      cases taken; exact transitLaw_event law fun w => by simp
    all_goals exact nomatch frame

theorem transitLaw_step {s t : State} (law : s.transitLaw) (taken : step s = .next t) : t.transitLaw := by
  unfold step at taken
  split at taken
  next => cases taken; exact transitLaw_of_ledger (ledger_tick s) law
  next c rest queued => exact transitLaw_exec (s := { s with pending := rest }) law c taken

/-- Settles O58: the reset state meets the law, and every step keeps it. -/
theorem transitRecordsBalance : Obligations.TransitRecordsBalance :=
  ⟨transitLaw_afterReset false 0 0 .low .unwritten [], fun _ _ => transitLaw_step⟩

end Sys2Proof.Machine
end

section
/-! SUPPORT. Sets of pins and their connected groups (R95): what a set, its lowest pin and a set spread to its
neighbours hold, and that ten spreads from one pin reach the whole of its group. -/

namespace Sys2Proof.Machine

/-! ## Sets of pins -/

theorem pinSet_ext {x y : PinSet} (h : ∀ k : Fin 10, x.getLsbD k = y.getLsbD k) : x = y :=
  BitVec.eq_of_getLsbD_eq fun k hk => h ⟨k, hk⟩

theorem getLsbD_and_not (x y : PinSet) (k : Fin 10) :
    (x &&& ~~~y).getLsbD k = true ↔ x.getLsbD k = true ∧ y.getLsbD k = false := by
  simp only [BitVec.getLsbD_and, BitVec.getLsbD_not, k.isLt, decide_true, Bool.true_and, Bool.and_eq_true,
    Bool.not_eq_true']

theorem pinsWithin_iff (x y : PinSet) :
    pinsWithin x y = true ↔ ∀ k : Fin 10, x.getLsbD k = true → y.getLsbD k = true := by
  rw [pinsWithin, beq_iff_eq]
  constructor
  · intro clear k inX
    have bit := congrArg (BitVec.getLsbD · k.val) clear
    simpa [inX] using bit
  · intro within
    refine pinSet_ext fun k => ?_
    simpa using within k

theorem pinsWithin_antisymm {x y : PinSet} (xy : pinsWithin x y = true) (yx : pinsWithin y x = true) : x = y :=
  pinSet_ext fun k => Bool.eq_iff_iff.mpr ⟨(pinsWithin_iff x y).mp xy k, (pinsWithin_iff y x).mp yx k⟩

theorem exists_pin_of_ne_zero {x : PinSet} (h : x ≠ 0) : ∃ k : Fin 10, x.getLsbD k = true := by
  by_contra noPin
  exact h (pinSet_ext fun k => by simpa using not_exists.mp noPin k)

/-- The numbers, from 0, of the pins that a set holds. -/
def pinNumbers (x : PinSet) : Finset Nat := (Finset.range 10).filter fun k => x.getLsbD k = true

theorem mem_pinNumbers (x : PinSet) (k : Fin 10) : k.val ∈ pinNumbers x ↔ x.getLsbD k = true := by
  simp [pinNumbers]

theorem pinCount_eq_card (x : PinSet) : pinCount x = (pinNumbers x).card := by
  rw [pinNumbers, ← Nat.count_eq_card_filter_range]
  simp only [pinCount, Nat.count, Bool.decide_eq_true]

theorem pinNumbers_subset {x y : PinSet} (h : pinsWithin x y = true) : pinNumbers x ⊆ pinNumbers y := by
  intro k inX
  have pin : k < 10 := Finset.mem_range.mp (Finset.mem_filter.mp inX).1
  exact (mem_pinNumbers y ⟨k, pin⟩).mpr ((pinsWithin_iff x y).mp h ⟨k, pin⟩ ((mem_pinNumbers x ⟨k, pin⟩).mp inX))

theorem pinCount_le (x : PinSet) : pinCount x ≤ 10 := List.countP_le_length

theorem pinCount_mono {x y : PinSet} (h : pinsWithin x y = true) : pinCount x ≤ pinCount y := by
  rw [pinCount_eq_card, pinCount_eq_card]
  exact Finset.card_le_card (pinNumbers_subset h)

/-- A set within another with as many pins is the other. -/
theorem eq_of_pinCount_eq {x y : PinSet} (within : pinsWithin x y = true) (same : pinCount x = pinCount y) : x = y := by
  rw [pinCount_eq_card, pinCount_eq_card] at same
  have pins := Finset.eq_of_subset_of_card_le (pinNumbers_subset within) same.ge
  refine pinSet_ext fun k => Bool.eq_iff_iff.mpr ?_
  rw [← mem_pinNumbers, ← mem_pinNumbers, pins]

theorem ne_zero_of_two_le_pinCount {x : PinSet} (h : 2 ≤ pinCount x) : x ≠ 0 := by
  rintro rfl
  exact absurd h (by decide)

/-! ## The lowest pin -/

theorem getLsbD_lowestPin (x : PinSet) (k : Fin 10) :
    (lowestPin x).getLsbD k = true ↔ x.getLsbD k = true ∧ ∀ j < k.val, x.getLsbD j = false := by
  have inside := k.isLt
  rw [lowestPin, BitVec.getLsbD_and, BitVec.getLsbD_neg]
  cases x.getLsbD k <;> simp [inside]

theorem pinsWithin_lowestPin (x : PinSet) : pinsWithin (lowestPin x) x = true :=
  (pinsWithin_iff _ _).mpr fun k lowest => ((getLsbD_lowestPin x k).mp lowest).1

/-- A set that is not empty has one lowest pin. -/
theorem exists_lowestPin {x : PinSet} (h : x ≠ 0) :
    ∃ a : Fin 10, x.getLsbD a = true ∧ ∀ k : Fin 10, (lowestPin x).getLsbD k = true ↔ k = a := by
  obtain ⟨a, inX, least⟩ := WellFounded.has_min (wellFounded_lt (α := Fin 10)) {k | x.getLsbD k = true}
    (exists_pin_of_ne_zero h)
  have below (j : Nat) (lt : j < a.val) : x.getLsbD j = false := by
    by_contra standing
    exact least ⟨j, lt.trans a.isLt⟩ (eq_true_of_ne_false standing) lt
  refine ⟨a, inX, fun k => ?_⟩
  rw [getLsbD_lowestPin]
  constructor
  · rintro ⟨inK, belowK⟩
    refine le_antisymm (not_lt.mp fun lt => ?_) (not_lt.mp (least k inK))
    exact Bool.false_ne_true ((belowK a lt).symm.trans inX)
  · rintro rfl
    exact ⟨inX, below⟩

/-! ## Neighbours -/

/-- Two pins are a pair of the neighbour table (R95), numbered from 0. -/
def adjacent (a b : Fin 10) : Bool := (neighbours.getD a 0).getLsbD b

theorem adjacent_comm : ∀ a b : Fin 10, adjacent a b = adjacent b a := by decide

theorem getLsbD_foldl_neighbours (reached acc : PinSet) (list : List Nat) (b : Nat) :
    (list.foldl (fun acc k => if reached.getLsbD k then acc ||| neighbours.getD k 0 else acc) acc).getLsbD b = true ↔
      acc.getLsbD b = true ∨
        ∃ a ∈ list, reached.getLsbD a = true ∧ (neighbours.getD a 0).getLsbD b = true := by
  induction list generalizing acc with
  | nil => simp
  | cons k list ih =>
    rw [List.foldl_cons, ih, List.exists_mem_cons_iff]
    cases reached.getLsbD k with
    | true => simp only [if_true, BitVec.getLsbD_or, Bool.or_eq_true, true_and, or_assoc]
    | false => simp only [Bool.false_eq_true, if_false, false_and, false_or]

/-- A spread holds the standing pins that were reached or are neighbours of one reached. -/
theorem getLsbD_spread (standing reached : PinSet) (b : Fin 10) :
    (spread standing reached).getLsbD b = true ↔
      standing.getLsbD b = true ∧
        (reached.getLsbD b = true ∨ ∃ a : Fin 10, reached.getLsbD a = true ∧ adjacent a b = true) := by
  rw [spread, BitVec.getLsbD_and, Bool.and_eq_true, getLsbD_foldl_neighbours, and_comm]
  simp only [adjacent, List.mem_range, Fin.exists_iff, exists_prop]

/-! ## Parts of the standing pins that no neighbours join -/

/-- No step between standing neighbours leads out of the part. -/
def NeighbourClosed (standing part : PinSet) : Prop :=
  ∀ a b : Fin 10, part.getLsbD a = true → standing.getLsbD b = true → adjacent a b = true → part.getLsbD b = true

/-- What a closed part leaves standing is closed too, as neighbours are so of each other. -/
theorem closed_rest {standing part : PinSet} (closed : NeighbourClosed standing part) :
    NeighbourClosed standing (standing &&& ~~~part) := by
  intro a b rest inStanding step
  obtain ⟨standsA, outsideA⟩ := (getLsbD_and_not standing part a).mp rest
  refine (getLsbD_and_not standing part b).mpr ⟨inStanding, Bool.eq_false_iff.mpr fun insideB => ?_⟩
  have insideA := closed b a insideB standsA (by rw [adjacent_comm, step])
  exact Bool.false_ne_true (outsideA.symm.trans insideA)

/-- A spread from within a closed part stays within it. -/
theorem pinsWithin_spread_closed {standing part reached : PinSet} (closed : NeighbourClosed standing part)
    (within : pinsWithin reached part = true) : pinsWithin (spread standing reached) part = true := by
  rw [pinsWithin_iff] at within ⊢
  intro b inSpread
  obtain ⟨stands, before | ⟨a, inReached, step⟩⟩ := (getLsbD_spread standing reached b).mp inSpread
  · exact within b before
  · exact closed a b (within a inReached) stands step

theorem pinsWithin_spread_standing (standing reached : PinSet) : pinsWithin (spread standing reached) standing = true :=
  (pinsWithin_iff _ _).mpr fun b inSpread => ((getLsbD_spread standing reached b).mp inSpread).1

theorem pinsWithin_spread {standing reached : PinSet} (within : pinsWithin reached standing = true) :
    pinsWithin reached (spread standing reached) = true :=
  (pinsWithin_iff _ _).mpr fun b inReached =>
    (getLsbD_spread standing reached b).mpr ⟨(pinsWithin_iff _ _).mp within b inReached, .inl inReached⟩

theorem closed_of_spread_eq {standing part : PinSet} (fixed : spread standing part = part) :
    NeighbourClosed standing part := by
  intro a b inPart stands step
  rw [← fixed]
  exact (getLsbD_spread standing part b).mpr ⟨stands, .inr ⟨a, inPart, step⟩⟩

/-! ## Spreads from the lowest pin -/

/-- The pins reached from the lowest standing pin in a number of steps. -/
def reachedIn (standing : PinSet) (n : Nat) : PinSet := (spread standing)^[n] (lowestPin standing)

theorem reachedIn_succ (standing : PinSet) (n : Nat) :
    reachedIn standing (n + 1) = spread standing (reachedIn standing n) :=
  Function.iterate_succ_apply' _ _ _

theorem connected_iff (standing : PinSet) : connected standing = true ↔ reachedIn standing 10 = standing := by
  rw [connected, List.foldl_const, List.length_range, beq_iff_eq, reachedIn]

theorem reachedIn_within (standing : PinSet) (n : Nat) : pinsWithin (reachedIn standing n) standing = true := by
  cases n with
  | zero => exact pinsWithin_lowestPin standing
  | succ n => rw [reachedIn_succ]; exact pinsWithin_spread_standing _ _

theorem reachedIn_within_succ (standing : PinSet) (n : Nat) :
    pinsWithin (reachedIn standing n) (reachedIn standing (n + 1)) = true := by
  rw [reachedIn_succ]
  exact pinsWithin_spread (reachedIn_within standing n)

theorem reachedIn_within_closed {standing part : PinSet} (closed : NeighbourClosed standing part)
    (start : pinsWithin (lowestPin standing) part = true) (n : Nat) :
    pinsWithin (reachedIn standing n) part = true := by
  induction n with
  | zero => exact start
  | succ n ih => rw [reachedIn_succ]; exact pinsWithin_spread_closed closed ih

/-- Each step reaches a pin more or none ever after, and there are ten pins: an eleventh step reaches no more. -/
theorem reachedIn_ten_fixed (standing : PinSet) : spread standing (reachedIn standing 10) = reachedIn standing 10 := by
  have stops (m : Nat) (same : pinCount (reachedIn standing m) = pinCount (reachedIn standing (m + 1))) :
      pinCount (reachedIn standing (m + 1)) = pinCount (reachedIn standing (m + 2)) := by
    have fixed := eq_of_pinCount_eq (reachedIn_within_succ standing m) same
    rw [reachedIn_succ standing (m + 1), ← fixed, ← reachedIn_succ, ← fixed]
  have count : pinCount (reachedIn standing 11) = pinCount (reachedIn standing 10) :=
    Nat.stabilises_of_monotone (monotone_nat_of_le_succ fun m => pinCount_mono (reachedIn_within_succ standing m))
      (fun m => pinCount_le _) stops (by decide)
  rw [← reachedIn_succ]
  exact (eq_of_pinCount_eq (reachedIn_within_succ standing 10) count.symm).symm

theorem reachedIn_ten_ne_zero {standing : PinSet} (h : standing ≠ 0) : reachedIn standing 10 ≠ 0 := by
  obtain ⟨a, -, lowest⟩ := exists_lowestPin h
  have reaches (n : Nat) : (reachedIn standing n).getLsbD a = true := by
    induction n with
    | zero => exact (lowest a).mpr rfl
    | succ n ih => exact (pinsWithin_iff _ _).mp (reachedIn_within_succ standing n) a ih
  intro empty
  simpa [empty] using reaches 10

/-- Where the pins form one group, a closed part that holds the lowest of them holds them all. -/
theorem closed_holds_all {standing part : PinSet} (oneGroup : connected standing = true)
    (closed : NeighbourClosed standing part) {a : Fin 10}
    (lowest : ∀ k : Fin 10, (lowestPin standing).getLsbD k = true ↔ k = a) (inPart : part.getLsbD a = true) :
    pinsWithin standing part = true := by
  have start : pinsWithin (lowestPin standing) part = true :=
    (pinsWithin_iff _ _).mpr fun k isLowest => by rwa [(lowest k).mp isLowest]
  have reached := reachedIn_within_closed closed start 10
  rwa [(connected_iff standing).mp oneGroup] at reached

/-- A closed part that is not empty and not all of the standing pins: the pins fall apart. For the lowest pin is in the
part or in the rest, and in one group neither could be left. -/
theorem not_connected_of_closed {standing part : PinSet} (closed : NeighbourClosed standing part) (notEmpty : part ≠ 0)
    (notAll : part ≠ standing) (within : pinsWithin part standing = true) : connected standing = false := by
  refine Bool.eq_false_iff.mpr fun oneGroup => ?_
  obtain ⟨c, inPart⟩ := exists_pin_of_ne_zero notEmpty
  have standsC := (pinsWithin_iff _ _).mp within c inPart
  have nonempty : standing ≠ 0 := by
    rintro rfl
    simp at standsC
  obtain ⟨a, standsA, lowest⟩ := exists_lowestPin nonempty
  cases inside : part.getLsbD a with
  | true => exact notAll (pinsWithin_antisymm within (closed_holds_all oneGroup closed lowest inside))
  | false =>
    have rest := closed_holds_all oneGroup (closed_rest closed) lowest
      ((getLsbD_and_not standing part a).mpr ⟨standsA, inside⟩)
    obtain ⟨-, outsideC⟩ := (getLsbD_and_not standing part c).mp ((pinsWithin_iff _ _).mp rest c standsC)
    exact Bool.false_ne_true (outsideC.symm.trans inPart)

/-- The standing pins fall apart exactly where some of them, not all, are closed. -/
theorem not_connected_iff {standing : PinSet} (h : standing ≠ 0) :
    connected standing = false ↔
      ∃ part : PinSet,
        part ≠ 0 ∧ part ≠ standing ∧ pinsWithin part standing = true ∧ NeighbourClosed standing part := by
  constructor
  · intro apart
    refine ⟨reachedIn standing 10, reachedIn_ten_ne_zero h, ?_, reachedIn_within standing 10,
      closed_of_spread_eq (reachedIn_ten_fixed standing)⟩
    rw [ne_eq, ← connected_iff, apart]
    decide
  · rintro ⟨part, notEmpty, notAll, within, closed⟩
    exact not_connected_of_closed closed notEmpty notAll within

end Sys2Proof.Machine
end

section
/-! PROOFS. The split mark (R95), at a ball's READ and at a correction (R108). -/

namespace Sys2Proof.Machine

theorem isSplit_iff (foul : Bool) (pre after : PinSet) :
    isSplit foul pre after = true ↔
      foul = false ∧ pre = fullRack ∧ after.getLsbD 0 = false ∧ 2 ≤ pinCount after ∧ connected after = false := by
  simp [isSplit, and_assoc]

/-- The neighbours of each pin as R95 prints them, pins numbered from 1. -/
def neighbourTable : List (List Nat) :=
  [[2, 3], [1, 3, 4, 5], [1, 2, 5, 6], [2, 5, 7, 8], [2, 3, 4, 6, 8, 9], [3, 5, 9, 10], [4, 8], [4, 5, 7, 9],
    [5, 6, 8, 10], [6, 9]]

theorem adjacent_iff_mem_neighbourTable :
    ∀ a b : Fin 10, adjacent a b = true ↔ b.val + 1 ∈ neighbourTable.getD a.val [] := by decide

/-- The printed form of a closed part: none of its pins has a standing neighbour outside it. -/
theorem closed_iff_table (standing part : PinSet) :
    NeighbourClosed standing part ↔
      ∀ a b : Fin 10, part.getLsbD a = true → standing.getLsbD b = true → part.getLsbD b = false →
        b.val + 1 ∉ neighbourTable.getD a.val [] := by
  refine forall₂_congr fun a b => forall₂_congr fun _ _ => ?_
  rw [← adjacent_iff_mem_neighbourTable, ← Bool.not_eq_true, not_imp_not]

/-- R95's five conditions. -/
theorem isSplit_iff_table (foul : Bool) (pre after : PinSet) :
    isSplit foul pre after = true ↔
      foul = false ∧ pre = fullRack ∧ after.getLsbD 0 = false ∧ 2 ≤ pinCount after ∧
        ∃ part : PinSet, part ≠ 0 ∧ part ≠ after ∧ part &&& ~~~after = 0 ∧
          ∀ a b : Fin 10, part.getLsbD a = true → after.getLsbD b = true → part.getLsbD b = false →
            b.val + 1 ∉ neighbourTable.getD a.val [] := by
  rw [isSplit_iff]
  refine and_congr_right fun _ => and_congr_right fun _ => and_congr_right fun _ => and_congr_right fun two => ?_
  rw [not_connected_iff (ne_zero_of_two_le_pinCount two)]
  simp only [pinsWithin, beq_iff_eq, closed_iff_table]

/-- An entry after a correction: the corrected ball is marked, and an entry whose sets changed takes its split mark
again. -/
theorem getElem?_markCorrected {old new : List BallEntry} {k : Nat} {a b : BallEntry} (n : Nat)
    (wasThere : old[k]? = some a) (isThere : new[k]? = some b) :
    (markCorrected n old new)[k]? = some
      { b with
        corrected := b.corrected || decide (k + 1 = n)
        split := if a.pre = b.pre ∧ a.after = b.after then b.split else isSplit b.foul b.pre b.after } := by
  have inList : k < new.length := (List.getElem?_eq_some_iff.mp isThere).1
  simp only [markCorrected, List.getElem?_map, List.getElem?_range inList, Option.map_some, wasThere,
    List.getD_eq_getElem?_getD, isThere, Option.getD_some]
  by_cases named : k + 1 = n <;> by_cases same : a.pre = b.pre ∧ a.after = b.after <;> simp [named, same]

/-- Settles O46: the conditions by the closed parts of the standing pins, the two takings by the entry's fields. -/
theorem splitMark : Obligations.SplitMark := by
  refine ⟨isSplit_iff_table, fun _ _ _ _ _ => rfl, fun n k old new a b wasThere isThere => ?_⟩
  rw [getElem?_markCorrected n wasThere isThere, Option.map_some]

end Sys2Proof.Machine
end

section
/-! PROOFS. TAKE SLIP (R174): the head of the general free list, or FULL, or EMPTY. -/

namespace Sys2Proof.Machine

/-! ## Holding limits and slip numbers (R170, R173) -/

/-- How many slips a port holds, counted over the slips themselves. -/
theorem length_heldBy (s : State) (p : Port) :
    (s.pool.heldBy p).length = (List.finRange 64).countP fun n => (s.slip n).state == .held p :=
  List.countP_eq_length_filter.symm

theorem holdsLimit_iff (s : State) (p : Port) : s.holdsLimit p = true ↔ holdingLimit p ≤ (s.pool.heldBy p).length :=
  decide_eq_true_iff

theorem not_holdsLimit_iff (s : State) (p : Port) :
    s.holdsLimit p = false ↔ (s.pool.heldBy p).length < holdingLimit p := by
  rw [← Bool.not_eq_true, holdsLimit_iff, Nat.not_le]

theorem isReserve_eq_false_iff (n : Fin 64) : isReserve n = false ↔ n.val < 56 := by
  simp [isReserve]

/-- TAKE SLIP never gives a reserve slip: a lawful pool keeps none on the general free list. -/
theorem general_of_mem_generalFree {q : SlipPool} (law : q.lawful) {n : Fin 64} (free : n ∈ q.generalFree) :
    n.val < 56 := by
  obtain ⟨_, general, _⟩ := law
  exact (isReserve_eq_false_iff n).mp (general n free)

/-! ## TAKE SLIP as it is served -/

theorem exec_takeSlip {p : Port} {s t : State} {o : ReplyOutcome} {results : List Byte} (idle : s.idleAt p)
    (ho : o ≠ .frame) (served : serveTakeSlip p s = ⟨t, o, results⟩) :
    exec (.takeSlip p) s = .next (t.replying p 0x39 o results) := by
  have e : serve (.takeSlip p) s = ⟨t, o, results⟩ := served
  rw [exec_idle rfl idle (by rw [e]; exact ho), e]
  rfl

theorem serveTakeSlip_full {p : Port} {s : State} (loaded : s.loading = false) (full : s.holdsLimit p = true) :
    serveTakeSlip p s = ⟨s, .full, []⟩ :=
  after_refused (by rw [loaded, full]; rfl)

theorem serveTakeSlip_empty {p : Port} {s : State} (loaded : s.loading = false) (room : s.holdsLimit p = false)
    (noneFree : s.pool.generalFree = []) : serveTakeSlip p s = ⟨s, .empty, []⟩ :=
  after_refused (by rw [loaded, room, noneFree]; rfl)

theorem serveTakeSlip_taken {p : Port} {s : State} (loaded : s.loading = false) (room : s.holdsLimit p = false)
    {n : Fin 64} {rest : List (Fin 64)} (free : s.pool.generalFree = n :: rest) :
    serveTakeSlip p s =
      ⟨s.modPool fun q => { q with generalFree := rest, slips := q.slips.set n (takenSlip p) }, .ok,
        byte1 (slipNo n)⟩ := by
  refine (after_taken (by rw [loaded, room, free]; rfl)).trans ?_
  simp only [State.takeSlip, free]
  rfl

/-- Settles O54, by the three outcomes of TAKE SLIP as it is served. -/
theorem takeSlipGivesTheHead : Obligations.TakeSlipGivesTheHead := by
  rintro p s ⟨idle, loaded⟩ limit held
  have counted : (s.pool.heldBy p).length = held := length_heldBy s p
  have limited : holdingLimit p = limit := by cases p <;> rfl
  rw [← counted, ← limited, ← holdsLimit_iff, ← not_holdsLimit_iff]
  refine ⟨fun full => ?_, fun room noneFree => ?_, fun n rest room free => ⟨?_, fun law => ?_⟩⟩
  · exact exec_takeSlip idle (by decide) (serveTakeSlip_full loaded full)
  · exact exec_takeSlip idle (by decide) (serveTakeSlip_empty loaded room noneFree)
  · exact exec_takeSlip idle (by decide) (serveTakeSlip_taken loaded room free)
  · exact general_of_mem_generalFree law (by rw [free]; exact List.mem_cons_self)

end Sys2Proof.Machine
end

section
/-! PROOFS. Request codes, unknown codes, outcome bytes, and the requests that are answered with another outcome than
OK and WOKE (R188). -/

namespace Sys2Proof.Machine

/-! ## Codes -/

theorem knownCode_iff (b : Byte) : knownCode b = true ↔ 0x10 ≤ b.toNat ∧ b.toNat ≤ 0x45 := by
  simp only [knownCode, Bool.and_eq_true, decide_eq_true_iff]

/-- The catalogue has 54 places. -/
theorem place_lt {i : Instr} {k : Nat} {p : Port} (h : requestPlace i = some (k, p)) : k < 54 := by
  cases i <;> simp only [requestPlace, Option.some.injEq, Prod.mk.injEq, reduceCtorEq] at h <;> omega

/-- Every place of the catalogue has a known code. -/
theorem knownCode_codeOf {k : Nat} (h : k < 54) : knownCode (codeOf k) = true := by
  rw [knownCode_iff, codeOf, BitVec.toNat_ofNat]
  omega

/-- A request's reply echoes the code of its place. -/
theorem echoOf_request {i : Instr} {k : Nat} {p : Port} (h : requestPlace i = some (k, p)) : echoOf i = codeOf k := by
  unfold echoOf
  split
  next => exact nomatch h
  next => exact nomatch h
  next => rw [h]

theorem parseBody_unknown (p : Port) {b : Byte} (params : List Byte) (h : knownCode b = false) :
    parseBody p (b :: params) = .unknownCode p b :=
  if_neg (ne_true_of_eq_false h)

/-- A frame of an unknown code is served without an effect. -/
theorem exec_unknownCode {p : Port} {s : State} (b : Byte) (idle : s.idleAt p) :
    exec (.unknownCode p b) s = .next (s.replying p b .unknown []) :=
  exec_idle (i := .unknownCode p b) rfl idle nofun

/-! ## Refusals -/

/-- Served on `s` with another outcome than OK and WOKE, a request carries no results and has changed nothing. -/
def Served.RefusesUnchanged (r : Served) (s : State) : Prop :=
  r.outcome ≠ .ok → r.outcome ≠ .woke → r.state = s ∧ r.results = []

theorem refusesUnchanged_refusal (s : State) (o : ReplyOutcome) : (⟨s, o, []⟩ : Served).RefusesUnchanged s :=
  fun _ _ => ⟨rfl, rfl⟩

theorem refusesUnchanged_of_ok {r : Served} (s : State) (ok : r.outcome = .ok) : r.RefusesUnchanged s :=
  fun notOk _ => absurd ok notOk

theorem refusesUnchanged_of_woke {r : Served} (s : State) (woke : r.outcome = .woke) : r.RefusesUnchanged s :=
  fun _ notWoke => absurd woke notWoke

/-- The checks refuse with nothing changed, so what matters is the request as it is taken. -/
theorem refusesUnchanged_after {s : State} (checks : List (Bool × ReplyOutcome)) {taken : Served}
    (h : taken.RefusesUnchanged s) : (Served.after s checks taken).RefusesUnchanged s := by
  rcases after_cases s checks taken with ⟨o, -, refused⟩ | ⟨-, accepted⟩
  · rw [refused]; exact refusesUnchanged_refusal s o
  · rw [accepted]; exact h

theorem refusesUnchanged_after_ok {s : State} (checks : List (Bool × ReplyOutcome)) {taken : Served}
    (ok : taken.outcome = .ok) : (Served.after s checks taken).RefusesUnchanged s :=
  refusesUnchanged_after checks (refusesUnchanged_of_ok s ok)

theorem refusesUnchanged_applyCorrection (s : State) (n : Fin 64) : (s.applyCorrection n).RefusesUnchanged s := by
  unfold State.applyCorrection
  split
  · exact refusesUnchanged_of_ok s rfl
  · exact refusesUnchanged_refusal s .state

theorem refusesUnchanged_takeSlip (s : State) (p : Port) : (s.takeSlip p).RefusesUnchanged s := by
  unfold State.takeSlip
  split
  · exact refusesUnchanged_of_ok s rfl
  · exact refusesUnchanged_refusal s .empty

theorem refusesUnchanged_fetchSlip (s : State) (p : Port) : (s.fetchSlip p).RefusesUnchanged s := by
  unfold State.fetchSlip
  split
  · exact refusesUnchanged_of_ok s rfl
  · exact refusesUnchanged_refusal s .empty

/-- PARK LANE, once past its checks, is answered WOKE where the lane's credit holds, else OK. -/
theorem refusesUnchanged_parkLane (p : Port) (lane mask : Nat) (s : State) :
    (serveParkLane p lane mask s).RefusesUnchanged s := by
  refine refusesUnchanged_after _ ?_
  split
  · exact refusesUnchanged_of_woke s rfl
  · exact refusesUnchanged_of_ok s rfl

/-- The requests that can be answered otherwise than OK past their checks are PARK LANE, APPLY CORRECTION, TAKE SLIP and
FETCH SLIP; a command that is no request is served without an effect. -/
theorem refusesUnchanged_serve (i : Instr) (s : State) : (serve i s).RefusesUnchanged s := by
  cases i
  case parkLane p lane mask => exact refusesUnchanged_parkLane p lane mask s
  case applyCorrection => exact refusesUnchanged_after _ (refusesUnchanged_applyCorrection s _)
  case takeSlip p => exact refusesUnchanged_after _ (refusesUnchanged_takeSlip s p)
  case fetchSlip p => exact refusesUnchanged_after _ (refusesUnchanged_fetchSlip s p)
  case openLane | closeLane | resumeLane | setLaneSettings | readLaneStatus | readLaneSummary | lockout | unlock
      | manualCycle | clearFault | pinsSet | setPinsetterTimers | readReturn | clearOverdue | liftRestart
      | setReturnSettings | addBowler | removeBowler | away | back | setPairMode | setPairSettings | readRoster
      | readFrameSheet | reball | supplyBowler | unknownBowler | updateBowler | dropBowler | setRangeEntry | readBowler
      | readFetchQueue | setClock | setTariffLayout | setPrices | setBillingSettings | readTariff | addCredit
      | readMeter | writeSlip | postSlip | setOutcome | returnSlip | readSlipPool | readPort | setMask | clearAttention
      | signal | sectionRestart | storeSettings =>
    exact refusesUnchanged_after_ok _ rfl
  all_goals exact refusesUnchanged_refusal s _

/-- Settles O3: the codes by the catalogue's places, and the refusals request by request. -/
theorem codesOutcomesAndRefusals : Obligations.CodesOutcomesAndRefusals := by
  refine ⟨fun i k p place => ?_, knownCode_iff, fun p _ params unknown => parseBody_unknown p params unknown,
    fun _ b _ idle => exec_unknownCode b idle, rfl, fun i s _ => refusesUnchanged_serve i s⟩
  rw [echoOf_request place]
  exact ⟨place_lt place, rfl, knownCode_codeOf (place_lt place)⟩

end Sys2Proof.Machine
end

section
/-! SUPPORT. What the named writings of a lane's record and of a Turn Unit give, the one they write and every other:
the lemmas by which a proof reads a lane, a slot or a flag after them. -/

namespace Sys2Proof.Machine

/-! ## A lane's record written -/

theorem lane_updLane (s : State) (l k : Fin 16) (f : Lane → Lane) :
    (s.updLane l f).lane k = if k = l then f (s.lane k) else s.lane k := by
  unfold State.updLane
  split <;> simp [lane_modLane]

@[simp] theorem lane_updLane_same (s : State) (l : Fin 16) (f : Lane → Lane) :
    (s.updLane l f).lane l = f (s.lane l) := by
  simp [lane_updLane]

theorem sup_updSup (s : State) (l k : Fin 16) (f : Supervisor → Supervisor) :
    ((s.updSup l f).lane k).sup = if k = l then f (s.lane k).sup else (s.lane k).sup := by
  rw [State.updSup, lane_updLane]
  split <;> rfl

theorem record_updSession (s : State) (l k : Fin 16) (f : Session → Session) :
    ((s.updSession l f).lane k).session = if k = l then f (s.lane k).session else (s.lane k).session := by
  rw [State.updSession, lane_updLane]
  split <;> rfl

theorem meter_modMeter (s : State) (l k : Fin 16) (f : Meter → Meter) :
    ((s.modMeter l f).lane k).meter = if k = l then (s.lane k).meter.map f else (s.lane k).meter := by
  rw [State.modMeter, lane_modLane]
  split <;> rfl

/-- A lane's record is read the same after a flag is set. -/
theorem session_of_record {s t : State} {l : Fin 16} (h : (t.lane l).session = (s.lane l).session) :
    t.session l = s.session l := by
  rw [State.session, State.session, h]

/-! ## A Turn Unit written -/

theorem turn_modPair (s : State) (p q : Fin 8) (f : Pair → Pair) :
    (s.modPair p f).turn q = if q = p then (f (s.pair q)).turn else s.turn q := by
  rw [State.turn, pair_modPair]
  split <;> rfl

theorem turn_updTurn (s : State) (p q : Fin 8) (f : TurnUnit → TurnUnit) :
    (s.updTurn p f).turn q = if q = p then f (s.turn q) else s.turn q := by
  simp only [State.updTurn, turn_flagConsoleIf, turn_modPair]
  split
  next same => rw [same]
  next => rfl

@[simp] theorem turn_updTurn_same (s : State) (p : Fin 8) (f : TurnUnit → TurnUnit) :
    (s.updTurn p f).turn p = f (s.turn p) := by
  simp [turn_updTurn]

theorem slot_updSlot (s : State) (p q : Fin 8) (i j : Fin 12) (f : Slot → Slot) :
    (s.updSlot p i f).slot q j = if q = p ∧ j = i then f (s.slot q j) else s.slot q j := by
  simp only [State.slot, State.updSlot, turn_updTurn]
  by_cases same : q = p
  · simp only [same, if_true, true_and, slots_modSlot]
  · simp [same]

@[simp] theorem slot_updSlot_same (s : State) (p : Fin 8) (i : Fin 12) (f : Slot → Slot) :
    (s.updSlot p i f).slot p i = f (s.slot p i) := by
  simp [slot_updSlot]

/-! ## The checks of a request -/

/-- A request passes its checks where none of them refuses. -/
theorem firstRefusal_eq_none {checks : List (Bool × ReplyOutcome)} :
    firstRefusal checks = none ↔ ∀ c ∈ checks, c.1 = false := by
  induction checks with
  | nil => simp
  | cons c rest ih =>
    obtain ⟨b, o⟩ := c
    cases b <;> simp [ih]

/-! ## Supervisors apart from their horns -/

/-- A Supervisor's record apart from its horn, which the calls of other blocks sound (R43). -/
def Supervisor.silent (u : Supervisor) : Supervisor := { u with horn := none }

@[simp] theorem silent_sound (s : State) (l : Fin 16) (t : Tone) (k : Fin 16) :
    ((s.sound l t).lane k).sup.silent = (s.lane k).sup.silent := by
  rw [State.sound, sup_modSup]
  split <;> rfl

@[simp] theorem silent_episodeRule (s : State) (p : Fin 8) (sd : Side) (k : Fin 16) :
    ((s.episodeRule p sd).lane k).sup.silent = (s.lane k).sup.silent := by
  simp only [State.episodeRule]; (repeat' split) <;> simp

@[simp] theorem silent_enterStall (s : State) (p : Fin 8) (k : Fin 16) :
    ((s.enterStall p).lane k).sup.silent = (s.lane k).sup.silent := by
  simp [State.enterStall]

@[simp] theorem silent_startLift (s : State) (p : Fin 8) (k : Fin 16) :
    ((s.startLift p).lane k).sup.silent = (s.lane k).sup.silent := by
  simp only [State.startLift]; (repeat' split) <;> simp

@[simp] theorem silent_liftLaneOpen (s : State) (p : Fin 8) (k : Fin 16) :
    ((s.liftLaneOpen p).lane k).sup.silent = (s.lane k).sup.silent := by
  simp [State.liftLaneOpen]

@[simp] theorem silent_writeOffOldest (s : State) (p : Fin 8) (k : Fin 16) :
    ((s.writeOffOldest p).lane k).sup.silent = (s.lane k).sup.silent := by
  simp only [State.writeOffOldest]; (repeat' split) <;> simp

@[simp] theorem silent_createTransit (s : State) (p : Fin 8) (sd : Side) (unpaid : Bool) (k : Fin 16) :
    ((s.createTransit p sd unpaid).lane k).sup.silent = (s.lane k).sup.silent := by
  simp only [State.createTransit]; split <;> simp

@[simp] theorem silent_markOverdue (s : State) (p : Fin 8) (f : Transit → Transit) (k : Fin 16) :
    ((s.markOverdue p f).lane k).sup.silent = (s.lane k).sup.silent := by
  simp [State.markOverdue]

@[simp] theorem silent_applyTimeout (s : State) (timeout : Nat) (k : Fin 16) :
    ((s.applyTimeout timeout).lane k).sup.silent = (s.lane k).sup.silent := by
  simp [State.applyTimeout, foldl_keeps (fun t : State => (t.lane k).sup.silent)]

@[simp] theorem silent_liftOverload (s : State) (p : Fin 8) (k : Fin 16) :
    ((liftOverload p s).lane k).sup.silent = (s.lane k).sup.silent := by
  simp only [liftOverload]; split <;> simp

/-- Supervisors alike apart from their horns are in one state. -/
theorem state_of_silent {u v : Supervisor} (h : u.silent = v.silent) : u.state = v.state :=
  have states : u.silent.state = v.silent.state := by rw [h]
  states

/-- Lanes alike in every part but the horn are the same but for the horn. -/
theorem sameLaneButHorn_of_silent {s t : State} {k : Fin 16} (record : (t.lane k).session = (s.lane k).session)
    (meter : (t.lane k).meter = (s.lane k).meter) (snapshot : (t.lane k).snapshot = (s.lane k).snapshot)
    (out : (t.lane k).out = (s.lane k).out) (sup : (t.lane k).sup.silent = (s.lane k).sup.silent) :
    s.sameLaneButHorn t k := by
  have whole (a : Lane) : a = ⟨a.session, { a.sup.silent with horn := a.sup.horn }, a.snapshot, a.meter, a.out⟩ := rfl
  unfold State.sameLaneButHorn
  conv_lhs => rw [whole (t.lane k), record, meter, snapshot, out, sup]
  rfl

end Sys2Proof.Machine
end

section
/-! SUPPORT. The laws of a lane's record (R156, R16, R1, R21) under each operation: `a.keeps b` says that record `b`
obeys each law that record `a` obeys, and a lemma `keeps_<operation>` that the operation keeps the laws of every lane. -/

namespace Sys2Proof.Machine

/-- A lane without a meter, or with a meter record that meets R156. -/
def MeterOk (m : Option Meter) : Prop := ∀ x, m = some x → x.lawful

/-- The light and the closing reason are those of the session state (R16, R1). -/
def Session.lit (n : Session) : Prop := n.light = n.state.light ∧ n.closingReason = n.state.reason

/-- What record `a` obeys of the laws, record `b` obeys too. -/
def Lane.keeps (a b : Lane) : Prop :=
  (MeterOk a.meter → MeterOk b.meter) ∧ (a.session.lit → b.session.lit) ∧ (a.sup.lawful → b.sup.lawful)

@[simp] theorem keeps_refl (a : Lane) : a.keeps a := ⟨id, id, id⟩

theorem Lane.keeps.trans {a b c : Lane} (h : a.keeps b) (g : b.keeps c) : a.keeps c :=
  ⟨g.1 ∘ h.1, g.2.1 ∘ h.2.1, g.2.2 ∘ h.2.2⟩

/-! ## The writings of a lane's record -/

variable {a : Lane} {s : State} {k : Fin 16}

theorem keeps_modLane (h : a.keeps (s.lane k)) {l : Fin 16} {f : Lane → Lane} (g : (s.lane l).keeps (f (s.lane l))) :
    a.keeps ((s.modLane l f).lane k) := by
  rw [lane_modLane]
  split
  next same => subst same; exact h.trans g
  next => exact h

theorem keeps_updLane (h : a.keeps (s.lane k)) {l : Fin 16} {f : Lane → Lane} (g : (s.lane l).keeps (f (s.lane l))) :
    a.keeps ((s.updLane l f).lane k) := by
  rw [lane_updLane]
  split
  next same => subst same; exact h.trans g
  next => exact h

theorem keeps_modSup (h : a.keeps (s.lane k)) {l : Fin 16} {f : Supervisor → Supervisor}
    (g : (s.lane l).sup.lawful → (f (s.lane l).sup).lawful) : a.keeps ((s.modSup l f).lane k) :=
  keeps_modLane h ⟨id, id, g⟩

theorem keeps_updSup (h : a.keeps (s.lane k)) {l : Fin 16} {f : Supervisor → Supervisor}
    (g : (s.lane l).sup.lawful → (f (s.lane l).sup).lawful) : a.keeps ((s.updSup l f).lane k) :=
  keeps_updLane h ⟨id, id, g⟩

theorem keeps_updSession (h : a.keeps (s.lane k)) {l : Fin 16} {f : Session → Session}
    (g : (s.lane l).session.lit → (f (s.lane l).session).lit) : a.keeps ((s.updSession l f).lane k) :=
  keeps_updLane h ⟨id, g, id⟩

theorem keeps_setMeter (h : a.keeps (s.lane k)) {l : Fin 16} {m : Meter} (g : MeterOk (s.lane l).meter → m.lawful) :
    a.keeps ((s.setMeter l m).lane k) := by
  refine keeps_modLane h ⟨fun ok x e => ?_, id, id⟩
  obtain ⟨-, -, rfl⟩ := Option.map_eq_some_iff.mp e
  exact g ok

theorem keeps_modMeter (h : a.keeps (s.lane k)) {l : Fin 16} {f : Meter → Meter}
    (g : ∀ m, m.lawful → (f m).lawful) : a.keeps ((s.modMeter l f).lane k) := by
  refine keeps_modLane h ⟨fun ok x e => ?_, id, id⟩
  obtain ⟨m, there, rfl⟩ := Option.map_eq_some_iff.mp e
  exact g m (ok m there)

/-- An operation on a Supervisor keeps the laws of every lane where it keeps that of its own. -/
theorem keeps_of_sup {t : State} (h : a.keeps (s.lane k)) (meter : (t.lane k).meter = (s.lane k).meter)
    (record : (t.lane k).session = (s.lane k).session) (sup : (s.lane k).sup.lawful → (t.lane k).sup.lawful) :
    a.keeps (t.lane k) :=
  h.trans ⟨by rw [meter]; exact id, by rw [record]; exact id, sup⟩

/-- What one step of a fold keeps, the fold keeps. -/
theorem keeps_foldl {α : Type} {f : State → α → State} (step : ∀ s x, a.keeps (s.lane k) → a.keeps ((f s x).lane k))
    (list : List α) (h : a.keeps (s.lane k)) : a.keeps ((list.foldl f s).lane k) := by
  induction list generalizing s with
  | nil => exact h
  | cons x list ih => exact ih (step s x h)

/-! ## Tones, the lift and its records -/

@[simp] theorem keeps_sound (h : a.keeps (s.lane k)) (l : Fin 16) (t : Tone) : a.keeps ((s.sound l t).lane k) :=
  keeps_modSup h id

@[simp] theorem keeps_episodeRule (h : a.keeps (s.lane k)) (p : Fin 8) (sd : Side) :
    a.keeps ((s.episodeRule p sd).lane k) := by
  simp only [State.episodeRule]; (repeat' split) <;> simp [h]

@[simp] theorem keeps_enterStall (h : a.keeps (s.lane k)) (p : Fin 8) : a.keeps ((s.enterStall p).lane k) := by
  simp [State.enterStall, h]

@[simp] theorem keeps_startLift (h : a.keeps (s.lane k)) (p : Fin 8) : a.keeps ((s.startLift p).lane k) := by
  simp only [State.startLift]; (repeat' split) <;> simp [h]

@[simp] theorem keeps_liftLaneOpen (h : a.keeps (s.lane k)) (p : Fin 8) : a.keeps ((s.liftLaneOpen p).lane k) := by
  simp [State.liftLaneOpen, h]

@[simp] theorem keeps_writeOffOldest (h : a.keeps (s.lane k)) (p : Fin 8) : a.keeps ((s.writeOffOldest p).lane k) := by
  simp only [State.writeOffOldest]; (repeat' split) <;> simp [h]

@[simp] theorem keeps_createTransit (h : a.keeps (s.lane k)) (p : Fin 8) (sd : Side) (unpaid : Bool) :
    a.keeps ((s.createTransit p sd unpaid).lane k) := by
  simp only [State.createTransit]; split <;> simp [h]

@[simp] theorem keeps_arrive (h : a.keeps (s.lane k)) (p : Fin 8) : a.keeps ((s.arrive p).lane k) := by
  simp only [State.arrive]; (repeat' split) <;> simp [h]

@[simp] theorem keeps_clearOverdue (h : a.keeps (s.lane k)) (p : Fin 8) (scope : Side → Bool) :
    a.keeps ((s.clearOverdue p scope).lane k) := by
  simp only [State.clearOverdue]; (repeat' split) <;> simp [h]

@[simp] theorem keeps_markOverdue (h : a.keeps (s.lane k)) (p : Fin 8) (f : Transit → Transit) :
    a.keeps ((s.markOverdue p f).lane k) := by
  simp [State.markOverdue, h]

@[simp] theorem keeps_liftOverload (h : a.keeps (s.lane k)) (p : Fin 8) : a.keeps ((liftOverload p s).lane k) := by
  simp only [liftOverload]; split <;> simp [h]

@[simp] theorem keeps_recordOverdue (h : a.keeps (s.lane k)) (p : Fin 8) (seqs : List (BitVec 16)) :
    a.keeps ((recordOverdue p seqs s).lane k) := by
  simp only [recordOverdue]; split <;> simp [h]

@[simp] theorem keeps_applyTimeout (h : a.keeps (s.lane k)) (timeout : Nat) :
    a.keeps ((s.applyTimeout timeout).lane k) :=
  keeps_foldl (fun _ p h => keeps_markOverdue h p _) _ h

@[simp] theorem keeps_writeReturnSettings (h : a.keeps (s.lane k)) (timeout idle : Option Nat) :
    a.keeps ((s.writeReturnSettings timeout idle).lane k) := by
  have written : a.keeps (({ s with
      retSettings := ⟨timeout.getD s.retSettings.timeout, idle.getD s.retSettings.idle⟩ } : State).lane k) := h
  simp only [State.writeReturnSettings]
  split <;> simp only [keeps_applyTimeout, written]

/-! ## Power, cycles and pins -/

/-- A pinsetter that is not in FAULT holds no fault record. -/
theorem no_fault_of_state {u : Supervisor} (law : u.lawful) (h : u.state ≠ .fault) : u.fault = none := by
  simpa [h] using law.2.2.2

/-- A pinsetter without a fault record takes up a cycle. -/
theorem lawful_cycling {u : Supervisor} (h : u.fault = none) (c : Cycle) :
    { u with state := .cycling, cycle := some c, warmUp := none, handSet := none }.lawful := by
  simp [Supervisor.lawful, h]

/-- A pinsetter without a fault record asks for a hand set. -/
theorem lawful_handSet {u : Supervisor} (h : u.fault = none) (x : HandSet) :
    { u with state := .handSet, cycle := none, warmUp := none, handSet := some x, standing := none }.lawful := by
  simp [Supervisor.lawful, h]

theorem lawful_withdrawn {u : Supervisor} (law : u.lawful) (b : Bool) :
    ({ u with servicePower := b }.withdrawn).lawful := by
  cases e : u.state <;> simp_all [Supervisor.withdrawn, Supervisor.lawful]

/-- A pinsetter in OFF begins its warm-up. -/
@[simp] theorem keeps_grantPower (h : a.keeps (s.lane k)) (l : Fin 16) : a.keeps ((s.grantPower l).lane k) := by
  unfold State.grantPower
  split
  next off =>
    refine keeps_updSup h fun law => ?_
    simp_all [Supervisor.lawful]
  next => exact h

@[simp] theorem keeps_withdrawPower (h : a.keeps (s.lane k)) (l : Fin 16) : a.keeps ((s.withdrawPower l).lane k) :=
  keeps_updSup h fun law => lawful_withdrawn law false

theorem sup_startCycle_same (s : State) (l : Fin 16) (c : Cycle) :
    ((s.startCycle l c).lane l).sup =
      { (s.lane l).sup with state := .cycling, cycle := some c, warmUp := none, handSet := none } := by
  simp [State.startCycle, sup_updSup]

theorem lawful_startCycle {l : Fin 16} (h : (s.lane l).sup.fault = none) (c : Cycle) :
    ((s.startCycle l c).lane l).sup.lawful := by
  rw [sup_startCycle_same]
  exact lawful_cycling h c

theorem lawful_enterHandSet {l : Fin 16} (h : (s.lane l).sup.fault = none) (target : PinSet)
    (after : Option CyclePhase) : ((s.enterHandSet l target after).lane l).sup.lawful := by
  simp only [State.enterHandSet, State.sound, sup_modSup, if_true, lane_raiseCall, sup_updSup]
  exact lawful_handSet h _

theorem lawful_restoreReady {l : Fin 16} (h : (s.lane l).sup.fault = none) (target : PinSet)
    (after : Option CyclePhase) : ((s.restoreReady l target after).lane l).sup.lawful := by
  unfold State.restoreReady
  split
  · exact lawful_startCycle h _
  · exact lawful_enterHandSet h _ _

/-- Starting a cycle keeps the laws where no fault is recorded. -/
theorem keeps_startCycle (h : a.keeps (s.lane k)) {l : Fin 16} (g : (s.lane l).sup.state ≠ .fault) (c : Cycle) :
    a.keeps ((s.startCycle l c).lane k) :=
  keeps_updSup h fun law => lawful_cycling (no_fault_of_state law g) c

theorem keeps_restoreReady (h : a.keeps (s.lane k)) {l : Fin 16} (g : (s.lane l).sup.state ≠ .fault) (target : PinSet)
    (after : Option CyclePhase) : a.keeps ((s.restoreReady l target after).lane k) := by
  refine keeps_of_sup h (by simp) (by simp) fun law => ?_
  by_cases same : k = l
  · subst same; exact lawful_restoreReady (no_fault_of_state law g) target after
  · simpa [same] using law

@[simp] theorem keeps_restoreDemand (h : a.keeps (s.lane k)) (l : Fin 16) (target : PinSet) :
    a.keeps ((s.restoreDemand l target).lane k) := by
  unfold State.restoreDemand
  split
  next ready => exact keeps_restoreReady h (by simp [ready]) target none
  next hand =>
    split
    · exact keeps_startCycle h (by simp [hand]) _
    · exact keeps_modSup h fun law => by simp_all [Supervisor.lawful]
  next => exact keeps_modSup h fun law => by simpa [Supervisor.lawful] using law
  next => exact keeps_modSup h fun law => by simpa [Supervisor.lawful] using law
  next => exact keeps_modSup h fun law => by simpa [Supervisor.lawful] using law
  next => exact keeps_modSup h id
  next => exact keeps_modSup h id

@[simp] theorem keeps_loseBall (h : a.keeps (s.lane k)) (l : Fin 16) : a.keeps ((s.loseBall l).lane k) := by
  unfold State.loseBall
  split
  · split
    · rw [lane_landBall]; exact keeps_modSup h id
    · exact h
  · exact h

theorem state_loseBall (s : State) (l k : Fin 16) :
    ((s.loseBall l).lane k).sup.state = (s.lane k).sup.state ∧
      ((s.loseBall l).lane k).sup.warmUp = (s.lane k).sup.warmUp ∧
      ((s.loseBall l).lane k).sup.handSet = (s.lane k).sup.handSet := by
  unfold State.loseBall
  split
  · split
    · simp only [lane_landBall, sup_modSup]; split <;> simp
    · simp
  · simp

/-- A cycle that ends in FAULT. -/
theorem keeps_faultCycle (h : a.keeps (s.lane k)) {l : Fin 16} (g : (s.lane l).sup.state = .cycling) (c : Cycle)
    (reason : FaultReason) : a.keeps ((s.faultCycle l c reason).lane k) := by
  have faulted (u : State) (hu : a.keeps (u.lane k)) (gu : (u.lane l).sup.state = .cycling) :
      a.keeps ((u.updSup l fun x =>
        { x with state := .fault, cycle := none, fault := some (faultOf c reason x.standing), standing := none }).lane k) :=
    keeps_updSup hu fun law => by simp_all [Supervisor.lawful]
  simp only [State.faultCycle]
  split
  · simp [faulted _ (keeps_loseBall h l) ((state_loseBall s l l).1.trans g)]
  · simp [faulted s h g]

@[simp] theorem keeps_attributeFoul (h : a.keeps (s.lane k)) (l : Fin 16) :
    a.keeps ((s.attributeFoul l).lane k) := by
  have marked : a.keeps ((s.modSup l Supervisor.markFoul).lane k) := by
    refine keeps_modSup h fun law => ?_
    simp only [Supervisor.markFoul]
    split <;> exact law
  simp [State.attributeFoul, marked]

/-! ## Parks -/

theorem lit_enter (n : Session) (st : SessionState) : (n.enter st).lit := ⟨rfl, rfl⟩

@[simp] theorem keeps_enterParked (h : a.keeps (s.lane k)) (l : Fin 16) (mask : WakeMask) (cause : ParkCause) :
    a.keeps ((s.enterParked l mask cause).lane k) := by
  have parked := keeps_updSession (l := l)
    (f := fun n => { n.enter .parked with wakeMask := mask, parkCause := cause, pendingPark := none }) h
    fun _ => ⟨rfl, rfl⟩
  simp [State.enterParked, parked]

@[simp] theorem keeps_park (h : a.keeps (s.lane k)) (l : Fin 16) (mask : WakeMask) (cause : ParkCause) :
    a.keeps ((s.park l mask cause).lane k) := by
  unfold State.park
  split
  · exact keeps_updSession h id
  · simp [h]

@[simp] theorem keeps_dropPending (h : a.keeps (s.lane k)) (l : Fin 16) : a.keeps ((s.dropPending l).lane k) :=
  keeps_updSession h id

@[simp] theorem keeps_enterPending (h : a.keeps (s.lane k)) (l : Fin 16) : a.keeps ((s.enterPending l).lane k) := by
  simp only [State.enterPending]; (repeat' split) <;> simp [h]

@[simp] theorem keeps_afterCycle (h : a.keeps (s.lane k)) (l : Fin 16) : a.keeps ((s.afterCycle l).lane k) := by
  simp only [State.afterCycle]; split <;> simp [h]

@[simp] theorem keeps_enterClosing (h : a.keeps (s.lane k)) (l : Fin 16) : a.keeps ((s.enterClosing l).lane k) := by
  rw [State.enterClosing, lane_flagDk]
  exact keeps_updSession h fun _ => lit_enter _ _

@[simp] theorem keeps_parkExhausted (h : a.keeps (s.lane k)) (l : Fin 16) :
    a.keeps ((s.parkExhausted l).lane k) := by
  simp [State.parkExhausted, h]

@[simp] theorem keeps_zeroBackGrace (h : a.keeps (s.lane k)) (l : Fin 16) :
    a.keeps ((s.zeroBackGrace l).lane k) := by
  simp only [State.zeroBackGrace]; (repeat' split) <;> simp [h]

end Sys2Proof.Machine
end

section
/-! SUPPORT. The laws of a lane's record under charges, games, wakes and the periods of a meter (R156, R159 to R167). -/

namespace Sys2Proof.Machine

/-! ## What a charge does to a meter record -/

theorem lawful_tab {m : Meter} (tab : m.mode = .tab) :
    m.lawful ↔ m.balance = 0 ∧ m.charged ≤ chargedCeiling ∧ m.declined = none := by
  simp [Meter.lawful, tab]

theorem lawful_prepaid {m : Meter} (prepaid : m.mode = .prepaid) :
    m.lawful ↔ m.balance + m.charged = m.credited ∧ m.balance ≤ balanceCeiling ∧ m.credited ≤ chargedCeiling := by
  simp [Meter.lawful, prepaid]

/-- Records that agree in what R156 speaks of are lawful together. -/
theorem lawful_congr {m n : Meter} (law : m.lawful) (mode : n.mode = m.mode) (balance : n.balance = m.balance)
    (credited : n.credited = m.credited) (charged : n.charged = m.charged)
    (declined : n.declined = m.declined ∨ n.declined = none) : n.lawful := by
  unfold Meter.lawful at *
  rw [mode, balance, credited, charged]
  split
  next e => simpa [e] using law
  next e =>
    rw [e] at law
    exact ⟨law.1, law.2.1, declined.elim (fun h => h.trans law.2.2) id⟩

theorem addCharge_fields (m : Meter) (price : Nat) :
    (m.addCharge price).mode = m.mode ∧ (m.addCharge price).balance = m.balance ∧
      (m.addCharge price).credited = m.credited ∧ (m.addCharge price).declined = m.declined ∧
      (m.addCharge price).charged = min (m.charged + price) chargedCeiling := by
  unfold Meter.addCharge
  split
  · simp; omega
  · simp; omega

/-- A tab's charges hold at the ceiling. -/
theorem lawful_addCharge_tab {m : Meter} (law : m.lawful) (tab : m.mode = .tab) (price : Nat) :
    (m.addCharge price).lawful := by
  obtain ⟨mode, balance, -, declined, charged⟩ := addCharge_fields m price
  obtain ⟨empty, -, none⟩ := (lawful_tab tab).mp law
  exact (lawful_tab (mode.trans tab)).mpr
    ⟨balance.trans empty, charged ▸ Nat.min_le_right _ _, declined.trans none⟩

/-- A charge moves its price from balance to charged in a prepaid session, and adds it to a tab's charges. -/
theorem lawful_charge {m n : Meter} {price : Nat} (law : m.lawful) (paid : m.charge price = some n) : n.lawful := by
  unfold Meter.charge at paid
  split at paid
  next prepaid =>
    split at paid
    · cases paid
    next covered =>
      cases paid
      obtain ⟨mode, balance, credited, -, charged⟩ := addCharge_fields { m with balance := m.balance - price } price
      obtain ⟨sum, most, ceiling⟩ := (lawful_prepaid prepaid).mp law
      refine (lawful_prepaid (mode.trans prepaid)).mpr ?_
      rw [balance, credited, charged]
      dsimp only
      omega
  next tab => cases paid; exact lawful_addCharge_tab law tab price

theorem charge_tab {m : Meter} (tab : m.mode = .tab) (price : Nat) : m.charge price = some (m.addCharge price) := by
  simp [Meter.charge, tab]

theorem lawful_askGame {m n : Meter} {price : Nat} (law : m.lawful) (asked : m.askGame price = some n) : n.lawful := by
  unfold Meter.askGame at asked
  split at asked
  · cases asked; exact lawful_congr law rfl rfl rfl rfl (.inl rfl)
  · obtain ⟨c, paid, rfl⟩ := Option.map_eq_some_iff.mp asked
    exact lawful_congr (lawful_charge law paid) rfl rfl rfl rfl (.inl rfl)

/-- Only a prepaid charge is declined. -/
theorem prepaid_of_askGame_none {m : Meter} {price : Nat} (declined : m.askGame price = none) : m.mode = .prepaid := by
  unfold Meter.askGame at declined
  split at declined
  · cases declined
  · cases mode : m.mode with
    | prepaid => rfl
    | tab => simp [charge_tab mode] at declined

theorem lawful_decline {m : Meter} (law : m.lawful) (prepaid : m.mode = .prepaid) (what : Declined) (back : Nat) :
    (m.decline what back).lawful := by
  have same := (lawful_prepaid prepaid).mp law
  exact (lawful_prepaid (m := m.decline what back) prepaid).mpr same

theorem lawful_beginUnit {m : Meter} (law : m.lawful) (length : Nat) (price : Option Nat) :
    (m.beginUnit length price).lawful := lawful_congr law rfl rfl rfl rfl (.inl rfl)

theorem lawful_startUnit {m : Meter} (law : m.lawful) (price length back : Nat) :
    (m.startUnit price length back).1.lawful := by
  unfold Meter.startUnit
  split
  · exact lawful_beginUnit law _ _
  next prepaid =>
    split
    next paid => exact lawful_beginUnit (lawful_charge law paid) _ _
    next => exact lawful_decline law prepaid _ _

theorem lawful_endUnit {m : Meter} (law : m.lawful) : m.endUnit.lawful := by
  unfold Meter.endUnit
  split
  next tab _ => exact lawful_addCharge_tab law tab _
  next => exact law

theorem lawful_retry {m n : Meter} {pr : Price} {length : Nat} (law : m.lawful) (paid : m.retry pr length = some n) :
    n.lawful := by
  unfold Meter.retry at paid
  split at paid
  · cases paid
  · obtain ⟨c, charged, rfl⟩ := Option.map_eq_some_iff.mp paid
    have settled := lawful_charge law charged
    dsimp only
    split
    · exact lawful_congr settled rfl rfl rfl rfl (.inr rfl)
    · exact lawful_congr settled rfl rfl rfl rfl (.inr rfl)

theorem lawful_resumeBack {m : Meter} (law : m.lawful) (back : Nat) : (m.resumeBack back).lawful :=
  lawful_congr law rfl rfl rfl rfl (.inl rfl)

/-- Credit is accepted within both ceilings. -/
theorem lawful_addCredit {m : Meter} (law : m.lawful) (prepaid : m.mode = .prepaid) (amount : Nat) :
    (m.addCredit (m.accepts amount)).lawful := by
  obtain ⟨sum, most, ceiling⟩ := (lawful_prepaid prepaid).mp law
  refine (lawful_prepaid (m := m.addCredit _) prepaid).mpr ?_
  simp only [Meter.addCredit, Meter.accepts]
  omega

/-- An opening credit within its range, which is 0 for a tab. -/
theorem lawful_fresh (kind : MeterKind) {mode credit : Nat} (h : creditOut mode credit = false) (front : Nat) :
    (Meter.fresh kind (meterModeOf mode) credit front).lawful := by
  unfold creditOut at h
  unfold meterModeOf
  split at h
  next zero =>
    rw [if_pos zero]
    refine (lawful_prepaid rfl).mpr ?_
    have most : credit ≤ balanceCeiling := by simpa using h
    exact ⟨rfl, most, most.trans (by decide)⟩
  next tab =>
    rw [if_neg tab]
    exact (lawful_tab rfl).mpr ⟨by simpa [Meter.fresh] using h, Nat.zero_le _, rfl⟩

/-! ## Heads, games and turns -/

variable {a : Lane} {s : State} {k : Fin 16}

@[simp] theorem keeps_dropSnapshot (h : a.keeps (s.lane k)) (l : Fin 16) : a.keeps ((s.dropSnapshot l).lane k) :=
  keeps_modLane h (keeps_refl _)

@[simp] theorem keeps_dropSnapshots (h : a.keeps (s.lane k)) (p : Fin 8) : a.keeps ((s.dropSnapshots p).lane k) := by
  simp [State.dropSnapshots, h]

@[simp] theorem keeps_dropSnapshotsOf (h : a.keeps (s.lane k)) (p : Fin 8) (i : Fin 12) :
    a.keeps ((s.dropSnapshotsOf p i).lane k) := by
  simp only [State.dropSnapshotsOf, State.dropSnapshotOf]; (repeat' split) <;> simp [h]

@[simp] theorem keeps_tellSnapshot (h : a.keeps (s.lane k)) (l : Fin 16) : a.keeps ((s.tellSnapshot l).lane k) :=
  keeps_modLane h (keeps_refl _)

@[simp] theorem keeps_resetPractice (h : a.keeps (s.lane k)) (l : Fin 16) : a.keeps ((s.resetPractice l).lane k) :=
  keeps_modSup h id

@[simp] theorem keeps_startGame (h : a.keeps (s.lane k)) (l : Fin 16) (i : Fin 12) :
    a.keeps ((s.startGame l i).lane k) := by
  simp [State.startGame, h]

@[simp] theorem keeps_becomeUp (h : a.keeps (s.lane k)) (l : Fin 16) (i : Fin 12) :
    a.keeps ((s.becomeUp l i).lane k) := by
  simp [State.becomeUp, h]

@[simp] theorem keeps_askGame (h : a.keeps (s.lane k)) (l : Fin 16) (i : Fin 12) :
    a.keeps ((s.askGame l i).lane k) := by
  unfold State.askGame
  split
  · exact h
  next m there =>
    split
    next paid => simp [keeps_setMeter h fun ok => lawful_askGame (ok m there) paid]
    next refused =>
      simp [keeps_setMeter h fun ok => lawful_decline (ok m there) (prepaid_of_askGame_none refused) _ _]

@[simp] theorem keeps_raiseHead (h : a.keeps (s.lane k)) (l : Fin 16) (i : Fin 12) :
    a.keeps ((s.raiseHead l i).lane k) := by
  simp only [State.raiseHead]; (repeat' split) <;> simp [h]

@[simp] theorem keeps_headRules (h : a.keeps (s.lane k)) (l : Fin 16) : a.keeps ((s.headRules l).lane k) := by
  simp only [State.headRules]; (repeat' split) <;> simp [h]

@[simp] theorem keeps_takePaid (h : a.keeps (s.lane k)) (l : Fin 16) : a.keeps ((s.takePaid l).lane k) := by
  simp only [State.takePaid]; (repeat' split) <;> simp [h]

@[simp] theorem keeps_turnEffect (h : a.keeps (s.lane k)) (l : Fin 16) (next : Option Side) :
    a.keeps ((s.turnEffect l next).lane k) := keeps_modLane h (keeps_refl _)

@[simp] theorem keeps_endTurn (h : a.keeps (s.lane k)) (l : Fin 16) (i : Fin 12) (finished : Bool) :
    a.keeps ((s.endTurn l i finished).lane k) := by
  have moved (t : State) (g : a.keeps (t.lane k)) (next : Option Side) :
      a.keeps (((t.headRules l).turnEffect l next).lane k) := by simp [g]
  simp only [State.endTurn]; split <;> simp [moved, h]

@[simp] theorem keeps_clearSlot (h : a.keeps (s.lane k)) (p : Fin 8) (i : Fin 12) :
    a.keeps ((s.clearSlot p i).lane k) := by
  simp [State.clearSlot, h]

/-! ## Wakes, re-tests of CREDIT and the periods of a meter -/

@[simp] theorem keeps_turnPaid (h : a.keeps (s.lane k)) (l : Fin 16) (m : Meter) :
    a.keeps ((s.turnPaid l m).lane k) := by
  simp only [State.turnPaid]; split <;> simp [h]

/-- The record after a paid retry is lawful where the lane's is. -/
theorem lawful_retried {l : Fin 16} {m : Meter} (paid : s.retried l = some m) (ok : MeterOk (s.lane l).meter) :
    m.lawful := by
  obtain ⟨before, there, retry⟩ := Option.bind_eq_some_iff.mp paid
  exact lawful_retry (ok before there) retry

theorem keeps_paidRetry (h : a.keeps (s.lane k)) {l : Fin 16} {m : Meter} (paid : s.retried l = some m) :
    a.keeps ((s.paidRetry l m).lane k) :=
  keeps_turnPaid (keeps_updSession (keeps_setMeter h (lawful_retried paid)) fun _ => lit_enter _ _) l m

@[simp] theorem keeps_startUnit (h : a.keeps (s.lane k)) (l : Fin 16) : a.keeps ((s.startUnit l).lane k) := by
  unfold State.startUnit
  split
  · exact h
  next m there =>
    have started := keeps_setMeter h (l := l) fun ok =>
      lawful_startUnit (ok m there) (s.priceOf l).unit s.billing.unit s.billing.back
    dsimp only
    split <;> simp [started]

@[simp] theorem keeps_endPeriod (h : a.keeps (s.lane k)) (l : Fin 16) : a.keeps ((s.endPeriod l).lane k) := by
  unfold State.endPeriod
  split
  · exact h
  next m there =>
    split
    · simp [h]
    · simp [keeps_setMeter h fun ok => lawful_endUnit (ok m there)]
    · exact h

@[simp] theorem keeps_endFrozen (h : a.keeps (s.lane k)) (l : Fin 16) : a.keeps ((s.endFrozen l).lane k) := by
  simp only [State.endFrozen]; (repeat' split) <;> simp [h]

@[simp] theorem keeps_resumeSession (h : a.keeps (s.lane k)) (l : Fin 16) (st : SessionState) :
    a.keeps ((s.resumeSession l st).lane k) := keeps_updSession h fun _ => ⟨rfl, rfl⟩

@[simp] theorem keeps_resumeMachines (h : a.keeps (s.lane k)) (l : Fin 16) :
    a.keeps ((s.resumeMachines l).lane k) := by
  simp [State.resumeMachines, h]

@[simp] theorem keeps_wake (h : a.keeps (s.lane k)) (l : Fin 16) : a.keeps ((s.wake l).lane k) := by
  unfold State.wake
  split
  · exact keeps_headRules (keeps_resumeMachines (keeps_resumeSession h l _) l) l
  next m there =>
    split
    · exact keeps_zeroBackGrace (keeps_headRules (keeps_resumeMachines
        (keeps_endFrozen (keeps_resumeSession h l _) l) l) l) l
    next paid =>
      exact keeps_turnPaid (keeps_resumeMachines
        (keeps_resumeSession (keeps_setMeter h (lawful_retried paid)) l _) l) l _
    · have owed := keeps_setMeter h fun ok => lawful_resumeBack (ok m there) s.billing.back
      refine keeps_zeroBackGrace (keeps_headRules (keeps_resumeMachines ?_ l) l) l
      rw [lane_flagDk]
      exact keeps_resumeSession owed l _

@[simp] theorem keeps_retest (h : a.keeps (s.lane k)) (l : Fin 16) : a.keeps ((s.retest l).lane k) := by
  simp only [State.retest]; (repeat' split) <;> simp [h]

@[simp] theorem keeps_retestAll (h : a.keeps (s.lane k)) : a.keeps (s.retestAll.lane k) :=
  keeps_foldl (fun _ l h => keeps_retest h l) _ h

@[simp] theorem keeps_ballEdge (h : a.keeps (s.lane k)) (l : Fin 16) : a.keeps ((s.ballEdge l).lane k) := by
  simp only [State.ballEdge]; split <;> simp [h]

@[simp] theorem keeps_bandEdge (h : a.keeps (s.lane k)) (l : Fin 16) : a.keeps ((s.bandEdge l).lane k) := by
  simp only [State.bandEdge]; split <;> simp [h]

@[simp] theorem keeps_backGraceEnds (h : a.keeps (s.lane k)) (l : Fin 16) :
    a.keeps ((s.backGraceEnds l).lane k) := by
  have ended : a.keeps ((s.modMeter l fun m => { m with left := 0 }).lane k) :=
    keeps_modMeter h fun m law => lawful_congr law rfl rfl rfl rfl (.inl rfl)
  simp only [State.backGraceEnds]
  split
  · split
    next paid => exact keeps_paidRetry ended paid
    · exact ended
  · simp only [keeps_parkExhausted, ended]

@[simp] theorem keeps_frontGraceEnd (h : a.keeps (s.lane k)) (l : Fin 16) : a.keeps ((frontGraceEnd l s).lane k) := by
  simp only [frontGraceEnd]; split <;> simp [h]

@[simp] theorem keeps_unitEnd (h : a.keeps (s.lane k)) (l : Fin 16) : a.keeps ((unitEnd l s).lane k) := by
  simp only [unitEnd]; split <;> simp [h]

@[simp] theorem keeps_backGraceExpiry (h : a.keeps (s.lane k)) (l : Fin 16) :
    a.keeps ((backGraceExpiry l s).lane k) := by
  simp only [backGraceExpiry]; split <;> simp [h]

@[simp] theorem keeps_bandEdgeCommand (h : a.keeps (s.lane k)) (band : Nat) : a.keeps ((bandEdge band s).lane k) := by
  simp only [bandEdge]
  split
  · refine keeps_foldl (fun _ l h => keeps_bandEdge h l) _ ?_
    split <;> exact h
  · exact h

end Sys2Proof.Machine
end

section
/-! SUPPORT. The laws of a lane's record under balls, cycles, the mechanic's work and every request. -/

namespace Sys2Proof.Machine

variable {a : Lane} {s : State} {k : Fin 16}

/-! ## A lane that is CYCLING stays so -/

/-- A park that finds the lane CYCLING waits. -/
theorem cycling_park (h : (s.lane k).sup.state = .cycling) (l : Fin 16) (mask : WakeMask) (cause : ParkCause) :
    ((s.park l mask cause).lane k).sup.state = .cycling := by
  by_cases same : k = l
  · subst same; simp [State.park, h]
  · simp [same, h]

theorem cycling_zeroBackGrace (h : (s.lane k).sup.state = .cycling) (l : Fin 16) :
    ((s.zeroBackGrace l).lane k).sup.state = .cycling := by
  unfold State.zeroBackGrace
  split
  · split
    · exact cycling_park h _ _ _
    · exact h
  · exact h

@[simp] theorem state_becomeUp (s : State) (l k : Fin 16) (i : Fin 12) :
    ((s.becomeUp l i).lane k).sup.state = (s.lane k).sup.state := by
  rw [State.becomeUp, State.resetPractice, sup_modSup]
  split <;> simp

theorem cycling_headRules (h : (s.lane k).sup.state = .cycling) (l : Fin 16) :
    ((s.headRules l).lane k).sup.state = .cycling := by
  have asks (t : State) (g : (t.lane k).sup.state = .cycling) (i : Fin 12) :
      ((t.askGame l i).lane k).sup.state = .cycling := by
    unfold State.askGame
    (repeat' split) <;> simp [g, cycling_zeroBackGrace]
  have raised (t : State) (g : (t.lane k).sup.state = .cycling) (i : Fin 12) :
      ((t.raiseHead l i).lane k).sup.state = .cycling := by
    unfold State.raiseHead
    (repeat' split) <;> simp [g, asks]
  unfold State.headRules
  dsimp only
  (repeat' split) <;> simp [h, raised]

theorem cycling_endTurn (h : (s.lane k).sup.state = .cycling) (l : Fin 16) (i : Fin 12) (finished : Bool) :
    ((s.endTurn l i finished).lane k).sup.state = .cycling := by
  have ended : (((s.updTurn (pairOf l) fun t => t.moveTurn i ((s.turn (pairOf l)).nextTurn i (sideOf l) finished)
      (if ((s.turn (pairOf l)).nextTurn i (sideOf l) finished).isSome then .queued else .done)).headRules l).lane
        k).sup.state = .cycling := cycling_headRules (by simpa using h) l
  unfold State.endTurn
  dsimp only
  split
  · exact cycling_headRules (by simpa using ended) _
  · simpa using ended

theorem cycling_passOn (h : (s.lane k).sup.state = .cycling) (l : Fin 16) (d : Delivery) :
    ((s.passOn l d).state.lane k).sup.state = .cycling := by
  have unscored : ((s.leaveUnscored l d).state.lane k).sup.state = .cycling := by
    simp only [State.leaveUnscored, lane_landBall, sup_modSup]
    split <;> exact h
  have snapped (n : Option Snapshot) : ((s.modLane l fun b => { b with snapshot := n }).lane k).sup = (s.lane k).sup := by
    rw [lane_modLane]; split <;> rfl
  unfold State.passOn
  split
  · exact h
  · split
    · unfold State.scoreBall
      dsimp only
      split
      · exact cycling_endTurn (by simpa [snapped] using h) _ _ _
      · simpa [snapped] using h
    · exact unscored

/-! ## Deliveries -/

@[simp] theorem keeps_takeWaitingFoul (h : a.keeps (s.lane k)) (l : Fin 16) :
    a.keeps ((s.takeWaitingFoul l).lane k) := by
  unfold State.takeWaitingFoul
  split
  · split
    · exact keeps_attributeFoul (keeps_modSup h id) l
    · exact h
  · exact h

@[simp] theorem keeps_release (h : a.keeps (s.lane k)) (l : Fin 16) : a.keeps ((release l s).lane k) := by
  unfold release
  split
  · exact keeps_modSup h id
  · exact keeps_takeWaitingFoul (keeps_modSup h id) l

@[simp] theorem keeps_deckInvalidates (h : a.keeps (s.lane k)) (l : Fin 16) :
    a.keeps ((s.deckInvalidates l).lane k) := by
  simp only [State.deckInvalidates, State.dropSnapshotOf]; (repeat' split) <;> simp [h]

theorem keeps_startBall (h : a.keeps (s.lane k)) {l : Fin 16} (g : (s.lane l).sup.state ≠ .fault) (d : Delivery)
    (kind : CycleKind) : a.keeps ((s.startBall l d kind).lane k) :=
  keeps_startCycle (keeps_modSup h id) (by simpa [sup_modSup] using g) _

@[simp] theorem keeps_closeAtDeck (h : a.keeps (s.lane k)) (l : Fin 16) (d : Delivery) {f : Supervisor → Supervisor}
    (g : ∀ u : Supervisor, u.lawful → (f u).lawful) : a.keeps ((s.closeAtDeck l d f).lane k) :=
  keeps_modSup h fun law => g _ law

@[simp] theorem keeps_unpaidBall (h : a.keeps (s.lane k)) (l : Fin 16) (d : Delivery) :
    a.keeps ((s.unpaidBall l d).lane k) := by
  unfold State.unpaidBall
  split
  · refine keeps_ballEdge ?_ l
    rw [lane_flagDk]
    exact keeps_modMeter (keeps_closeAtDeck h l d fun _ law => law) fun m law =>
      lawful_congr law rfl rfl rfl rfl (.inl rfl)
  · rw [lane_flagDk]
    exact keeps_closeAtDeck h l d fun _ law => law

/-- Only a READY pinsetter takes a ball as scored or practice. -/
theorem ready_of_deckClass {n : SessionState} {pins : PsState} {up : Option (Fin 12)}
    (h : deckClass n pins up = .scored ∨ deckClass n pins up = .practice) : pins = .ready := by
  unfold deckClass at h
  split at h
  · simp at h
  · cases pins <;> simp at h ⊢

@[simp] theorem keeps_takeDeck (h : a.keeps (s.lane k)) (l : Fin 16) (missed : Bool) :
    a.keeps ((s.takeDeck l missed).lane k) := by
  have created (unpaid : Bool) :
      a.keeps ((((s.createTransit (pairOf l) (sideOf l) unpaid).deckInvalidates l).lane k)) := by simp [h]
  have state (unpaid : Bool) :
      (((s.createTransit (pairOf l) (sideOf l) unpaid).deckInvalidates l).lane l).sup.state = (s.lane l).sup.state := by
    rw [sup_deckInvalidates]
    exact state_of_silent (silent_createTransit ..)
  simp only [State.takeDeck]
  split
  next i cls isUp =>
    have ready := ready_of_deckClass (.inl cls)
    rw [State.startScored, lane_updSlot]
    exact keeps_startBall (created _) (by rw [state, ready]; decide) _ _
  next cls _ =>
    have ready := ready_of_deckClass (.inl cls)
    exact keeps_startBall (created _) (by rw [state, ready]; decide) _ _
  next cls =>
    have ready := ready_of_deckClass (.inr cls)
    exact keeps_startBall (created _) (by rw [state, ready]; decide) _ _
  · rw [lane_flagConsole]
    exact keeps_closeAtDeck (created _) l _ fun _ law => law
  · exact keeps_closeAtDeck (created _) l _ fun _ law => law
  · exact keeps_unpaidBall (created _) l _

@[simp] theorem keeps_travelTimeout (h : a.keeps (s.lane k)) (l : Fin 16) : a.keeps ((travelTimeout l s).lane k) := by
  simp only [travelTimeout]; (repeat' split) <;> simp [h]

@[simp] theorem keeps_foul (h : a.keeps (s.lane k)) (l : Fin 16) : a.keeps ((foul l s).lane k) := by
  unfold foul
  split
  · split
    · split <;> simp [h]
    · exact keeps_modSup h id
    · exact keeps_modSup h id
  · exact h

@[simp] theorem keeps_waitingFoulExpiry (h : a.keeps (s.lane k)) (l : Fin 16) :
    a.keeps ((waitingFoulExpiry l s).lane k) := by
  unfold waitingFoulExpiry
  split
  · exact keeps_modSup h id
  · exact h

@[simp] theorem keeps_hornEnd (h : a.keeps (s.lane k)) (l : Fin 16) : a.keeps ((hornEnd l s).lane k) :=
  keeps_modSup h id

/-! ## The READ -/

@[simp] theorem keeps_scoreBall (h : a.keeps (s.lane k)) (l : Fin 16) (b : Place) (sh : Sheet) (pre after : PinSet)
    (m : Marks) : a.keeps ((s.scoreBall l b sh pre after m).state.lane k) := by
  have snapped (n : Snapshot) : a.keeps ((s.modLane l fun b => { b with snapshot := some n }).lane k) :=
    keeps_modLane h (keeps_refl _)
  simp only [State.scoreBall]
  split <;> simp [snapped]

@[simp] theorem keeps_leaveUnscored (h : a.keeps (s.lane k)) (l : Fin 16) (d : Delivery) :
    a.keeps ((s.leaveUnscored l d).state.lane k) := by
  simp only [State.leaveUnscored, lane_landBall]
  exact keeps_modSup h id

@[simp] theorem keeps_passOn (h : a.keeps (s.lane k)) (l : Fin 16) (d : Delivery) :
    a.keeps ((s.passOn l d).state.lane k) := by
  simp only [State.passOn]; (repeat' split) <;> simp [h]

/-- The cycle in flight is that of a CYCLING pinsetter. -/
theorem cycling_eq_some {l : Fin 16} {c : Cycle} (h : s.cycling l = some c) :
    (s.lane l).sup.state = .cycling ∧ (s.lane l).sup.cycle = some c := by
  unfold State.cycling at h
  split at h
  next state => exact ⟨state, h⟩
  next => cases h

@[simp] theorem keeps_psRead (h : a.keeps (s.lane k)) (l : Fin 16) (sensed : PinSet) :
    a.keeps ((psRead l sensed s).lane k) := by
  unfold psRead
  split
  next c d cycle _ =>
    split
    · refine keeps_modSup (keeps_passOn h l _) fun law => ?_
      have state := cycling_passOn (cycling_eq_some cycle).1 l (d.counts sensed)
      simpa [Supervisor.lawful, state] using law.2
    · exact h
  · exact h

/-! ## The end of a cycle -/

/-- A cycle that completes leaves the pinsetter in the state of what it holds. -/
theorem keeps_nextAfter (h : a.keeps (s.lane k)) {l : Fin 16} (g : (s.lane l).sup.state = .cycling) (c : Cycle) :
    a.keeps ((s.nextAfter l c).lane k) := by
  refine keeps_of_sup h (by simp) (by simp) fun law => ?_
  by_cases same : k = l
  · subst same
    have noFault := no_fault_of_state law (by simp [g])
    unfold State.nextAfter
    split
    · split
      · exact lawful_restoreReady (by simpa [sup_modSup] using noFault) _ _
      · simp_all [sup_updSup, Supervisor.lawful]
    · split
      · exact lawful_startCycle noFault _
      · rw [sup_updSup, if_pos rfl]
        split <;> simp_all [Supervisor.lawful]
  · simpa [same] using law

theorem keeps_completeCycle (h : a.keeps (s.lane k)) {l : Fin 16} (g : (s.lane l).sup.state = .cycling) (c : Cycle) :
    a.keeps ((s.completeCycle l c).lane k) :=
  keeps_nextAfter (keeps_modSup h id) (by simpa [sup_modSup] using g) c

@[simp] theorem keeps_psDone (h : a.keeps (s.lane k)) (l : Fin 16) : a.keeps ((psDone l s).lane k) := by
  unfold psDone
  split
  next c cycle =>
    have state := (cycling_eq_some cycle).1
    refine keeps_afterCycle ?_ l
    split
    · exact keeps_faultCycle h state _ _
    · exact keeps_completeCycle h state _
  · exact h

@[simp] theorem keeps_psJam (h : a.keeps (s.lane k)) (l : Fin 16) : a.keeps ((psJam l s).lane k) := by
  unfold psJam
  split
  next c cycle => exact keeps_afterCycle (keeps_faultCycle h (cycling_eq_some cycle).1 _ _) l
  · exact h

@[simp] theorem keeps_cycleTimeout (h : a.keeps (s.lane k)) (l : Fin 16) : a.keeps ((cycleTimeout l s).lane k) := by
  unfold cycleTimeout
  split
  next c cycle => exact keeps_afterCycle (keeps_faultCycle h (cycling_eq_some cycle).1 _ _) l
  · exact h

theorem keeps_setDue (h : a.keeps (s.lane k)) {l : Fin 16} (g : (s.lane l).sup.state ≠ .fault) (target : PinSet) :
    a.keeps ((s.setDue l target).lane k) := by
  refine keeps_of_sup h (by simp) (by simp) fun law => ?_
  by_cases same : k = l
  · subst same
    have noFault := no_fault_of_state law g
    unfold State.setDue
    split
    · exact lawful_startCycle noFault _
    · exact lawful_enterHandSet noFault _ _
  · simpa [same] using law

/-- The end of a warm-up keeps the laws. -/
@[simp] theorem keeps_warmUpEnd (h : a.keeps (s.lane k)) (l : Fin 16) : a.keeps ((warmUpEnd l s).lane k) := by
  unfold warmUpEnd
  split
  next state _ =>
    have noFault : (s.lane l).sup.state ≠ .fault := by simp [state]
    unfold State.endWarmUp
    split
    · exact keeps_restoreReady h noFault _ _
    · exact keeps_updSup h fun law => by simp_all [Supervisor.lawful]
    · exact keeps_setDue h noFault _
  · exact h

/-! ## The mechanic's requests -/

@[simp] theorem keeps_lockOut (h : a.keeps (s.lane k)) (l : Fin 16) : a.keeps ((s.lockOut l).lane k) := by
  unfold State.lockOut
  split
  · exact h
  · refine keeps_enterPending (keeps_updSup ?_ fun _ => by simp [Supervisor.lawful]) l
    (repeat' split) <;> simp [h]

theorem keeps_unlock (h : a.keeps (s.lane k)) {l : Fin 16} (g : (s.lane l).sup.state = .lockout) :
    a.keeps ((s.unlock l).lane k) := by
  unfold State.unlock
  refine keeps_updSup (keeps_modSup h id) fun law => ?_
  simp_all [Supervisor.lawful, sup_modSup]

theorem keeps_pinsStand (h : a.keeps (s.lane k)) {l : Fin 16} (g : (s.lane l).sup.state = .handSet) :
    a.keeps ((s.pinsStand l).lane k) :=
  keeps_updSup h fun law => by simp_all [Supervisor.lawful]

/-- A pinsetter in FAULT leaves it with its fault record. -/
theorem keeps_leaveFault (h : a.keeps (s.lane k)) {l : Fin 16} (g : (s.lane l).sup.lawful → (s.lane l).sup.state = .fault)
    (target : PinSet) (phase : CyclePhase) : a.keeps ((s.leaveFault l target phase).lane k) := by
  refine keeps_of_sup h (by simp) (by simp) fun law => ?_
  by_cases same : k = l
  · subst same
    have state := g law
    unfold State.leaveFault
    dsimp only
    split
    · exact lawful_restoreReady (by simp [sup_modSup]) _ _
    · simp_all [sup_updSup, sup_modSup, Supervisor.lawful]
  · simpa [same] using law

@[simp] theorem keeps_applySnapshot (h : a.keeps (s.lane k)) (l : Fin 16) (n : Snapshot) :
    a.keeps ((s.applySnapshot l n).lane k) := by
  have queued (t : State) (g : a.keeps (t.lane k)) :
      a.keeps (((t.resetPractice l).headRules (otherLane l)).lane k) := by simp [g]
  simp only [State.applySnapshot]; (repeat' split) <;> simp [queued, h]

/-- A snapshot applied leaves the fault of its lane's pinsetter. -/
theorem fault_applySnapshot (s : State) (l : Fin 16) (n : Snapshot) :
    ((s.applySnapshot l n).lane l).sup.fault = (s.lane l).sup.fault := by
  have other : l ≠ otherLane l := (otherLane_ne l).symm
  have practice (t : State) : ((t.resetPractice l).lane l).sup.fault = (t.lane l).sup.fault := by
    simp [State.resetPractice, sup_modSup]
  simp only [State.applySnapshot]; (repeat' split) <;> simp [other, practice]

@[simp] theorem keeps_clearFault (h : a.keeps (s.lane k)) (l : Fin 16) (choice : Nat) :
    a.keeps ((s.clearFault l choice).lane k) := by
  unfold State.clearFault
  split
  · exact h
  next f fault =>
    have faulted {u : Supervisor} (there : u.fault = some f) (law : u.lawful) : u.state = .fault :=
      law.2.2.2.mpr (by simp [there])
    split
    · split
      · exact keeps_leaveFault (keeps_applySnapshot h l _) (faulted ((fault_applySnapshot ..).trans fault)) _ _
      · exact keeps_leaveFault h (faulted fault) _ _
    · exact keeps_leaveFault h (faulted fault) _ _

end Sys2Proof.Machine
end

section
/-! PROOFS. The laws of the lanes' records after every step: R156 for the meters, R16 and R1 for the lights and closing
reasons, R21 for the Supervisors. -/

namespace Sys2Proof.Machine

variable {a : Lane} {s : State} {k : Fin 16}

/-! ## Rosters and pair settings -/

@[simp] theorem keeps_headRulesAt (h : a.keeps (s.lane k)) (p : Fin 8) (sd : Option Side) :
    a.keeps ((s.headRulesAt p sd).lane k) := by
  cases sd <;> simp [State.headRulesAt, h]

@[simp] theorem keeps_rosterTaken (h : a.keeps (s.lane k)) (p : Fin 8) : a.keeps ((s.rosterTaken p).lane k) := by
  simp [State.rosterTaken, h]

@[simp] theorem keeps_addBowler (h : a.keeps (s.lane k)) (p : Fin 8) (i : Fin 12) (number : Nat) :
    a.keeps ((s.addBowler p i number).lane k) := by
  simp [State.addBowler, h]

@[simp] theorem keeps_removeBowler (h : a.keeps (s.lane k)) (p : Fin 8) (i : Fin 12) :
    a.keeps ((s.removeBowler p i).lane k) := by
  simp [State.removeBowler, h]

@[simp] theorem keeps_sendAway (h : a.keeps (s.lane k)) (p : Fin 8) (i : Fin 12) :
    a.keeps ((s.sendAway p i).lane k) := by
  simp [State.sendAway, h]

@[simp] theorem keeps_comeBack (h : a.keeps (s.lane k)) (p : Fin 8) (i : Fin 12) :
    a.keeps ((s.comeBack p i).lane k) := by
  simp only [State.comeBack]; split <;> simp [h]

@[simp] theorem keeps_setMode (h : a.keeps (s.lane k)) (p : Fin 8) (mode : PairMode) :
    a.keeps ((s.setMode p mode).lane k) := by
  simp [State.setMode, h]

@[simp] theorem keeps_limitSlot (h : a.keeps (s.lane k)) (p : Fin 8) (i : Fin 12) :
    a.keeps ((s.limitSlot p i).lane k) := by
  simp only [State.limitSlot]; (repeat' split) <;> simp [h]

@[simp] theorem keeps_writePairSettings (h : a.keeps (s.lane k)) (p : Fin 8) (games base percent cap : Option Nat) :
    a.keeps ((s.writePairSettings p games base percent cap).lane k) := by
  simp only [State.writePairSettings]
  split
  · exact keeps_foldl (fun _ i h => keeps_limitSlot h p i) _ (by simp [h])
  · simp [h]

/-! ## Sessions -/

theorem keeps_beginMeter (h : a.keeps (s.lane k)) (l : Fin 16) (kind : MeterKind) {mode credit : Nat}
    (g : creditOut mode credit = false) : a.keeps ((s.beginMeter l kind (meterModeOf mode) credit).lane k) := by
  have begun : a.keeps ((s.modLane l fun b =>
      { b with meter := some (Meter.fresh kind (meterModeOf mode) credit s.billing.front) }).lane k) :=
    keeps_modLane h ⟨fun _ m e => by cases e; exact lawful_fresh kind g _, id, id⟩
  simp only [State.beginMeter]
  split <;> simp [begun]

/-- OPEN LANE keeps the laws with an opening credit within its range. -/
theorem keeps_openLane (h : a.keeps (s.lane k)) (l : Fin 16) (kind : MeterKind) {mode credit : Nat}
    (g : creditOut mode credit = false) (cls : Nat) :
    a.keeps ((s.openLane l kind (meterModeOf mode) credit cls).lane k) := by
  have begun := keeps_beginMeter (keeps_updSession (l := l) (f := fun n => n.open cls) h fun _ => ⟨rfl, rfl⟩) l kind g
  have powered := keeps_modSup (l := l) (f := fun u => { u with servicePower := false }) begun id
  unfold State.openLane
  exact keeps_zeroBackGrace (keeps_headRules (keeps_liftLaneOpen (keeps_grantPower powered l) _) l) l

@[simp] theorem keeps_endSession (h : a.keeps (s.lane k)) (l : Fin 16) : a.keeps ((s.endSession l).lane k) :=
  keeps_modSup (keeps_modLane (keeps_updSession h fun _ => ⟨rfl, rfl⟩) ⟨fun _ _ e => (by cases e), id, id⟩) id

@[simp] theorem keeps_stopMachines (h : a.keeps (s.lane k)) (l : Fin 16) : a.keeps ((s.stopMachines l).lane k) := by
  simp [State.stopMachines, h]

@[simp] theorem keeps_vacate (h : a.keeps (s.lane k)) (p : Fin 8) (i : Fin 12) : a.keeps ((s.vacate p i).lane k) := by
  simp only [State.vacate]; split <;> simp [h]

@[simp] theorem keeps_closeOne (h : a.keeps (s.lane k)) (l : Fin 16) : a.keeps ((s.closeOne l).lane k) := by
  simp only [State.closeOne]; split <;> simp [h]

@[simp] theorem keeps_closeLane (h : a.keeps (s.lane k)) (l : Fin 16) : a.keeps ((s.closeLane l).lane k) := by
  have vacated (list : List (Fin 12)) (t : State) (g : a.keeps (t.lane k)) :
      a.keeps ((list.foldl (fun t i => t.vacate (pairOf l) i) t).lane k) :=
    keeps_foldl (fun _ i g => keeps_vacate g _ i) list g
  unfold State.closeLane
  split
  · exact keeps_stopMachines (by rw [lane_emptyQueue]; exact vacated _ _ (keeps_endSession h l)) l
  · simp only [State.closeBoth, lane_emptyQueue]
    exact vacated _ _ (keeps_closeOne (keeps_closeOne h _) _)

@[simp] theorem keeps_parkWoke (h : a.keeps (s.lane k)) (l : Fin 16) : a.keeps ((s.parkWoke l).lane k) := by
  simp only [State.parkWoke]; split <;> simp [h]

@[simp] theorem keeps_parkTaken (h : a.keeps (s.lane k)) (l : Fin 16) (mask : WakeMask) (cause : ParkCause) :
    a.keeps ((s.parkTaken l mask cause).lane k) := by
  unfold State.parkTaken
  split
  · exact keeps_updSession h id
  · exact keeps_park h l mask cause

@[simp] theorem keeps_writeLane (h : a.keeps (s.lane k)) (l : Fin 16) (cls foul mask lamps : Option Nat) :
    a.keeps ((s.writeLane l cls foul mask lamps).lane k) := by
  have written : a.keeps ((s.modLane l fun b =>
      { b with session := { b.session with settings := b.session.settings.write cls foul mask lamps } }).lane k) :=
    keeps_modLane h ⟨id, id, id⟩
  unfold State.writeLane
  dsimp only
  split
  · exact keeps_modSup written id
  · exact written

@[simp] theorem keeps_writeLanes (h : a.keeps (s.lane k)) (scope : Nat) (l : Fin 16)
    (cls foul mask lamps : Option Nat) : a.keeps ((s.writeLanes scope l cls foul mask lamps).lane k) := by
  have flags (t : State) : ((scopePairs scope l).foldl
      (fun s p => s.flagConsole p .laneStateChanged) t).lane k = t.lane k :=
    foldl_keeps (fun t : State => t.lane k) (by simp) _ t
  have written : a.keeps (((scopeLanes scope l).foldl (fun s l => s.writeLane l cls foul mask lamps) s).lane k) :=
    keeps_foldl (fun _ l h => keeps_writeLane h l _ _ _ _) _ h
  simp only [State.writeLanes, flags]
  split
  · exact keeps_foldl (fun _ l h => keeps_retest h l) _ written
  · exact written

@[simp] theorem keeps_reball (h : a.keeps (s.lane k)) (l : Fin 16) : a.keeps ((s.reball l).lane k) := by
  simp only [State.reball]; split <;> simp [h]

@[simp] theorem keeps_applyCorrection (h : a.keeps (s.lane k)) (n : Fin 64) :
    a.keeps ((s.applyCorrection n).state.lane k) := by
  have applied (c : Correction) (g : NamedGame) : a.keeps ((s.applyCorrected c g).lane k) := by
    simp only [State.applyCorrected]; (repeat' split) <;> simp [h]
  simp only [State.applyCorrection, State.decideCorrection]; (repeat' split) <;> simp [applied, h]

/-! ## Billing -/

@[simp] theorem keeps_setClock (h : a.keeps (s.lane k)) (hour minute second : Nat) :
    a.keeps ((s.setClock hour minute second).lane k) := by
  unfold State.setClock
  exact keeps_retestAll h

@[simp] theorem keeps_setLayout (h : a.keeps (s.lane k)) (dayStart bands length : Nat) :
    a.keeps ((s.setLayout dayStart bands length).lane k) := by
  unfold State.setLayout
  exact keeps_retestAll h

@[simp] theorem keeps_setPrices (h : a.keeps (s.lane k)) (cls band : Nat) (game unit : Option Nat) :
    a.keeps ((s.setPrices cls band game unit).lane k) := by
  unfold State.setPrices
  exact keeps_retestAll h

@[simp] theorem keeps_afterCredit (h : a.keeps (s.lane k)) (l : Fin 16) : a.keeps ((s.afterCredit l).lane k) := by
  unfold State.afterCredit
  split
  · exact keeps_retest h l
  · exact keeps_retest h l
  · exact h
  · split
    next paid => exact keeps_retest (keeps_paidRetry h paid) l
    · exact keeps_retest h l

/-- ADD CREDIT keeps the laws on a lane that is no tab. -/
theorem keeps_addCredit (h : a.keeps (s.lane k)) {l : Fin 16} (g : s.tabSession l = false) (amount : Nat) :
    a.keeps ((s.addCredit l amount).lane k) := by
  refine keeps_afterCredit (keeps_modLane h ⟨fun ok m e => ?_, id, id⟩) l
  obtain ⟨before, there, rfl⟩ := Option.map_eq_some_iff.mp e
  have prepaid : before.mode = .prepaid := by
    cases mode : before.mode with
    | prepaid => rfl
    | tab => simp [State.tabSession, there, mode] at g
  exact lawful_addCredit (ok before there) prepaid amount

/-! ## Resets, the load and a millisecond -/

theorem laws_initial (settings : LaneSettings) (out : LaneOut) (a : Lane) : a.keeps (.initial settings out) :=
  ⟨fun _ _ => nofun, fun _ => ⟨rfl, rfl⟩, fun _ => by simp [Lane.initial, Supervisor.initial, Supervisor.lawful]⟩

theorem keeps_afterReset (rate : Bool) (rackFull overload : BitVec 8) (c : Chain) (m : ConfigMemory)
    (pending : List Instr) : a.keeps ((State.afterReset rate rackFull overload c m pending).lane k) := by
  simpa [State.afterReset, State.lane] using laws_initial _ _ a

theorem keeps_restarted (s : State) : a.keeps (s.restarted.lane k) := by
  simpa [State.restarted, State.lane, Lane.restarted] using laws_initial _ _ a

@[simp] theorem keeps_settingsLoadEnd (h : a.keeps (s.lane k)) (answers : Bool) :
    a.keeps ((settingsLoadEnd answers s).lane k) := by
  have taken (c : SettingsCopy) : a.keeps ((s.takeSettings c).lane k) := by
    refine h.trans ?_
    simpa [State.takeSettings, State.lane, Lane.withSettings] using ⟨id, id, id⟩
  unfold settingsLoadEnd
  split
  · split
    · exact taken _
    · rw [lane_flagDk]; exact taken _
  · exact h

theorem lawful_tickSupervisor {u : Supervisor} (law : u.lawful) : u.tick.lawful := by
  simpa [Supervisor.lawful, Supervisor.tick] using law

theorem keeps_tickLane (second : Bool) (a : Lane) : a.keeps (a.tick second) := by
  refine ⟨fun ok => ?_, id, lawful_tickSupervisor⟩
  unfold Lane.tick
  dsimp only
  split
  · intro m e
    obtain ⟨before, there, rfl⟩ := Option.map_eq_some_iff.mp e
    exact lawful_congr (ok before there) rfl rfl rfl rfl (.inl rfl)
  · exact ok

theorem keeps_tick (s : State) : (s.lane k).keeps (s.tick.lane k) := by
  unfold State.tick
  split
  · exact keeps_refl _
  · refine Lane.keeps.trans (b := { s.lane k with out := s.outputs k }) (keeps_refl _) ?_
    simpa [State.advance, State.driveOutputs, State.lane] using keeps_tickLane s.clock.endsSecond _

/-! ## Requests and frames -/

theorem keeps_of_lanes {t : State} (h : t.lanes = s.lanes) : (s.lane k).keeps (t.lane k) := by
  rw [State.lane, State.lane, h]
  exact keeps_refl _

/-- A request keeps the laws where taking it does, its checks passed. -/
theorem keeps_after (checks : List (Bool × ReplyOutcome)) {taken : Served}
    (h : (∀ c ∈ checks, c.1 = false) → (s.lane k).keeps (taken.state.lane k)) :
    (s.lane k).keeps ((Served.after s checks taken).state.lane k) := by
  rcases after_cases s checks taken with ⟨o, -, refused⟩ | ⟨passed, accepted⟩
  · rw [refused]; exact keeps_refl _
  · rw [accepted]; exact h (firstRefusal_eq_none.mp passed)

/-- Every request keeps the laws of every lane: where one needs its pinsetter in a certain state, a credit in range or a
prepaid session, its checks give that. -/
theorem keeps_serve (s : State) (k : Fin 16) (i : Instr) : (s.lane k).keeps ((serve i s).state.lane k) := by
  cases i
  case openLane p lane kind mode credit cls =>
    refine keeps_after _ fun passed => ?_
    have inRange := passed (!inLanes lane || 1 < kind || 1 < mode || 3 < cls || creditOut mode credit, .range) (by simp)
    have credited := keeps_openLane (keeps_refl (s.lane k)) (laneIx lane) (meterKindOf kind)
      (Bool.or_eq_false_iff.mp inRange).2 cls
    simpa only [state_ok] using credited
  case unlock p lane =>
    refine keeps_after _ fun passed => keeps_unlock (keeps_refl _) ?_
    simpa using passed ((s.lane (laneIx lane)).sup.state != .lockout, .state) (by simp)
  case manualCycle p lane kind =>
    refine keeps_after _ fun passed => ?_
    have ready : (s.lane (laneIx lane)).sup.state = .ready := by
      simpa using passed ((s.lane (laneIx lane)).sup.state != .ready, .state) (by simp)
    have started := keeps_startCycle (keeps_refl (s.lane k)) (l := laneIx lane) (by simp [ready])
      (newCycle (cycleKindOf kind) .manual s.timers.cycle none)
    simpa only [state_ok] using started
  case pinsSet p lane =>
    refine keeps_after _ fun passed => keeps_pinsStand (keeps_refl _) ?_
    simpa using passed ((s.lane (laneIx lane)).sup.state != .handSet, .state) (by simp)
  case addCredit p lane amount =>
    refine keeps_after _ fun passed => keeps_addCredit (keeps_refl _) ?_ _
    exact passed (s.tabSession (laneIx lane), .state) (by simp)
  case parkLane => exact keeps_after _ fun _ => by split <;> simp
  case sectionRestart => exact keeps_after _ fun _ => keeps_restarted s
  case closeLane | resumeLane | setLaneSettings | lockout | clearFault | clearOverdue | liftRestart | setReturnSettings
      | addBowler | removeBowler | away | back | setPairMode | setPairSettings | reball | applyCorrection | supplyBowler
      | unknownBowler | updateBowler | dropBowler | setRangeEntry | setClock | setTariffLayout | setPrices | takeSlip
      | writeSlip | postSlip | fetchSlip
      | setOutcome | returnSlip | signal =>
    exact keeps_after _ fun _ => by simp
  case setPinsetterTimers | setBillingSettings | storeSettings | setMask | clearAttention | readLaneStatus
      | readLaneSummary | readReturn | readRoster | readFrameSheet | readBowler | readFetchQueue | readTariff
      | readMeter | readSlipPool | readPort =>
    exact keeps_after _ fun _ => keeps_of_lanes rfl
  all_goals exact keeps_refl _

theorem keeps_serveAt (s : State) (k : Fin 16) (p : Port) (i : Instr) : (s.lane k).keeps ((s.serveAt p i).lane k) := by
  simpa [State.serveAt] using keeps_serve s k i

@[simp] theorem keeps_receive (h : a.keeps (s.lane k)) (p : Port) (i : Instr) : a.keeps ((s.receive p i).lane k) := by
  refine h.trans ?_
  unfold State.receive State.takeFrame
  (repeat' split) <;> simp [keeps_serveAt]

@[simp] theorem keeps_receiveChar (h : a.keeps (s.lane k)) (p : Port) (c : LineChar) :
    a.keeps ((s.receiveChar p c).lane k) := by
  unfold State.receiveChar State.receiveByte
  (repeat' split) <;> simp [h]

@[simp] theorem keeps_frameReceived (h : a.keeps (s.lane k)) (p : Port) (chars : List LineChar) :
    a.keeps ((frameReceived p chars s).lane k) := by
  unfold frameReceived
  split
  · exact h
  · exact keeps_foldl (fun _ c h => keeps_receiveChar h p c) _ h

@[simp] theorem keeps_replyEnd (h : a.keeps (s.lane k)) (p : Port) : a.keeps ((replyEnd p s).lane k) := by
  refine h.trans ?_
  unfold replyEnd
  split
  · split
    · simp
    · simpa using keeps_serveAt ((s.endReply p).modPort p _) k p _
  · exact keeps_refl _

/-! ## Steps -/

theorem keeps_unlessHeld {f : State → State} (h : (s.lane k).keeps ((f s).lane k)) :
    (s.lane k).keeps ((s.unlessHeld f).lane k) := by
  unfold State.unlessHeld
  split
  · exact keeps_refl _
  · exact h

theorem keeps_exec {t : State} (i : Instr) (taken : exec i s = .next t) (k : Fin 16) : (s.lane k).keeps (t.lane k) := by
  cases frame : framePort i with
  | some p =>
    rw [exec_frame frame] at taken
    cases taken
    exact keeps_receive (keeps_refl _) p i
  | none =>
    cases i
    case powerReset => cases taken; exact keeps_afterReset ..
    case resetAssertedOrPowerLoss => cases taken; exact keeps_refl _
    case deck l => cases taken; exact keeps_unlessHeld (keeps_takeDeck (keeps_refl _) l false)
    case liftArrive p => cases taken; exact keeps_unlessHeld (keeps_arrive (keeps_refl _) p)
    case frameReceived | replyEnd | travelTimeout | frameTruncated | portBreak | settingsLoadEnd
        | storeEnd | release | foul | psRead | psDone | psJam | rackFullOn | rackFullOff | liftOverload
        | liftOverloadLow | cycleTimeout | warmUpEnd | waitingFoulExpiry | hornEnd | recordOverdue | liftIdleExpiry
        | bandEdge | frontGraceEnd | unitEnd | backGraceExpiry | lineReturnsToMark =>
      cases taken; exact keeps_unlessHeld (by simp)
    all_goals exact nomatch frame

/-- Every step keeps the laws of every lane's record. -/
theorem keeps_step {t : State} (taken : step s = .next t) (k : Fin 16) : (s.lane k).keeps (t.lane k) := by
  unfold step at taken
  split at taken
  next => cases taken; exact keeps_tick s
  next c rest _ => exact keeps_exec (s := { s with pending := rest }) c taken k

/-- Settles O59: each law is one of every lane's record, and every step keeps it. -/
theorem laneRecordsStayLawful : Obligations.LaneRecordsStayLawful :=
  ⟨fun _ _ law taken l => (keeps_step taken l).1 (law l), fun _ _ taken =>
    ⟨fun law l => (keeps_step taken l).2.1 (law l), fun law l => (keeps_step taken l).2.2 (law l)⟩⟩

end Sys2Proof.Machine
end

section
/-! SUPPORT. The slips on their lists (R170 to R172, R179 to R181): a slip taken off the head of its list, a slip put at
the tail of one, and what the pool's operations make of a lawful pool by such moves. -/

namespace Sys2Proof.Machine

/-- Every slip is on the list of its state and on no other, and no list holds a slip twice (R170 to R172): the law of the
pool apart from the backlog's. -/
def SlipPool.placed (q : SlipPool) : Prop :=
  (∀ n : Fin 64, q.slips[n].state = .free ↔ n ∈ q.freeList n) ∧
    (∀ n : Fin 64, n ∈ q.generalFree → isReserve n = false) ∧ (∀ n : Fin 64, n ∈ q.reserveFree → isReserve n = true) ∧
    (∀ (n : Fin 64) (p : Port), q.slips[n].state = .posted p ↔ n ∈ q.posts[p.index]) ∧
    q.generalFree.Nodup ∧ q.reserveFree.Nodup ∧ ∀ k : Fin 10, q.posts[k].Nodup

theorem lawful_iff_placed (q : SlipPool) : q.lawful ↔ q.placed ∧ (q.backlog = [] ∨ q.reserveFree = []) := by
  simp only [SlipPool.lawful, SlipPool.placed, and_assoc]

/-- The law speaks of the states of the slips and of the lists, not of what is written on the slips. -/
theorem placed_congr {q r : SlipPool} (law : q.placed) (states : ∀ n : Fin 64, r.slips[n].state = q.slips[n].state)
    (general : r.generalFree = q.generalFree) (reserve : r.reserveFree = q.reserveFree) (posts : r.posts = q.posts) :
    r.placed := by
  unfold SlipPool.placed SlipPool.freeList at *
  simpa only [states, general, reserve, posts] using law

variable {q : SlipPool} {n : Fin 64} {rest : List (Fin 64)} {p : Port}

theorem getElem_setPost (posts : Vector (List (Fin 64)) 10) (p o : Port) (list : List (Fin 64)) :
    (posts.set p.index list)[o.index] = if o = p then list else posts[o.index] := by
  by_cases same : o = p
  · simp [same]
  · have other : (p.index : Nat) ≠ o.index := fun e => same (portIndex_inj (Fin.ext e)).symm
    simp [same, other]

/-- The index of every post list is that of a port. -/
theorem exists_port (k : Fin 10) : ∃ p : Port, p.index = k := by
  have all : ∀ k : Fin 10, ∃ p ∈ allPorts, p.index = k := by decide
  obtain ⟨p, -, e⟩ := all k
  exact ⟨p, e⟩

/-! ## A slip off the head of its list -/

/-- The head of the general free list, held. -/
theorem placed_takeGeneral (law : q.placed) (head : q.generalFree = n :: rest) {f : Slip → Slip}
    (held : (f q.slips[n]).state = .held p) : ({ q with generalFree := rest }.modSlip n f).placed := by
  obtain ⟨free, general, reserve, posted, nodupG, nodupR, nodupP⟩ := law
  have range := general n (by simp [head])
  have notFree := (free n).mpr (by simp [SlipPool.freeList, range, head])
  rw [head, List.nodup_cons] at nodupG
  refine ⟨fun k => ?_, fun k hk => general k (by simp [head, show k ∈ rest from hk]), reserve, fun k o => ?_, nodupG.2,
    nodupR, nodupP⟩
  · rw [slips_modSlip]
    by_cases same : k = n
    · subst same; rw [if_pos rfl, held]; simp [SlipPool.freeList, range, SlipPool.modSlip, nodupG.1]
    · rw [if_neg same]
      refine (free k).trans ?_
      cases e : isReserve k <;> simp [SlipPool.freeList, e, SlipPool.modSlip, head, same]
  · rw [slips_modSlip]
    by_cases same : k = n
    · subst same
      have := (posted k o).not.mp (by rw [notFree]; simp)
      rw [if_pos rfl, held]
      simpa [SlipPool.modSlip] using this
    · rw [if_neg same]; exact posted k o

/-- The head of the reserve free list, held. -/
theorem placed_takeReserve (law : q.placed) (head : q.reserveFree = n :: rest) {f : Slip → Slip}
    (held : (f q.slips[n]).state = .held p) : ({ q with reserveFree := rest }.modSlip n f).placed := by
  obtain ⟨free, general, reserve, posted, nodupG, nodupR, nodupP⟩ := law
  have range := reserve n (by simp [head])
  have notFree := (free n).mpr (by simp [SlipPool.freeList, range, head])
  rw [head, List.nodup_cons] at nodupR
  refine ⟨fun k => ?_, general, fun k hk => reserve k (by simp [head, show k ∈ rest from hk]), fun k o => ?_, nodupG,
    nodupR.2, nodupP⟩
  · rw [slips_modSlip]
    by_cases same : k = n
    · subst same; rw [if_pos rfl, held]; simp [SlipPool.freeList, range, SlipPool.modSlip, nodupR.1]
    · rw [if_neg same]
      refine (free k).trans ?_
      cases e : isReserve k <;> simp [SlipPool.freeList, e, SlipPool.modSlip, head, same]
  · rw [slips_modSlip]
    by_cases same : k = n
    · subst same
      have := (posted k o).not.mp (by rw [notFree]; simp)
      rw [if_pos rfl, held]
      simpa [SlipPool.modSlip] using this
    · rw [if_neg same]; exact posted k o

/-- The head of a post list, held. -/
theorem placed_takePost (law : q.placed) {o : Port} (head : q.posts[o.index] = n :: rest) {f : Slip → Slip}
    (held : (f q.slips[n]).state = .held p) :
    ({ q with posts := q.posts.set o.index rest }.modSlip n f).placed := by
  obtain ⟨free, general, reserve, posted, nodupG, nodupR, nodupP⟩ := law
  have wasPosted := (posted n o).mpr (by simp [head])
  have nodup := nodupP o.index
  rw [head, List.nodup_cons] at nodup
  refine ⟨fun k => ?_, general, reserve, fun k d => ?_, nodupG, nodupR, fun j => ?_⟩
  · rw [slips_modSlip]
    by_cases same : k = n
    · subst same
      have := (free k).not.mp (by rw [wasPosted]; simp)
      rw [if_pos rfl, held]
      simpa [SlipPool.freeList, SlipPool.modSlip] using this
    · rw [if_neg same]; exact free k
  · rw [slips_modSlip]
    simp only [SlipPool.modSlip, getElem_setPost]
    by_cases same : k = n
    · subst same
      rw [if_pos rfl, held]
      by_cases here : d = o
      · simp [here, nodup.1]
      · have := (posted k d).not.mp (by rw [wasPosted]; simpa using Ne.symm here)
        simpa [here] using this
    · rw [if_neg same]
      by_cases here : d = o
      · subst here; simpa [head, same] using posted k d
      · simpa [here] using posted k d
  · obtain ⟨d, rfl⟩ := exists_port j
    simp only [SlipPool.modSlip, getElem_setPost]
    split
    · exact nodup.2
    · exact nodupP d.index

/-! ## A held slip put at the tail of a list -/

/-- A held slip becomes free at the tail of the free list of its range (R171, R179). -/
theorem placed_free (law : q.placed) (held : q.slips[n].state = .held p) : (q.free n).placed := by
  obtain ⟨free, general, reserve, posted, nodupG, nodupR, nodupP⟩ := law
  have notFree := (free n).not.mp (by rw [held]; simp)
  unfold SlipPool.free
  dsimp only
  split
  next range =>
    refine ⟨fun k => ?_, general, fun k hk => ?_, fun k o => ?_, nodupG, ?_, nodupP⟩
    · rw [slips_modSlip]
      by_cases same : k = n
      · subst same; simp [Slip.blank, SlipPool.freeList, range]
      · rw [if_neg same]
        refine (free k).trans ?_
        cases e : isReserve k <;> simp [SlipPool.freeList, e, SlipPool.modSlip, same]
    · rcases List.mem_append.mp hk with old | new
      · exact reserve k old
      · rw [List.mem_singleton.mp new]; exact range
    · rw [slips_modSlip]
      by_cases same : k = n
      · subst same
        have := (posted k o).not.mp (by rw [held]; simp)
        simpa [Slip.blank, SlipPool.modSlip] using this
      · rw [if_neg same]; exact posted k o
    · refine List.nodup_append.mpr ⟨nodupR, List.nodup_singleton n, fun x hx y hy e => notFree ?_⟩
      rw [List.mem_singleton.mp hy] at e
      subst e
      simpa [SlipPool.freeList, range, SlipPool.modSlip] using hx
  next range =>
    rw [Bool.not_eq_true] at range
    refine ⟨fun k => ?_, fun k hk => ?_, reserve, fun k o => ?_, ?_, nodupR, nodupP⟩
    · rw [slips_modSlip]
      by_cases same : k = n
      · subst same; simp [Slip.blank, SlipPool.freeList, range]
      · rw [if_neg same]
        refine (free k).trans ?_
        cases e : isReserve k <;> simp [SlipPool.freeList, e, SlipPool.modSlip, same]
    · rcases List.mem_append.mp hk with old | new
      · exact general k old
      · rw [List.mem_singleton.mp new]; exact range
    · rw [slips_modSlip]
      by_cases same : k = n
      · subst same
        have := (posted k o).not.mp (by rw [held]; simp)
        simpa [Slip.blank, SlipPool.modSlip] using this
      · rw [if_neg same]; exact posted k o
    · refine List.nodup_append.mpr ⟨nodupG, List.nodup_singleton n, fun x hx y hy e => notFree ?_⟩
      rw [List.mem_singleton.mp hy] at e
      subst e
      simpa [SlipPool.freeList, range, SlipPool.modSlip] using hx

/-- A held slip is posted to the tail of a post list (R172, R176). -/
theorem placed_post (law : q.placed) (held : q.slips[n].state = .held p) {d : Port} {f : Slip → Slip}
    (posts : (f q.slips[n]).state = .posted d) : ((q.modSlip n f).post n d).placed := by
  obtain ⟨free, general, reserve, posted, nodupG, nodupR, nodupP⟩ := law
  have notPosted := (posted n d).not.mp (by rw [held]; simp)
  refine ⟨fun k => ?_, general, reserve, fun k o => ?_, nodupG, nodupR, fun j => ?_⟩
  · have slips : ((q.modSlip n f).post n d).slips = (q.modSlip n f).slips := rfl
    simp only [slips, slips_modSlip]
    by_cases same : k = n
    · subst same
      have := (free k).not.mp (by rw [held]; simp)
      rw [if_pos rfl, posts]
      simpa [SlipPool.freeList, SlipPool.modSlip, SlipPool.post] using this
    · rw [if_neg same]; exact free k
  · have slips : ((q.modSlip n f).post n d).slips = (q.modSlip n f).slips := rfl
    simp only [slips, slips_modSlip]
    simp only [SlipPool.post, SlipPool.modSlip, getElem_setPost]
    by_cases same : k = n
    · subst same
      rw [if_pos rfl, posts]
      by_cases here : o = d
      · simp [here]
      · have := (posted k o).not.mp (by rw [held]; simp)
        simpa [here, Ne.symm here] using this
    · rw [if_neg same]
      by_cases here : o = d
      · subst here; simpa [same] using posted k o
      · simpa [here] using posted k o
  · obtain ⟨o, rfl⟩ := exists_port j
    simp only [SlipPool.post, SlipPool.modSlip, getElem_setPost]
    split
    · refine List.nodup_append.mpr ⟨nodupP d.index, List.nodup_singleton n, fun x hx y hy e => notPosted ?_⟩
      rw [List.mem_singleton.mp hy] at e
      rwa [← e]
    · exact nodupP o.index

/-! ## What the pool's operations make of a lawful pool -/

/-- The head of the reserve list carries a call out (R180). -/
theorem placed_postCall (law : q.placed) (head : q.reserveFree = n :: rest) (c : Call) :
    ({ q with reserveFree := rest }.postCall n c).placed := by
  have taken := placed_takeReserve law head (f := fun x => { x with state := .held .dk }) (p := .dk) rfl
  have moved := placed_post (n := n) taken (p := .dk) (d := .mc) (f := fun _ => callSlip c) (by simp) rfl
  simpa [SlipPool.postCall, SlipPool.modSlip, SlipPool.post] using moved

/-- A slip returned: the free list takes it, or the oldest call (R179, R181). -/
theorem lawful_returned (law : q.lawful) (held : q.slips[n].state = .held p) : (q.returned n).lawful := by
  obtain ⟨placed, backlog⟩ := (lawful_iff_placed q).mp law
  have freed := placed_free placed held
  unfold SlipPool.returned
  split
  next range =>
    unfold SlipPool.drain
    split
    next k rest c calls list waits =>
      have empty : q.reserveFree = [] := backlog.resolve_left (by
        intro none; rw [show (q.free n).backlog = q.backlog by simp [SlipPool.free, range, SlipPool.modSlip], none] at waits
        cases waits)
      have only : (q.free n).reserveFree = [n] := by simp [SlipPool.free, range, SlipPool.modSlip, empty]
      have rest_nil : rest = [] := by rw [only] at list; cases list; rfl
      refine (lawful_iff_placed _).mpr ⟨placed_congr (placed_postCall freed list c) (fun _ => rfl) rfl rfl rfl, .inr ?_⟩
      exact rest_nil
    next none =>
      refine (lawful_iff_placed _).mpr ⟨freed, ?_⟩
      cases list : (q.free n).reserveFree with
      | nil => exact .inr rfl
      | cons k rest =>
        cases waits : (q.free n).backlog with
        | nil => exact .inl rfl
        | cons c calls => exact absurd waits (none k rest c calls list)
  next range =>
    refine (lawful_iff_placed _).mpr ⟨freed, ?_⟩
    simpa [SlipPool.free, range, SlipPool.modSlip] using backlog

end Sys2Proof.Machine
end

section
/-! SUPPORT. The lists of the part under each operation (R170 to R172, R181, R134, R101): `s.listsTo t` says that the
pool, the fetch queue and the retained games of `t` obey each law and limit that those of `s` obey, and a lemma
`lists_<operation>` that the operation keeps them. -/

namespace Sys2Proof.Machine

/-- What pool `q` obeys of the pool's law and the backlog's limit, pool `r` obeys too. -/
def SlipPool.keeps (q r : SlipPool) : Prop :=
  (q.lawful → r.lawful) ∧ (q.backlog.length ≤ 32 → r.backlog.length ≤ 32)

/-- The fetch queue keeps its limit (R134). -/
def Directory.keeps (d e : Directory) : Prop := d.fetch.length ≤ 16 → e.fetch.length ≤ 16

/-- Every slot keeps the limit of its retained games (R101). -/
def TurnUnit.keeps (t u : TurnUnit) : Prop :=
  ∀ i : Fin 12, t.slots[i].retained.length ≤ 3 → u.slots[i].retained.length ≤ 3

@[simp] theorem SlipPool.keeps_refl (q : SlipPool) : q.keeps q := ⟨id, id⟩
@[simp] theorem Directory.keeps_refl (d : Directory) : d.keeps d := id
@[simp] theorem TurnUnit.keeps_refl (t : TurnUnit) : t.keeps t := fun _ => id

/-- The lists of `t` obey what those of `s` obey. -/
abbrev State.listsTo (s t : State) : Prop :=
  s.pool.keeps t.pool ∧ s.directory.keeps t.directory ∧ ∀ w, (s.turn w).keeps (t.turn w)

theorem State.listsTo.trans {s t u : State} (h : s.listsTo t) (g : t.listsTo u) : s.listsTo u :=
  ⟨⟨g.1.1 ∘ h.1.1, g.1.2 ∘ h.1.2⟩, g.2.1 ∘ h.2.1, fun w i => g.2.2 w i ∘ h.2.2 w i⟩

theorem listsTo_refl (s : State) : s.listsTo s := ⟨SlipPool.keeps_refl _, Directory.keeps_refl _, fun _ =>
  TurnUnit.keeps_refl _⟩

/-- A state with the same pool, Directory and Turn Units. -/
theorem listsTo_of_same {s t : State} (pool : t.pool = s.pool) (directory : t.directory = s.directory)
    (turn : ∀ w, t.turn w = s.turn w) : s.listsTo t := by
  simp [State.listsTo, pool, directory, turn]

variable {s t : State}

/-- What one step of a fold keeps, the fold keeps. -/
theorem lists_foldl {α : Type} {f : State → α → State} (step : ∀ t x, s.listsTo t → s.listsTo (f t x)) (list : List α)
    (h : s.listsTo t) : s.listsTo (list.foldl f t) := by
  induction list generalizing t with
  | nil => exact h
  | cons x list ih => exact ih (step t x h)

/-! ## The pool -/

theorem lists_modPool (h : s.listsTo t) {f : SlipPool → SlipPool} (g : t.pool.keeps (f t.pool)) :
    s.listsTo (t.modPool f) :=
  h.trans ⟨g, Directory.keeps_refl _, fun _ => TurnUnit.keeps_refl _⟩

/-- A rewriting of a slip that leaves its state. -/
theorem keeps_modSlip (q : SlipPool) (n : Fin 64) {f : Slip → Slip} (g : (f q.slips[n]).state = q.slips[n].state) :
    q.keeps (q.modSlip n f) := by
  refine ⟨fun law => ?_, id⟩
  obtain ⟨placed, backlog⟩ := (lawful_iff_placed q).mp law
  refine (lawful_iff_placed _).mpr ⟨placed_congr placed (fun k => ?_) rfl rfl rfl, backlog⟩
  rw [slips_modSlip]
  split
  next same => rw [same, g]
  next => rfl

@[simp] theorem lists_raiseCall (h : s.listsTo t) (c : Call) : s.listsTo (t.raiseCall c) := by
  unfold State.raiseCall
  split
  · exact h
  · split
    next n rest head =>
      refine lists_modPool h ⟨fun law => ?_, id⟩
      obtain ⟨placed, backlog⟩ := (lawful_iff_placed _).mp law
      refine (lawful_iff_placed _).mpr ⟨placed_postCall placed head c, .inl (backlog.resolve_right ?_)⟩
      simp [head]
    next empty =>
      unfold State.backlogCall
      split
      · refine lists_modPool h ⟨fun law => ?_, by simp⟩
        exact (lawful_iff_placed _).mpr
          ⟨placed_congr ((lawful_iff_placed _).mp law).1 (fun _ => rfl) rfl rfl rfl, .inr empty⟩
      · split
        next room =>
          refine lists_modPool h ⟨fun law => ?_, fun _ => by simpa using room⟩
          exact (lawful_iff_placed _).mpr
            ⟨placed_congr ((lawful_iff_placed _).mp law).1 (fun _ => rfl) rfl rfl rfl, .inr empty⟩
        next => simpa [State.listsTo] using h

/-! ## The Directory and the Turn Units -/

theorem lists_modDirectory (h : s.listsTo t) {f : Directory → Directory} (g : t.directory.keeps (f t.directory)) :
    s.listsTo (t.modDirectory f) :=
  h.trans ⟨SlipPool.keeps_refl _, g, fun _ => TurnUnit.keeps_refl _⟩

theorem lists_updTurn (h : s.listsTo t) {p : Fin 8} {f : TurnUnit → TurnUnit} (g : (t.turn p).keeps (f (t.turn p))) :
    s.listsTo (t.updTurn p f) := by
  refine h.trans ⟨by simp, by simp, fun w => ?_⟩
  rw [turn_updTurn]
  split
  next same => rw [same]; exact g
  next => exact TurnUnit.keeps_refl _

/-- A slot rewritten within the limit. -/
@[simp] theorem lists_updSlot (h : s.listsTo t) (p : Fin 8) (i : Fin 12) {f : Slot → Slot}
    (g : ∀ x : Slot, x.retained.length ≤ 3 → (f x).retained.length ≤ 3) : s.listsTo (t.updSlot p i f) := by
  refine lists_updTurn h fun k few => ?_
  rw [slots_modSlot]
  split
  · exact g _ few
  · exact few

theorem keeps_setQueue (t : TurnUnit) (sd : Side) (q : List (Fin 12)) : t.keeps (t.setQueue sd q) := by
  intro i few
  rwa [slots_setQueue]

theorem keeps_setPaid (t : TurnUnit) (sd : Side) (b : Bool) : t.keeps (t.setPaid sd b) := by
  intro i few
  rwa [slots_setPaid]

theorem keeps_moveTurn (t : TurnUnit) (i : Fin 12) (dest : Option Side) (st : SlotState) :
    t.keeps (t.moveTurn i dest st) := by
  intro k few
  unfold TurnUnit.moveTurn
  dsimp only
  rw [slots_modSlot]
  split <;> split <;> simpa using few

theorem keeps_rehome (t u : TurnUnit) (h : t.keeps u) (i : Fin 12) : t.keeps (u.rehome i) := by
  unfold TurnUnit.rehome
  split
  · exact h
  · dsimp only
    split
    · exact h
    · exact fun k => keeps_moveTurn u i _ _ k ∘ h k

@[simp] theorem lists_joinFetch (h : s.listsTo t) (g : t.directory.fetch.length < 16) (number : Nat) :
    s.listsTo (t.joinFetch number) :=
  lists_modDirectory h fun _ => by simpa using g

@[simp] theorem lists_fillFetch (h : s.listsTo t) (fuel : Nat) : s.listsTo (t.fillFetch fuel) := by
  induction fuel generalizing t with
  | zero => exact h
  | succ fuel ih =>
    unfold State.fillFetch
    split
    next room =>
      split
      · exact ih (lists_updSlot (lists_joinFetch h room _) _ _ fun _ few => few)
      · exact h
    · exact h

@[simp] theorem lists_leaveFetch (h : s.listsTo t) (number : Nat) : s.listsTo (t.leaveFetch number) := by
  unfold State.leaveFetch
  split
  · exact lists_fillFetch (lists_modDirectory h fun few => (List.length_filter_le _ _).trans few) 16
  · exact h

@[simp] theorem lists_missFetch (h : s.listsTo t) (p : Fin 8) (i : Fin 12) (number : Nat) :
    s.listsTo (t.missFetch p i number) := by
  unfold State.missFetch
  split
  next room => exact lists_updSlot (lists_joinFetch h room _) _ _ fun _ few => few
  · exact lists_updSlot h _ _ fun _ few => few

@[simp] theorem lists_lookup (h : s.listsTo t) (p : Fin 8) (i : Fin 12) (number : Nat) :
    s.listsTo (t.lookup p i number) := by
  unfold State.lookup
  split
  · exact lists_updSlot (lists_modDirectory h id) _ _ fun _ few => few
  · split
    · exact lists_updSlot h _ _ fun _ few => few
    · exact lists_missFetch h _ _ _

@[simp] theorem lists_renew (h : s.listsTo t) (p : Fin 8) (i : Fin 12) : s.listsTo (t.renew p i) := by
  unfold State.renew
  (repeat' split)
  · exact h
  · exact lists_missFetch h _ _ _
  · exact h

@[simp] theorem lists_settleHandicap (h : s.listsTo t) (p : Fin 8) (i : Fin 12) :
    s.listsTo (t.settleHandicap p i) := by
  unfold State.settleHandicap
  split
  · exact lists_updSlot h _ _ fun _ few => few
  · exact h

@[simp] theorem lists_releaseNumber (h : s.listsTo t) (p : Fin 8) (i : Fin 12) : s.listsTo (t.releaseNumber p i) := by
  unfold State.releaseNumber
  split
  · split
    · exact lists_modDirectory h id
    · exact h
  · exact lists_leaveFetch h _
  · exact h

/-! ## The lift and its records -/

@[simp] theorem lists_episodeRule (h : s.listsTo t) (p : Fin 8) (sd : Side) : s.listsTo (t.episodeRule p sd) := by
  simp only [State.episodeRule]; (repeat' split) <;> simp [State.listsTo, h]

@[simp] theorem lists_enterStall (h : s.listsTo t) (p : Fin 8) : s.listsTo (t.enterStall p) := by
  simp [State.listsTo, State.enterStall, h]

@[simp] theorem lists_startLift (h : s.listsTo t) (p : Fin 8) : s.listsTo (t.startLift p) := by
  simp only [State.startLift]; (repeat' split) <;> simp [State.listsTo, h]

@[simp] theorem lists_liftLaneOpen (h : s.listsTo t) (p : Fin 8) : s.listsTo (t.liftLaneOpen p) := by
  simp [State.listsTo, State.liftLaneOpen, h]

@[simp] theorem lists_createTransit (h : s.listsTo t) (p : Fin 8) (sd : Side) (unpaid : Bool) :
    s.listsTo (t.createTransit p sd unpaid) := by
  have dropped : s.listsTo (t.writeOffOldest p) := by
    simp only [State.writeOffOldest]; (repeat' split) <;> simp [State.listsTo, h]
  simp only [State.createTransit]; split <;> simp [State.listsTo, dropped, h]

@[simp] theorem lists_arrive (h : s.listsTo t) (p : Fin 8) : s.listsTo (t.arrive p) := by
  simp only [State.arrive]; (repeat' split) <;> simp [State.listsTo, h]

@[simp] theorem lists_clearOverdue (h : s.listsTo t) (p : Fin 8) (scope : Side → Bool) :
    s.listsTo (t.clearOverdue p scope) := by
  simp only [State.clearOverdue]; (repeat' split) <;> simp [State.listsTo, h]

@[simp] theorem lists_markOverdue (h : s.listsTo t) (p : Fin 8) (f : Transit → Transit) :
    s.listsTo (t.markOverdue p f) := by
  simp [State.listsTo, State.markOverdue, h]

@[simp] theorem lists_liftOverload (h : s.listsTo t) (p : Fin 8) : s.listsTo (liftOverload p t) := by
  simp only [liftOverload]; split <;> simp [State.listsTo, h]

@[simp] theorem lists_recordOverdue (h : s.listsTo t) (p : Fin 8) (seqs : List (BitVec 16)) :
    s.listsTo (recordOverdue p seqs t) := by
  simp only [recordOverdue]; split <;> simp [State.listsTo, h]

@[simp] theorem lists_writeReturnSettings (h : s.listsTo t) (timeout idle : Option Nat) :
    s.listsTo (t.writeReturnSettings timeout idle) := by
  have written : s.listsTo ({ t with
      retSettings := ⟨timeout.getD t.retSettings.timeout, idle.getD t.retSettings.idle⟩ } : State) := h
  simp only [State.writeReturnSettings]
  split
  · exact lists_foldl (fun _ p h => lists_markOverdue h p _) _ written
  · exact written

/-! ## Pins and cycles -/

@[simp] theorem lists_enterHandSet (h : s.listsTo t) (l : Fin 16) (target : PinSet) (after : Option CyclePhase) :
    s.listsTo (t.enterHandSet l target after) := by
  simp [State.listsTo, State.enterHandSet, h]

@[simp] theorem lists_restoreReady (h : s.listsTo t) (l : Fin 16) (target : PinSet) (after : Option CyclePhase) :
    s.listsTo (t.restoreReady l target after) := by
  simp only [State.restoreReady]; split <;> simp [State.listsTo, h]

@[simp] theorem lists_restoreDemand (h : s.listsTo t) (l : Fin 16) (target : PinSet) :
    s.listsTo (t.restoreDemand l target) := by
  simp only [State.restoreDemand]; (repeat' split) <;> simp [State.listsTo, h]

@[simp] theorem lists_landBall (h : s.listsTo t) (l : Fin 16) (d : Delivery) : s.listsTo (t.landBall l d) := by
  unfold State.landBall
  split
  · exact lists_updSlot h _ _ fun _ few => few
  · exact h

@[simp] theorem lists_loseBall (h : s.listsTo t) (l : Fin 16) : s.listsTo (t.loseBall l) := by
  simp only [State.loseBall]; (repeat' split) <;> simp [State.listsTo, h]

@[simp] theorem lists_faultCycle (h : s.listsTo t) (l : Fin 16) (c : Cycle) (reason : FaultReason) :
    s.listsTo (t.faultCycle l c reason) := by
  simp only [State.faultCycle]; split <;> simp [State.listsTo, h]

@[simp] theorem lists_leaveFault (h : s.listsTo t) (l : Fin 16) (target : PinSet) (phase : CyclePhase) :
    s.listsTo (t.leaveFault l target phase) := by
  simp only [State.leaveFault]; split <;> simp [State.listsTo, h]

@[simp] theorem lists_completeCycle (h : s.listsTo t) (l : Fin 16) (c : Cycle) : s.listsTo (t.completeCycle l c) := by
  simp only [State.completeCycle, State.nextAfter]; (repeat' split) <;> simp [State.listsTo, h]

@[simp] theorem lists_warmUpEnd (h : s.listsTo t) (l : Fin 16) : s.listsTo (warmUpEnd l t) := by
  simp only [warmUpEnd, State.endWarmUp, State.setDue]; (repeat' split) <;> simp [State.listsTo, h]

@[simp] theorem lists_psDone (h : s.listsTo t) (l : Fin 16) : s.listsTo (psDone l t) := by
  simp only [psDone]; (repeat' split) <;> simp [State.listsTo, h]

@[simp] theorem lists_psJam (h : s.listsTo t) (l : Fin 16) : s.listsTo (psJam l t) := by
  simp only [psJam]; split <;> simp [State.listsTo, h]

@[simp] theorem lists_cycleTimeout (h : s.listsTo t) (l : Fin 16) : s.listsTo (cycleTimeout l t) := by
  simp only [cycleTimeout]; split <;> simp [State.listsTo, h]

@[simp] theorem lists_lockOut (h : s.listsTo t) (l : Fin 16) : s.listsTo (t.lockOut l) := by
  simp only [State.lockOut]; (repeat' split) <;> simp [State.listsTo, h]

/-! ## Heads, games and turns -/

@[simp] theorem lists_becomeUp (h : s.listsTo t) (l : Fin 16) (i : Fin 12) : s.listsTo (t.becomeUp l i) := by
  have up := lists_updSlot h (pairOf l) i (f := fun x => { x with state := .up }) fun _ few => few
  simpa [State.becomeUp, State.listsTo] using up

@[simp] theorem lists_startGame (h : s.listsTo t) (l : Fin 16) (i : Fin 12) : s.listsTo (t.startGame l i) := by
  have placed := lists_updSlot h (pairOf l) i (f := fun x =>
    { x with
      game := some (nextGame x.game), stage := .started, frame := 1, ball := 1
      sheet := some (Sheet.new (nextGame x.game)) }) fun _ few => few
  have renewed := lists_renew placed (pairOf l) i
  have settled (x : Handicap) := lists_updSlot renewed (pairOf l) i (f := fun y => { y with handicap := x })
    fun _ few => few
  simpa [State.startGame, State.listsTo] using settled _

@[simp] theorem lists_askGame (h : s.listsTo t) (l : Fin 16) (i : Fin 12) : s.listsTo (t.askGame l i) := by
  simp only [State.askGame]; (repeat' split) <;> simp [State.listsTo, h]

@[simp] theorem lists_raiseHead (h : s.listsTo t) (l : Fin 16) (i : Fin 12) : s.listsTo (t.raiseHead l i) := by
  have paid := lists_updTurn h (p := pairOf l) (f := fun u => u.setPaid (sideOf l) false) (keeps_setPaid _ _ _)
  simp only [State.raiseHead]; (repeat' split) <;> simp [State.listsTo, paid, h]

@[simp] theorem lists_headRules (h : s.listsTo t) (l : Fin 16) : s.listsTo (t.headRules l) := by
  have passed (q : List (Fin 12)) := lists_updTurn h (p := pairOf l) (f := fun u => u.setQueue (sideOf l) q)
    (keeps_setQueue _ _ _)
  simp only [State.headRules]; (repeat' split) <;> simp [State.listsTo, passed, h]

@[simp] theorem lists_takePaid (h : s.listsTo t) (l : Fin 16) : s.listsTo (t.takePaid l) := by
  have paid := lists_updTurn h (p := pairOf l) (f := fun u => u.setPaid (sideOf l) true) (keeps_setPaid _ _ _)
  simp only [State.takePaid]; (repeat' split) <;> simp [State.listsTo, paid, h]

@[simp] theorem lists_endTurn (h : s.listsTo t) (l : Fin 16) (i : Fin 12) (finished : Bool) :
    s.listsTo (t.endTurn l i finished) := by
  have moved (dest : Option Side) (st : SlotState) : s.listsTo
      (((t.updTurn (pairOf l) fun u => u.moveTurn i dest st).headRules l).turnEffect l dest) := by
    have ran := lists_headRules (lists_updTurn h (p := pairOf l) (f := fun u => u.moveTurn i dest st)
      (keeps_moveTurn _ _ _ _)) l
    simpa [State.listsTo] using ran
  unfold State.endTurn
  dsimp only
  split
  · exact lists_headRules (moved _ _) _
  · exact moved _ _

@[simp] theorem lists_clearSlot (h : s.listsTo t) (p : Fin 8) (i : Fin 12) : s.listsTo (t.clearSlot p i) := by
  have moved := lists_updTurn h (p := p) (f := fun t => t.moveTurn i none t.slots[i].state) (keeps_moveTurn _ i none _)
  have cleared := lists_updSlot (lists_releaseNumber moved p i) p i (f := fun _ => Slot.empty) fun _ _ => Nat.zero_le _
  simpa [State.clearSlot, State.listsTo] using cleared

/-! ## Wakes, re-tests of CREDIT and the periods of a meter -/

@[simp] theorem lists_turnPaid (h : s.listsTo t) (l : Fin 16) (m : Meter) : s.listsTo (t.turnPaid l m) := by
  simp only [State.turnPaid]; split <;> simp [State.listsTo, h]

@[simp] theorem lists_paidRetry (h : s.listsTo t) (l : Fin 16) (m : Meter) : s.listsTo (t.paidRetry l m) := by
  simp [State.listsTo, State.paidRetry, h]

@[simp] theorem lists_resumeMachines (h : s.listsTo t) (l : Fin 16) : s.listsTo (t.resumeMachines l) := by
  simp [State.listsTo, State.resumeMachines, h]

@[simp] theorem lists_wake (h : s.listsTo t) (l : Fin 16) : s.listsTo (t.wake l) := by
  simp only [State.wake]; (repeat' split) <;> simp [State.listsTo, h]

@[simp] theorem lists_retest (h : s.listsTo t) (l : Fin 16) : s.listsTo (t.retest l) := by
  simp only [State.retest]; (repeat' split) <;> simp [State.listsTo, h]

@[simp] theorem lists_retestAll (h : s.listsTo t) : s.listsTo t.retestAll :=
  lists_foldl (fun _ l h => lists_retest h l) _ h

@[simp] theorem lists_ballEdge (h : s.listsTo t) (l : Fin 16) : s.listsTo (t.ballEdge l) := by
  simp only [State.ballEdge]; split <;> simp [State.listsTo, h]

@[simp] theorem lists_bandEdge (h : s.listsTo t) (l : Fin 16) : s.listsTo (t.bandEdge l) := by
  simp only [State.bandEdge]; split <;> simp [State.listsTo, h]

@[simp] theorem lists_backGraceExpiry (h : s.listsTo t) (l : Fin 16) : s.listsTo (backGraceExpiry l t) := by
  simp only [backGraceExpiry, State.backGraceEnds]; (repeat' split) <;> simp [State.listsTo, h]

@[simp] theorem lists_bandEdgeCommand (h : s.listsTo t) (band : Nat) : s.listsTo (bandEdge band t) := by
  simp only [bandEdge]
  split
  · refine lists_foldl (fun _ l h => lists_bandEdge h l) _ ?_
    split <;> exact h
  · exact h

/-! ## Balls -/

@[simp] theorem lists_takeDeck (h : s.listsTo t) (l : Fin 16) (missed : Bool) : s.listsTo (t.takeDeck l missed) := by
  have created (unpaid : Bool) : s.listsTo ((t.createTransit (pairOf l) (sideOf l) unpaid).deckInvalidates l) := by
    simp [State.listsTo, h]
  simp only [State.takeDeck]
  split
  · refine lists_updSlot ?_ _ _ fun _ few => few
    simp [State.listsTo, h]
  · simp [State.listsTo, h]
  · simp [State.listsTo, h]
  · simp [State.listsTo, h]
  · simp [State.listsTo, h]
  · unfold State.unpaidBall
    split
    · refine lists_ballEdge ?_ l
      simp [State.listsTo, h]
    · simp [State.listsTo, h]

@[simp] theorem lists_travelTimeout (h : s.listsTo t) (l : Fin 16) : s.listsTo (travelTimeout l t) := by
  simp only [travelTimeout]; (repeat' split) <;> simp [State.listsTo, h]

/-- A finished game joins three others at most (R101). -/
theorem retained_afterBall {x : Slot} (few : x.retained.length ≤ 3) (frame : Nat) (sh : Sheet) :
    (x.afterBall frame sh).retained.length ≤ 3 := by
  unfold Slot.afterBall
  split
  · simp only [retain]
    split <;> simp <;> omega
  · split <;> exact few

@[simp] theorem lists_passOn (h : s.listsTo t) (l : Fin 16) (d : Delivery) : s.listsTo (t.passOn l d).state := by
  unfold State.passOn
  split
  · exact h
  · split
    next a sh _ =>
      have snapped (n : Snapshot) : s.listsTo (t.modLane l fun b => { b with snapshot := some n }) := h
      have after := lists_updSlot (snapped (takeSnapshot a sh
          (sh.addBall a.frame (d.pre.getD fullRack) (d.counted.getD 0) d.marks) (d.pre.getD fullRack))) (pairOf l) a.slot
        (f := fun x => { x with inFlight := false }.afterBall a.frame
          (sh.addBall a.frame (d.pre.getD fullRack) (d.counted.getD 0) d.marks))
        fun x few => retained_afterBall (x := { x with inFlight := false }) few _ _
      unfold State.scoreBall
      dsimp only
      split
      · exact lists_endTurn after l _ _
      · exact after
    · simp [State.listsTo, State.leaveUnscored, h]

@[simp] theorem lists_psRead (h : s.listsTo t) (l : Fin 16) (sensed : PinSet) : s.listsTo (psRead l sensed t) := by
  simp only [psRead, State.takeRead]; (repeat' split) <;> simp [State.listsTo, h]

theorem retained_onlyUp (u : TurnUnit) (sd : Side) (n i : Fin 12) :
    (u.onlyUp sd n).slots[i].retained = u.slots[i].retained := by
  simp only [TurnUnit.onlyUp, Fin.getElem_fin, Vector.getElem_ofFn]
  split <;> rfl

theorem retained_modSlot (u : TurnUnit) (k i : Fin 12) (st : SlotState) :
    (u.modSlot k fun x => { x with state := st }).slots[i].retained = u.slots[i].retained := by
  rw [slots_modSlot]
  split
  next same => rw [same]
  · rfl

/-- The queues restored touch no retained game. -/
theorem retained_takeBack (u : TurnUnit) (sd : Side) (n : Snapshot) (i : Fin 12) :
    (u.takeBack sd n).slots[i].retained = u.slots[i].retained := by
  unfold TurnUnit.takeBack
  dsimp only
  rw [retained_modSlot, slots_setQueue, retained_onlyUp]
  (repeat' split) <;> simp only [retained_modSlot, slots_setQueue]

@[simp] theorem lists_applySnapshot (h : s.listsTo t) (l : Fin 16) (n : Snapshot) : s.listsTo (t.applySnapshot l n) := by
  have back := lists_updSlot h (pairOf l) n.slot (f := fun x => x.takeBack n) fun _ few => few
  have queued := lists_updTurn back (p := pairOf l) (f := fun u => u.takeBack (sideOf l) n) fun i few => by
    rwa [retained_takeBack]
  have practice {u : State} (g : s.listsTo u) : s.listsTo (u.resetPractice l) :=
    g.trans (listsTo_of_same (by simp) (by simp) (by simp))
  have flags {u : State} (g : s.listsTo u) :
      s.listsTo (((u.dropSnapshot l).flagConsole (pairOf l) .frameChanged).flagConsole (pairOf l) .turnChanged) :=
    g.trans (listsTo_of_same (by simp) (by simp) (by simp))
  unfold State.applySnapshot
  dsimp only
  refine flags ?_
  split
  · split
    · exact lists_headRules (practice queued) _
    · exact practice queued
  · exact back

@[simp] theorem lists_clearFault (h : s.listsTo t) (l : Fin 16) (choice : Nat) : s.listsTo (t.clearFault l choice) := by
  simp only [State.clearFault]; (repeat' split) <;> simp [State.listsTo, h]

end Sys2Proof.Machine
end

section
/-! SUPPORT. The lists of the part under each request, event and reset, and the pool that a restart leaves lawful. -/

namespace Sys2Proof.Machine

variable {s t : State}

/-! ## Rosters -/

@[simp] theorem lists_headRulesAt (h : s.listsTo t) (p : Fin 8) (sd : Option Side) :
    s.listsTo (t.headRulesAt p sd) := by
  cases sd
  · exact h
  · exact lists_headRules h _

theorem lists_rosterTaken (h : s.listsTo t) (p : Fin 8) : s.listsTo (t.rosterTaken p) := by
  simp [State.listsTo, State.rosterTaken, h]

theorem lists_addBowler (h : s.listsTo t) (p : Fin 8) (i : Fin 12) (number : Nat) :
    s.listsTo (t.addBowler p i number) := by
  have filled := lists_updSlot h p i (f := fun _ => Slot.filled number) fun _ _ => by simp [Slot.filled, Slot.empty]
  have placed := lists_lookup filled p i number
  unfold State.addBowler
  dsimp only
  refine lists_headRules (lists_updTurn ?_ (keeps_moveTurn _ _ _ _)) _
  exact placed

theorem lists_removeBowler (h : s.listsTo t) (p : Fin 8) (i : Fin 12) : s.listsTo (t.removeBowler p i) := by
  unfold State.removeBowler
  exact lists_headRulesAt (lists_clearSlot h p i) p _

theorem lists_sendAway (h : s.listsTo t) (p : Fin 8) (i : Fin 12) : s.listsTo (t.sendAway p i) := by
  unfold State.sendAway
  exact lists_headRulesAt (lists_updSlot h p i (f := Slot.goAway) fun _ few => few) p _

theorem lists_comeBack (h : s.listsTo t) (p : Fin 8) (i : Fin 12) : s.listsTo (t.comeBack p i) := by
  unfold State.comeBack
  split
  · exact lists_headRulesAt (lists_updSlot h p i (f := fun x => { x with away := false }) fun _ few => few) p _
  · exact h

theorem keeps_rehomeAll (t u : TurnUnit) (h : t.keeps u) (list : List (Fin 12)) :
    t.keeps (list.foldl TurnUnit.rehome u) := by
  induction list generalizing u with
  | nil => exact h
  | cons i list ih => exact ih _ (keeps_rehome t u h i)

theorem lists_setMode (h : s.listsTo t) (p : Fin 8) (mode : PairMode) : s.listsTo (t.setMode p mode) := by
  unfold State.setMode
  refine lists_headRules (lists_headRules (lists_updTurn h ?_) _) _
  exact keeps_rehomeAll _ { t.turn p with mode := mode } (fun _ few => few) allSlots

theorem lists_limitSlot (h : s.listsTo t) (p : Fin 8) (i : Fin 12) : s.listsTo (t.limitSlot p i) := by
  have moved (dest : Option Side) (st : SlotState) :
      s.listsTo ((t.dropSnapshots p).updTurn p fun u => u.moveTurn i dest st) :=
    lists_updTurn (h.trans (listsTo_of_same (by simp) (by simp) (by simp))) (keeps_moveTurn _ _ _ _)
  unfold State.limitSlot
  dsimp only
  split
  · split
    · exact h
    · exact lists_headRules (moved _ _) _
  · exact h
  · split
    · exact lists_headRulesAt (moved _ _) p _
    · exact h

theorem lists_writePairSettings (h : s.listsTo t) (p : Fin 8) (games base percent cap : Option Nat) :
    s.listsTo (t.writePairSettings p games base percent cap) := by
  have written : s.listsTo ((t.updTurn p fun u =>
      { u with settings := u.settings.write games base percent cap }).flagConsole p .turnChanged) :=
    (lists_updTurn h (p := p) (f := fun u => { u with settings := u.settings.write games base percent cap })
      fun _ few => few).trans (listsTo_of_same (by simp) (by simp) (by simp))
  unfold State.writePairSettings
  split
  · exact lists_foldl (fun _ i h => lists_limitSlot h p i) _ written
  · exact written

/-! ## Sessions -/

theorem lists_openLane (h : s.listsTo t) (l : Fin 16) (kind : MeterKind) (mode : MeterMode) (credit cls : Nat) :
    s.listsTo (t.openLane l kind mode credit cls) := by
  have opened : s.listsTo ((((t.updSession l fun n => n.open cls).beginMeter l kind mode credit).modSup l fun x =>
      { x with servicePower := false }).grantPower l) :=
    h.trans (listsTo_of_same (by simp) (by simp) (by simp))
  have graced {u : State} (g : s.listsTo u) : s.listsTo (u.zeroBackGrace l) :=
    g.trans (listsTo_of_same (by simp) (by simp) (by simp))
  unfold State.openLane
  refine graced (lists_headRules (lists_liftLaneOpen ?_ _) l)
  exact opened

theorem lists_endSession (h : s.listsTo t) (l : Fin 16) : s.listsTo (t.endSession l) :=
  h.trans (listsTo_of_same (by simp) (by simp) fun w => by simp)

theorem lists_stopMachines (h : s.listsTo t) (l : Fin 16) : s.listsTo (t.stopMachines l) := by
  simp [State.listsTo, State.stopMachines, h]

theorem lists_vacate (h : s.listsTo t) (p : Fin 8) (i : Fin 12) : s.listsTo (t.vacate p i) := by
  unfold State.vacate
  split
  · exact h
  · exact lists_clearSlot h p i

theorem lists_emptyQueue (h : s.listsTo t) (l : Fin 16) : s.listsTo (t.emptyQueue l) :=
  lists_updTurn h fun i few => by rwa [slots_setPaid, slots_setQueue]

theorem lists_closeOne (h : s.listsTo t) (l : Fin 16) : s.listsTo (t.closeOne l) := by
  unfold State.closeOne
  split
  · exact h
  · exact lists_stopMachines (lists_endSession h l) l

theorem lists_closeLane (h : s.listsTo t) (l : Fin 16) : s.listsTo (t.closeLane l) := by
  have vacated {u : State} (list : List (Fin 12)) (p : Fin 8) (g : s.listsTo u) :
      s.listsTo (list.foldl (fun u i => u.vacate p i) u) :=
    lists_foldl (fun _ i g => lists_vacate g p i) list g
  unfold State.closeLane
  split
  · exact lists_stopMachines (lists_emptyQueue (vacated _ _ (lists_endSession h l)) l) l
  · exact lists_emptyQueue (lists_emptyQueue (vacated _ _ (lists_closeOne (lists_closeOne h _) _)) _) _

theorem lists_parkWoke (h : s.listsTo t) (l : Fin 16) : s.listsTo (t.parkWoke l) := by
  unfold State.parkWoke
  split
  · exact lists_wake h l
  · exact h.trans (listsTo_of_same (by simp) (by simp) (by simp))

theorem lists_parkTaken (h : s.listsTo t) (l : Fin 16) (mask : WakeMask) (cause : ParkCause) :
    s.listsTo (t.parkTaken l mask cause) := by
  simp only [State.parkTaken]; split <;> simp [State.listsTo, h]

theorem lists_writeLanes (h : s.listsTo t) (scope : Nat) (l : Fin 16) (cls foul mask lamps : Option Nat) :
    s.listsTo (t.writeLanes scope l cls foul mask lamps) := by
  have written : s.listsTo ((scopeLanes scope l).foldl (fun u l => u.writeLane l cls foul mask lamps) t) :=
    lists_foldl (fun _ _ g => g.trans (listsTo_of_same (by simp) (by simp) (by simp))) _ h
  refine lists_foldl (fun _ _ g => g.trans (listsTo_of_same (by simp) (by simp) (by simp))) _ ?_
  split
  · exact lists_foldl (fun _ l g => lists_retest g l) _ written
  · exact written

theorem lists_reball (h : s.listsTo t) (l : Fin 16) : s.listsTo (t.reball l) := by
  unfold State.reball
  split
  · exact lists_restoreDemand (lists_applySnapshot h l _) l _
  · exact h

theorem lists_writeOutcome (h : s.listsTo t) (n : Fin 64) (o : SlipOutcome) : s.listsTo (t.writeOutcome n o) :=
  lists_modPool h (keeps_modSlip _ n rfl)

/-- A correction adds no retained game and removes none. -/
theorem retained_correct {x : Slot} (few : x.retained.length ≤ 3) (c : Correction) (g : NamedGame) :
    (x.correct c g).retained.length ≤ 3 := by
  cases g
  · exact few
  · simpa [Slot.correct] using few

theorem lists_applyCorrected (h : s.listsTo t) (c : Correction) (g : NamedGame) :
    s.listsTo (t.applyCorrected c g) := by
  have corrected : s.listsTo (((t.updSlot c.pair c.slot fun x => x.correct c g).dropSnapshotsOf c.pair c.slot).flagConsole
      c.pair .frameChanged) :=
    (lists_updSlot h c.pair c.slot (f := fun x => x.correct c g) fun _ few => retained_correct few c g).trans
      (listsTo_of_same (by simp) (by simp) (by simp))
  unfold State.applyCorrected
  dsimp only
  split
  · exact lists_restoreDemand corrected _ _
  · exact corrected

theorem lists_applyCorrection (h : s.listsTo t) (n : Fin 64) : s.listsTo (t.applyCorrection n).state := by
  unfold State.applyCorrection State.decideCorrection
  split
  · dsimp only
    split
    · exact lists_writeOutcome h n _
    · exact lists_writeOutcome (lists_applyCorrected h _ _) n _
  · exact h

/-! ## The Directory -/

theorem fetch_write (d : Directory) (number average : Nat) (override : Option Nat) :
    (d.write number average override).directory.fetch = d.fetch := by
  unfold Directory.write
  split
  · rfl
  · have kept : d.victim.1.fetch = d.fetch := by
      unfold Directory.victim
      (repeat' split) <;> rfl
    exact kept

theorem lists_writeRecord (h : s.listsTo t) (number average : Nat) (override : Option Nat) :
    s.listsTo (t.writeRecord number average override) := by
  refine h.trans ⟨SlipPool.keeps_refl _, fun few => ?_, fun _ => TurnUnit.keeps_refl _⟩
  unfold State.writeRecord
  dsimp only
  split <;> simpa [Directory.modEntry, fetch_write] using few

theorem lists_resolveEntry (h : s.listsTo t) (number : Nat) : s.listsTo (t.resolveEntry number) := by
  unfold State.resolveEntry
  split
  · exact h
  next p i _ =>
    exact lists_settleHandicap (lists_updSlot h p i (f := fun x => { x with source := .entry, fetch := .none })
      fun _ few => few) p i

theorem lists_supply (h : s.listsTo t) (number average : Nat) (override : Option Nat) :
    s.listsTo (t.supply number average override) := by
  unfold State.supply
  exact lists_resolveEntry (lists_leaveFetch (lists_writeRecord h number average override) number) number

theorem lists_unknownNumber (h : s.listsTo t) (number : Nat) : s.listsTo (t.unknownNumber number) := by
  unfold State.unknownNumber
  dsimp only
  split
  · exact lists_leaveFetch h number
  next p i _ =>
    exact lists_settleHandicap (lists_updSlot (lists_leaveFetch h number) p i
      (f := fun x => { x with source := .none, fetch := .none }) fun _ few => few) p i

theorem keeps_drop (d : Directory) (number : Nat) : d.keeps (d.drop number) := by
  unfold Directory.drop
  split
  · exact id
  · exact id

/-! ## Billing -/

theorem lists_setClock (h : s.listsTo t) (hour minute second : Nat) : s.listsTo (t.setClock hour minute second) :=
  lists_retestAll (show s.listsTo { t with clock := ⟨hour, minute, second, false, t.clock.ms⟩ } from h)

theorem lists_setLayout (h : s.listsTo t) (dayStart bands length : Nat) :
    s.listsTo (t.setLayout dayStart bands length) :=
  lists_retestAll (show s.listsTo
    { t with tariff := { t.tariff with dayStart := dayStart, bands := bands, length := length } } from h)

theorem lists_setPrices (h : s.listsTo t) (cls band : Nat) (game unit : Option Nat) :
    s.listsTo (t.setPrices cls band game unit) :=
  lists_retestAll (show s.listsTo { t with tariff := { t.tariff with
    prices := t.tariff.prices.set (priceIx cls band) (t.tariff.prices[priceIx cls band].write game unit) } } from h)

theorem lists_addCredit (h : s.listsTo t) (l : Fin 16) (amount : Nat) : s.listsTo (t.addCredit l amount) := by
  have credited : s.listsTo (t.modMeter l fun m => m.addCredit (m.accepts amount)) := h
  unfold State.addCredit State.afterCredit
  split
  · exact lists_retest credited l
  · exact lists_retest credited l
  · exact credited
  · split
    · exact lists_retest (lists_paidRetry credited l _) l
    · exact lists_retest credited l

/-! ## The slips -/

theorem keeps_takeGeneral (q : SlipPool) {n : Fin 64} {rest : List (Fin 64)} (head : q.generalFree = n :: rest)
    (p : Port) : q.keeps ({ q with generalFree := rest }.modSlip n fun _ => takenSlip p) := by
  refine ⟨fun law => ?_, id⟩
  obtain ⟨placed, backlog⟩ := (lawful_iff_placed q).mp law
  exact (lawful_iff_placed _).mpr ⟨placed_takeGeneral (p := p) placed head rfl, backlog⟩

theorem keeps_takePost (q : SlipPool) {n : Fin 64} {rest : List (Fin 64)} {p : Port}
    (head : q.posts[p.index] = n :: rest) :
    q.keeps ({ q with posts := q.posts.set p.index rest }.modSlip n fun x => { x with state := .held p }) := by
  refine ⟨fun law => ?_, id⟩
  obtain ⟨placed, backlog⟩ := (lawful_iff_placed q).mp law
  exact (lawful_iff_placed _).mpr ⟨placed_takePost (p := p) placed head rfl, backlog⟩

theorem lists_takeSlip (h : s.listsTo t) (p : Port) : s.listsTo (t.takeSlip p).state := by
  unfold State.takeSlip
  split
  next head => exact lists_modPool h (keeps_takeGeneral _ head p)
  · exact h

theorem lists_fetchSlip (h : s.listsTo t) (p : Port) : s.listsTo (t.fetchSlip p).state := by
  unfold State.fetchSlip
  split
  next head => exact lists_modPool h (keeps_takePost _ head)
  · exact h

/-- A held slip posted. -/
theorem lists_postSlip (h : s.listsTo t) {n : Fin 64} {p : Port} (held : (t.slip n).state = .held p) (dest : Port) :
    s.listsTo (t.postSlip n dest) := by
  refine lists_modPool h ⟨fun law => ?_, id⟩
  obtain ⟨placed, backlog⟩ := (lawful_iff_placed _).mp law
  exact (lawful_iff_placed _).mpr ⟨placed_post (p := p) placed held (d := dest) rfl, backlog⟩

/-- A slip returned lengthens no backlog. -/
theorem backlog_returned {q : SlipPool} (few : q.backlog.length ≤ 32) (n : Fin 64) :
    (q.returned n).backlog.length ≤ 32 := by
  unfold SlipPool.returned
  split
  next range =>
    unfold SlipPool.drain
    split
    next waits =>
      have same : (q.free n).backlog = q.backlog := by simp [SlipPool.free, range, SlipPool.modSlip]
      rw [same] at waits
      rw [waits] at few
      exact Nat.le_of_succ_le few
    · simpa [SlipPool.free, range, SlipPool.modSlip] using few
  next range => simpa [SlipPool.free, range, SlipPool.modSlip] using few

theorem keeps_returned (q : SlipPool) {n : Fin 64} {p : Port} (held : q.slips[n].state = .held p) :
    q.keeps (q.returned n) :=
  ⟨fun law => lawful_returned law held, fun few => backlog_returned few n⟩

theorem slips_postCall (q : SlipPool) (n k : Fin 64) (c : Call) :
    (q.postCall n c).slips[k] = if k = n then callSlip c else q.slips[k] :=
  slips_modSlip q n k fun _ => callSlip c

/-- A slip returned leaves every other slip where it is held. -/
theorem held_returned (q : SlipPool) {n k : Fin 64} (ne : k ≠ n) {p : Port} (law : q.lawful)
    (held : q.slips[k].state = .held p) : (q.returned n).slips[k].state = .held p := by
  have freed : (q.free n).slips[k].state = .held p := by
    unfold SlipPool.free
    dsimp only
    split <;> rw [slips_modSlip, if_neg ne] <;> exact held
  unfold SlipPool.returned
  split
  next range =>
    unfold SlipPool.drain
    split
    next m rest c calls list waits =>
      have other : k ≠ m := by
        rintro rfl
        have mem : k ∈ q.reserveFree ++ [n] := by
          have : k ∈ (q.free n).reserveFree := by simp [list]
          simpa [SlipPool.free, range, SlipPool.modSlip] using this
        rcases List.mem_append.mp mem with old | new
        · have free := (law.1 k).mpr (by simpa [SlipPool.freeList, law.2.2.1 k old] using old)
          rw [held] at free
          cases free
        · exact ne (List.mem_singleton.mp new)
      have kept : (({ q.free n with reserveFree := rest, backlog := calls } : SlipPool).postCall m c).slips[k] =
          (q.free n).slips[k] := by
        rw [slips_postCall, if_neg other]
      rwa [kept]
    · exact freed
  · exact freed

/-- Slips that a port holds, returned one after another. -/
theorem lawful_foldl_returned {p : Port} (list : List (Fin 64)) (nodup : list.Nodup) {q : SlipPool} (law : q.lawful)
    (held : ∀ n ∈ list, q.slips[n].state = .held p) : (list.foldl SlipPool.returned q).lawful := by
  induction list generalizing q with
  | nil => exact law
  | cons n list ih =>
    obtain ⟨fresh, nodup⟩ := List.nodup_cons.mp nodup
    refine ih nodup (lawful_returned law (held n List.mem_cons_self)) fun k hk => ?_
    refine held_returned q (fun same => fresh (by subst same; exact hk)) law (held k (List.mem_cons_of_mem n hk))

theorem keeps_returnHeld (q : SlipPool) (p : Port) : q.keeps (q.returnHeld p) := by
  refine ⟨fun law => lawful_foldl_returned _ ((List.nodup_finRange 64).filter _) law (p := p) fun n hn => ?_,
    fun few => ?_⟩
  · simpa using (List.mem_filter.mp hn).2
  · unfold SlipPool.returnHeld
    induction q.heldBy p generalizing q with
    | nil => exact few
    | cons n list ih => exact ih _ (backlog_returned few n)

/-- A pool all of whose slips are free, but those on the mechanic's post list. -/
theorem lawful_of_kept {q : SlipPool} {kept : List (Fin 64)} (nodup : kept.Nodup)
    (range : ∀ n ∈ kept, isReserve n = true) (states : ∀ n : Fin 64,
      q.slips[n].state = if n ∈ kept then .posted .mc else .free)
    (general : q.generalFree = generalSlips) (reserve : q.reserveFree = reserveSlips.filter (· ∉ kept))
    (posts : ∀ p : Port, q.posts[p.index] = if p = .mc then kept else []) (backlog : q.backlog = []) : q.lawful := by
  have inGeneral (n : Fin 64) : n ∈ generalSlips ↔ isReserve n = false := by simp [generalSlips, isReserve]
  have inReserve (n : Fin 64) : n ∈ reserveSlips ↔ isReserve n = true := by simp [reserveSlips, isReserve]
  refine (lawful_iff_placed q).mpr ⟨⟨fun n => ?_, fun n hn => ?_, fun n hn => ?_, fun n p => ?_, ?_, ?_, fun k => ?_⟩,
    .inl backlog⟩
  · rw [states, SlipPool.freeList, general, reserve]
    by_cases waits : n ∈ kept
    · simp [waits, range n waits]
    · cases e : isReserve n <;> simp [waits, inGeneral, inReserve, e]
  · exact (inGeneral n).mp (general ▸ hn)
  · exact (inReserve n).mp (List.mem_filter.mp (reserve ▸ hn)).1
  · rw [states, posts]
    by_cases waits : n ∈ kept <;> by_cases mech : p = .mc <;> simp [waits, mech, eq_comm]
  · rw [general]; exact (List.nodup_finRange 64).filter _
  · rw [reserve]; exact ((List.nodup_finRange 64).filter _).filter _
  · obtain ⟨p, rfl⟩ := exists_port k
    rw [posts]
    split
    · exact nodup
    · exact List.nodup_nil

theorem lawful_initialPool : SlipPool.initial.lawful :=
  lawful_of_kept (kept := []) List.nodup_nil (by simp) (fun n => by simp [SlipPool.initial, Slip.blank]) rfl
    (by simp [SlipPool.initial]) (fun p => by simp [SlipPool.initial]) rfl

/-- The calls that a section restart keeps were posted to the mechanic, and stay so (R184). -/
theorem lawful_restarted {q : SlipPool} (law : q.lawful) : q.restarted.lawful := by
  obtain ⟨⟨-, -, -, posted, -, -, nodup⟩, -⟩ := (lawful_iff_placed q).mp law
  refine lawful_of_kept (kept := (q.posts[Port.mc.index]).filter fun n =>
    q.slips[n].origin == some .part && isReserve n) ((nodup _).filter _) (fun n hn => ?_) (fun n => ?_) rfl rfl
    (fun p => ?_) rfl
  · simp only [List.mem_filter, Bool.and_eq_true] at hn
    exact hn.2.2
  · simp only [SlipPool.restarted, Fin.getElem_fin, Vector.getElem_ofFn]
    split
    next waits => exact (posted n .mc).mpr (List.mem_filter.mp waits).1
    next => rfl
  · simp only [SlipPool.restarted, getElem_setPost]
    split
    · rfl
    · simp

theorem lists_restarted (s : State) : s.listsTo s.restarted := by
  refine ⟨⟨lawful_restarted, fun _ => Nat.zero_le _⟩, fun _ => Nat.zero_le _, fun w i _ => ?_⟩
  simp [State.restarted, State.turn, State.pair, Pair.restarted, Pair.initial, TurnUnit.initial, Slot.empty]

theorem lists_afterReset (s : State) (rate : Bool) (rackFull overload : BitVec 8) (c : Chain) (m : ConfigMemory)
    (pending : List Instr) : s.listsTo (State.afterReset rate rackFull overload c m pending) := by
  refine ⟨⟨fun _ => lawful_initialPool, fun _ => Nat.zero_le _⟩, fun _ => Nat.zero_le _, fun w i _ => ?_⟩
  simp [State.afterReset, State.turn, State.pair, Pair.initial, TurnUnit.initial, Slot.empty]

end Sys2Proof.Machine
end

section
/-! PROOFS. The lists of the part after every step (R170 to R172, R181, R187, R134, R101). -/

namespace Sys2Proof.Machine

variable {s t u : State}

/-! ## Requests -/

/-- A request keeps the lists where taking it does, its checks passed. -/
theorem lists_after (checks : List (Bool × ReplyOutcome)) {taken : Served}
    (h : (∀ c ∈ checks, c.1 = false) → s.listsTo taken.state) : s.listsTo (Served.after s checks taken).state := by
  rcases after_cases s checks taken with ⟨o, -, refused⟩ | ⟨passed, accepted⟩
  · rw [refused]; exact listsTo_refl s
  · rw [accepted]; exact h (firstRefusal_eq_none.mp passed)

theorem lists_taken (checks : List (Bool × ReplyOutcome)) (h : s.listsTo t) :
    s.listsTo (Served.after s checks (.ok t)).state :=
  lists_after checks fun _ => h

/-- The lists of a request whose every effect keeps them. -/
theorem lists_serve (s : State) (i : Instr) : s.listsTo (serve i s).state := by
  have same := listsTo_refl s
  cases i
  case postSlip p slip dest =>
    refine lists_after _ fun passed => ?_
    have held := passed ((s.slip (slipIx slip)).state != .held p, .state) (by simp [slipChecks])
    exact lists_postSlip same (p := p) (by simpa using held) _
  case returnSlip p slip =>
    refine lists_after _ fun passed => ?_
    have held := passed ((s.slip (slipIx slip)).state != .held p, .state) (by simp [slipChecks])
    exact lists_modPool same (keeps_returned _ (p := p) (by simpa [State.slip] using held))
  case writeSlip => exact lists_taken _ (lists_modPool same (keeps_modSlip _ _ rfl))
  case takeSlip p => exact lists_after _ fun _ => lists_takeSlip same p
  case fetchSlip p => exact lists_after _ fun _ => lists_fetchSlip same p
  case setOutcome => exact lists_taken _ (lists_writeOutcome same _ _)
  case applyCorrection => exact lists_after _ fun _ => lists_applyCorrection same _
  case openLane => exact lists_taken _ (lists_openLane same _ _ _ _ _)
  case closeLane => exact lists_after _ fun _ => lists_closeLane same _
  case parkLane =>
    refine lists_after _ fun _ => ?_
    split
    · exact lists_parkWoke same _
    · exact lists_parkTaken same _ _ _
  case resumeLane => exact lists_taken _ (lists_parkWoke same _)
  case setLaneSettings => exact lists_taken _ (lists_writeLanes same _ _ _ _ _ _)
  case setReturnSettings => exact lists_taken _ (lists_writeReturnSettings same _ _)
  case addBowler => exact lists_taken _ (lists_addBowler (lists_rosterTaken same _) _ _ _)
  case removeBowler => exact lists_taken _ (lists_removeBowler (lists_rosterTaken same _) _ _)
  case away => exact lists_taken _ (lists_sendAway (lists_rosterTaken same _) _ _)
  case back => exact lists_taken _ (lists_comeBack (lists_rosterTaken same _) _ _)
  case setPairMode => exact lists_taken _ (lists_setMode (lists_rosterTaken same _) _ _)
  case setPairSettings => exact lists_taken _ (lists_writePairSettings same _ _ _ _ _)
  case reball => exact lists_taken _ (lists_reball same _)
  case supplyBowler => exact lists_after _ fun _ => lists_supply same _ _ _
  case unknownBowler => exact lists_taken _ (lists_unknownNumber same _)
  case updateBowler => exact lists_after _ fun _ => lists_resolveEntry (lists_writeRecord same _ _ _) _
  case dropBowler => exact lists_taken _ (lists_modDirectory same (keeps_drop _ _))
  case setRangeEntry => exact lists_taken _ (lists_modDirectory same id)
  case setClock => exact lists_taken _ (lists_setClock same _ _ _)
  case setTariffLayout => exact lists_taken _ (lists_setLayout same _ _ _)
  case setPrices => exact lists_taken _ (lists_setPrices same _ _ _ _)
  case addCredit => exact lists_after _ fun _ => lists_addCredit same _ _
  case clearFault => exact lists_taken _ (lists_clearFault same _ _)
  case clearOverdue => exact lists_after _ fun _ => lists_clearOverdue same _ _
  case lockout => exact lists_taken _ (lists_lockOut same _)
  case sectionRestart => exact lists_taken _ (lists_restarted s)
  case unlock | manualCycle | pinsSet | liftRestart | signal =>
    exact lists_after _ fun _ => listsTo_of_same (by simp) (by simp) (by simp)
  case setPinsetterTimers | setBillingSettings | storeSettings | setMask | clearAttention | readLaneStatus
      | readLaneSummary | readReturn | readRoster | readFrameSheet | readBowler | readFetchQueue | readTariff
      | readMeter | readSlipPool | readPort =>
    exact lists_after _ fun _ => same
  all_goals exact same

/-! ## Receive queues -/

@[simp] theorem line_headRulesAt (s : State) (p : Fin 8) (sd : Option Side) (o : Port) :
    ((s.headRulesAt p sd).port o).line = (s.port o).line := by
  cases sd <;> simp [State.headRulesAt]

@[simp] theorem line_removeBowler (s : State) (p : Fin 8) (i : Fin 12) (o : Port) :
    ((s.removeBowler p i).port o).line = (s.port o).line := by
  simp [State.removeBowler]

@[simp] theorem line_sendAway (s : State) (p : Fin 8) (i : Fin 12) (o : Port) :
    ((s.sendAway p i).port o).line = (s.port o).line := by
  simp [State.sendAway]

@[simp] theorem line_comeBack (s : State) (p : Fin 8) (i : Fin 12) (o : Port) :
    ((s.comeBack p i).port o).line = (s.port o).line := by
  simp only [State.comeBack]; split <;> simp

@[simp] theorem line_limitSlot (s : State) (p : Fin 8) (i : Fin 12) (o : Port) :
    ((s.limitSlot p i).port o).line = (s.port o).line := by
  simp only [State.limitSlot]; (repeat' split) <;> simp

@[simp] theorem line_writePairSettings (s : State) (p : Fin 8) (games base percent cap : Option Nat) (o : Port) :
    ((s.writePairSettings p games base percent cap).port o).line = (s.port o).line := by
  unfold State.writePairSettings
  split
  · exact (foldl_keeps (fun t : State => (t.port o).line) (by simp) _ _).trans (by simp)
  · simp

@[simp] theorem line_writeReturnSettings (s : State) (timeout idle : Option Nat) (o : Port) :
    ((s.writeReturnSettings timeout idle).port o).line = (s.port o).line := by
  unfold State.writeReturnSettings
  split
  · exact (foldl_keeps (fun t : State => (t.port o).line) (by simp) _ _).trans rfl
  · rfl

@[simp] theorem line_setClock (s : State) (hour minute second : Nat) (o : Port) :
    ((s.setClock hour minute second).port o).line = (s.port o).line := by
  unfold State.setClock
  rw [line_retestAll]
  rfl

@[simp] theorem line_setLayout (s : State) (dayStart bands length : Nat) (o : Port) :
    ((s.setLayout dayStart bands length).port o).line = (s.port o).line := by
  unfold State.setLayout
  rw [line_retestAll]
  rfl

@[simp] theorem line_setPrices (s : State) (cls band : Nat) (game unit : Option Nat) (o : Port) :
    ((s.setPrices cls band game unit).port o).line = (s.port o).line := by
  unfold State.setPrices
  rw [line_retestAll]
  rfl

@[simp] theorem line_writeOutcome (s : State) (n : Fin 64) (o : SlipOutcome) (p : Port) :
    ((s.writeOutcome n o).port p).line = (s.port p).line := rfl

/-- What waits at a port is on the line's side of its record. -/
theorem queue_of_line {o : Port} (h : (t.port o).line = (s.port o).line) : (t.port o).queue = (s.port o).queue := by
  simpa [PortIf.line] using congrArg PortIf.queue h

@[simp] theorem line_applyCorrection (s : State) (n : Fin 64) (o : Port) :
    ((s.applyCorrection n).state.port o).line = (s.port o).line := by
  simp only [State.applyCorrection, State.decideCorrection]; (repeat' split) <;> simp

theorem queue_after (checks : List (Bool × ReplyOutcome)) {taken : Served} {o : Port}
    (h : (taken.state.port o).queue = (s.port o).queue) :
    ((Served.after s checks taken).state.port o).queue = (s.port o).queue := by
  rcases after_cases s checks taken with ⟨_, -, refused⟩ | ⟨-, accepted⟩
  · rw [refused]
  · rw [accepted]; exact h

theorem queue_modPort (s : State) (p o : Port) {f : PortIf → PortIf} (h : (f (s.port o)).queue = (s.port o).queue) :
    ((s.modPort p f).port o).queue = (s.port o).queue := by
  rw [port_modPort]
  split
  · exact h
  · rfl

/-- Every request but SECTION RESTART leaves the frames waiting at every port. -/
theorem queue_serve_same (s : State) {i : Instr} (notRestart : ∀ p, i ≠ .sectionRestart p) (o : Port) :
    ((serve i s).state.port o).queue = (s.port o).queue := by
  cases i
  case sectionRestart p => exact absurd rfl (notRestart p)
  case parkLane => exact queue_after _ (queue_of_line (by split <;> simp))
  case openLane | closeLane | resumeLane | setLaneSettings | lockout | unlock | manualCycle | clearFault | pinsSet
      | clearOverdue | liftRestart | setReturnSettings | addBowler | removeBowler | away | back | setPairMode
      | setPairSettings | reball | applyCorrection | supplyBowler | unknownBowler | updateBowler | dropBowler
      | setRangeEntry | setClock | setTariffLayout | setPrices | addCredit | takeSlip | writeSlip | postSlip | fetchSlip
      | setOutcome | returnSlip | signal =>
    exact queue_after _ (queue_of_line (by simp))
  case setMask | clearAttention => exact queue_after _ (queue_modPort s _ o rfl)
  case setPinsetterTimers | setBillingSettings | storeSettings | readLaneStatus
      | readLaneSummary | readReturn | readRoster | readFrameSheet | readBowler | readFetchQueue | readTariff
      | readMeter | readSlipPool | readPort =>
    exact queue_after _ rfl
  all_goals rfl

/-- A section restart discards the frames that wait (R198). -/
theorem queue_serve (s : State) (i : Instr) (o : Port) :
    ((serve i s).state.port o).queue = (s.port o).queue ∨ ((serve i s).state.port o).queue = [] := by
  by_cases restart : ∃ p, i = .sectionRestart p
  · obtain ⟨p, rfl⟩ := restart
    rcases after_cases s [(p != .dk, .denied), (s.loading, .busy)] (.ok s.restarted) with ⟨_, -, refused⟩ | ⟨-, taken⟩
    · exact .inl (by rw [serve, serveSectionRestart, refused])
    · exact .inr (by rw [serve, serveSectionRestart, taken]; simp [State.restarted, State.port, PortIf.restarted])
  · exact .inl (queue_serve_same s (fun p e => restart ⟨p, e⟩) o)

/-! ## Frames -/

/-- The lists and every receive queue of `t` obey what those of `s` obey. -/
def State.allLists (s t : State) : Prop :=
  s.listsTo t ∧ ∀ o, (s.port o).queue.length ≤ 2 → (t.port o).queue.length ≤ 2

theorem allLists_refl (s : State) : s.allLists s := ⟨listsTo_refl s, fun _ => id⟩

theorem State.allLists.trans (h : s.allLists t) (g : t.allLists u) : s.allLists u :=
  ⟨h.1.trans g.1, fun o => g.2 o ∘ h.2 o⟩

/-- What keeps the lists and leaves every line. -/
theorem allLists_of_line (h : s.listsTo t) (line : ∀ o, (t.port o).line = (s.port o).line) : s.allLists t :=
  ⟨h, fun o few => by rwa [queue_of_line (line o)]⟩

theorem allLists_modPort (s : State) (p : Port) {f : PortIf → PortIf}
    (g : (s.port p).queue.length ≤ 2 → (f (s.port p)).queue.length ≤ 2) : s.allLists (s.modPort p f) := by
  refine ⟨listsTo_of_same rfl rfl fun _ => rfl, fun o few => ?_⟩
  rw [port_modPort]
  split
  next same => subst same; exact g few
  · exact few

theorem allLists_serveAt (s : State) (p : Port) (i : Instr) : s.allLists (s.serveAt p i) := by
  refine State.allLists.trans (t := (serve i s).state) ⟨lists_serve s i, fun o few => ?_⟩ (allLists_modPort _ p id)
  rcases queue_serve s i o with same | none
  · rwa [same]
  · simp [none]

/-- A third waiting frame is discarded (R187). -/
theorem allLists_receive (s : State) (p : Port) (i : Instr) : s.allLists (s.receive p i) := by
  unfold State.receive
  split
  · exact allLists_refl s
  · refine State.allLists.trans (t := s.takeFrame p i) ?_ (allLists_modPort _ p id)
    unfold State.takeFrame
    split
    · exact allLists_serveAt s p i
    · split
      next room => exact allLists_modPort s p fun _ => by simpa using room
      · exact allLists_modPort s p id

theorem allLists_receiveByte (s : State) (p : Port) (b : Byte) : s.allLists (s.receiveByte p b) := by
  have mode (m : RxMode) : s.allLists (s.setRx p m) := allLists_modPort s p id
  unfold State.receiveByte
  split
  · split
    · exact mode _
    · exact allLists_refl s
  · split
    · exact mode _
    · exact (mode _).trans (allLists_receive _ p _)
  · split
    · exact mode _
    · exact (mode _).trans (allLists_receive _ p _)

theorem allLists_receiveChar (s : State) (p : Port) (c : LineChar) : s.allLists (s.receiveChar p c) := by
  unfold State.receiveChar
  split
  · exact allLists_receiveByte s p _
  · exact allLists_refl s

theorem allLists_frameReceived (s : State) (p : Port) (chars : List LineChar) : s.allLists (frameReceived p chars s) := by
  have received : s.allLists (chars.foldl (fun s c => s.receiveChar p c) s) := by
    induction chars generalizing s with
    | nil => exact allLists_refl s
    | cons c chars ih => exact (allLists_receiveChar s p c).trans (ih _)
  unfold frameReceived
  split
  · exact allLists_refl s
  · exact received

theorem allLists_replyEnd (s : State) (p : Port) : s.allLists (replyEnd p s) := by
  have ended : s.allLists (s.endReply p) := allLists_modPort s p id
  unfold replyEnd
  split
  · split
    · exact ended
    next i rest queue =>
      refine (ended.trans (allLists_modPort _ p fun few => ?_)).trans (allLists_serveAt _ p i)
      have before : ((s.endReply p).port p).queue = i :: rest := by simpa [State.endReply] using queue
      rw [before] at few
      exact Nat.le_of_succ_le few
  · exact allLists_refl s

/-! ## Events and steps -/

theorem allLists_portBreak (s : State) (p : Port) : s.allLists (portBreak p s) := by
  unfold portBreak
  split
  · exact allLists_refl s
  · exact (allLists_modPort s p (f := PortIf.broken) fun _ => Nat.zero_le _).trans
      ⟨lists_modPool (listsTo_refl _) (keeps_returnHeld _ p), fun _ => id⟩

theorem allLists_frameTruncated (s : State) (p : Port) : s.allLists (frameTruncated p s) := by
  unfold frameTruncated
  split
  · exact allLists_refl s
  · exact allLists_modPort s p id

theorem allLists_settingsLoadEnd (s : State) (answers : Bool) : s.allLists (settingsLoadEnd answers s) := by
  have taken (c : SettingsCopy) : s.allLists { s.takeSettings c with loading := false } := by
    refine ⟨⟨SlipPool.keeps_refl _, id, fun w i few => ?_⟩, fun _ => id⟩
    simpa [State.takeSettings, State.turn, State.pair, Pair.withSettings] using few
  unfold settingsLoadEnd
  split
  · split
    · exact taken _
    · refine (taken .factory).trans (allLists_of_line (listsTo_of_same ?_ ?_ ?_) ?_) <;> simp
  · exact allLists_refl s

theorem allLists_tick (s : State) : s.allLists s.tick := by
  unfold State.tick
  split
  · exact allLists_refl s
  · refine ⟨⟨SlipPool.keeps_refl _, id, fun w i few => ?_⟩, fun _ => id⟩
    simpa [State.advance, State.driveOutputs, State.turn, State.pair, Pair.tick] using few

theorem allLists_unlessHeld {f : State → State} (h : s.allLists (f s)) : s.allLists (s.unlessHeld f) := by
  unfold State.unlessHeld
  split
  · exact allLists_refl s
  · exact h

theorem line_bandEdges (s : State) (band : Nat) (o : Port) : ((bandEdge band s).port o).line = (s.port o).line := by
  unfold bandEdge
  split
  · refine (foldl_keeps (fun t : State => (t.port o).line) (by simp) _ _).trans ?_
    split <;> rfl
  · rfl

theorem line_storeEnd (s : State) (result : StoreResult) (o : Port) :
    ((storeEnd result s).port o).line = (s.port o).line := by
  unfold storeEnd
  split
  · exact (line_flagDk _ _ o).trans rfl
  · rfl

theorem allLists_exec (i : Instr) (taken : exec i s = .next t) : s.allLists t := by
  have same := listsTo_refl s
  cases frame : framePort i with
  | some p =>
    rw [exec_frame frame] at taken
    cases taken
    exact allLists_receive s p i
  | none =>
    cases i
    case powerReset =>
      cases taken
      exact ⟨lists_afterReset s .., fun o _ => by simp [powerReset, State.afterReset, State.port, PortIf.initial]⟩
    case resetAssertedOrPowerLoss => cases taken; exact ⟨same, fun _ => id⟩
    case frameReceived => cases taken; exact allLists_unlessHeld (allLists_frameReceived s _ _)
    case frameTruncated => cases taken; exact allLists_unlessHeld (allLists_frameTruncated s _)
    case replyEnd => cases taken; exact allLists_unlessHeld (allLists_replyEnd s _)
    case portBreak => cases taken; exact allLists_unlessHeld (allLists_portBreak s _)
    case lineReturnsToMark => cases taken; exact allLists_unlessHeld (allLists_modPort s _ id)
    case settingsLoadEnd => cases taken; exact allLists_unlessHeld (allLists_settingsLoadEnd s _)
    case deck l =>
      cases taken; exact allLists_unlessHeld (allLists_of_line (lists_takeDeck same l false) (by simp))
    case liftArrive p => cases taken; exact allLists_unlessHeld (allLists_of_line (lists_arrive same p) (by simp))
    case bandEdge b =>
      cases taken
      refine allLists_unlessHeld (allLists_of_line (lists_bandEdgeCommand same b) fun o => ?_)
      exact line_bandEdges s b o
    case psRead l x => cases taken; exact allLists_unlessHeld (allLists_of_line (lists_psRead same l x) (by simp))
    case psDone l => cases taken; exact allLists_unlessHeld (allLists_of_line (lists_psDone same l) (by simp))
    case psJam l => cases taken; exact allLists_unlessHeld (allLists_of_line (lists_psJam same l) (by simp))
    case liftOverload p => cases taken; exact allLists_unlessHeld (allLists_of_line (lists_liftOverload same p) (by simp))
    case travelTimeout l =>
      cases taken; exact allLists_unlessHeld (allLists_of_line (lists_travelTimeout same l) (by simp))
    case cycleTimeout l => cases taken; exact allLists_unlessHeld (allLists_of_line (lists_cycleTimeout same l) (by simp))
    case warmUpEnd l => cases taken; exact allLists_unlessHeld (allLists_of_line (lists_warmUpEnd same l) (by simp))
    case recordOverdue p n =>
      cases taken; exact allLists_unlessHeld (allLists_of_line (lists_recordOverdue same p n) (by simp))
    case backGraceExpiry l =>
      cases taken; exact allLists_unlessHeld (allLists_of_line (lists_backGraceExpiry same l) (by simp))
    case storeEnd r =>
      cases taken
      exact allLists_unlessHeld (allLists_of_line (listsTo_of_same (by simp) (by simp) (by simp)) (line_storeEnd s r))
    case release | foul | rackFullOn | rackFullOff | liftOverloadLow | waitingFoulExpiry | hornEnd
        | liftIdleExpiry | frontGraceEnd | unitEnd =>
      cases taken
      exact allLists_unlessHeld (allLists_of_line (listsTo_of_same (by simp) (by simp) (by simp)) (by simp))
    all_goals exact nomatch frame

theorem allLists_step (taken : step s = .next t) : s.allLists t := by
  unfold step at taken
  split at taken
  next => cases taken; exact allLists_tick s
  next c rest _ => exact allLists_exec (s := { s with pending := rest }) c taken

/-- Settles O60: every operation keeps each list of the part and its limit, so every step keeps them. -/
theorem listsStayLawful : Obligations.ListsStayLawful := by
  intro s t taken
  obtain ⟨⟨⟨pool, backlog⟩, fetch, retained⟩, queues⟩ := allLists_step taken
  exact ⟨pool, fun ⟨waiting, calls, numbers, games⟩ =>
    ⟨fun p => queues p (waiting p), backlog calls, fetch numbers, fun p i => retained p i (games p i)⟩⟩

end Sys2Proof.Machine
end

section
/-! PROOFS. What a step runs: a command leaves the queue of commands as it is. -/

namespace Sys2Proof.Machine

variable {s t : State}

theorem pending_of_chip (h : t.chip = s.chip) : t.pending = s.pending :=
  congrArg (fun c => c.2.2.2.2.2.2.2.2.2.2.2.2) h

@[simp] theorem chip_headRulesAt (s : State) (p : Fin 8) (sd : Option Side) : (s.headRulesAt p sd).chip = s.chip := by
  cases sd <;> simp [State.headRulesAt]

@[simp] theorem chip_removeBowler (s : State) (p : Fin 8) (i : Fin 12) : (s.removeBowler p i).chip = s.chip := by
  simp [State.removeBowler]

@[simp] theorem chip_sendAway (s : State) (p : Fin 8) (i : Fin 12) : (s.sendAway p i).chip = s.chip := by
  simp [State.sendAway]

@[simp] theorem chip_comeBack (s : State) (p : Fin 8) (i : Fin 12) : (s.comeBack p i).chip = s.chip := by
  simp only [State.comeBack]; split <;> simp

@[simp] theorem chip_limitSlot (s : State) (p : Fin 8) (i : Fin 12) : (s.limitSlot p i).chip = s.chip := by
  simp only [State.limitSlot]; (repeat' split) <;> simp

@[simp] theorem chip_writePairSettings (s : State) (p : Fin 8) (games base percent cap : Option Nat) :
    (s.writePairSettings p games base percent cap).chip = s.chip := by
  unfold State.writePairSettings
  split
  · exact (foldl_keeps (fun t : State => t.chip) (by simp) _ _).trans (by simp)
  · simp

@[simp] theorem pending_writeReturnSettings (s : State) (timeout idle : Option Nat) :
    (s.writeReturnSettings timeout idle).pending = s.pending := by
  unfold State.writeReturnSettings
  split
  · refine foldl_keeps (fun t : State => t.pending) (fun t p => ?_) _ _
    exact pending_of_chip (chip_markOverdue t p _)
  · rfl

@[simp] theorem pending_setClock (s : State) (hour minute second : Nat) :
    (s.setClock hour minute second).pending = s.pending := by
  unfold State.setClock
  exact (pending_of_chip (chip_retestAll _)).trans rfl

@[simp] theorem pending_setLayout (s : State) (dayStart bands length : Nat) :
    (s.setLayout dayStart bands length).pending = s.pending := by
  unfold State.setLayout
  exact (pending_of_chip (chip_retestAll _)).trans rfl

@[simp] theorem pending_setPrices (s : State) (cls band : Nat) (game unit : Option Nat) :
    (s.setPrices cls band game unit).pending = s.pending := by
  unfold State.setPrices
  exact (pending_of_chip (chip_retestAll _)).trans rfl

/-- A request that is taken leaves the queue, so a request does. -/
theorem pending_after (checks : List (Bool × ReplyOutcome)) {taken : Served} (h : taken.state.pending = s.pending) :
    (Served.after s checks taken).state.pending = s.pending := by
  rcases after_cases s checks taken with ⟨_, -, refused⟩ | ⟨-, accepted⟩
  · rw [refused]
  · rw [accepted]; exact h

theorem pending_serve (s : State) (i : Instr) : (serve i s).state.pending = s.pending := by
  cases i
  case parkLane => exact pending_after _ (pending_of_chip (by split <;> simp))
  case setReturnSettings | setClock | setTariffLayout | setPrices => exact pending_after _ (by simp)
  case openLane | closeLane | resumeLane | setLaneSettings | lockout | unlock | manualCycle | clearFault | pinsSet
      | clearOverdue | liftRestart | addBowler | removeBowler | away | back | setPairMode
      | setPairSettings | reball | applyCorrection | supplyBowler | unknownBowler | updateBowler | dropBowler
      | setRangeEntry | addCredit | takeSlip | writeSlip | postSlip | fetchSlip | setOutcome | returnSlip | signal =>
    exact pending_after _ (pending_of_chip (by simp))
  case setPinsetterTimers | setBillingSettings | storeSettings | setMask | clearAttention | sectionRestart
      | readLaneStatus | readLaneSummary | readReturn | readRoster | readFrameSheet | readBowler | readFetchQueue
      | readTariff | readMeter | readSlipPool | readPort =>
    exact pending_after _ rfl
  all_goals rfl

theorem pending_receive (s : State) (p : Port) (i : Instr) : (s.receive p i).pending = s.pending := by
  unfold State.receive State.takeFrame
  (repeat' split)
  · rfl
  · exact pending_serve s i
  · rfl
  · rfl

theorem pending_receiveChar (s : State) (p : Port) (c : LineChar) : (s.receiveChar p c).pending = s.pending := by
  unfold State.receiveChar State.receiveByte
  split
  · split
    · split <;> rfl
    · split
      · rfl
      · exact pending_receive _ p _
    · split
      · rfl
      · exact pending_receive _ p _
  · rfl

theorem pending_frameReceived (s : State) (p : Port) (chars : List LineChar) :
    (frameReceived p chars s).pending = s.pending := by
  unfold frameReceived
  split
  · rfl
  · exact foldl_keeps (fun t : State => t.pending) (fun _ _ => pending_receiveChar _ _ _) _ _

theorem pending_replyEnd (s : State) (p : Port) : (replyEnd p s).pending = s.pending := by
  unfold replyEnd
  (repeat' split)
  · rfl
  · exact pending_serve _ _
  · rfl

theorem pending_unlessHeld {f : State → State} (h : (f s).pending = s.pending) :
    (s.unlessHeld f).pending = s.pending := by
  unfold State.unlessHeld
  split
  · rfl
  · exact h

theorem pending_bandEdges (s : State) (band : Nat) : (bandEdge band s).pending = s.pending := by
  unfold bandEdge
  split
  · refine (foldl_keeps (fun t : State => t.pending) (fun t l => pending_of_chip (chip_bandEdge t l)) _ _).trans ?_
    split <;> rfl
  · rfl

/-- Every command answers a next state with the queue it found. -/
theorem pending_exec (i : Instr) (s : State) : ∃ t, exec i s = .next t ∧ t.pending = s.pending := by
  cases frame : framePort i with
  | some p => exact ⟨_, exec_frame frame s, pending_receive s p i⟩
  | none =>
    cases i
    case powerReset => exact ⟨_, rfl, rfl⟩
    case resetAssertedOrPowerLoss => exact ⟨_, rfl, rfl⟩
    case frameReceived => exact ⟨_, rfl, pending_unlessHeld (pending_frameReceived s _ _)⟩
    case replyEnd => exact ⟨_, rfl, pending_unlessHeld (pending_replyEnd s _)⟩
    case frameTruncated =>
      refine ⟨_, rfl, pending_unlessHeld ?_⟩
      unfold frameTruncated
      split <;> rfl
    case portBreak =>
      refine ⟨_, rfl, pending_unlessHeld ?_⟩
      unfold portBreak
      split <;> rfl
    case lineReturnsToMark => exact ⟨_, rfl, pending_unlessHeld rfl⟩
    case settingsLoadEnd =>
      refine ⟨_, rfl, pending_unlessHeld ?_⟩
      unfold settingsLoadEnd
      (repeat' split) <;> rfl
    case storeEnd =>
      refine ⟨_, rfl, pending_unlessHeld ?_⟩
      unfold storeEnd
      split <;> rfl
    case bandEdge b => exact ⟨_, rfl, pending_unlessHeld (pending_bandEdges s b)⟩
    case deck l => exact ⟨_, rfl, pending_unlessHeld (pending_of_chip (chip_takeDeck s l false))⟩
    case liftArrive p => exact ⟨_, rfl, pending_unlessHeld (pending_of_chip (chip_arrive s p))⟩
    case psRead | psDone | psJam | liftOverload | travelTimeout | cycleTimeout | warmUpEnd | recordOverdue
        | backGraceExpiry | release | foul | rackFullOn | rackFullOff | liftOverloadLow | waitingFoulExpiry | hornEnd
        | liftIdleExpiry | frontGraceEnd | unitEnd =>
      exact ⟨_, rfl, pending_unlessHeld (pending_of_chip (by simp))⟩
    all_goals exact nomatch frame

/-- Settles O1: `step` runs the front command by its definition, and no command touches the queue. -/
theorem stepRunsFrontCommand : Obligations.StepRunsFrontCommand :=
  fun c s _ => ⟨rfl, pending_exec c s⟩

end Sys2Proof.Machine
end

section
/-! SUPPORT. A request at an idle port: the reply of a check that refuses, and of the request taken. -/

namespace Sys2Proof.Machine

variable {s : State} {i : Instr} {p : Port} {checks : List (Bool × ReplyOutcome)} {taken : Served} {o : ReplyOutcome}

/-- A request that a check refuses is answered with the check's outcome, and nothing changes. -/
theorem exec_refused (port : framePort i = some p) (idle : s.idleAt p) (served : serve i s = .after s checks taken)
    (refused : firstRefusal checks = some o) (ho : o ≠ .frame) :
    exec i s = .next (s.replying p (echoOf i) o []) := by
  have e := served.trans (after_refused refused)
  rw [exec_idle port idle (by rwa [e]), e]

/-- A request that passes its checks is taken. -/
theorem exec_accepted (port : framePort i = some p) (idle : s.idleAt p) (served : serve i s = .after s checks taken)
    (passed : firstRefusal checks = none) (ho : taken.outcome ≠ .frame) :
    exec i s = .next (taken.state.replying p (echoOf i) taken.outcome taken.results) := by
  have e := served.trans (after_taken passed)
  rw [exec_idle port idle (by rwa [e]), e]

/-- A request that passes its checks, and has no results. -/
theorem exec_ok {t : State} (port : framePort i = some p) (idle : s.idleAt p)
    (served : serve i s = .after s checks (.ok t)) (passed : firstRefusal checks = none) :
    exec i s = .next (t.replying p (echoOf i) .ok []) :=
  exec_accepted port idle served passed nofun

theorem firstRefusal_cons (b : Bool) (o : ReplyOutcome) (rest : List (Bool × ReplyOutcome)) :
    firstRefusal ((b, o) :: rest) = if b = true then some o else firstRefusal rest := by
  cases b <;> rfl

theorem optOut_eq_true {ok : Nat → Bool} {x : Option Nat} : optOut ok x = true ↔ ∃ n, x = some n ∧ ok n = false := by
  cases x <;> simp [optOut]

theorem optOut_eq_false {ok : Nat → Bool} {x : Option Nat} : optOut ok x = false ↔ ∀ n, x = some n → ok n = true := by
  cases x <;> simp [optOut]

end Sys2Proof.Machine
end

section
/-! PROOFS. The settings of the section (R41, R155): the values given are written, or a value out of range refuses the
request. -/

namespace Sys2Proof.Machine

theorem within_eq_false {low high n : Nat} : within low high n = false ↔ n < low ∨ high < n := by
  rw [← Bool.not_eq_true]; simp only [within, Bool.and_eq_true, decide_eq_true_iff]; omega

theorem within_eq_true {low high n : Nat} : within low high n = true ↔ low ≤ n ∧ n ≤ high := by
  simp [within]

theorem unitIn_eq_true {n : Nat} : unitIn n = true ↔ 60 ≤ n ∧ n ≤ 3600 ∧ n % 60 = 0 := by
  simp [unitIn, within_eq_true, and_assoc]

theorem unitIn_eq_false {n : Nat} : unitIn n = false ↔ n < 60 ∨ 3600 < n ∨ n % 60 ≠ 0 := by
  rw [← Bool.not_eq_true, unitIn_eq_true]; omega

variable {q : Port} {s : State}

theorem exec_setPinsetterTimers_denied (idle : s.idleAt q) (console : q.isConsole = true)
    (warmUp cycle travel window : Option Nat) :
    exec (.setPinsetterTimers q warmUp cycle travel window) s = .next (s.replying q 0x1C .denied []) :=
  exec_refused rfl idle rfl (by rw [firstRefusal_cons, if_pos console]) nofun

theorem exec_setPinsetterTimers_range (idle : s.idleAt q) (desk : q.isConsole = false)
    {warmUp cycle travel window : Option Nat} (n : Nat)
    (out : warmUp = some n ∧ (n < 2 ∨ 30 < n) ∨ cycle = some n ∧ (n < 6 ∨ 30 < n) ∨
      travel = some n ∧ (n < 2 ∨ 10 < n) ∨ window = some n ∧ (n < 2 ∨ 20 < n)) :
    exec (.setPinsetterTimers q warmUp cycle travel window) s = .next (s.replying q 0x1C .range []) := by
  refine exec_refused rfl idle rfl ?_ nofun
  rw [desk, firstRefusal_false, firstRefusal_cons, if_pos]
  simp only [Bool.or_eq_true, optOut_eq_true, within_eq_false]
  rcases out with h | h | h | h
  · exact .inl (.inl (.inl ⟨n, h⟩))
  · exact .inl (.inl (.inr ⟨n, h⟩))
  · exact .inl (.inr ⟨n, h⟩)
  · exact .inr ⟨n, h⟩

theorem exec_setPinsetterTimers_ok (idle : s.idleAt q) (loaded : s.loading = false) (desk : q.isConsole = false)
    {warmUp cycle travel window : Option Nat} (warm : ∀ n, warmUp = some n → 2 ≤ n ∧ n ≤ 30)
    (cyc : ∀ n, cycle = some n → 6 ≤ n ∧ n ≤ 30) (trav : ∀ n, travel = some n → 2 ≤ n ∧ n ≤ 10)
    (win : ∀ n, window = some n → 2 ≤ n ∧ n ≤ 20) :
    exec (.setPinsetterTimers q warmUp cycle travel window) s =
      .next ({ s with timers := s.timers.write warmUp cycle travel window }.replying q 0x1C .ok []) := by
  refine exec_ok rfl idle rfl ?_
  have inRange : (optOut (within 2 30) warmUp || optOut (within 6 30) cycle || optOut (within 2 10) travel ||
      optOut (within 2 20) window) = false := by
    simp only [Bool.or_eq_false_iff, optOut_eq_false, within_eq_true]
    exact ⟨⟨⟨warm, cyc⟩, trav⟩, win⟩
  rw [desk, inRange, loaded]
  rfl

theorem exec_setBillingSettings_denied (idle : s.idleAt q) (notDesk : q ≠ .dk) (unit front back : Option Nat) :
    exec (.setBillingSettings q unit front back) s = .next (s.replying q 0x35 .denied []) :=
  exec_refused rfl idle rfl (by rw [firstRefusal_cons, if_pos (by simpa using notDesk)]) nofun

theorem exec_setBillingSettings_range (idle : s.idleAt .dk) {unit front back : Option Nat} (n : Nat)
    (out : unit = some n ∧ (n < 60 ∨ 3600 < n ∨ n % 60 ≠ 0) ∨ front = some n ∧ 1800 < n ∨ back = some n ∧ 1800 < n) :
    exec (.setBillingSettings .dk unit front back) s = .next (s.replying .dk 0x35 .range []) := by
  refine exec_refused rfl idle rfl ?_ nofun
  rw [show (Port.dk != .dk) = false from rfl, firstRefusal_false, firstRefusal_cons, if_pos]
  simp only [Bool.or_eq_true, optOut_eq_true, unitIn_eq_false, decide_eq_false_iff_not, Nat.not_le]
  rcases out with h | h | h
  · exact .inl (.inl ⟨n, h⟩)
  · exact .inl (.inr ⟨n, h⟩)
  · exact .inr ⟨n, h⟩

theorem exec_setBillingSettings_ok (idle : s.idleAt .dk) (loaded : s.loading = false) {unit front back : Option Nat}
    (units : ∀ n, unit = some n → 60 ≤ n ∧ n ≤ 3600 ∧ n % 60 = 0) (fronts : ∀ n, front = some n → n ≤ 1800)
    (backs : ∀ n, back = some n → n ≤ 1800) :
    exec (.setBillingSettings .dk unit front back) s =
      .next ({ s with billing := s.billing.write unit front back }.replying .dk 0x35 .ok []) := by
  refine exec_ok rfl idle rfl ?_
  have inRange : (optOut unitIn unit || optOut (· ≤ 1800) front || optOut (· ≤ 1800) back) = false := by
    simp only [Bool.or_eq_false_iff, optOut_eq_false, unitIn_eq_true, decide_eq_true_iff]
    exact ⟨⟨units, fronts⟩, backs⟩
  rw [inRange, loaded]
  rfl

/-- Settles O23, by the outcomes of the two requests. -/
theorem sectionSettingsAreWritten : Obligations.SectionSettingsAreWritten := by
  rintro q warmUp cycle travel window unit front back s ⟨idle, loaded⟩
  refine ⟨fun console => exec_setPinsetterTimers_denied idle console _ _ _ _,
    fun notDesk => exec_setBillingSettings_denied idle notDesk _ _ _,
    fun desk => ⟨fun n out => exec_setPinsetterTimers_range idle desk n out,
      fun warm cyc trav win => exec_setPinsetterTimers_ok idle loaded desk warm cyc trav win⟩, ?_⟩
  rintro rfl
  exact ⟨fun n out => exec_setBillingSettings_range idle n out,
    fun units fronts backs => exec_setBillingSettings_ok idle loaded units fronts backs⟩

end Sys2Proof.Machine
end

section
/-! PROOFS. The attention flags and the line (R193), and the requests to a Port Interface (R194, R195). -/

namespace Sys2Proof.Machine

/-! ## Flags and the line -/

/-- A set is not empty exactly where one of its flags is set. -/
theorem flagSet_ne_zero_iff (x : FlagSet) : x ≠ 0 ↔ ∃ k < 9, x.getLsbD k = true := by
  constructor
  · intro notEmpty
    by_contra none
    refine notEmpty (BitVec.eq_of_getLsbD_eq fun k hk => ?_)
    rw [Bool.eq_false_iff.mpr fun set => none ⟨k, hk, set⟩]
    simp
  · rintro ⟨k, -, set⟩ rfl
    simp at set

theorem attentionLine_iff (s : State) (p : Port) :
    s.attentionLine p = true ↔ ∃ k < 9, (s.attention p).getLsbD k = true ∧ (s.port p).mask.getLsbD k = false := by
  rw [State.attentionLine, bne_iff_ne, flagSet_ne_zero_iff]
  refine exists_congr fun k => and_congr_right fun small => ?_
  simp [small]

theorem getLsbD_flagIf (c : Bool) (k j : Fin 9) : (flagIf c k).getLsbD j = (c && decide (j = k)) := by
  cases c <;> revert k j <;> decide

theorem getLsbD_levelFlags_dk (s : State) (j : Fin 9) :
    (s.levelFlags .dk).getLsbD j =
      (s.slipWaiting .dk && decide (j = 0) || (s.fetchWanted && decide (j = 1) || s.clockUnset && decide (j = 2))) := by
  rw [← getLsbD_flagIf _ 0 j, ← getLsbD_flagIf _ 1 j, ← getLsbD_flagIf _ 2 j, ← BitVec.getLsbD_or, ← BitVec.getLsbD_or]
  rfl

theorem getLsbD_levelFlags_mc (s : State) (j : Fin 9) :
    (s.levelFlags .mc).getLsbD j = (s.slipWaiting .mc && decide (j = 0) || s.pinsToSet && decide (j = 1)) := by
  rw [← getLsbD_flagIf _ 0 j, ← getLsbD_flagIf _ 1 j, ← BitVec.getLsbD_or]
  rfl

theorem getLsbD_levelFlags_console (s : State) (n : Fin 8) (j : Fin 9) :
    (s.levelFlags (.console n)).getLsbD j = (s.slipWaiting (.console n) && decide (j = 0)) := by
  rw [← getLsbD_flagIf _ 0 j, State.levelFlags]
  exact congrArg (BitVec.getLsbD · j) BitVec.or_zero

theorem levelFlags_zero (s : State) (p : Port) :
    (s.levelFlags p).getLsbD 0 = true ↔ s.pool.posts[p.index] ≠ [] := by
  have slips : s.slipWaiting p = true ↔ s.pool.posts[p.index] ≠ [] := by simp [State.slipWaiting]
  rw [← slips, Bool.eq_iff_iff.symm]
  cases p with
  | dk => exact (getLsbD_levelFlags_dk s 0).trans (by simp)
  | mc => exact (getLsbD_levelFlags_mc s 0).trans (by simp)
  | console n => exact (getLsbD_levelFlags_console s n 0).trans (by simp)

theorem levelFlags_dk_one (s : State) : (s.levelFlags .dk).getLsbD 1 = true ↔ s.directory.fetch ≠ [] := by
  rw [show (s.levelFlags .dk).getLsbD 1 = s.fetchWanted from (getLsbD_levelFlags_dk s 1).trans (by simp)]
  simp [State.fetchWanted]

theorem levelFlags_dk_two (s : State) : (s.levelFlags .dk).getLsbD 2 = true ↔ s.clock.unset = true := by
  rw [show (s.levelFlags .dk).getLsbD 2 = s.clockUnset from (getLsbD_levelFlags_dk s 2).trans (by simp)]
  rfl

theorem levelFlags_mc_one (s : State) :
    (s.levelFlags .mc).getLsbD 1 = true ↔ ∃ l, (s.lane l).sup.state = .handSet := by
  rw [show (s.levelFlags .mc).getLsbD 1 = s.pinsToSet from (getLsbD_levelFlags_mc s 1).trans (by simp)]
  simp [State.pinsToSet, allLanes]

/-- Settles O11: the line by the bits of the unmasked set, each level flag by its condition. -/
theorem attentionFollowsFlags : Obligations.AttentionFollowsFlags := fun s p =>
  ⟨attentionLine_iff s p, levelFlags_zero s p, levelFlags_dk_one s, levelFlags_dk_two s, levelFlags_mc_one s,
    fun _ => BitVec.getLsbD_or⟩

/-! ## Masks and events -/

variable {p : Port} {set : Nat} {s : State}

/-- The set after a write of an interface's record: its events, with the level flags as they stand. -/
theorem attention_modPort (s : State) (p : Port) (f : PortIf → PortIf) :
    (s.modPort p f).attention p = (f (s.port p)).events ||| s.levelFlags p := by
  rw [State.attention, port_modPort_same]
  cases p <;> rfl

theorem foreignFlags_eq_true : foreignFlags p set = true ↔ 512 ≤ set ∨ BitVec.ofNat 9 set &&& ~~~(ownFlags p) ≠ 0 := by
  simp [foreignFlags]

theorem foreignFlags_eq_false (small : set < 512) (own : BitVec.ofNat 9 set &&& ~~~(ownFlags p) = 0) :
    foreignFlags p set = false := by
  rw [← Bool.not_eq_true, foreignFlags_eq_true]
  rintro (large | foreign)
  · omega
  · exact foreign own

theorem exec_setMask_range (idle : s.idleAt p) (foreign : foreignFlags p set = true) :
    exec (.setMask p set) s = .next (s.replying p 0x41 .range []) :=
  exec_refused rfl idle rfl (by rw [foreign]; rfl) nofun

theorem exec_clearAttention_range (idle : s.idleAt p) (foreign : foreignFlags p set = true) :
    exec (.clearAttention p set) s = .next (s.replying p 0x42 .range []) :=
  exec_refused rfl idle rfl (by rw [foreign]; rfl) nofun

theorem exec_setMask_ok (able : s.canServe p) (own : foreignFlags p set = false) :
    exec (.setMask p set) s =
      .next ((s.modPort p fun x => { x with mask := BitVec.ofNat 9 set }).replying p 0x41 .ok
        (flagBytes ((s.port p).events ||| s.levelFlags p))) := by
  obtain ⟨idle, loaded⟩ := able
  have taken := exec_accepted (i := .setMask p set) rfl idle rfl (by rw [own, loaded]; rfl) nofun
  rw [State.withAttention, attention_modPort] at taken
  exact taken

theorem exec_clearAttention_ok (able : s.canServe p) (own : foreignFlags p set = false) :
    exec (.clearAttention p set) s =
      .next ((s.modPort p fun x => { x with events := x.events &&& ~~~(BitVec.ofNat 9 set) }).replying p 0x42 .ok
        (flagBytes (((s.port p).events &&& ~~~(BitVec.ofNat 9 set)) ||| s.levelFlags p))) := by
  obtain ⟨idle, loaded⟩ := able
  have taken := exec_accepted (i := .clearAttention p set) rfl idle rfl (by rw [own, loaded]; rfl) nofun
  rw [State.withAttention, attention_modPort] at taken
  exact taken

/-! ## Signals -/

theorem ofByte?_index (q : Port) : Port.ofByte? q.index.val = some q := by
  cases q with
  | dk => rfl
  | mc => rfl
  | console n => simp [Port.ofByte?, Port.index]

theorem exec_signal_denied {target : Nat} (idle : s.idleAt p) (console : p.isConsole = true) (large : 1 < target) :
    exec (.signal p target) s = .next (s.replying p 0x43 .denied []) :=
  exec_refused rfl idle rfl (by rw [console, decide_eq_true large]; rfl) nofun

theorem exec_signal_range {target : Nat} (idle : s.idleAt p) (desk : p.isConsole = false) (large : 9 < target) :
    exec (.signal p target) s = .next (s.replying p 0x43 .range []) :=
  exec_refused rfl idle rfl (by rw [desk, decide_eq_true large]; rfl) nofun

theorem exec_signal_ok (able : s.canServe p) (q : Port) (allowed : p.isConsole = true → q.index.val ≤ 1) :
    exec (.signal p q.index.val) s = .next ((s.setEvent q (signalBit q)).replying p 0x43 .ok []) := by
  obtain ⟨idle, loaded⟩ := able
  have permitted : (p.isConsole && decide (1 < q.index.val)) = false := by
    cases console : p.isConsole with
    | false => rfl
    | true => simpa using allowed console
  have known : decide (9 < q.index.val) = false := by simpa using Nat.le_of_lt_succ q.index.isLt
  have taken := exec_ok (i := .signal p q.index.val) rfl idle rfl (by rw [permitted, known, loaded]; rfl)
  rw [ofByte?_index] at taken
  exact taken

/-- Settles O10, by the outcomes of the three requests. -/
theorem masksAndSignals : Obligations.MasksAndSignals := by
  refine ⟨fun p set s able => ⟨fun foreign => ?_, fun small own => ?_⟩, fun p target s able =>
    ⟨fun console large => exec_signal_denied able.1 console large,
      fun desk large => exec_signal_range able.1 desk large, ?_⟩⟩
  · have foreign := foreignFlags_eq_true.mpr foreign
    exact ⟨exec_setMask_range able.1 foreign, exec_clearAttention_range able.1 foreign⟩
  · have own := foreignFlags_eq_false small own
    exact ⟨exec_setMask_ok able own, exec_clearAttention_ok able own⟩
  · rintro q rfl allowed
    exact exec_signal_ok able q allowed

end Sys2Proof.Machine
end

section
/-! PROOFS. The ports the catalogue permits (R189, R190), and the settings load (R189 step 4, R200). -/

namespace Sys2Proof.Machine

/-! ## Refused DENIED at the first check -/

/-- Refused DENIED with nothing changed. -/
def Served.DeniedOn (r : Served) (s : State) : Prop := r.outcome = .denied ∧ r.state = s ∧ r.results = []

theorem deniedOn_after {s : State} {b : Bool} (h : b = true) (rest : List (Bool × ReplyOutcome)) (taken : Served) :
    (Served.after s ((b, .denied) :: rest) taken).DeniedOn s := by
  rw [after_refused (by rw [h]; rfl)]
  exact ⟨rfl, rfl, rfl⟩

variable {a : Access} {p : Port} {s : State}

theorem not_dk_of_desk (row : some .desk = some a) (refused : a.permits p = false) : (p != .dk) = true := by
  cases row; simpa [Access.permits] using refused

theorem not_mc_of_mechanic (row : some .mechanic = some a) (refused : a.permits p = false) : (p != .mc) = true := by
  cases row; simpa [Access.permits] using refused

theorem mc_of_deskConsole (row : some .deskConsole = some a) (refused : a.permits p = false) : (p == .mc) = true := by
  cases row; simpa [Access.permits] using refused

theorem console_of_deskMechanic (row : some .deskMechanic = some a) (refused : a.permits p = false) :
    p.isConsole = true := by
  cases row; simpa [Access.permits] using refused

theorem all_permitted (row : some .all = some a) : a.permits p = true := by
  cases row; rfl

/-- A request from a port that its row of the catalogue does not permit. -/
theorem deniedOn_serve {i : Instr} {k : Nat} (place : requestPlace i = some (k, p)) (row : catalogue[k]? = some a)
    (refused : a.permits p = false) : (serve i s).DeniedOn s := by
  cases i
  case openLane | closeLane | applyCorrection | supplyBowler | unknownBowler | updateBowler | dropBowler
      | setRangeEntry | readBowler | readFetchQueue | setClock | setTariffLayout | setPrices | setBillingSettings
      | addCredit | sectionRestart | storeSettings =>
    cases place
    exact deniedOn_after (not_dk_of_desk row refused) _ _
  case lockout | unlock | manualCycle | clearFault | pinsSet | clearOverdue | liftRestart =>
    cases place
    exact deniedOn_after (not_mc_of_mechanic row refused) _ _
  case parkLane | resumeLane | setLaneSettings | addBowler | removeBowler | away | back | setPairMode
      | setPairSettings | reball =>
    cases place
    exact deniedOn_after (by rw [mc_of_deskConsole row refused]; rfl) _ _
  case setPinsetterTimers | setReturnSettings | setOutcome | readSlipPool =>
    cases place
    exact deniedOn_after (console_of_deskMechanic row refused) _ _
  case readLaneStatus | readLaneSummary | readReturn | readRoster | readFrameSheet | readTariff | readMeter | takeSlip
      | writeSlip | postSlip | fetchSlip | returnSlip | readPort | setMask | clearAttention | signal =>
    cases place
    exact absurd (all_permitted row) (ne_true_of_eq_false refused)
  all_goals exact nomatch place

/-! ## A console outside its own pair -/

theorem outsidePair_of_ne {n : Fin 8} {x : Nat} (other : x ≠ n.val + 1) : outsidePair (.console n) x = true := by
  simpa [outsidePair] using other

theorem outsideLane_of_ne {n : Fin 8} {x : Nat} (odd : x ≠ 2 * n.val + 1) (even : x ≠ 2 * n.val + 2) :
    outsideLane (.console n) x = true := by
  simpa [outsideLane] using ⟨odd, even⟩

/-- Each request of a console that names a pair has the pair in its first check. -/
theorem denied_outsidePair {n : Fin 8} {x : Nat} (other : x ≠ n.val + 1) (s : State) (a b : Nat)
    (v w y z : Option Nat) :
    ∀ i ∈ [Instr.readReturn (.console n) x, .addBowler (.console n) x a b, .removeBowler (.console n) x a,
        .away (.console n) x a, .back (.console n) x a, .setPairMode (.console n) x a,
        .setPairSettings (.console n) x v w y z, .readRoster (.console n) x, .readFrameSheet (.console n) x a b],
      (serve i s).outcome = .denied := by
  have outside := outsidePair_of_ne other
  have roster : (Port.console n == .mc || outsidePair (.console n) x) = true := by rw [outside, Bool.or_true]
  have settings : (Port.console n == .mc || outsidePair (.console n) x || handicapFromConsole (.console n) w y z) =
      true := by rw [roster, Bool.true_or]
  simp only [List.forall_mem_cons, List.not_mem_nil, false_imp_iff, implies_true, and_true]
  exact ⟨(deniedOn_after outside _ _).1, (deniedOn_after roster _ _).1, (deniedOn_after roster _ _).1,
    (deniedOn_after roster _ _).1, (deniedOn_after roster _ _).1, (deniedOn_after roster _ _).1,
    (deniedOn_after settings _ _).1, (deniedOn_after outside _ _).1, (deniedOn_after outside _ _).1⟩

/-- Each request of a console that names a lane has the lane in its first check. -/
theorem denied_outsideLane {n : Fin 8} {x : Nat} (odd : x ≠ 2 * n.val + 1) (even : x ≠ 2 * n.val + 2) (s : State)
    (a c : Nat) (v w y z : Option Nat) :
    ∀ i ∈ [Instr.parkLane (.console n) x a, .resumeLane (.console n) x, .setLaneSettings (.console n) c x v w y z,
        .readLaneStatus (.console n) x, .reball (.console n) x, .readMeter (.console n) x],
      (serve i s).outcome = .denied := by
  have outside := outsideLane_of_ne odd even
  have lane : (Port.console n == .mc || outsideLane (.console n) x) = true := by rw [outside, Bool.or_true]
  have park : (Port.console n == .mc || outsideLane (.console n) x || maskBarred (.console n) a) = true := by
    rw [lane, Bool.true_or]
  have settings : (Port.console n == .mc || settingsBarred (.console n) c x v) = true := by
    simp [settingsBarred, outside, Port.isConsole]
  have reball : (Port.console n == .mc || outsideLane (.console n) x || s.alternateConsole (.console n)) = true := by
    rw [lane, Bool.true_or]
  simp only [List.forall_mem_cons, List.not_mem_nil, false_imp_iff, implies_true, and_true]
  exact ⟨(deniedOn_after park _ _).1, (deniedOn_after lane _ _).1, (deniedOn_after settings _ _).1,
    (deniedOn_after outside _ _).1, (deniedOn_after reball _ _).1, (deniedOn_after outside _ _).1⟩

/-- Settles O4: the first check of every request is its row of the catalogue and the console's own pair. -/
theorem portsAreLimited : Obligations.PortsAreLimited :=
  ⟨fun _ _ _ _ _ place row refused => deniedOn_serve place row refused, fun _ s _ a b c v w y z =>
    ⟨fun other => denied_outsidePair other s a b v w y z, fun odd even => denied_outsideLane odd even s a c v w y z⟩⟩

/-! ## During the settings load -/

/-- Two lists of checks, of a request during the load and of the same request without it: the same refusals DENIED and
RANGE, and then BUSY in the first. -/
inductive LoadChecks : List (Bool × ReplyOutcome) → List (Bool × ReplyOutcome) → Prop
  | busy {b : Bool} {rest other : List (Bool × ReplyOutcome)} (loading : b = true) :
      LoadChecks ((b, .busy) :: rest) other
  | before {b : Bool} {o : ReplyOutcome} {rest other : List (Bool × ReplyOutcome)} (early : o = .denied ∨ o = .range)
      (tail : LoadChecks rest other) : LoadChecks ((b, o) :: rest) ((b, o) :: other)

/-- What the load answers by two such lists. -/
theorem firstRefusal_of_loadChecks {cs ds : List (Bool × ReplyOutcome)} (h : LoadChecks cs ds) :
    firstRefusal cs = some .busy ∨
      ∃ o, (o = .denied ∨ o = .range) ∧ firstRefusal cs = some o ∧ firstRefusal ds = some o := by
  induction h with
  | busy loading => exact .inl (by rw [loading]; rfl)
  | @before b o _ _ early _ ih =>
    cases b with
    | true => exact .inr ⟨o, early, rfl, rfl⟩
    | false => simpa using ih

/-- What the statement asks of an answer during the load, beside the answer without it. -/
def Served.LoadAnswer (r other : Served) (s : State) : Prop :=
  r.state = s ∧ (r.outcome = .denied ∨ r.outcome = .range ∨ r.outcome = .busy) ∧
    (other.outcome ≠ .denied → other.outcome ≠ .range → r.outcome = .busy)

theorem loadAnswer_after {s t : State} {cs ds : List (Bool × ReplyOutcome)} (h : LoadChecks cs ds)
    (taken other : Served) : (Served.after s cs taken).LoadAnswer (.after t ds other) s := by
  rcases firstRefusal_of_loadChecks h with busy | ⟨o, early, refused, same⟩
  · rw [after_refused busy]
    exact ⟨rfl, .inr (.inr rfl), fun _ _ => rfl⟩
  · rw [after_refused refused, after_refused same]
    refine ⟨rfl, early.imp_right .inl, fun notDenied notRange => ?_⟩
    rcases early with denied | range
    · exact absurd denied notDenied
    · exact absurd range notRange

/-- The checks of every request: DENIED, RANGE, then BUSY. -/
theorem loadAnswer_serve {i : Instr} {s : State} (place : requestPlace i ≠ none) (loading : s.loading = true) :
    (serve i s).LoadAnswer (serve i { s with loading := false }) s := by
  cases i
  case openLane | closeLane | parkLane | resumeLane | setLaneSettings | readLaneStatus | lockout | unlock | manualCycle
      | clearFault | pinsSet | setPinsetterTimers | readReturn | clearOverdue | liftRestart | setReturnSettings
      | addBowler | removeBowler | away | back | setPairMode | setPairSettings | readRoster | readFrameSheet | reball
      | applyCorrection | supplyBowler | unknownBowler | updateBowler | dropBowler | setRangeEntry | readBowler
      | readFetchQueue | setClock | setTariffLayout | setPrices | setBillingSettings | addCredit | readMeter | setOutcome
      | signal =>
    exact loadAnswer_after (.before (.inl rfl) (.before (.inr rfl) (.busy loading))) _ _
  case readSlipPool | sectionRestart | storeSettings =>
    exact loadAnswer_after (.before (.inl rfl) (.busy loading)) _ _
  case writeSlip | postSlip | returnSlip | setMask | clearAttention =>
    exact loadAnswer_after (.before (.inr rfl) (.busy loading)) _ _
  case readLaneSummary | readTariff | takeSlip | fetchSlip | readPort => exact loadAnswer_after (.busy loading) _ _
  all_goals exact absurd rfl place

/-- Settles O5, by the order of every request's checks. -/
theorem loadAnswersBusy : Obligations.LoadAnswersBusy :=
  fun _ _ place loading => loadAnswer_serve place loading

end Sys2Proof.Machine
end

section
/-! PROOFS. Frames at a port: served, waiting, discarded, and the end of a reply (R186, R187). -/

namespace Sys2Proof.Machine

variable {s : State} {p : Port} {i : Instr}

/-- An event at a part whose RESET is released. -/
theorem exec_replyEnd (released : s.resetHeld = false) (p : Port) : exec (.replyEnd p) s = .next (replyEnd p s) :=
  congrArg Host.Outcome.next (unlessHeld_released released (replyEnd p))

theorem replyEnd_last (busy : (s.port p).reply ≠ none) (empty : (s.port p).queue = []) :
    replyEnd p s = s.modPort p fun x => { x with reply := none } := by
  rw [replyEnd, if_pos (Option.isSome_iff_ne_none.mpr busy), empty]
  rfl

/-- The oldest waiting frame is served at the end of a reply. -/
theorem replyEnd_next {rest : List Instr} (busy : (s.port p).reply ≠ none) (waits : (s.port p).queue = i :: rest) :
    replyEnd p s = (s.modPort p fun x => { x with reply := none, queue := rest }).serveAt p i := by
  rw [replyEnd, if_pos (Option.isSome_iff_ne_none.mpr busy), waits]
  simp only [State.endReply, modPort_modPort]

theorem replyEnd_none (free : (s.port p).reply = none) : replyEnd p s = s := by
  rw [replyEnd, free]
  rfl

/-- A frame served leaves the others waiting, but for a SECTION RESTART. -/
theorem queue_serveAt (framed : framePort i = some p) (notRestart : i ≠ .sectionRestart p) (s : State) :
    ((s.serveAt p i).port p).queue = (s.port p).queue := by
  rw [State.serveAt, queue_modPort _ p p rfl]
  refine queue_serve_same s (fun o restart => notRestart ?_) p
  subst restart
  cases framed
  rfl

theorem exec_badFrame (idle : s.idleAt p) (code : Byte) :
    exec (.badFrame p code) s = .next (s.modPort p fun x =>
      { x with rx := .hunt, reply := some ⟨code, .frame, []⟩, framed := min (x.framed + 1) 65535 }) := by
  rw [exec_frame (i := .badFrame p code) rfl, receive_idle idle]
  simp only [State.serveAt, State.setRx, modPort_modPort]
  rfl

/-- Settles O6, by what the port finds: nothing to answer, room for a frame that waits, or none; and by the frames that
wait at the end of a reply. -/
theorem framesAreServedInOrder : Obligations.FramesAreServedInOrder := by
  refine ⟨fun i s p framed able => ⟨fun idle served => exec_idle framed idle served, fun busy => ⟨fun room => ?_,
    fun full => ?_⟩, fun busy empty => ?_, fun rest busy waits => ?_⟩, fun p code s idle => exec_badFrame idle code,
    fun p s able free => ?_⟩
  · rw [exec_frame framed, receive_waits able busy room]
  · rw [exec_frame framed, receive_overruns able full]
    rfl
  · rw [exec_replyEnd able.1, replyEnd_last busy empty]
  · refine ⟨_, exec_replyEnd able.1 p, replyEnd_next busy waits, fun notRestart => ?_⟩
    rw [replyEnd_next busy waits, queue_serveAt framed notRestart, port_modPort_same]
  · rw [exec_replyEnd able.1, replyEnd_none free]

end Sys2Proof.Machine
end

section
/-! PROOFS. The reads (R62, R82, R109, R136, R144, R154, R168, R182, R191, R192). -/

namespace Sys2Proof.Machine

variable {s : State} {q : Port} {l : Fin 16} {p : Fin 8}

/-! ## Lengths of what a line carries -/

@[simp] theorem length_byte1 (n : Nat) : (byte1 n).length = 1 := rfl
@[simp] theorem length_byte2 (n : Nat) : (byte2 n).length = 2 := rfl
@[simp] theorem length_ones (n : Nat) : (ones n).length = n := List.length_replicate
@[simp] theorem length_byteBool (b : Bool) : (byteBool b).length = 1 := rfl
@[simp] theorem length_opt1 (x : Option Nat) : (opt1 x).length = 1 := by cases x <;> rfl
@[simp] theorem length_opt2 (x : Option Nat) : (opt2 x).length = 2 := by cases x <;> rfl
@[simp] theorem length_optBool (x : Option Bool) : (optBool x).length = 1 := by cases x <;> rfl
@[simp] theorem length_pinBytes (x : PinSet) : (pinBytes x).length = 2 := rfl
@[simp] theorem length_optPins (x : Option PinSet) : (optPins x).length = 2 := by cases x <;> rfl
@[simp] theorem length_byteSet (bits : List Bool) : (byteSet bits).length = 1 := rfl

@[simp] theorem length_sessionBytes (n : Session) (l : Fin 16) : (n.bytes l).length = 11 := by simp [Session.bytes]
@[simp] theorem length_supervisorBytes (u : Supervisor) : u.pinBytes.length = 13 := by simp [Supervisor.pinBytes]

@[simp] theorem length_inFlightBytes (d : Option Delivery) : (inFlightBytes d).length = 5 := by
  cases d <;> simp [inFlightBytes, Marks.byte]

@[simp] theorem length_lastBytes (d : Option Delivery) : (lastBytes d).length = 10 := by
  cases d <;> simp [lastBytes, Marks.byte]

@[simp] theorem length_faultBytes (f : Option FaultRec) : (faultBytes f).length = 12 := by simp [faultBytes]

@[simp] theorem length_snapshotBytes (n : Option Snapshot) : (snapshotBytes n).length = 6 := by
  cases n <;> simp [snapshotBytes]

theorem length_statusBytes (s : State) (l : Fin 16) : (s.statusBytes l).length = 80 := by
  unfold State.statusBytes
  extract_lets a u
  clear_value u a
  simp only [List.length_append, length_sessionBytes, length_supervisorBytes, length_inFlightBytes,
    length_lastBytes, length_faultBytes, length_optPins, length_opt2, length_byte1, length_byte2, length_pinBytes,
    length_snapshotBytes]

/-! ## The lane summary -/

theorem outsideLane_of_not_owns (h : ¬ ownsPair q (pairOf l)) : outsideLane q (laneNo l) = true := by
  cases q with
  | dk => exact absurd (ownsPair_dk _) h
  | mc => exact absurd (ownsPair_mc _) h
  | console n =>
    rw [ownsPair_console] at h
    revert n l; decide

theorem summaryEntry_withheld (h : ¬ ownsPair q (pairOf l)) : s.summaryEntry q l = [0xFF, 0xFF, 0xFF, 0xFF] := by
  rw [State.summaryEntry, if_pos (outsideLane_of_not_owns h)]
  rfl

theorem summaryEntry_own (h : ownsPair q (pairOf l)) :
    s.summaryEntry q l =
      [(s.session l).code, (s.lane l).sup.state.code, (s.ret (pairOf l)).lift.code,
        match s.upSlot l with
        | some i => i.val + 1
        | none => 0].map (BitVec.ofNat 8) := by
  rw [State.summaryEntry, if_neg (by rw [outsideLane_of_owns h]; decide)]
  cases s.upSlot l <;> rfl

theorem length_summaryEntry (s : State) (q : Port) (l : Fin 16) : (s.summaryEntry q l).length = 4 := by
  unfold State.summaryEntry
  split <;> simp

theorem length_summary (s : State) (q : Port) : ((allLanes.map (s.summaryEntry q)).flatten).length = 64 := by
  rw [List.length_flatten, List.map_map]
  simp [Function.comp_def, length_summaryEntry, allLanes]

/-! ## Reads of a lane or a pair -/

theorem exec_readLaneStatus (able : s.canServe q) (owns : ownsPair q (pairOf l)) :
    exec (.readLaneStatus q (laneNo l)) s = .next (s.replying q 0x15 .ok (s.statusBytes l)) := by
  have taken := exec_accepted (i := .readLaneStatus q (laneNo l)) rfl able.1 rfl
    (by rw [outsideLane_of_owns owns, inLanes_laneNo, able.2]; rfl) nofun
  rwa [laneIx_laneNo] at taken

theorem exec_readMeter (able : s.canServe q) (owns : ownsPair q (pairOf l)) :
    exec (.readMeter q (laneNo l)) s = .next (s.replying q 0x38 .ok (s.meterBytes l)) := by
  have taken := exec_accepted (i := .readMeter q (laneNo l)) rfl able.1 rfl
    (by rw [outsideLane_of_owns owns, inLanes_laneNo, able.2]; rfl) nofun
  rwa [laneIx_laneNo] at taken

theorem exec_readReturn (able : s.canServe q) (owns : ownsPair q p) :
    exec (.readReturn q (pairNo p)) s = .next (s.replying q 0x1D .ok (s.ret p).bytes) := by
  have taken := exec_accepted (i := .readReturn q (pairNo p)) rfl able.1 rfl
    (by rw [outsidePair_of_owns owns, inPairs_pairNo, able.2]; rfl) nofun
  rwa [pairIx_pairNo] at taken

theorem exec_readRoster (able : s.canServe q) (owns : ownsPair q p) :
    exec (.readRoster q (pairNo p)) s = .next (s.replying q 0x27 .ok (s.turn p).bytes) := by
  have taken := exec_accepted (i := .readRoster q (pairNo p)) rfl able.1 rfl
    (by rw [outsidePair_of_owns owns, inPairs_pairNo, able.2]; rfl) nofun
  rwa [pairIx_pairNo] at taken

/-- A slot that holds a game holds a bowler. -/
theorem not_empty_of_namedGame {x : Slot} {game : Nat} {g : NamedGame} (named : x.namedGame game = some g) :
    x.state ≠ .empty := by
  intro empty
  rw [Slot.namedGame, if_pos empty] at named
  cases named

theorem exec_readFrameSheet (able : s.canServe q) (owns : ownsPair q p) {i : Fin 12} {game : Nat} {g : NamedGame}
    (small : game ≤ 99) (named : (s.slot p i).namedGame game = some g) :
    exec (.readFrameSheet q (pairNo p) (slotNo i) game) s =
      .next (s.replying q 0x28 .ok ((s.slot p i).sheetBytes g)) := by
  have passed : firstRefusal
      [(outsidePair q (pairNo p), .denied), (!inPairs (pairNo p) || !inSlots (slotNo i) || 99 < game, .range),
        (s.loading, .busy), ((s.slot p i).state == .empty, .state),
        (((s.slot p i).namedGame game).isNone, .state)] = none := by
    rw [outsidePair_of_owns owns, inPairs_pairNo, inSlots_slotNo, able.2, named,
      decide_eq_false (Nat.not_lt.mpr small), beq_eq_false_iff_ne.mpr (not_empty_of_namedGame named)]
    rfl
  have taken := exec_accepted (i := .readFrameSheet q (pairNo p) (slotNo i) game) (s := s) rfl able.1 rfl
    (by rw [pairIx_pairNo, slotIx_slotNo]; exact passed) nofun
  rw [pairIx_pairNo, slotIx_slotNo, named] at taken
  exact taken

/-! ## Reads of the section -/

theorem exec_readLaneSummary (able : s.canServe q) :
    exec (.readLaneSummary q) s = .next (s.replying q 0x16 .ok ((allLanes.map (s.summaryEntry q)).flatten)) :=
  exec_accepted (i := .readLaneSummary q) rfl able.1 rfl (by rw [able.2]; rfl) nofun

theorem exec_readTariff (able : s.canServe q) :
    exec (.readTariff q) s = .next (s.replying q 0x36 .ok s.tariffBytes) :=
  exec_accepted (i := .readTariff q) rfl able.1 rfl (by rw [able.2]; rfl) nofun

theorem exec_readPort (able : s.canServe q) : exec (.readPort q) s = .next (s.replying q 0x40 .ok (s.portBytes q)) :=
  exec_accepted (i := .readPort q) rfl able.1 rfl (by rw [able.2]; rfl) nofun

theorem exec_readSlipPool (able : s.canServe q) (desk : q.isConsole = false) :
    exec (.readSlipPool q) s = .next (s.replying q 0x3F .ok s.pool.bytes) :=
  exec_accepted (i := .readSlipPool q) rfl able.1 rfl (by rw [desk, able.2]; rfl) nofun

theorem exec_readFetchQueue (able : s.canServe .dk) :
    exec (.readFetchQueue .dk) s =
      .next (s.replying .dk 0x31 .ok (byteList (s.directory.fetch.map byte2) ++ byte1 s.deferredCount)) :=
  exec_accepted (i := .readFetchQueue .dk) rfl able.1 rfl (by rw [directoryChecks, able.2]; rfl) nofun

theorem exec_readBowler (able : s.canServe .dk) {number : Nat} (low : 1 ≤ number) (high : number ≤ 65534) :
    exec (.readBowler .dk number) s =
      .next (s.replying .dk 0x30 .ok (s.directory.entryBytes number ++ s.directory.rangeBytes number ++
        s.placeBytes number ++ s.directory.countBytes)) := by
  have bowler : inBowlers number = true := by simpa [inBowlers] using ⟨low, high⟩
  exact exec_accepted (i := .readBowler .dk number) rfl able.1 rfl (by rw [directoryChecks, bowler, able.2]; rfl) nofun

/-- Settles O12, by each read as it is served. -/
theorem readsAnswer : Obligations.ReadsAnswer := by
  refine ⟨⟨rfl, rfl, rfl⟩, fun s q able => ⟨exec_readLaneSummary able, length_summary s q,
    fun l other => summaryEntry_withheld other, fun l own => summaryEntry_own own, fun l own =>
      ⟨exec_readLaneStatus able own, length_statusBytes s l, exec_readMeter able own⟩, fun p own =>
      ⟨exec_readReturn able own, exec_readRoster able own, fun i game g small named =>
        exec_readFrameSheet able own small named⟩⟩, fun s q able => ⟨exec_readTariff able, exec_readPort able,
    exec_readSlipPool able, ?_⟩⟩
  rintro rfl
  exact ⟨exec_readFetchQueue able, fun number low high => exec_readBowler able low high⟩

end Sys2Proof.Machine
end

section
/-! PROOFS. A request written as a frame body is read back as itself (R186, R190, R197). -/

namespace Sys2Proof.Machine

/-! ## Values that may be absent -/

theorem testBit_presenceOf (bits : List Bool) (k : Nat) : (presenceOf bits).testBit k = bits.getD k false := by
  induction bits generalizing k with
  | nil => simp [presenceOf]
  | cons b bits ih =>
    have unfolded : presenceOf (b :: bits) = b.toNat + 2 * presenceOf bits := rfl
    cases k with
    | zero => cases b <;> simp [unfolded, Nat.testBit_zero]
    | succ k =>
      have half : (presenceOf (b :: bits)) / 2 = presenceOf bits := by
        cases b <;> simp [unfolded]
        omega
      rw [Nat.testBit_succ, half, ih]
      rfl

theorem presenceOf_lt (bits : List Bool) : presenceOf bits < 2 ^ bits.length := by
  induction bits with
  | nil => exact Nat.one_pos
  | cons b bits ih =>
    have unfolded : presenceOf (b :: bits) = b.toNat + 2 * presenceOf bits := rfl
    rw [unfolded, List.length_cons, Nat.pow_succ]
    have := b.toNat_le
    omega

/-- An optional value stands beside its bit of the presence byte. -/
theorem optOf_presenceOf {bits : List Bool} {k : Nat} {x : Option Nat} (bit : bits.getD k false = x.isSome) :
    optOf (presenceOf bits) k (x.getD 0) = x := by
  rw [optOf, testBit_presenceOf, bit]
  cases x <;> rfl

theorem getD_fits {limit : Nat} {fits : Nat → Bool} (bound : ∀ n, fits n = true → n < limit) (pos : 0 < limit)
    {x : Option Nat} (h : optFits fits x = true) : x.getD 0 < limit := by
  cases x with
  | none => exact pos
  | some n => exact bound n h

/-! ## Parameters fit their widths -/

theorem fits8_iff (n : Nat) : fits8 n = true ↔ n < 256 := decide_eq_true_iff
theorem fits16_iff (n : Nat) : fits16 n = true ↔ n < 65536 := decide_eq_true_iff

theorem fits_optByte {x : Option Nat} (h : optFits fits8 x = true) : x.getD 0 < 256 :=
  getD_fits (fun n fit => by simpa [fits8] using fit) (by decide) h

theorem fits_optWord {x : Option Nat} (h : optFits fits16 x = true) : x.getD 0 < 65536 :=
  getD_fits (fun n fit => by simpa [fits16] using fit) (by decide) h

theorem presence_fits (bits : List Bool) (few : bits.length ≤ 8) : presenceOf bits < 256 :=
  (presenceOf_lt bits).trans_le (Nat.pow_le_pow_right (by decide) few)

/-- Every parameter of a request fits the width the catalogue gives it. -/
theorem requestFields_fit {i : Instr} {k : Nat} {p : Port} (wf : wellFormed i = true)
    (place : requestPlace i = some (k, p)) :
    List.Forall₂ (fun w n => n < 256 ^ w) (layoutOf k) (requestFields i) := by
  cases i
  case readLaneSummary | readFetchQueue | readTariff | takeSlip | fetchSlip | readSlipPool | readPort | sectionRestart
      | storeSettings =>
    cases place; exact .nil
  case openLane | closeLane | parkLane | resumeLane | readLaneStatus | lockout | unlock | manualCycle | clearFault
      | pinsSet | readReturn | clearOverdue | liftRestart | addBowler | removeBowler | away | back | setPairMode
      | readRoster | readFrameSheet | reball | applyCorrection | unknownBowler | dropBowler | setRangeEntry | readBowler
      | setClock | setTariffLayout | addCredit | readMeter | postSlip | setOutcome | returnSlip | setMask
      | clearAttention | signal =>
    cases place
    simpa [layoutOf, requestLayouts, requestFields, wellFormed, fits8, fits16, fits32, and_assoc] using wf
  case setLaneSettings | setPinsetterTimers | setReturnSettings | setPairSettings | supplyBowler | updateBowler
      | setPrices | setBillingSettings =>
    cases place
    simp only [wellFormed, Bool.and_eq_true, fits8_iff, fits16_iff] at wf
    simp [layoutOf, requestLayouts, requestFields, presence_fits, fits_optByte, fits_optWord, wf]
  case writeSlip q slip kind lane body =>
    cases place
    simp only [wellFormed, Bool.and_eq_true, beq_iff_eq, decide_eq_true_iff] at wf
    obtain ⟨⟨⟨slipFits, kindFits⟩, laneFits⟩, six⟩ := wf
    have bytes : List.Forall₂ (fun w n => n < 256 ^ w) (List.replicate body.length 1) (body.map BitVec.toNat) := by
      clear six
      induction body with
      | nil => exact .nil
      | cons b body ih => exact .cons (by simpa using b.isLt) ih
    rw [six] at bytes
    exact .cons (by simpa using slipFits) (.cons (by simpa using kindFits) (.cons (by simpa using laneFits) bytes))
  all_goals exact nomatch place

/-! ## The request read back -/

/-- The six bytes of a slip's body, read byte by byte. -/
theorem bytes_getD {body : List Byte} (six : body.length = 6) (fields : List Nat) :
    ((List.range 6).map fun j => BitVec.ofNat 8 ((fields ++ body.map BitVec.toNat).getD (j + fields.length) 0)) = body := by
  refine List.ext_getElem (by simp [six]) fun j h _ => ?_
  have small : j < body.length := by simpa [six] using h
  simp [List.getElem?_append_right, small]

/-- A request is what its place and its parameters spell. -/
theorem requestOf_fields {i : Instr} {k : Nat} {p : Port} (wf : wellFormed i = true)
    (place : requestPlace i = some (k, p)) : requestOf p k (fun j => (requestFields i).getD j 0) = i := by
  cases i
  case setLaneSettings | setPinsetterTimers | setReturnSettings | setPairSettings | supplyBowler | updateBowler
      | setPrices | setBillingSettings =>
    cases place
    simp [requestOf, requestFields, optOf_presenceOf]
  case writeSlip q slip kind lane body =>
    cases place
    have six : body.length = 6 := by
      simp only [wellFormed, Bool.and_eq_true, beq_iff_eq] at wf
      exact wf.2
    exact congrArg (Instr.writeSlip p slip kind lane) (bytes_getD six [slip, kind, lane])
  case openLane | closeLane | parkLane | resumeLane | readLaneStatus | lockout | unlock | manualCycle | clearFault
      | pinsSet | readReturn | clearOverdue | liftRestart | addBowler | removeBowler | away | back | setPairMode
      | readRoster | readFrameSheet | reball | applyCorrection | unknownBowler | dropBowler | setRangeEntry | readBowler
      | setClock | setTariffLayout | addCredit | readMeter | postSlip | setOutcome | returnSlip | setMask
      | clearAttention | signal | readLaneSummary | readFetchQueue | readTariff | takeSlip | fetchSlip | readSlipPool
      | readPort | sectionRestart | storeSettings =>
    cases place
    rfl
  all_goals exact nomatch place

/-- A body with a known code and its parameters in their widths. -/
theorem parseBody_known (p : Port) {k : Nat} (known : k < 54) {fields : List Nat}
    (fit : List.Forall₂ (fun w n => n < 256 ^ w) (layoutOf k) fields) :
    parseBody p (codeOf k :: writeFields (layoutOf k) fields) = requestOf p k fun j => fields.getD j 0 := by
  have back : (codeOf k).toNat - 0x10 = k := by
    rw [codeOf, BitVec.toNat_ofNat]
    omega
  simp only [parseBody, knownCode_codeOf known, if_true, back, readFields_writeFields fit]

/-- Settles O7: the parameters fit their widths, so they are read as they were written. -/
theorem requestBodyRoundTrip : Obligations.RequestBodyRoundTrip := by
  intro i k p wf place
  have body : requestBody i = codeOf k :: writeFields (layoutOf k) (requestFields i) := by
    rw [requestBody, place]
  rw [body, parseBody_known p (place_lt place) (requestFields_fit wf place), requestOf_fields wf place]

end Sys2Proof.Machine
end

section
/-! PROOFS. The receiver of a port's line (R186): frames without a fault, faults, and silences. -/

namespace Sys2Proof.Machine

variable {s : State} {p : Port}

/-! ## The receive mode -/

theorem modPort_eq_self {f : PortIf → PortIf} (h : f (s.port p) = s.port p) : s.modPort p f = s := by
  cases s
  simp only [State.modPort, h, State.port] at *
  simp

theorem setRx_self {m : RxMode} (h : (s.port p).rx = m) : s.setRx p m = s :=
  modPort_eq_self (by rw [← h])

@[simp] theorem setRx_setRx (s : State) (p : Port) (m n : RxMode) : (s.setRx p m).setRx p n = s.setRx p n :=
  modPort_modPort s p _ _

@[simp] theorem rx_setRx (s : State) (p : Port) (m : RxMode) : ((s.setRx p m).port p).rx = m := by
  simp [State.setRx]

/-! ## Characters -/

/-- A character whose stop bit is found. -/
def goodChar (b : Byte) : LineChar := ⟨b, true⟩

theorem receiveChar_good (s : State) (p : Port) (b : Byte) : s.receiveChar p (goodChar b) = s.receiveByte p b := rfl

/-- The characters of the line in order. -/
def State.receiveChars (s : State) (p : Port) (chars : List LineChar) : State :=
  chars.foldl (fun s c => s.receiveChar p c) s

theorem receiveByte_start (hunt : (s.port p).rx = .hunt) : s.receiveByte p startByte = s.setRx p .length := by
  rw [State.receiveByte, hunt]
  exact if_pos rfl

theorem receiveByte_length (s : State) (p : Port) {n : Byte} (low : 1 ≤ n.toNat) (high : n.toNat ≤ 62) :
    (s.setRx p .length).receiveByte p n = s.setRx p (.body n.toNat []) := by
  rw [State.receiveByte, rx_setRx]
  exact (if_pos ⟨low, high⟩).trans (setRx_setRx s p _ _)

theorem receiveByte_badLength (hunt : (s.port p).rx = .hunt) {n : Byte} (out : n.toNat = 0 ∨ 62 < n.toNat) :
    (s.setRx p .length).receiveByte p n = s.receive p (.badFrame p 0) := by
  rw [State.receiveByte, rx_setRx]
  refine (if_neg (by omega)).trans ?_
  rw [setRx_setRx, setRx_self hunt]

theorem receiveByte_body (s : State) (p : Port) {length : Nat} {got : List Byte} (more : got.length < length)
    (b : Byte) : (s.setRx p (.body length got)).receiveByte p b = s.setRx p (.body length (got ++ [b])) := by
  rw [State.receiveByte, rx_setRx]
  exact (if_pos more).trans (setRx_setRx s p _ _)

theorem receiveByte_check (hunt : (s.port p).rx = .hunt) {length : Nat} {got : List Byte} (all : length ≤ got.length)
    (check : Byte) :
    (s.setRx p (.body length got)).receiveByte p check = s.receive p (frameEnd p length got check) := by
  rw [State.receiveByte, rx_setRx]
  refine (if_neg (Nat.not_lt.mpr all)).trans ?_
  rw [setRx_setRx, setRx_self hunt]

/-- The bytes of a body, up to its length, are kept. -/
theorem receiveChars_body (s : State) (p : Port) {length : Nat} (bytes : List Byte) {got : List Byte}
    (room : got.length + bytes.length ≤ length) :
    (s.setRx p (.body length got)).receiveChars p (bytes.map goodChar) = s.setRx p (.body length (got ++ bytes)) := by
  induction bytes generalizing got with
  | nil => simp [State.receiveChars]
  | cons b bytes ih =>
    rw [List.length_cons] at room
    have next : (s.setRx p (.body length got)).receiveChars p ((b :: bytes).map goodChar) =
        (s.setRx p (.body length (got ++ [b]))).receiveChars p (bytes.map goodChar) := by
      rw [← receiveByte_body s p (by omega) b]
      rfl
    rw [next, ih (by simp; omega), List.append_assoc]
    rfl

/-- A frame with a length in range, whatever its check. -/
theorem receiveChars_frame (hunt : (s.port p).rx = .hunt) {body : List Byte} (low : 1 ≤ body.length)
    (high : body.length ≤ 62) (check : Byte) :
    s.receiveChars p ((startByte :: BitVec.ofNat 8 body.length :: body ++ [check]).map goodChar) =
      s.receive p (frameEnd p body.length body check) := by
  have length : (BitVec.ofNat 8 body.length).toNat = body.length := by
    rw [BitVec.toNat_ofNat]
    omega
  calc s.receiveChars p ((startByte :: BitVec.ofNat 8 body.length :: body ++ [check]).map goodChar)
      = (((s.receiveByte p startByte).receiveByte p (BitVec.ofNat 8 body.length)).receiveChars p
          (body.map goodChar)).receiveByte p check := by
        simp [State.receiveChars, receiveChar_good]
    _ = ((s.setRx p (.body body.length [])).receiveChars p (body.map goodChar)).receiveByte p check := by
        rw [receiveByte_start hunt, receiveByte_length s p (by omega) (by omega), length]
    _ = s.receive p (frameEnd p body.length body check) := by
        rw [receiveChars_body s p body (by simp), List.nil_append, receiveByte_check hunt le_rfl]

/-- Bytes other than the start byte, and characters without a stop bit, are discarded in HUNT. -/
theorem receiveChars_hunt (hunt : (s.port p).rx = .hunt) {chars : List LineChar}
    (idle : ∀ c ∈ chars, c.data ≠ startByte ∨ c.stopOk = false) : s.receiveChars p chars = s := by
  induction chars with
  | nil => rfl
  | cons c chars ih =>
    have discarded : s.receiveChar p c = s := by
      unfold State.receiveChar
      split
      next stop =>
        have notStart := (idle c List.mem_cons_self).resolve_right (by simp [stop])
        rw [State.receiveByte, hunt]
        exact if_neg notStart
      next => rfl
    have rest := ih fun c hc => idle c (List.mem_cons_of_mem _ hc)
    rw [State.receiveChars, List.foldl_cons, discarded]
    exact rest

/-! ## Frames -/

theorem exec_frameReceived (able : s.receives p) (chars : List LineChar) :
    exec (.frameReceived p chars) s = .next (s.receiveChars p chars) := by
  obtain ⟨released, mark⟩ := able
  have taken : frameReceived p chars s = s.receiveChars p chars := if_neg (by simp [mark])
  exact congrArg Host.Outcome.next ((unlessHeld_released released _).trans taken)

theorem length_writeFields {ws ns : List Nat} (h : List.Forall₂ (fun w n => n < 256 ^ w) ws ns) :
    (writeFields ws ns).length = ws.sum := by
  induction h with
  | nil => rfl
  | cons _ _ ih => simp [writeFields, ih]

/-- A request's body is no longer than a frame carries. -/
theorem length_requestBody {i : Instr} {k : Nat} (wf : wellFormed i = true) (place : requestPlace i = some (k, p)) :
    1 ≤ (requestBody i).length ∧ (requestBody i).length ≤ 62 := by
  have short : ∀ k : Fin 54, (layoutOf k).sum ≤ 61 := by decide
  have body : requestBody i = codeOf k :: writeFields (layoutOf k) (requestFields i) := by
    rw [requestBody, place]
  rw [body, List.length_cons, length_writeFields (requestFields_fit wf place)]
  exact ⟨by omega, Nat.succ_le_succ (short ⟨k, place_lt place⟩)⟩

theorem framePort_of_place {i : Instr} {k : Nat} (place : requestPlace i = some (k, p)) : framePort i = some p := by
  unfold framePort
  split
  · cases place
  · cases place
  · rw [place]; rfl

/-- A good frame is the request it carries. -/
theorem exec_goodFrame (able : s.receives p) (hunt : (s.port p).rx = .hunt) {i : Instr} {k : Nat}
    (wf : wellFormed i = true) (place : requestPlace i = some (k, p)) :
    exec (.frameReceived p (frameChars (requestBody i))) s = exec i s := by
  obtain ⟨low, high⟩ := length_requestBody wf place
  have chars : frameChars (requestBody i) =
      (startByte :: BitVec.ofNat 8 (requestBody i).length :: requestBody i ++
        [0 - byteSum (BitVec.ofNat 8 (requestBody i).length :: requestBody i)]).map goodChar := rfl
  have good : byteSum (BitVec.ofNat 8 (requestBody i).length :: requestBody i) +
      (0 - byteSum (BitVec.ofNat 8 (requestBody i).length :: requestBody i)) = 0 := by
    generalize byteSum _ = x
    bv_omega
  rw [exec_frameReceived able, chars, receiveChars_frame hunt low high, frameEnd, if_pos good,
    requestBodyRoundTrip i k p wf place, exec_frame (framePort_of_place place)]

theorem exec_badCheck (able : s.receives p) (hunt : (s.port p).rx = .hunt) {body : List Byte} {check : Byte}
    (low : 1 ≤ body.length) (high : body.length ≤ 62)
    (bad : byteSum (BitVec.ofNat 8 body.length :: body) + check ≠ 0) :
    exec (.frameReceived p ((startByte :: BitVec.ofNat 8 body.length :: body ++ [check]).map goodChar)) s =
      exec (.badFrame p (body.headD 0)) s := by
  rw [exec_frameReceived able, receiveChars_frame hunt low high, frameEnd, if_neg bad,
    exec_frame (i := .badFrame p (body.headD 0)) rfl]

theorem exec_badLength (able : s.receives p) (hunt : (s.port p).rx = .hunt) {n : Byte}
    (out : n.toNat = 0 ∨ 62 < n.toNat) :
    exec (.frameReceived p [⟨startByte, true⟩, ⟨n, true⟩]) s = exec (.badFrame p 0) s := by
  have both : s.receiveChars p [⟨startByte, true⟩, ⟨n, true⟩] = (s.receiveByte p startByte).receiveByte p n := rfl
  rw [exec_frameReceived able, both, receiveByte_start hunt, receiveByte_badLength hunt out,
    exec_frame (i := .badFrame p 0) rfl]

theorem exec_frameTruncated (able : s.receives p) :
    exec (.frameTruncated p) s =
      .next (s.modPort p fun x =>
        { x with rx := .hunt, lastError := .truncated, truncated := min (x.truncated + 1) 65535 }) := by
  obtain ⟨released, mark⟩ := able
  refine congrArg Host.Outcome.next ((unlessHeld_released released _).trans ?_)
  exact if_neg (by simp [mark])

/-- Settles O8, by the characters of each kind of frame. -/
theorem receiverReadsFrames : Obligations.ReceiverReadsFrames := by
  refine fun p s able => ⟨fun hunt => ⟨fun i k wf place => exec_goodFrame able hunt wf place,
    fun body check low high bad => exec_badCheck able hunt low high bad, fun n out => exec_badLength able hunt out,
    fun chars idle => ?_⟩, exec_frameTruncated able⟩
  rw [exec_frameReceived able, receiveChars_hunt hunt idle]

end Sys2Proof.Machine
end

section
/-! PROOFS. A port break (R183, R196): the Port Interface cleared, and the slips the port holds returned. -/

namespace Sys2Proof.Machine

/-! ## A slip returned -/

variable {q : SlipPool} {n : Fin 64} {p : Port}

theorem backlog_free (q : SlipPool) (n : Fin 64) : (q.free n).backlog = q.backlog := by
  unfold SlipPool.free
  dsimp only
  split <;> rfl

theorem slips_free (q : SlipPool) (n k : Fin 64) : (q.free n).slips[k] = if k = n then Slip.blank else q.slips[k] := by
  unfold SlipPool.free
  dsimp only
  split <;> exact slips_modSlip q n k fun _ => Slip.blank

/-- With no call waiting, a slip that comes free stays free. -/
theorem drain_idle {q : SlipPool} (none : q.backlog = []) : q.drain = q := by
  unfold SlipPool.drain
  split
  next waits => rw [none] at waits; cases waits
  · rfl

theorem drain_call {q : SlipPool} {n : Fin 64} {rest : List (Fin 64)} {c : Call} {calls : List Call}
    (free : q.reserveFree = n :: rest) (waits : q.backlog = c :: calls) :
    q.drain = { q with reserveFree := rest, backlog := calls }.postCall n c := by
  unfold SlipPool.drain
  rw [free, waits]

/-- What a slip is once returned: blank, or, for a reserve slip while calls wait, the oldest call. No other slip
changes: while calls wait, the reserve free list is empty (R181). -/
theorem slips_returned (law : q.lawful) (n k : Fin 64) :
    (q.returned n).slips[k] =
      if k = n then
        match isReserve n, q.backlog with
        | true, c :: _ => callSlip c
        | _, _ => Slip.blank
      else q.slips[k] := by
  obtain ⟨-, backlog⟩ := (lawful_iff_placed q).mp law
  unfold SlipPool.returned
  cases range : isReserve n with
  | false => exact slips_free q n k
  | true =>
    rw [if_pos rfl]
    cases waits : q.backlog with
    | nil =>
      rw [drain_idle (by rw [backlog_free, waits])]
      exact slips_free q n k
    | cons c calls =>
      have empty : q.reserveFree = [] := backlog.resolve_left (by rw [waits]; nofun)
      have only : (q.free n).reserveFree = [n] := by simp [SlipPool.free, range, SlipPool.modSlip, empty]
      rw [drain_call only (by rw [backlog_free, waits])]
      refine (slips_postCall _ n k c).trans ?_
      by_cases same : k = n
      · simp [same]
      · rw [if_neg same, if_neg same]
        exact (slips_free q n k).trans (if_neg same)

theorem backlog_returned_sub (q : SlipPool) (n : Fin 64) : ∀ c ∈ (q.returned n).backlog, c ∈ q.backlog := by
  intro c hc
  unfold SlipPool.returned SlipPool.drain at hc
  rw [backlog_free] at hc
  split at hc
  · split at hc
    next waits => rw [waits]; exact List.mem_cons_of_mem _ hc
    · rwa [backlog_free] at hc
  · rwa [backlog_free] at hc

/-! ## Slips returned one after another -/

/-- What slip `n` has become once it was returned while the calls of `backlog` waited. -/
def Slip.returnedFrom (x : Slip) (n : Fin 64) (backlog : List Call) : Prop :=
  ((isReserve n = false ∨ backlog = []) → x = Slip.blank) ∧
    (isReserve n = true → x = Slip.blank ∨ ∃ c ∈ backlog, x = callSlip c)

theorem returnedFrom_returned (law : q.lawful) (n : Fin 64) :
    ((q.returned n).slips[n]).returnedFrom n q.backlog := by
  rw [slips_returned law, if_pos rfl]
  cases range : isReserve n with
  | false => exact ⟨fun _ => rfl, fun reserve => by rw [range] at reserve; cases reserve⟩
  | true =>
    cases waits : q.backlog with
    | nil => exact ⟨fun _ => rfl, fun _ => .inl rfl⟩
    | cons c calls => exact ⟨fun h => by simp [range] at h, fun _ => .inr ⟨c, by simp, rfl⟩⟩

theorem Slip.returnedFrom.mono {x : Slip} {n : Fin 64} {list all : List Call} (h : x.returnedFrom n list)
    (sub : ∀ c ∈ list, c ∈ all) : x.returnedFrom n all := by
  obtain ⟨blank, call⟩ := h
  refine ⟨fun g => blank (g.imp_right fun none => ?_), fun reserve => (call reserve).imp_right ?_⟩
  · rw [none] at sub
    exact List.eq_nil_iff_forall_not_mem.mpr fun c hc => absurd (sub c hc) List.not_mem_nil
  · rintro ⟨c, hc, e⟩
    exact ⟨c, sub c hc, e⟩

/-- A list of held slips returned: those slips are returned, and no other slip changes. -/
theorem slips_foldl_returned (list : List (Fin 64)) (nodup : list.Nodup) {q : SlipPool} (law : q.lawful)
    (held : ∀ n ∈ list, q.slips[n].state = .held p) (k : Fin 64) :
    (k ∉ list → (list.foldl SlipPool.returned q).slips[k] = q.slips[k]) ∧
      (k ∈ list → ((list.foldl SlipPool.returned q).slips[k]).returnedFrom k q.backlog) := by
  induction list generalizing q with
  | nil => exact ⟨fun _ => rfl, fun none => absurd none List.not_mem_nil⟩
  | cons n list ih =>
    obtain ⟨fresh, nodup⟩ := List.nodup_cons.mp nodup
    have heldHead := held n List.mem_cons_self
    have others (m : Fin 64) (hm : m ∈ list) : (q.returned n).slips[m].state = .held p :=
      held_returned q (by rintro rfl; exact fresh hm) law (held m (List.mem_cons_of_mem n hm))
    obtain ⟨out, inside⟩ := ih nodup (lawful_returned law heldHead) others
    refine ⟨fun notIn => ?_, fun isIn => ?_⟩
    · obtain ⟨ne, notIn⟩ := not_or.mp (List.mem_cons.not.mp notIn)
      rw [List.foldl_cons, out notIn, slips_returned law, if_neg ne]
    · by_cases same : k = n
      · subst same
        rw [List.foldl_cons, out fresh]
        exact returnedFrom_returned law k
      · exact (inside ((List.mem_cons.mp isIn).resolve_left same)).mono (backlog_returned_sub q n)

theorem mem_heldBy (q : SlipPool) (p : Port) (n : Fin 64) : n ∈ q.heldBy p ↔ q.slips[n].state = .held p := by
  simp [SlipPool.heldBy]

theorem slips_returnHeld (law : q.lawful) (p : Port) (k : Fin 64) :
    (q.slips[k].state ≠ .held p → (q.returnHeld p).slips[k] = q.slips[k]) ∧
      (q.slips[k].state = .held p → ((q.returnHeld p).slips[k]).returnedFrom k q.backlog) := by
  have returned := slips_foldl_returned (p := p) (q.heldBy p) ((List.nodup_finRange 64).filter _) law
    (fun n hn => (mem_heldBy q p n).mp hn) k
  rwa [mem_heldBy] at returned

/-! ## The break -/

theorem exec_portBreak {s : State} (released : s.resetHeld = false) (p : Port) :
    exec (.portBreak p) s = .next (portBreak p s) :=
  congrArg Host.Outcome.next (unlessHeld_released released _)

/-- Settles O9: the interface by its cleared record, the pool by the slips returned one after another. -/
theorem portBreakClearsThePort : Obligations.PortBreakClearsThePort := by
  intro p s released
  refine ⟨fun space => ?_, congrArg Host.Outcome.next (unlessHeld_released released _), fun mark =>
    ⟨(s.modPort p PortIf.broken).modPool fun q => q.returnHeld p, ?_, ?_⟩⟩
  · rw [exec_portBreak released, portBreak, if_pos space]
  · rw [exec_portBreak released, portBreak, if_neg (by simp [mark])]
  · refine ⟨port_modPort_same s p _, fun q other => port_modPort_ne s _ other, rfl, rfl, rfl, rfl, fun law => ?_⟩
    have slips (n : Fin 64) := slips_returnHeld law p n
    exact ⟨fun n => (slips n).1, fun n held => ((slips n).2 held).1, fun n held => ((slips n).2 held).2⟩

end Sys2Proof.Machine
end

section
/-! PROOFS. DROP BOWLER and SET RANGE ENTRY (R142, R143), and the band of a minute (R150). -/

namespace Sys2Proof.Machine

/-! ## The first of a finite range -/

theorem firstFin_eq_none {n : Nat} {test : Fin n → Bool} : firstFin n test = none ↔ ∀ k, test k = false := by
  simp [firstFin]

/-- The lowest index that passes the test. -/
theorem firstFin_eq_some {n : Nat} {test : Fin n → Bool} {k : Fin n} (passes : test k = true)
    (first : ∀ j, j < k → test j = false) : firstFin n test = some k := by
  have sorted : (List.finRange n).Pairwise (· < ·) := List.pairwise_lt_finRange n
  have fails : ∀ x ∈ (List.finRange n).take k, ¬ test x = true := by
    intro x hx
    obtain ⟨j, hj, rfl⟩ := List.mem_take_iff_getElem.mp hx
    rw [Bool.not_eq_true]
    refine first _ ?_
    simp only [List.getElem_finRange, Fin.lt_def, Fin.val_cast]
    omega
  rw [firstFin, List.find?_eq_some_iff_append]
  refine ⟨passes, (List.finRange n).take k, (List.finRange n).drop (k + 1), ?_, fun x hx => by simpa using fails x hx⟩
  have there : (List.finRange n)[k.val]'(by simp) = k := by simp
  conv_lhs => rw [← List.take_append_drop k.val (List.finRange n)]
  rw [List.drop_eq_getElem_cons (by simp), there]

/-! ## Entries -/

variable {s : State} {q : Port} {number : Nat}

theorem find_eq_none (d : Directory) (number : Nat) :
    d.find number = none ↔ ∀ k : Fin 112, d.entries[k].valid = true → d.entries[k].number ≠ number := by
  rw [Directory.find, firstFin_eq_none]
  simp

/-- The lowest entry that holds the number. -/
theorem find_eq_some {d : Directory} {k : Fin 112} (valid : d.entries[k].valid = true)
    (holds : d.entries[k].number = number)
    (first : ∀ j : Fin 112, j < k → d.entries[j].valid = true → d.entries[j].number ≠ number) :
    d.find number = some k :=
  firstFin_eq_some (by rw [valid, holds, Bool.true_and, beq_self_eq_true]) fun j before => by
    cases there : d.entries[j].valid with
    | false => rw [Bool.false_and]
    | true => simpa using first j before there

/-! ## DROP BOWLER -/

theorem inBowlers_eq_false (number : Nat) : inBowlers number = false ↔ number = 0 ∨ 65534 < number := by
  rw [← Bool.not_eq_true]; simp only [inBowlers, Bool.and_eq_true, decide_eq_true_iff]; omega

theorem inBowlers_eq_true (number : Nat) : inBowlers number = true ↔ 1 ≤ number ∧ number ≤ 65534 := by
  simp [inBowlers]

/-- The checks of every Directory request at the desk. -/
theorem directoryChecks_passed (loaded : s.loading = false) {inRange : Bool} (range : inRange = true)
    (rest : List (Bool × ReplyOutcome)) : firstRefusal (directoryChecks .dk inRange s ++ rest) = firstRefusal rest := by
  rw [directoryChecks, range, loaded]
  rfl

theorem exec_dropBowler_denied (idle : s.idleAt q) (notDesk : q ≠ .dk) (number : Nat) :
    exec (.dropBowler q number) s = .next (s.replying q 0x2E .denied []) :=
  exec_refused rfl idle rfl (firstRefusal_cons _ _ _ |>.trans (if_pos (by simpa using notDesk))) nofun

theorem exec_dropBowler_range (idle : s.idleAt .dk) (out : number = 0 ∨ 65534 < number) :
    exec (.dropBowler .dk number) s = .next (s.replying .dk 0x2E .range []) :=
  exec_refused rfl idle rfl (by rw [(inBowlers_eq_false number).mpr out]; rfl) nofun

theorem exec_dropBowler_busy (idle : s.idleAt .dk) (low : 1 ≤ number) (high : number ≤ 65534)
    (loading : s.loading = true) : exec (.dropBowler .dk number) s = .next (s.replying .dk 0x2E .busy []) :=
  exec_refused rfl idle rfl (by rw [directoryChecks, (inBowlers_eq_true number).mpr ⟨low, high⟩, loading]; rfl) nofun

/-- No entry holds the number, or a locked one does. -/
theorem exec_dropBowler_state (idle : s.idleAt .dk) (low : 1 ≤ number) (high : number ≤ 65534)
    (loaded : s.loading = false)
    (kept : s.directory.find number = none ∨ ∃ k, s.directory.find number = some k ∧ s.directory.entries[k].locked = true) :
    exec (.dropBowler .dk number) s = .next (s.replying .dk 0x2E .state []) := by
  refine exec_refused rfl idle rfl ?_ nofun
  rw [directoryChecks_passed loaded ((inBowlers_eq_true number).mpr ⟨low, high⟩)]
  rcases kept with none | ⟨k, found, locked⟩
  · rw [none]; rfl
  · rw [found, Directory.lockedNumber, found]
    simpa [firstRefusal_cons] using locked

theorem exec_dropBowler_ok (idle : s.idleAt .dk) (low : 1 ≤ number) (high : number ≤ 65534)
    (loaded : s.loading = false) {k : Fin 112} (found : s.directory.find number = some k)
    (unlocked : s.directory.entries[k].locked = false) :
    exec (.dropBowler .dk number) s =
      .next ((s.modDirectory fun d => { d with entries := d.entries.set k ⟨false, 0, 0, none, false, false⟩ }).replying
        .dk 0x2E .ok []) := by
  have dropped : s.directory.drop number =
      { s.directory with entries := s.directory.entries.set k ⟨false, 0, 0, none, false, false⟩ } := by
    rw [Directory.drop, found]
    rfl
  have passed : firstRefusal (directoryChecks .dk (inBowlers number) s ++
      [((s.directory.find number).isNone, .state), (s.directory.lockedNumber number, .state)]) = none := by
    rw [directoryChecks_passed loaded ((inBowlers_eq_true number).mpr ⟨low, high⟩), Directory.lockedNumber, found]
    simpa [firstRefusal_cons] using unlocked
  have taken := exec_ok (i := .dropBowler .dk number) rfl idle rfl passed
  rw [State.modDirectory, dropped] at taken
  exact taken

/-! ## SET RANGE ENTRY -/

theorem rangeIx_number (index : Fin 8) : rangeIx (index.val + 1) = index := by
  revert index; decide

theorem rangeIn_eq_true (index : Fin 8) (enabled first last average : Nat) :
    rangeIn (index.val + 1) enabled first last average = true ↔
      enabled ≤ 1 ∧ 1 ≤ first ∧ first ≤ last ∧ last ≤ 65534 ∧ average ≤ 300 := by
  have := index.isLt
  simp only [rangeIn, within, inBowlers, Bool.and_eq_true, decide_eq_true_iff]
  omega

theorem exec_setRangeEntry_range (idle : s.idleAt .dk) {index : Fin 8} {enabled first last average : Nat}
    (out : 1 < enabled ∨ first = 0 ∨ 65534 < first ∨ last < first ∨ 65534 < last ∨ 300 < average) :
    exec (.setRangeEntry .dk (index.val + 1) enabled first last average) s =
      .next (s.replying .dk 0x2F .range []) := by
  have refused : rangeIn (index.val + 1) enabled first last average = false := by
    rw [← Bool.not_eq_true, rangeIn_eq_true]
    omega
  exact exec_refused rfl idle rfl (by rw [directoryChecks, refused]; rfl) nofun

theorem exec_setRangeEntry_ok (able : s.canServe .dk) {index : Fin 8} {enabled first last average : Nat}
    (inRange : rangeIn (index.val + 1) enabled first last average = true) :
    exec (.setRangeEntry .dk (index.val + 1) enabled first last average) s =
      .next ((s.modDirectory fun d =>
        { d with ranges := d.ranges.set index ⟨enabled == 1, first, last, average⟩ }).replying .dk 0x2F .ok []) := by
  have passed := directoryChecks_passed able.2 inRange []
  rw [List.append_nil] at passed
  have taken := exec_ok (i := .setRangeEntry .dk (index.val + 1) enabled first last average) rfl able.1 rfl passed
  simp only [rangeIx_number] at taken
  exact taken

/-- Settles O50, by the outcomes of the two requests. -/
theorem dropAndRangeEntries : Obligations.DropAndRangeEntries := by
  intro q number s idle
  refine ⟨fun notDesk => exec_dropBowler_denied idle notDesk number, ?_, ?_, ?_⟩
  · rintro rfl out
    exact exec_dropBowler_range idle out
  · rintro rfl low high
    refine ⟨fun loading => exec_dropBowler_busy idle low high loading, fun loaded none =>
      exec_dropBowler_state idle low high loaded (.inl ((find_eq_none _ _).mpr none)),
      fun k loaded valid holds first => ?_⟩
    have found := find_eq_some valid holds first
    exact ⟨fun locked => exec_dropBowler_state idle low high loaded (.inr ⟨k, found, locked⟩),
      fun unlocked => exec_dropBowler_ok idle low high loaded found unlocked⟩
  · rintro index enabled first last average rfl loaded
    exact ⟨fun out => exec_setRangeEntry_range idle out, fun enabled low order high av =>
      exec_setRangeEntry_ok ⟨idle, loaded⟩ ((rangeIn_eq_true ..).mpr ⟨enabled, low, order, high, av⟩)⟩

/-! ## Bands -/

theorem layoutIn_iff (dayStart bands length : Nat) :
    layoutIn dayStart bands length = true ↔
      dayStart ≤ 1425 ∧ dayStart % 15 = 0 ∧ (bands = 1 ∨ bands = 2 ∨ bands = 4 ∨ bands = 8) ∧ 15 ≤ length ∧
        length ≤ 1440 ∧ length % 15 = 0 ∧ (bands - 1) * length < 1440 := by
  simp [layoutIn, within, and_assoc, or_assoc]

/-- The minutes since the day start, modulo a day. -/
theorem sinceDayStart_eq {dayStart minute : Nat} (day : minute < 1440) (start : dayStart ≤ 1425) :
    (minute + 1440 - dayStart) % 1440 =
      if dayStart ≤ minute then minute - dayStart else minute + 1440 - dayStart := by
  split
  next after =>
    rw [show minute + 1440 - dayStart = (minute - dayStart) + 1440 by omega, Nat.add_mod_right]
    exact Nat.mod_eq_of_lt (by omega)
  next => exact Nat.mod_eq_of_lt (by omega)

theorem bandAt_eq (x : Tariff) {minute : Nat} (day : minute < 1440) (start : x.dayStart ≤ 1425) :
    x.bandAt minute = min x.bands
      ((if x.dayStart ≤ minute then minute - x.dayStart else minute + 1440 - x.dayStart) / x.length + 1) := by
  rw [Tariff.bandAt, sinceDayStart_eq day start]

/-- Settles O51: a band is the lesser of the count of bands and the periods begun since the day start. -/
theorem bandOfAMinute : Obligations.BandOfAMinute := by
  refine ⟨fun x minute layout day => ?_, layoutIn_iff, fun _ _ => by simp [Tariff.bandAt], fun _ => rfl⟩
  obtain ⟨start, -, bands, -⟩ := (layoutIn_iff ..).mp layout
  rw [bandAt_eq x day start]
  dsimp only
  generalize (if x.dayStart ≤ minute then minute - x.dayStart else minute + 1440 - x.dayStart) / x.length = m
  split <;> omega

end Sys2Proof.Machine
end

section
/-! SUPPORT. Writings of a lane's record, one after another and at the values they find; and the first checks of a
mechanic's request. -/

namespace Sys2Proof.Machine

variable {s : State} {l : Fin 16}

theorem modLane_modLane (s : State) (l : Fin 16) (f g : Lane → Lane) :
    (s.modLane l f).modLane l g = s.modLane l fun a => g (f a) := by
  simp [State.modLane, State.lane]

/-- Two writings of a lane that agree at its record. -/
theorem modLane_congr {f g : Lane → Lane} (h : f (s.lane l) = g (s.lane l)) : s.modLane l f = s.modLane l g := by
  rw [State.modLane, State.modLane, h]

theorem modSup_modSup (s : State) (l : Fin 16) (f g : Supervisor → Supervisor) :
    (s.modSup l f).modSup l g = s.modSup l fun u => g (f u) :=
  modLane_modLane s l _ _

theorem modSup_congr {f g : Supervisor → Supervisor} (h : f (s.lane l).sup = g (s.lane l).sup) :
    s.modSup l f = s.modSup l g :=
  modLane_congr (by rw [h])

/-- A Supervisor whose state changes sets LANE_STATE_CHANGED. -/
theorem updSup_changed {f : Supervisor → Supervisor} (h : (f (s.lane l).sup).state ≠ (s.lane l).sup.state) :
    s.updSup l f = (s.modSup l f).flagConsole (pairOf l) .laneStateChanged := by
  rw [State.updSup, State.updLane, if_neg]
  · rfl
  · simpa [Lane.watched] using h

/-- A Supervisor whose state stays sets no flag. -/
theorem updSup_kept {f : Supervisor → Supervisor} (h : (f (s.lane l).sup).state = (s.lane l).sup.state) :
    s.updSup l f = s.modSup l f := by
  rw [State.updSup, State.updLane, if_pos]
  · rfl
  · simpa [Lane.watched] using h

/-! ## Numbers out of range -/

theorem inLanes_eq_false (lane : Nat) : inLanes lane = false ↔ lane = 0 ∨ 16 < lane := by
  rw [← Bool.not_eq_true]; simp only [inLanes, Bool.and_eq_true, decide_eq_true_iff]; omega

/-! ## The mechanic's checks -/

theorem mechanicChecks_denied {p : Port} (other : p ≠ .mc) (lane : Nat) (rest : List (Bool × ReplyOutcome)) :
    firstRefusal (mechanicChecks p lane s ++ rest) = some .denied := by
  rw [mechanicChecks, List.cons_append, firstRefusal_cons, if_pos (by simpa using other)]

theorem mechanicChecks_range {lane : Nat} (out : lane = 0 ∨ 16 < lane) (rest : List (Bool × ReplyOutcome)) :
    firstRefusal (mechanicChecks .mc lane s ++ rest) = some .range := by
  rw [mechanicChecks, (inLanes_eq_false lane).mpr out]
  rfl

theorem mechanicChecks_passed (loaded : s.loading = false) (l : Fin 16) (rest : List (Bool × ReplyOutcome)) :
    firstRefusal (mechanicChecks .mc (laneNo l) s ++ rest) = firstRefusal rest := by
  rw [mechanicChecks, inLanes_laneNo, loaded]
  rfl

end Sys2Proof.Machine
end

section
/-! PROOFS. UNLOCK, MANUAL CYCLE and PINS SET (R36, R39, R40). -/

namespace Sys2Proof.Machine

variable {s : State} {q : Port} {l : Fin 16}

/-! ## What each of them does -/

/-- A lane put back in service begins its warm-up, with service power where no session grants it (R39). -/
theorem unlock_eq (out : (s.lane l).sup.state = .lockout) :
    s.unlock l = (s.modSup l fun u =>
      { u with
        servicePower := if s.session l = .opened ∨ s.session l = .closing then u.servicePower else true
        state := .warming, warmUp := some ⟨s.timers.warmUp * 1000, none⟩ }).flagConsole
          (pairOf l) .laneStateChanged := by
  have kept (b : Bool) : (b || !s.running l) = if s.session l = .opened ∨ s.session l = .closing then b else true := by
    rw [State.running]
    cases s.session l <;> simp [SessionState.grants]
  unfold State.unlock State.enterWarming
  rw [updSup_changed, modSup_modSup]
  · simp only [kept]
    rfl
  · simp [sup_modSup, out]

theorem startCycle_ready (ready : (s.lane l).sup.state = .ready) (c : Cycle) :
    s.startCycle l c = (s.modSup l fun u =>
      { u with state := .cycling, cycle := some c, warmUp := none, handSet := none }).flagConsole
        (pairOf l) .laneStateChanged :=
  updSup_changed (by simp [ready])

theorem pinsStand_eq {h : HandSet} (waits : (s.lane l).sup.state = .handSet)
    (target : (s.lane l).sup.handSet = some h) :
    s.pinsStand l = (s.modSup l fun u =>
      { u with state := .ready, standing := some h.target, handSet := none }).flagConsole
        (pairOf l) .laneStateChanged := by
  rw [State.pinsStand, updSup_changed (by simp [waits])]
  congr 1
  exact modSup_congr (by rw [target]; rfl)

/-! ## The requests -/

theorem exec_unlock_state (able : s.canServe .mc) (other : (s.lane l).sup.state ≠ .lockout) :
    exec (.unlock .mc (laneNo l)) s = .next (s.replying .mc 0x18 .state []) :=
  exec_refused rfl able.1 rfl (by
    rw [mechanicChecks_passed able.2, laneIx_laneNo, firstRefusal_cons, if_pos (by simpa using other)]) nofun

theorem exec_unlock_ok (able : s.canServe .mc) (out : (s.lane l).sup.state = .lockout) :
    exec (.unlock .mc (laneNo l)) s = .next ((s.unlock l).replying .mc 0x18 .ok []) := by
  have taken := exec_ok (i := .unlock .mc (laneNo l)) rfl able.1 rfl (by
    rw [mechanicChecks_passed able.2, laneIx_laneNo, out]; rfl)
  rwa [laneIx_laneNo] at taken

theorem exec_manualCycle_denied (idle : s.idleAt q) (other : q ≠ .mc) (lane kind : Nat) :
    exec (.manualCycle q lane kind) s = .next (s.replying q 0x19 .denied []) :=
  exec_refused rfl idle rfl (by rw [firstRefusal_cons, if_pos (by simpa using other)]) nofun

theorem exec_manualCycle_range (idle : s.idleAt .mc) {kind : Nat} (large : 1 < kind) :
    exec (.manualCycle .mc (laneNo l) kind) s = .next (s.replying .mc 0x19 .range []) :=
  exec_refused rfl idle rfl (by rw [inLanes_laneNo, decide_eq_true large]; rfl) nofun

theorem exec_manualCycle_state (able : s.canServe .mc) {kind : Nat} (small : kind ≤ 1)
    (other : (s.lane l).sup.state ≠ .ready) :
    exec (.manualCycle .mc (laneNo l) kind) s = .next (s.replying .mc 0x19 .state []) := by
  refine exec_refused rfl able.1 rfl ?_ nofun
  have notReady : ((s.lane l).sup.state != .ready) = true := by simpa using other
  rw [inLanes_laneNo, decide_eq_false (Nat.not_lt.mpr small), able.2, laneIx_laneNo, notReady]
  rfl

theorem exec_manualCycle_ok (able : s.canServe .mc) {kind : Nat} (small : kind ≤ 1)
    (ready : (s.lane l).sup.state = .ready) :
    exec (.manualCycle .mc (laneNo l) kind) s =
      .next ((s.startCycle l (newCycle (cycleKindOf kind) .manual s.timers.cycle none)).replying .mc 0x19 .ok []) := by
  have taken := exec_ok (i := .manualCycle .mc (laneNo l) kind) rfl able.1 rfl (by
    rw [inLanes_laneNo, decide_eq_false (Nat.not_lt.mpr small), able.2, laneIx_laneNo, ready]; rfl)
  rwa [laneIx_laneNo] at taken

theorem exec_pinsSet_state (able : s.canServe .mc) (other : (s.lane l).sup.state ≠ .handSet) :
    exec (.pinsSet .mc (laneNo l)) s = .next (s.replying .mc 0x1B .state []) :=
  exec_refused rfl able.1 rfl (by
    rw [mechanicChecks_passed able.2, laneIx_laneNo, firstRefusal_cons, if_pos (by simpa using other)]) nofun

theorem exec_pinsSet_range (idle : s.idleAt .mc) {lane : Nat} (out : lane = 0 ∨ 16 < lane) :
    exec (.pinsSet .mc lane) s = .next (s.replying .mc 0x1B .range []) :=
  exec_refused rfl idle rfl (mechanicChecks_range out _) nofun

theorem exec_pinsSet_ok (able : s.canServe .mc) (waits : (s.lane l).sup.state = .handSet) :
    exec (.pinsSet .mc (laneNo l)) s = .next ((s.pinsStand l).replying .mc 0x1B .ok []) := by
  have taken := exec_ok (i := .pinsSet .mc (laneNo l)) rfl able.1 rfl (by
    rw [mechanicChecks_passed able.2, laneIx_laneNo, waits]; rfl)
  rwa [laneIx_laneNo] at taken

/-- The lamps of a lane whose pins stand as they were set (R43). -/
theorem lamps_of_ready {a : Lane} {target : PinSet} (lamps : a.session.settings.pinLamps = true)
    (grants : a.session.state.grants = true) (ready : a.sup.state = .ready) (stands : a.sup.standing = some target) :
    a.lampMode = .steady ∧ a.lampImage = target := by
  have mode : a.lampMode = .steady := by simp [Lane.lampMode, Lane.lampsAllowed, lamps, grants, ready]
  exact ⟨mode, by rw [Lane.lampImage, mode, stands]; rfl⟩

/-- Settles O21, by what each of the three requests does. -/
theorem mechanicSetsToWork : Obligations.MechanicSetsToWork := by
  refine ⟨fun lane q s able => ⟨fun other => ?_, ?_, ?_⟩, fun l kind q s able => ⟨fun other => ?_, ?_, ?_, ?_⟩,
    fun l q s able => ⟨fun other => ?_, ?_, ?_, ?_⟩⟩
  · exact exec_refused rfl able.1 rfl (mechanicChecks_denied other _ _) nofun
  · rintro rfl out
    exact exec_refused rfl able.1 rfl (mechanicChecks_range out _) nofun
  · rintro l rfl rfl
    refine ⟨fun other => exec_unlock_state able other, fun out => ?_⟩
    rw [exec_unlock_ok able out, unlock_eq out]
  · exact exec_manualCycle_denied able.1 other _ _
  · rintro rfl large
    exact exec_manualCycle_range able.1 large
  · rintro rfl small other
    exact exec_manualCycle_state able small other
  · rintro rfl small ready
    rw [exec_manualCycle_ok able small ready, startCycle_ready ready]
    rfl
  · exact exec_refused rfl able.1 rfl (mechanicChecks_denied other _ _) nofun
  · rintro rfl other
    exact exec_pinsSet_state able other
  · rintro lane rfl out
    exact exec_pinsSet_range able.1 out
  · rintro h rfl waits target
    refine ⟨_, exec_pinsSet_ok able waits, by rw [pinsStand_eq waits target], fun lamps grants => ?_⟩
    rw [pinsStand_eq waits target]
    have lane : ((s.modSup l fun u => { u with state := .ready, standing := some h.target, handSet := none }).lane l) =
        { s.lane l with sup := { (s.lane l).sup with state := .ready, standing := some h.target, handSet := none } } :=
      lane_modLane_same s l _
    exact lamps_of_ready (a := State.lane _ l) (by simpa [lane] using lamps) (by simpa [lane, State.running, State.session] using grants) (by simp [lane])
      (by simp [lane])

end Sys2Proof.Machine
end

section
/-! PROOFS. RELEASE, FOUL, and the ends of a waiting foul and of a tone (R23, R42, R43). -/

namespace Sys2Proof.Machine

variable {s : State} {l : Fin 16}

/-- An event at a part whose RESET is released. -/
theorem exec_event {i : Instr} {f : State → State} (event : exec i s = .next (s.unlessHeld f))
    (released : s.resetHeld = false) : exec i s = .next (f s) := by
  rw [event, unlessHeld_released released]

/-! ## The foul window -/

theorem withinWindow_eq_true (s : State) (m : Nat) : s.withinWindow m = true ↔ s.now - m ≤ s.timers.window * 100 :=
  decide_eq_true_iff

theorem withinWindow_eq_false (s : State) (m : Nat) : s.withinWindow m = false ↔ s.timers.window * 100 < s.now - m := by
  rw [← Bool.not_eq_true, withinWindow_eq_true, Nat.not_le]

/-! ## RELEASE -/

theorem release_stray {d : Delivery} (inFlight : (s.lane l).sup.delivery = some d) :
    release l s = s.modSup l fun u => { u with strayReleases := min (u.strayReleases + 1) 65535 } := by
  rw [release, inFlight]
  rfl

/-- A Supervisor at a release that opens a delivery (R23). -/
def Supervisor.released (u : Supervisor) (now travel : Nat) : Supervisor :=
  { u with delivery := some (Delivery.opened (some now) travel), lastRelease := some ⟨now, false⟩ }

theorem release_opens (noBall : (s.lane l).sup.delivery = none) :
    release l s = (s.modSup l fun u => u.released s.now (s.timers.travel * 1000)).takeWaitingFoul l := by
  rw [release, noBall]
  rfl

theorem waitingFoul_released (s : State) (l : Fin 16) (now travel : Nat) :
    ((s.modSup l fun u => u.released now travel).lane l).sup.waitingFoul = (s.lane l).sup.waitingFoul := by
  rw [sup_modSup, if_pos rfl]
  rfl

/-- No foul waits, or one that waited longer than the window. -/
theorem release_clean (noBall : (s.lane l).sup.delivery = none)
    (clean : (s.lane l).sup.waitingFoul = none ∨
      ∃ m, (s.lane l).sup.waitingFoul = some m ∧ s.timers.window * 100 < s.now - m) :
    release l s = s.modSup l fun u => u.released s.now (s.timers.travel * 1000) := by
  rw [release_opens noBall, State.takeWaitingFoul, waitingFoul_released]
  rcases clean with free | ⟨m, waits, old⟩
  · rw [free]
  · rw [waits]
    have out := (withinWindow_eq_false s m).mpr old
    exact if_neg (ne_true_of_eq_false out)

/-- A foul that waits within the window is that of the release. -/
theorem release_fouled (noBall : (s.lane l).sup.delivery = none) {m : Nat} (waits : (s.lane l).sup.waitingFoul = some m)
    (young : s.now - m ≤ s.timers.window * 100) :
    release l s =
      (s.modSup l fun u =>
        { ({ u.released s.now (s.timers.travel * 1000) with waitingFoul := none } : Supervisor).markFoul with
          horn := some ⟨.foul, 1000⟩ }).flagConsole (pairOf l) .foul := by
  rw [release_opens noBall, State.takeWaitingFoul, waitingFoul_released, waits]
  have inside := (withinWindow_eq_true s m).mpr young
  refine (if_pos inside).trans ?_
  rw [State.attributeFoul, State.sound, modSup_modSup, modSup_modSup, modSup_modSup]
  rfl

/-- Settles O24, by the deliveries in flight and the foul that waits. -/
theorem releaseOpensADelivery : Obligations.ReleaseOpensADelivery := by
  intro l s released
  refine ⟨fun d inFlight => ?_, fun noBall => ⟨fun clean => ?_, fun m waits young => ?_⟩⟩
  · rw [exec_event rfl released, release_stray inFlight]
  · rw [exec_event rfl released, release_clean noBall clean]
    rfl
  · rw [exec_event rfl released, release_fouled noBall waits young]
    rfl

/-! ## FOUL -/

/-- The last release and its delivery take the foul, and the tone sounds. -/
theorem attributeFoul_eq (s : State) (l : Fin 16) :
    s.attributeFoul l =
      (s.modSup l fun u => { u.markFoul with horn := some ⟨.foul, 1000⟩ }).flagConsole (pairOf l) .foul := by
  rw [State.attributeFoul, State.sound, modSup_modSup]
  rfl

theorem foul_off (off : (s.lane l).session.settings.foulDetection = false) : foul l s = s := by
  rw [foul, off]
  rfl

theorem recentRelease_some {r : LastRelease} (last : (s.lane l).sup.lastRelease = some r)
    (young : s.now - r.moment ≤ s.timers.window * 100) : s.recentRelease l = some r := by
  rw [State.recentRelease, last, Option.filter_some, (withinWindow_eq_true s _).mpr young, if_pos rfl]

theorem recentRelease_none
    (old : ∀ r, (s.lane l).sup.lastRelease = some r → s.timers.window * 100 < s.now - r.moment) :
    s.recentRelease l = none := by
  rw [State.recentRelease]
  cases last : (s.lane l).sup.lastRelease with
  | none => rfl
  | some r => rw [Option.filter_some, (withinWindow_eq_false s _).mpr (old r last)]; rfl

theorem foul_recent (on : (s.lane l).session.settings.foulDetection = true) {r : LastRelease}
    (recent : s.recentRelease l = some r) : foul l s = if r.fouled then s else s.attributeFoul l := by
  rw [foul, on, recent]
  rfl

theorem foul_waits (on : (s.lane l).session.settings.foulDetection = true) (old : s.recentRelease l = none)
    (free : (s.lane l).sup.waitingFoul = none) :
    foul l s = s.modSup l fun u => { u with waitingFoul := some s.now } := by
  rw [foul, on, old, free]
  rfl

theorem foul_stray (on : (s.lane l).session.settings.foulDetection = true) (old : s.recentRelease l = none)
    (waits : (s.lane l).sup.waitingFoul ≠ none) :
    foul l s = s.modSup l fun u => { u with strayFouls := bump16 u.strayFouls } := by
  obtain ⟨m, waits⟩ := Option.ne_none_iff_exists'.mp waits
  rw [foul, on, old, waits]
  rfl

/-- A Supervisor whose delivery in flight a release opened: the foul is that delivery's. -/
theorem markFoul_inFlight {u : Supervisor} {r : LastRelease} {d : Delivery} (last : u.lastRelease = some r)
    (inFlight : u.delivery = some d) (release : d.release.isSome = true) :
    u.markFoul = { u with
      lastRelease := some ⟨r.moment, true⟩
      delivery := some { d with marks := { d.marks with foul := true } } } := by
  obtain ⟨m, there⟩ := Option.isSome_iff_exists.mp release
  have opened : u.delivery.bind Delivery.release = some m := by rw [inFlight]; exact there
  unfold Supervisor.markFoul
  dsimp only
  rw [last, opened, inFlight]
  rfl

/-- No release opened a delivery in flight: the foul is the last delivery's, where a release opened that. -/
theorem markFoul_last {u : Supervisor} {r : LastRelease} {d : Delivery} (last : u.lastRelease = some r)
    (none : ∀ d, u.delivery = some d → d.release = none) (before : u.last = some d) :
    u.markFoul = { u with
      lastRelease := some ⟨r.moment, true⟩
      last := if d.release.isSome then some { d with marks := { d.marks with foul := true } } else some d } := by
  have noRelease : u.delivery.bind Delivery.release = .none := by
    cases there : u.delivery with
    | none => rfl
    | some d => exact none d there
  unfold Supervisor.markFoul
  simp only [last, noRelease, before, Option.map_some]
  cases d.release.isSome <;> rfl

/-! ## The ends of a waiting foul and of a tone -/

theorem waitingFoulExpiry_none (free : (s.lane l).sup.waitingFoul = none) : waitingFoulExpiry l s = s := by
  rw [waitingFoulExpiry, free]

theorem waitingFoulExpiry_some (waits : (s.lane l).sup.waitingFoul ≠ none) :
    waitingFoulExpiry l s = s.modSup l fun u => { u with waitingFoul := none, strayFouls := bump16 u.strayFouls } := by
  obtain ⟨m, waits⟩ := Option.ne_none_iff_exists'.mp waits
  rw [waitingFoulExpiry, waits]

/-- A foul within the window of a release that has none. -/
theorem exec_foul_attributed (released : s.resetHeld = false) (on : (s.lane l).session.settings.foulDetection = true)
    {r : LastRelease} (last : (s.lane l).sup.lastRelease = some r) (recent : s.recentRelease l = some r)
    (clean : r.fouled = false) :
    ∃ u, exec (.foul l) s =
        .next ((s.modSup l fun _ =>
          { u with horn := some ⟨.foul, 1000⟩, lastRelease := some ⟨r.moment, true⟩ }).flagConsole (pairOf l) .foul) ∧
      (∀ d, (s.lane l).sup.delivery = some d → d.release.isSome = true →
        u = { (s.lane l).sup with delivery := some { d with marks := { d.marks with foul := true } } }) ∧
      ((∀ d, (s.lane l).sup.delivery = some d → d.release = none) →
        ∀ d, (s.lane l).sup.last = some d →
          u = { (s.lane l).sup with
            last := if d.release.isSome then some { d with marks := { d.marks with foul := true } } else some d }) := by
  have marked : (s.lane l).sup.markFoul.lastRelease = some ⟨r.moment, true⟩ := by
    unfold Supervisor.markFoul
    rw [last]
    dsimp only
    split <;> rfl
  refine ⟨{ (s.lane l).sup.markFoul with
      horn := (s.lane l).sup.horn, lastRelease := (s.lane l).sup.lastRelease }, ?_, fun d inFlight opened => ?_,
    fun none d before => ?_⟩
  · rw [exec_event rfl released, foul_recent on recent, clean, attributeFoul_eq]
    refine congrArg (fun t : State => Host.Outcome.next (t.flagConsole (pairOf l) .foul)) (modSup_congr ?_)
    rw [← marked]
  · rw [markFoul_inFlight last inFlight opened]
  · rw [markFoul_last last none before]

/-- Settles O25, by the releases of the window and the foul that waits. -/
theorem foulsAreAttributed : Obligations.FoulsAreAttributed := by
  intro l s released
  refine ⟨fun off => ?_, fun on => ⟨fun r last young => ?_, fun old => ⟨fun free => ?_, fun waits => ?_⟩⟩,
    fun free => ?_, fun waits => ?_, exec_event (f := hornEnd l) rfl released⟩
  · rw [exec_event rfl released, foul_off off]
  · have recent := recentRelease_some last young
    refine ⟨fun fouled => ?_, fun clean => exec_foul_attributed released on last recent clean⟩
    rw [exec_event rfl released, foul_recent on recent, fouled]
    rfl
  · rw [exec_event rfl released, foul_waits on (recentRelease_none old) free]
  · rw [exec_event rfl released, foul_stray on (recentRelease_none old) waits]
  · rw [exec_event rfl released, waitingFoulExpiry_none free]
  · rw [exec_event rfl released, waitingFoulExpiry_some waits]

end Sys2Proof.Machine
end

section
/-! SUPPORT. What joins the queue of commands with a millisecond, command by command (log 2). -/

namespace Sys2Proof.Machine

/-! ## The lists that join the queue -/

theorem mem_allLanes (l : Fin 16) : l ∈ allLanes := List.mem_finRange l
theorem mem_allPairs (p : Fin 8) : p ∈ allPairs := List.mem_finRange p

theorem mem_laneEvents (i : Instr) (x : LaneInputs) (l : Fin 16) :
    i ∈ x.events l ↔
      x.lines.rises.getLsbD 0 = true ∧ i = .release l ∨ x.lines.rises.getLsbD 1 = true ∧ i = .deck l ∨
        x.lines.rises.getLsbD 2 = true ∧ i = .foul l ∨ x.lines.rises.getLsbD 3 = true ∧ i = .psRead l x.sense ∨
        x.lines.rises.getLsbD 4 = true ∧ i = .psDone l ∨ x.lines.rises.getLsbD 5 = true ∧ i = .psJam l := by
  simp only [LaneInputs.events, List.mem_append, mem_dueIf, or_assoc]

theorem mem_liftEvents (i : Instr) (x : Scanned 3) (p : Fin 8) :
    i ∈ x.liftEvents p ↔
      x.rises.getLsbD 0 = true ∧ i = .liftArrive p ∨ x.rises.getLsbD 1 = true ∧ i = .rackFullOn p ∨
        x.falls.getLsbD 1 = true ∧ i = .rackFullOff p ∨ x.rises.getLsbD 2 = true ∧ i = .liftOverload p ∨
        x.falls.getLsbD 2 = true ∧ i = .liftOverloadLow p := by
  simp only [Scanned.liftEvents, List.mem_append, mem_dueIf, or_assoc]

theorem mem_chainEvents (i : Instr) (c : Chain) :
    i ∈ c.events ↔ (∃ l : Fin 16, i ∈ c.lanes[l].events l) ∨ ∃ p : Fin 8, i ∈ c.lifts[p].liftEvents p := by
  simp [Chain.events, allLanes, allPairs]

theorem mem_periodEnd (i : Instr) (a : Lane) (l : Fin 16) :
    i ∈ a.periodEnd l ↔
      ∃ m, a.meter = some m ∧ a.meterCounts = true ∧ m.left = 1 ∧
        (m.phase = .front ∧ i = .frontGraceEnd l ∨ m.phase = .metered ∧ i = .unitEnd l ∨
          m.phase = .back ∧ i = .backGraceExpiry l) := by
  unfold Lane.periodEnd
  split
  next none => simp [none]
  next m there =>
    cases phase : m.phase <;> simp [there, phase, and_assoc]

theorem mem_dueRecords (i : Instr) (p : Fin 8) (list : List (BitVec 16)) :
    i ∈ dueRecords p list ↔ list ≠ [] ∧ i = .recordOverdue p list := by
  cases list <;> simp [dueRecords]

theorem mem_dueBands (i : Instr) (s : State) :
    i ∈ s.dueBands ↔ s.clock.endsSecond = true ∧ s.clock.tick.second = 0 ∧
      ∃ b, s.tariff.edgeAt s.clock.tick.minuteOfDay = some b ∧ i = .bandEdge b := by
  unfold State.dueBands
  dsimp only
  split
  next ends =>
    simp only [Bool.and_eq_true, beq_iff_eq] at ends
    split
    next b edge => simp [ends, edge]
    next none => simp [none]
  next stays =>
    simp only [Bool.and_eq_true, beq_iff_eq, not_and] at stays
    simp only [List.not_mem_nil, false_iff, not_and]
    intro ends start
    exact absurd start (stays ends)

/-- The expiries, in the order they join. -/
theorem mem_expiries (i : Instr) (s : State) :
    i ∈ s.expiries ↔
      (∃ l, (s.lane l).sup.horn.any (·.left == 1) = true ∧ i = .hornEnd l) ∨
      (∃ l, s.foulPasses l = true ∧ i = .waitingFoulExpiry l) ∨
      (s.clock.endsSecond = true ∧ ∃ l, i ∈ (s.lane l).periodEnd l) ∨
      (∃ l, (s.lane l).sup.warmUp.any (·.timer == 1) = true ∧ i = .warmUpEnd l) ∨
      (∃ l, (s.lane l).sup.cycle.any (·.timer == 1) = true ∧ i = .cycleTimeout l) ∨
      (∃ l, ((s.lane l).sup.delivery.any fun d => d.step == .awaitingDeck && d.travel == 1) = true ∧
        i = .travelTimeout l) ∨
      (∃ p, i ∈ dueRecords p ((s.ret p).reaching s.retSettings.timeout)) ∨
      (∃ p, ((s.ret p).idle == some 1) = true ∧ i = .liftIdleExpiry p) ∨ i ∈ s.dueBands := by
  have periods : i ∈ (if s.clock.endsSecond then allLanes.flatMap fun l => (s.lane l).periodEnd l else []) ↔
      s.clock.endsSecond = true ∧ ∃ l, i ∈ (s.lane l).periodEnd l := by
    split
    next ends => simp [ends, allLanes]
    next stays => simp [stays]
  simp only [State.expiries, List.mem_append, periods, List.mem_flatMap, mem_dueIf, mem_allLanes, mem_allPairs, true_and,
    or_assoc]

/-- Everything that can join the queue with a millisecond: the expiries, the band edge and the events of the inputs. -/
theorem mem_due (i : Instr) (s : State) :
    i ∈ s.due ↔
      ((∃ l, (s.lane l).sup.horn.any (·.left == 1) = true ∧ i = .hornEnd l) ∨
        (∃ l, s.foulPasses l = true ∧ i = .waitingFoulExpiry l) ∨
        (s.clock.endsSecond = true ∧ ∃ l m, (s.lane l).meter = some m ∧ (s.lane l).meterCounts = true ∧ m.left = 1 ∧
          (m.phase = .front ∧ i = .frontGraceEnd l ∨ m.phase = .metered ∧ i = .unitEnd l ∨
            m.phase = .back ∧ i = .backGraceExpiry l)) ∨
        (∃ l, (s.lane l).sup.warmUp.any (·.timer == 1) = true ∧ i = .warmUpEnd l) ∨
        (∃ l, (s.lane l).sup.cycle.any (·.timer == 1) = true ∧ i = .cycleTimeout l) ∨
        (∃ l, ((s.lane l).sup.delivery.any fun d => d.step == .awaitingDeck && d.travel == 1) = true ∧
          i = .travelTimeout l) ∨
        (∃ p, (s.ret p).reaching s.retSettings.timeout ≠ [] ∧
          i = .recordOverdue p ((s.ret p).reaching s.retSettings.timeout)) ∨
        (∃ p, ((s.ret p).idle == some 1) = true ∧ i = .liftIdleExpiry p) ∨
        (s.clock.endsSecond = true ∧ s.clock.tick.second = 0 ∧
          ∃ b, s.tariff.edgeAt s.clock.tick.minuteOfDay = some b ∧ i = .bandEdge b)) ∨
      (∃ l : Fin 16, i ∈ s.chain.lanes[l].events l) ∨ ∃ p : Fin 8, i ∈ s.chain.lifts[p].liftEvents p := by
  rw [← mem_chainEvents]
  simp only [State.due, List.mem_append, mem_expiries, mem_periodEnd, mem_dueRecords, mem_dueBands]

/-! ## Which command joins the queue when -/

section
variable (s : State) (l : Fin 16) (p : Fin 8)

theorem release_due : .release l ∈ s.due ↔ s.chain.lanes[l].lines.rises.getLsbD 0 = true := by
  simp [mem_due, mem_laneEvents, mem_liftEvents]

theorem deck_due : .deck l ∈ s.due ↔ s.chain.lanes[l].lines.rises.getLsbD 1 = true := by
  simp [mem_due, mem_laneEvents, mem_liftEvents]

theorem foul_due : .foul l ∈ s.due ↔ s.chain.lanes[l].lines.rises.getLsbD 2 = true := by
  simp [mem_due, mem_laneEvents, mem_liftEvents]

theorem psDone_due : .psDone l ∈ s.due ↔ s.chain.lanes[l].lines.rises.getLsbD 4 = true := by
  simp [mem_due, mem_laneEvents, mem_liftEvents]

theorem psJam_due : .psJam l ∈ s.due ↔ s.chain.lanes[l].lines.rises.getLsbD 5 = true := by
  simp [mem_due, mem_laneEvents, mem_liftEvents]

theorem psRead_due (sensed : PinSet) :
    .psRead l sensed ∈ s.due ↔ s.chain.lanes[l].lines.rises.getLsbD 3 = true ∧ sensed = s.chain.lanes[l].sense := by
  simp [mem_due, mem_laneEvents, mem_liftEvents]

theorem liftArrive_due : .liftArrive p ∈ s.due ↔ s.chain.lifts[p].rises.getLsbD 0 = true := by
  simp [mem_due, mem_laneEvents, mem_liftEvents]

theorem rackFullOn_due : .rackFullOn p ∈ s.due ↔ s.chain.lifts[p].rises.getLsbD 1 = true := by
  simp [mem_due, mem_laneEvents, mem_liftEvents]

theorem rackFullOff_due : .rackFullOff p ∈ s.due ↔ s.chain.lifts[p].falls.getLsbD 1 = true := by
  simp [mem_due, mem_laneEvents, mem_liftEvents]

theorem liftOverload_due : .liftOverload p ∈ s.due ↔ s.chain.lifts[p].rises.getLsbD 2 = true := by
  simp [mem_due, mem_laneEvents, mem_liftEvents]

theorem liftOverloadLow_due : .liftOverloadLow p ∈ s.due ↔ s.chain.lifts[p].falls.getLsbD 2 = true := by
  simp [mem_due, mem_laneEvents, mem_liftEvents]

theorem hornEnd_due : .hornEnd l ∈ s.due ↔ ∃ x, (s.lane l).sup.horn = some x ∧ x.left = 1 := by
  simp [mem_due, mem_laneEvents, mem_liftEvents, Option.any_eq_true]

theorem cycleTimeout_due : .cycleTimeout l ∈ s.due ↔ ∃ x, (s.lane l).sup.cycle = some x ∧ x.timer = 1 := by
  simp [mem_due, mem_laneEvents, mem_liftEvents, Option.any_eq_true]

theorem warmUpEnd_due : .warmUpEnd l ∈ s.due ↔ ∃ x, (s.lane l).sup.warmUp = some x ∧ x.timer = 1 := by
  simp [mem_due, mem_laneEvents, mem_liftEvents, Option.any_eq_true]

theorem travelTimeout_due :
    .travelTimeout l ∈ s.due ↔
      ∃ x, (s.lane l).sup.delivery = some x ∧ x.step = .awaitingDeck ∧ x.travel = 1 := by
  simp [mem_due, mem_laneEvents, mem_liftEvents, Option.any_eq_true]

theorem waitingFoulExpiry_due :
    .waitingFoulExpiry l ∈ s.due ↔
      ∃ x, (s.lane l).sup.waitingFoul = some x ∧ s.timers.window * 100 < s.now + 1 - x := by
  have due : .waitingFoulExpiry l ∈ s.due ↔ ∃ x, (s.lane l).sup.waitingFoul = some x ∧
      decide (s.timers.window * 100 < s.now + 1 - x) = true := by
    rw [← Option.any_eq_true]
    simp [mem_due, mem_laneEvents, mem_liftEvents, State.foulPasses, State.foulWindow]
    rfl
  exact due.trans (exists_congr fun x => and_congr_right fun _ => decide_eq_true_iff)

/-- A meter's last second of a period, by what the period counts (R158). -/
theorem periodEnds_iff (q : Meter → Prop) :
    (s.clock.endsSecond = true ∧ ∃ m, (s.lane l).meter = some m ∧ (s.lane l).meterCounts = true ∧ m.left = 1 ∧ q m) ↔
      ∃ m, (s.lane l).meter = some m ∧ (999 ≤ s.clock.ms ∧ s.running l = true ∧ m.left = 1) ∧ m.counts = true ∧ q m := by
  have counts (m : Meter) (there : (s.lane l).meter = some m) :
      (s.lane l).meterCounts = true ↔ s.running l = true ∧ m.counts = true ∧ 0 < m.left := by
    simp [Lane.meterCounts, there, State.running, State.session]
  simp only [Clock.endsSecond, decide_eq_true_iff]
  constructor
  · rintro ⟨ends, m, there, runs, one, holds⟩
    obtain ⟨runs, counted, -⟩ := (counts m there).mp runs
    exact ⟨m, there, ⟨ends, runs, one⟩, counted, holds⟩
  · rintro ⟨m, there, ⟨ends, runs, one⟩, counted, holds⟩
    exact ⟨ends, m, there, (counts m there).mpr ⟨runs, counted, by omega⟩, one, holds⟩

theorem counts_metered {m : Meter} (phase : m.phase = .metered) : m.counts = true ↔ m.kind = .time := by
  unfold Meter.counts
  cases kind : m.kind <;> simp [phase]

theorem frontGraceEnd_due :
    .frontGraceEnd l ∈ s.due ↔
      ∃ m, (s.lane l).meter = some m ∧ (999 ≤ s.clock.ms ∧ s.running l = true ∧ m.left = 1) ∧ m.phase = .front := by
  have ends : .frontGraceEnd l ∈ s.due ↔ s.clock.endsSecond = true ∧ ∃ m, (s.lane l).meter = some m ∧
      (s.lane l).meterCounts = true ∧ m.left = 1 ∧ m.phase = .front := by
    simp [mem_due, mem_laneEvents, mem_liftEvents]
  rw [ends, periodEnds_iff]
  refine exists_congr fun m => and_congr_right fun _ => and_congr_right fun _ => and_iff_right_of_imp fun phase => ?_
  simp [Meter.counts, phase]

theorem backGraceExpiry_due :
    .backGraceExpiry l ∈ s.due ↔
      ∃ m, (s.lane l).meter = some m ∧ (999 ≤ s.clock.ms ∧ s.running l = true ∧ m.left = 1) ∧ m.phase = .back := by
  have ends : .backGraceExpiry l ∈ s.due ↔ s.clock.endsSecond = true ∧ ∃ m, (s.lane l).meter = some m ∧
      (s.lane l).meterCounts = true ∧ m.left = 1 ∧ m.phase = .back := by
    simp [mem_due, mem_laneEvents, mem_liftEvents]
  rw [ends, periodEnds_iff]
  refine exists_congr fun m => and_congr_right fun _ => and_congr_right fun _ => and_iff_right_of_imp fun phase => ?_
  simp [Meter.counts, phase]

theorem unitEnd_due :
    .unitEnd l ∈ s.due ↔
      ∃ m, (s.lane l).meter = some m ∧ (999 ≤ s.clock.ms ∧ s.running l = true ∧ m.left = 1) ∧ m.phase = .metered ∧
        m.kind = .time := by
  have ends : .unitEnd l ∈ s.due ↔ s.clock.endsSecond = true ∧ ∃ m, (s.lane l).meter = some m ∧
      (s.lane l).meterCounts = true ∧ m.left = 1 ∧ m.phase = .metered := by
    simp [mem_due, mem_laneEvents, mem_liftEvents]
  rw [ends, periodEnds_iff]
  refine exists_congr fun m => and_congr_right fun _ => and_congr_right fun _ => ?_
  rw [and_comm]
  exact and_congr_right fun phase => counts_metered phase

theorem liftIdleExpiry_due : .liftIdleExpiry p ∈ s.due ↔ (s.ret p).idle = some 1 := by
  simp [mem_due, mem_laneEvents, mem_liftEvents]

theorem recordOverdue_due (seqs : List (BitVec 16)) :
    .recordOverdue p seqs ∈ s.due ↔ seqs ≠ [] ∧ seqs = (s.ret p).reaching s.retSettings.timeout := by
  have joins : .recordOverdue p seqs ∈ s.due ↔ (s.ret p).reaching s.retSettings.timeout ≠ [] ∧
      seqs = (s.ret p).reaching s.retSettings.timeout := by
    simp [mem_due, mem_laneEvents, mem_liftEvents]
  rw [joins]
  constructor
  · rintro ⟨some, rfl⟩; exact ⟨some, rfl⟩
  · rintro ⟨some, rfl⟩; exact ⟨some, rfl⟩

theorem bandEdge_due (b : Nat) :
    .bandEdge b ∈ s.due ↔ s.clock.endsSecond = true ∧ s.clock.tick.second = 0 ∧
      s.tariff.edgeAt s.clock.tick.minuteOfDay = some b := by
  simp [mem_due, mem_laneEvents, mem_liftEvents]

end

end Sys2Proof.Machine
end

section
/-! PROOFS. A millisecond of the part, and a part whose RESET is held (R20, R52, R151, R158, R200, log 2). -/

namespace Sys2Proof.Machine

variable {s : State}

/-- A millisecond on an empty queue: the outputs driven, the records advanced, and what is due waiting. -/
theorem step_eq_tick (idle : s.pending = []) (released : s.resetHeld = false) :
    step s = .next { s.driveOutputs.advance with pending := s.due } := by
  rw [step, idle]
  simp only [State.tick, released, idle, List.nil_append]
  rfl

/-! ## The records after a millisecond -/

/-- The state after a millisecond. -/
def State.afterTick (s : State) : State := { s.driveOutputs.advance with pending := s.due }

@[simp] theorem lane_afterTick (s : State) (l : Fin 16) :
    s.afterTick.lane l = { s.lane l with out := s.outputs l }.tick s.clock.endsSecond := by
  simp [State.afterTick, State.advance, State.driveOutputs, State.lane]

@[simp] theorem pair_afterTick (s : State) (p : Fin 8) :
    s.afterTick.pair p = { s.pair p with motor := (s.ret p).lift == LiftState.running }.tick := by
  simp [State.afterTick, State.advance, State.driveOutputs, State.pair, State.ret]

theorem ret_afterTick (s : State) (p : Fin 8) : s.afterTick.ret p = (s.ret p).tick := by
  rw [State.ret, pair_afterTick]
  rfl

/-- What a millisecond leaves as it is. -/
theorem kept_afterTick (s : State) :
    s.afterTick.pool = s.pool ∧ s.afterTick.directory = s.directory ∧ s.afterTick.ports = s.ports ∧
      s.afterTick.loading = s.loading ∧ s.afterTick.storing = s.storing ∧ s.afterTick.memory = s.memory := by
  simp only [State.afterTick, State.advance, State.driveOutputs, and_self]

theorem settings_afterTick (s : State) : s.afterTick.settings = s.settings := by
  have lanes : s.afterTick.lanes.map (fun a => a.session.settings) = s.lanes.map fun a => a.session.settings := by
    refine Vector.ext fun l h => ?_
    rw [Vector.getElem_map, Vector.getElem_map]
    have kept : (s.afterTick.lane ⟨l, h⟩).session.settings = (s.lane ⟨l, h⟩).session.settings := by
      rw [lane_afterTick]
      rfl
    exact kept
  have pairs : s.afterTick.pairs.map (fun a => a.turn.settings) = s.pairs.map fun a => a.turn.settings := by
    refine Vector.ext fun p h => ?_
    rw [Vector.getElem_map, Vector.getElem_map]
    have kept : (s.afterTick.pair ⟨p, h⟩).turn.settings = (s.pair ⟨p, h⟩).turn.settings := by
      rw [pair_afterTick]
      rfl
    exact kept
  unfold State.settings
  rw [lanes, pairs]
  rfl

theorem transit_tick (r : ReturnMonitor) :
    r.tick.transit =
      if r.lift = .running ∨ r.lift = .stall then r.transit.map fun x => { x with age := min (x.age + 1) 65535000 }
      else r.transit := by
  unfold ReturnMonitor.tick
  cases r.lift <;> rfl

/-- The seconds left of a running meter count down with the clock's seconds (R158); at none left nothing is taken. -/
theorem meter_tick (a : Lane) (second : Bool) :
    (a.tick second).meter = a.meter.map fun m =>
      if second = true ∧ a.session.state.grants = true ∧ (m.phase = .metered → m.kind = .time) then
        { m with left := m.left - 1 }
      else m := by
  unfold Lane.tick Lane.meterCounts
  cases there : a.meter with
  | none => simp
  | some m =>
    have counts : m.counts = true ↔ (m.phase = .metered → m.kind = .time) := by
      cases phase : m.phase <;> simp [Meter.counts, phase]
      cases m.kind <;> simp
    have none (left : m.left = 0) : { m with left := m.left - 1 } = m := by
      rw [left, Nat.zero_sub, ← left]
    rcases Nat.eq_zero_or_pos m.left with left | left
    · rw [if_neg (by simp [left])]
      simp only [none left, ite_self, Option.map_some]
    · simp [left, ← counts, ite_and, apply_ite some]

/-! ## The scan -/

theorem scan_lines {n : Nat} (x : Scanned n) :
    x.scan.wire = x.wire ∧ x.scan.seen = x.wire ∧
      ∀ k < n, x.scan.confirmed.getLsbD k =
        if x.wire.getLsbD k = x.seen.getLsbD k then x.wire.getLsbD k else x.confirmed.getLsbD k :=
  ⟨rfl, rfl, fun _ h => getLsbD_confirms x h⟩

theorem rises_iff {n : Nat} (x : Scanned n) {k : Nat} (h : k < n) :
    x.rises.getLsbD k = true ↔
      x.wire.getLsbD k = true ∧ x.seen.getLsbD k = true ∧ x.confirmed.getLsbD k = false := by
  rw [getLsbD_rises x h]
  simp [and_assoc]

theorem falls_iff {n : Nat} (x : Scanned n) {k : Nat} (h : k < n) :
    x.falls.getLsbD k = true ↔
      x.wire.getLsbD k = false ∧ x.seen.getLsbD k = false ∧ x.confirmed.getLsbD k = true := by
  rw [getLsbD_falls x h]
  simp only [Bool.and_eq_true, Bool.not_eq_true']
  rw [and_assoc]
  exact and_rotate

/-! ## The edges of the bands -/

/-- No two bands of a layout begin at the same minute. -/
theorem bandStart_inj {x : Tariff} (layout : layoutIn x.dayStart x.bands x.length = true) {a b : Nat} (la : 1 ≤ a)
    (ha : a ≤ x.bands) (lb : 1 ≤ b) (hb : b ≤ x.bands) (same : x.bandStart a = x.bandStart b) : a = b := by
  obtain ⟨-, -, -, long, -, -, day⟩ := (layoutIn_iff ..).mp layout
  have below {c : Nat} (hc : c ≤ x.bands) : (c - 1) * x.length < 1440 :=
    (Nat.mul_le_mul_right _ (by omega)).trans_lt day
  have offsets : (a - 1) * x.length = (b - 1) * x.length := by
    have ha := below ha
    have hb := below hb
    unfold Tariff.bandStart at same
    omega
  have := Nat.eq_of_mul_eq_mul_right (by omega) offsets
  omega

theorem edgeAt_iff {x : Tariff} (layout : layoutIn x.dayStart x.bands x.length = true) (minute b : Nat) :
    x.edgeAt minute = some b ↔ 1 ≤ b ∧ b ≤ x.bands ∧ x.bandStart b = minute := by
  have mem (c : Nat) : c ∈ (List.range x.bands).map (· + 1) ↔ 1 ≤ c ∧ c ≤ x.bands := by
    simp only [List.mem_map, List.mem_range]
    constructor
    · rintro ⟨d, hd, rfl⟩; omega
    · rintro ⟨low, high⟩; exact ⟨c - 1, by omega, by omega⟩
  unfold Tariff.edgeAt
  constructor
  · intro found
    obtain ⟨low, high⟩ := (mem b).mp (List.mem_of_find?_eq_some found)
    exact ⟨low, high, by simpa using List.find?_some found⟩
  · rintro ⟨low, high, here⟩
    have isSome : (((List.range x.bands).map (· + 1)).find? fun b => x.bandStart b == minute).isSome = true :=
      List.find?_isSome.mpr ⟨b, (mem b).mpr ⟨low, high⟩, by simpa using here⟩
    obtain ⟨c, found⟩ := Option.isSome_iff_exists.mp isSome
    obtain ⟨lowC, highC⟩ := (mem c).mp (List.mem_of_find?_eq_some found)
    have hereC : x.bandStart c = minute := by simpa using List.find?_some found
    rw [found, bandStart_inj layout lowC highC low high (hereC.trans here.symm)]

/-! ## RESET held -/

/-- While RESET is held, every command but the reset's own leaves the part as it is (R200). -/
theorem exec_held {c : Instr} (held : s.resetHeld = true) (notReset : ∀ rate full raised, c ≠ .powerReset rate full raised)
    (notLoss : c ≠ .resetAssertedOrPowerLoss) : exec c s = .next s := by
  have event {f : State → State} : (.next (s.unlessHeld f) : Result) = .next s := by
    rw [State.unlessHeld, if_pos held]
  cases frame : framePort c with
  | some p =>
    rw [exec_frame frame, State.receive, held]
    rfl
  | none =>
    cases c
    case powerReset => exact absurd rfl (notReset _ _ _)
    case resetAssertedOrPowerLoss => exact absurd rfl notLoss
    case frameReceived | replyEnd | travelTimeout | frameTruncated | portBreak | settingsLoadEnd
        | storeEnd | release | deck | foul | psRead | psDone | psJam | liftArrive | rackFullOn | rackFullOff | liftOverload
        | liftOverloadLow | cycleTimeout | warmUpEnd | waitingFoulExpiry | hornEnd | recordOverdue | liftIdleExpiry
        | bandEdge | frontGraceEnd | unitEnd | backGraceExpiry | lineReturnsToMark =>
      exact event
    all_goals exact nomatch frame

theorem step_held (held : s.resetHeld = true) (idle : s.pending = []) : step s = .next s := by
  rw [step, idle]
  simp [State.tick, held]

/-! ## The obligation's parts -/

section
variable (s : State) (l : Fin 16) (p : Fin 8)

/-- The scan of a lane's inputs, and which of its events are due. -/
theorem laneScan :
    s.afterTick.chain.lanes[l] = { s.chain.lanes[l] with lines := s.chain.lanes[l].lines.scan } := by
  have mapped : s.afterTick.chain.lanes = s.chain.lanes.map fun x => { x with lines := x.lines.scan } := rfl
  rw [mapped]
  exact Vector.getElem_map ..

theorem liftScan : s.afterTick.chain.lifts[p] = s.chain.lifts[p].scan := by
  have mapped : s.afterTick.chain.lifts = s.chain.lifts.map Scanned.scan := rfl
  rw [mapped]
  exact Vector.getElem_map ..

theorem clock_afterTick : s.afterTick.clock = s.clock.tick := rfl

theorem pending_afterTick : s.afterTick.pending = s.due := rfl

theorem reaching_eq (timeout : Nat) (seqs : List (BitVec 16)) :
    seqs ≠ [] ∧ seqs = (s.ret p).reaching timeout ↔
      seqs ≠ [] ∧ ((s.ret p).lift = .running ∨ (s.ret p).lift = .stall) ∧
        seqs = ((s.ret p).transit.filter fun x => !x.overdue && decide (timeout * 1000 ≤ x.age + 1)).map Transit.seq := by
  refine and_congr_right fun some => ?_
  unfold ReturnMonitor.reaching
  cases (s.ret p).lift <;> simp [LiftState.ages, some]

end

/-- Settles O2: the state after a millisecond record by record, and what is due command by command. -/
theorem timePassesUnlessResetIsHeld : Obligations.TimePassesUnlessResetIsHeld := by
  unfold Obligations.TimePassesUnlessResetIsHeld
  refine ⟨fun s idle released => ?_, fun s idle released => ?_, fun s idle released => ?_,
    fun c s held notReset notLoss => ⟨exec_held held notReset notLoss, step_held held⟩⟩ <;>
    refine ⟨s.afterTick, step_eq_tick idle released, ?_⟩
  · obtain ⟨pool, directory, ports, loading, storing, memory⟩ := kept_afterTick s
    refine ⟨rfl, rfl, rfl, pool, directory, ports, loading, storing, memory, settings_afterTick s, fun l => ?_,
      fun p => ?_⟩
    · rw [lane_afterTick]
      exact ⟨rfl, rfl, rfl, rfl, rfl⟩
    · rw [State.turn, ret_afterTick, pair_afterTick]
      exact ⟨rfl, rfl, rfl, transit_tick _⟩
  · dsimp only
    simp only [laneScan, liftScan, pending_afterTick, release_due, deck_due, foul_due, psRead_due, psDone_due, psJam_due,
      liftArrive_due, rackFullOn_due, rackFullOff_due, liftOverload_due, liftOverloadLow_due]
    refine ⟨fun l => ⟨scan_lines _, trivial, ?_⟩, fun p => ⟨scan_lines _, ?_⟩⟩
    · have rises {k : Nat} (h : k < 6) := rises_iff s.chain.lanes[l].lines h
      exact ⟨rises (by decide), rises (by decide), rises (by decide), fun sensed => and_congr_left' (rises (by decide)),
        rises (by decide), rises (by decide)⟩
    · have rises {k : Nat} (h : k < 3) := rises_iff s.chain.lifts[p] h
      have falls {k : Nat} (h : k < 3) := falls_iff s.chain.lifts[p] h
      exact ⟨rises (by decide), rises (by decide), falls (by decide), rises (by decide), falls (by decide)⟩
  · refine ⟨fun l => ?_, fun p => ?_, fun layout b => ?_⟩
    · refine ⟨?_, ?_, hornEnd_due s l, cycleTimeout_due s l, warmUpEnd_due s l, travelTimeout_due s l,
        waitingFoulExpiry_due s l, frontGraceEnd_due s l, ?_, backGraceExpiry_due s l⟩
      · rw [lane_afterTick]
        rfl
      · rw [lane_afterTick, meter_tick]
        simp only [Clock.endsSecond, decide_eq_true_iff]
        rfl
      · exact unitEnd_due s l
    · refine ⟨?_, liftIdleExpiry_due s p, fun seqs => ?_⟩
      · rw [ret_afterTick]
        rfl
      · exact (recordOverdue_due s p seqs).trans (reaching_eq s p _ seqs)
    · refine (bandEdge_due s b).trans ?_
      rw [edgeAt_iff layout]
      simp only [clock_afterTick, Clock.endsSecond, decide_eq_true_iff, Tariff.bandStart, Clock.minuteOfDay]

end Sys2Proof.Machine
end

section
/-! SUPPORT. Flags that stay set, the lines after a reply, the park that a lane enters, and the ball a cycle loses. -/

namespace Sys2Proof.Machine

variable {s t : State} {q : Port} {k : Nat}

/-! ## Flags that stay set (R193) -/

theorem flagged_flagDk (h : s.flagged q k) (f : DkFlag) : (s.flagDk f).flagged q k := flagged_setEvent h _ _
theorem flagged_flagMc (h : s.flagged q k) (f : McFlag) : (s.flagMc f).flagged q k := flagged_setEvent h _ _
theorem flagged_flagConsole (h : s.flagged q k) (n : Fin 8) (f : ConsoleFlag) : (s.flagConsole n f).flagged q k :=
  flagged_setEvent h _ _

theorem flagged_flagConsoleIf (h : s.flagged q k) (c : Bool) (n : Fin 8) (f : ConsoleFlag) :
    (s.flagConsoleIf c n f).flagged q k := by
  unfold State.flagConsoleIf
  split
  · exact flagged_flagConsole h n f
  · exact h

theorem flagged_updLane (h : s.flagged q k) (l : Fin 16) (f : Lane → Lane) : (s.updLane l f).flagged q k := by
  unfold State.updLane
  split
  · exact h
  · exact flagged_flagConsole (s := s.modLane l f) h _ _

theorem flagged_updSup (h : s.flagged q k) (l : Fin 16) (f : Supervisor → Supervisor) : (s.updSup l f).flagged q k :=
  flagged_updLane h l _

theorem flagged_updSession (h : s.flagged q k) (l : Fin 16) (f : Session → Session) : (s.updSession l f).flagged q k :=
  flagged_updLane h l _

theorem flagged_updTurn (h : s.flagged q k) (p : Fin 8) (f : TurnUnit → TurnUnit) : (s.updTurn p f).flagged q k :=
  flagged_flagConsoleIf (flagged_flagConsoleIf (s := s.modPair p _) h ..) ..

theorem flagged_idleRule (h : s.flagged q k) (p : Fin 8) : (s.idleRule p).flagged q k := by
  rw [idleRule_eq]
  exact h

theorem flagged_withdrawPower (h : s.flagged q k) (l : Fin 16) : (s.withdrawPower l).flagged q k := flagged_updSup h l _

theorem flagged_replying (h : s.flagged q k) (p : Port) (code : Byte) (o : ReplyOutcome) (r : List Byte) :
    (s.replying p code o r).flagged q k := by
  simpa only [State.flagged, events_replying] using h

/-- A lane whose watched fields change sets LANE_STATE_CHANGED. -/
theorem flagged_updLane_changed {l : Fin 16} {f : Lane → Lane} (h : (f (s.lane l)).watched ≠ (s.lane l).watched) :
    (s.updLane l f).flagged (.console (pairOf l)) 3 := by
  rw [State.updLane, if_neg h]
  exact flagged_setEvent_same _ _ 3

theorem flagged_updSup_changed {l : Fin 16} {f : Supervisor → Supervisor}
    (h : (f (s.lane l).sup).state ≠ (s.lane l).sup.state) : (s.updSup l f).flagged (.console (pairOf l)) 3 :=
  flagged_updLane_changed fun same => h (congrArg (fun w => w.2.2.2) same)

theorem flagged_updSession_changed {l : Fin 16} {f : Session → Session}
    (h : (f (s.lane l).session).state ≠ (s.lane l).session.state) : (s.updSession l f).flagged (.console (pairOf l)) 3 :=
  flagged_updLane_changed fun same => h (congrArg Prod.fst same)

/-! ## The lines after a reply -/

/-- A request that leaves the lines gives its reply, and the rest of the lines stays. -/
theorem answers_replying (lines : s.sameLines t) (p : Port) (code : Byte) (o : ReplyOutcome) (r : List Byte) :
    s.answers (t.replying p code o r) p code o r := by
  intro q
  have line := lines q
  simp only [State.replying, port_modPort]
  split
  next same =>
    simp only [PortIf.line, PortIf.mk.injEq] at line ⊢
    simp [line]
  next => exact line

/-! ## The fields of the chip -/

theorem retSettings_of_chip (h : t.chip = s.chip) : t.retSettings = s.retSettings :=
  congrArg (fun c => c.2.2.2.2.1) h

theorem timers_of_chip (h : t.chip = s.chip) : t.timers = s.timers := congrArg (fun c => c.2.2.2.1) h

theorem billing_of_chip (h : t.chip = s.chip) : t.billing = s.billing := congrArg (fun c => c.2.2.1) h

theorem now_of_chip (h : t.chip = s.chip) : t.now = s.now := congrArg (fun c => c.2.2.2.2.2.2.2.2.2.2.2.1) h

theorem priceOf_congr {l : Fin 16} (chip : t.chip = s.chip)
    (settings : (t.lane l).session.settings = (s.lane l).session.settings) : t.priceOf l = s.priceOf l := by
  have clock : t.clock = s.clock := congrArg Prod.fst chip
  have tariff : t.tariff = s.tariff := congrArg (fun c => c.2.1) chip
  simp only [State.priceOf, State.band, clock, tariff, settings]

theorem creditHolds_congr {l : Fin 16} (chip : t.chip = s.chip) (meter : (t.lane l).meter = (s.lane l).meter)
    (settings : (t.lane l).session.settings = (s.lane l).session.settings) : t.creditHolds l = s.creditHolds l := by
  simp only [State.creditHolds, meter, priceOf_congr chip settings]

/-- The idle timer of R60 is worked out from the sessions of the pair's lanes and the return settings. -/
theorem idleAfter_congr {p : Fin 8} (chip : t.chip = s.chip) (sessions : ∀ sd, t.session (laneAt p sd) = s.session (laneAt p sd))
    (r : ReturnMonitor) : t.idleAfter p r = s.idleAfter p r := by
  unfold State.idleAfter State.running
  rw [sessions, sessions, retSettings_of_chip chip]

/-- A Return Monitor whose idle timer follows R60, seen from states alike in it. -/
theorem returnStopped_congr {s' t' : State} {p : Fin 8} (h : s.returnStopped t p) (before : s'.ret p = s.ret p)
    (after : t'.ret p = t.ret p) (idle : ∀ r, t'.idleAfter p r = t.idleAfter p r) : s'.returnStopped t' p := by
  unfold State.returnStopped at *
  rw [after, before, idle, h]

/-- The idle rule, taken by a pair whose Return Monitor was untouched. -/
theorem returnStopped_idleRule {p : Fin 8} (kept : t.ret p = s.ret p) : s.returnStopped (t.idleRule p) p := by
  rw [State.returnStopped, idleRule_eq, ret_modRet_same, idleAfter_modRet, kept]

/-! ## A lane enters PARKED (R9, R10) -/

variable {l : Fin 16}

theorem lane_withdrawPower (s : State) (l : Fin 16) :
    (s.withdrawPower l).lane l =
      { s.lane l with sup := { (s.lane l).sup with servicePower := false }.withdrawn } := by
  rw [State.withdrawPower, State.updSup, lane_updLane_same]

theorem lane_enterParked (s : State) (l : Fin 16) (mask : WakeMask) (cause : ParkCause) :
    (s.enterParked l mask cause).lane l =
      { s.lane l with
        session := (s.lane l).session.asParked mask cause
        sup := { (s.lane l).sup with servicePower := false }.withdrawn } := by
  rw [State.enterParked, lane_flagDk, State.liftLaneStopped, lane_idleRule, lane_withdrawPower, State.updSession,
    lane_updLane_same]
  rfl

theorem idleAfter_flagDk (s : State) (f : DkFlag) (p : Fin 8) (r : ReturnMonitor) :
    (s.flagDk f).idleAfter p r = s.idleAfter p r := rfl

theorem returnStopped_enterParked (s : State) (l : Fin 16) (mask : WakeMask) (cause : ParkCause) :
    s.returnStopped (s.enterParked l mask cause) (pairOf l) := by
  unfold State.enterParked State.liftLaneStopped
  refine returnStopped_congr (returnStopped_idleRule ?_) rfl (ret_flagDk ..) fun r => idleAfter_flagDk ..
  rw [ret_withdrawPower, ret_updSession]

theorem flagged_enterParked (h : s.flagged q k) (l : Fin 16) (mask : WakeMask) (cause : ParkCause) :
    (s.enterParked l mask cause).flagged q k :=
  flagged_flagDk (flagged_idleRule (flagged_withdrawPower (flagged_updSession h l _) l) _) _

theorem laneParked_enterParked (s : State) (l : Fin 16) (mask : WakeMask) (cause : ParkCause) :
    (s.enterParked l mask cause).flagged .dk 4 :=
  flagged_setEvent_same _ _ 4

theorem laneStateChanged_enterParked (h : s.session l ≠ .parked) (mask : WakeMask) (cause : ParkCause) :
    (s.enterParked l mask cause).flagged (.console (pairOf l)) 3 :=
  flagged_flagDk (flagged_idleRule (flagged_withdrawPower (flagged_updSession_changed (f := fun n =>
    { n.enter .parked with wakeMask := mask, parkCause := cause, pendingPark := none }) (Ne.symm h)) l) _) _

theorem lane_dropPending (s : State) (l : Fin 16) :
    (s.dropPending l).lane l = { s.lane l with session := { (s.lane l).session with pendingPark := none } } := by
  rw [State.dropPending, State.updSession, lane_updLane_same]

theorem enterPending_none (h : (s.lane l).session.pendingPark = none) : s.enterPending l = s := by
  rw [State.enterPending, h]

theorem enterPending_credit {x : PendingPark} (h : (s.lane l).session.pendingPark = some x)
    (held : x.mask.credit = true ∧ s.creditHolds l = true) : s.enterPending l = s.dropPending l := by
  rw [State.enterPending, h]
  exact if_pos (by simpa using held)

theorem enterPending_parks {x : PendingPark} (h : (s.lane l).session.pendingPark = some x)
    (free : ¬ (x.mask.credit = true ∧ s.creditHolds l = true)) :
    s.enterPending l = s.enterParked l x.mask x.cause := by
  rw [State.enterPending, h]
  exact if_neg (by simpa using free)

theorem flagged_enterPending (h : s.flagged q k) (l : Fin 16) : (s.enterPending l).flagged q k := by
  unfold State.enterPending
  split
  · exact h
  · split
    · exact flagged_updSession h l _
    · exact flagged_enterParked h l _ _

/-- The Supervisor of a lane that enters a park that waits: its power is withdrawn where it parks. -/
theorem sup_enterPending (s : State) (l : Fin 16) :
    ((s.enterPending l).lane l).sup = (s.lane l).sup ∨
      ((s.enterPending l).lane l).sup = { (s.lane l).sup with servicePower := false }.withdrawn := by
  unfold State.enterPending
  split
  · exact .inl rfl
  · split
    · rw [lane_dropPending]; exact .inl rfl
    · rw [lane_enterParked]; exact .inr rfl

/-- A park that waits on a lane whose record another rule has left as it was: removed where CREDIT is in its mask and
holds, entered otherwise (R10). -/
theorem enterPending_taken {u : State} (record : (u.lane l).session = (s.lane l).session)
    (meter : (u.lane l).meter = (s.lane l).meter) (chip : u.chip = s.chip) (ret : u.ret (pairOf l) = s.ret (pairOf l)) :
    ((s.lane l).session.pendingPark = none →
      ((u.enterPending l).lane l).session = (s.lane l).session ∧
        (u.enterPending l).ret (pairOf l) = s.ret (pairOf l)) ∧
    ∀ x, (s.lane l).session.pendingPark = some x →
      (x.mask.credit = true ∧ s.creditHolds l = true →
        ((u.enterPending l).lane l).session = { (s.lane l).session with pendingPark := none } ∧
          (u.enterPending l).ret (pairOf l) = s.ret (pairOf l)) ∧
      (¬ (x.mask.credit = true ∧ s.creditHolds l = true) →
        ((u.enterPending l).lane l).session = (s.lane l).session.asParked x.mask x.cause ∧
          s.returnStopped (u.enterPending l) (pairOf l)) := by
  have credit : u.creditHolds l = s.creditHolds l := creditHolds_congr chip meter (by rw [record])
  refine ⟨fun free => ?_, fun x waits => ⟨fun held => ?_, fun free => ?_⟩⟩
  · rw [enterPending_none (by rw [record, free])]
    exact ⟨record, ret⟩
  · rw [enterPending_credit (x := x) (by rw [record, waits]) (by rwa [credit]), lane_dropPending, record]
    exact ⟨rfl, (ret_updSession ..).trans ret⟩
  · rw [enterPending_parks (x := x) (by rw [record, waits]) (by rwa [credit]), lane_enterParked, record]
    exact ⟨rfl, returnStopped_congr (returnStopped_enterParked ..) ret.symm rfl fun _ => rfl⟩

/-! ## A ball lost before its READ (R33, R38) -/

/-- A Supervisor whose delivery in flight, if it is lost, closes unscored. -/
def Supervisor.lose (u : Supervisor) (lost : Option Delivery) : Supervisor :=
  { u with
    delivery := if lost.isSome then none else u.delivery
    last := if lost.isSome then lost else u.last
    unscoredBalls := if lost.isSome then bump16 u.unscoredBalls else u.unscoredBalls }

/-- A lane whose delivery in flight, if it is lost, closes unscored, and its slot's ball is no longer in flight. -/
def State.lose (s : State) (l : Fin 16) : Option Delivery → State
  | some d => (s.modSup l fun u => u.lose (some d)).landBall l d
  | none => s

/-- The delivery lost with a cycle: that of a ball whose READ has not come. -/
def State.lostWith (s : State) (l : Fin 16) (c : Cycle) : Option Delivery :=
  if c.awaitsRead then stillInFlight (s.lane l).sup.delivery else none

theorem loseBall_eq (s : State) (l : Fin 16) (c : Cycle) :
    (if c.awaitsRead then s.loseBall l else s) = s.lose l (s.lostWith l c) := by
  unfold State.lostWith State.loseBall stillInFlight
  split
  · cases there : (s.lane l).sup.delivery with
    | none => rfl
    | some d =>
      by_cases waits : d.step = .awaitingRead
      · simp only [waits, if_true, Option.filter_some, beq_self_eq_true]
        rfl
      · simp only [waits, if_false, Option.filter_some, beq_iff_eq]
        rfl
  · rfl

/-- The slot whose mark is cleared when a delivery closes. -/
def Delivery.lands (d : Delivery) (i : Fin 12) : Bool := !d.laneClosed && d.place.any fun a => a.slot == i

theorem turn_landBall (s : State) (l : Fin 16) (d : Delivery) (p : Fin 8) :
    (s.landBall l d).turn p = { s.turn p with slots := ((s.landBall l d).turn p).slots } := by
  unfold State.landBall
  split
  · rw [State.updSlot, turn_updTurn]
    split <;> rfl
  · rfl

theorem slot_landBall (s : State) (l : Fin 16) (d : Delivery) (i : Fin 12) :
    (s.landBall l d).slot (pairOf l) i =
      if d.lands i = true then { s.slot (pairOf l) i with inFlight := false } else s.slot (pairOf l) i := by
  unfold State.landBall Delivery.lands
  cases place : d.place with
  | none => simp
  | some a =>
    cases closed : d.laneClosed with
    | true => simp
    | false => simp [slot_updSlot, @eq_comm _ a.slot]

/-- The pool after a call depends on the pool alone, and on the settings load. -/
theorem pool_raiseCall_congr (pool : t.pool = s.pool) (loading : t.loading = s.loading) (c : Call) :
    (t.raiseCall c).pool = (s.raiseCall c).pool := by
  have backlog : (t.backlogCall c).pool = (s.backlogCall c).pool := by
    unfold State.backlogCall
    simp only [pool]
    split
    · simp only [pool_modPool, pool]
    · split
      · simp only [pool_modPool, pool]
      · exact pool
  unfold State.raiseCall
  rw [loading]
  split
  · exact pool
  · rw [pool]
    split
    · simp only [pool_modPool, pool]
    · exact backlog

theorem loading_of_chip (h : t.chip = s.chip) : t.loading = s.loading := congrArg (fun c => c.2.2.2.2.2.2.1) h

/-- A hand set's Supervisor: the target waits, with the CALL tone (R35). -/
theorem sup_enterHandSet (s : State) (l : Fin 16) (target : PinSet) (after : Option CyclePhase) :
    ((s.enterHandSet l target after).lane l).sup =
      { (s.lane l).sup with
        state := .handSet, cycle := none, warmUp := none, handSet := some ⟨target, s.now⟩, standing := none
        horn := some ⟨.call, 2000⟩ } := by
  rw [State.enterHandSet, State.sound, sup_modSup, if_pos rfl, lane_raiseCall, sup_updSup, if_pos rfl]
  rfl

theorem pool_enterHandSet (s : State) (l : Fin 16) (target : PinSet) (after : Option CyclePhase) :
    (s.enterHandSet l target after).pool = (s.raiseCall ⟨laneNo l, .handSet, handSetDetail after⟩).pool := by
  rw [State.enterHandSet, pool_sound]
  exact pool_raiseCall_congr (by simp) (loading_of_chip (by simp)) _

section
variable (s : State) (l : Fin 16) (lost : Option Delivery)

@[simp] theorem chip_lose : (s.lose l lost).chip = s.chip := by cases lost <;> simp [State.lose]
@[simp] theorem line_lose (o : Port) : ((s.lose l lost).port o).line = (s.port o).line := by
  cases lost <;> simp [State.lose]
@[simp] theorem directory_lose : (s.lose l lost).directory = s.directory := by cases lost <;> simp [State.lose]
@[simp] theorem pool_lose : (s.lose l lost).pool = s.pool := by cases lost <;> simp [State.lose]
@[simp] theorem ret_lose (p : Fin 8) : (s.lose l lost).ret p = s.ret p := by cases lost <;> simp [State.lose]
theorem pairOther_lose {p : Fin 8} (h : p ≠ pairOf l) : (s.lose l lost).pair p = s.pair p := by
  cases lost <;> simp [State.lose, h]

theorem lane_lose (j : Fin 16) :
    (s.lose l lost).lane j = if j = l then { s.lane j with sup := (s.lane j).sup.lose lost } else s.lane j := by
  cases lost with
  | none => simp [State.lose, Supervisor.lose]
  | some d =>
    rw [State.lose, lane_landBall, State.modSup, lane_modLane]

theorem turn_lose (p : Fin 8) : (s.lose l lost).turn p = { s.turn p with slots := ((s.lose l lost).turn p).slots } := by
  cases lost with
  | none => rfl
  | some d => exact turn_landBall _ l d p

theorem slot_lose (i : Fin 12) :
    (s.lose l lost).slot (pairOf l) i =
      if lost.any (·.lands i) = true then { s.slot (pairOf l) i with inFlight := false } else s.slot (pairOf l) i := by
  cases lost with
  | none => rfl
  | some d => exact slot_landBall _ l d i

end

end Sys2Proof.Machine
end

section
/-! PROOFS. LOCKOUT (R38). -/

namespace Sys2Proof.Machine

variable {s : State} {l : Fin 16}

/-- A Supervisor out of service (R38). -/
def Supervisor.lockedOut (u : Supervisor) : Supervisor :=
  { u with
    state := .lockout, cycle := none, warmUp := none, fault := none, handSet := none
    standing := none, servicePower := false, waitingFoul := none, practice := 1 }

/-- The delivery that a LOCKOUT leaves unscored: that of a ball cycle whose READ has not come. -/
def State.lostNow (s : State) (l : Fin 16) : Option Delivery := (s.cycling l).bind (s.lostWith l)

/-- What a LOCKOUT makes of the lane before a park that waits is entered. -/
def State.outOfService (s : State) (l : Fin 16) : State := (s.lose l (s.lostNow l)).updSup l Supervisor.lockedOut

theorem lockOut_eq (inService : (s.lane l).sup.state ≠ .lockout) : s.lockOut l = (s.outOfService l).enterPending l := by
  rw [State.lockOut, if_neg inService, State.outOfService, State.lostNow]
  cases s.cycling l with
  | none => rfl
  | some c =>
    rw [Option.bind_some, ← loseBall_eq]
    rfl

/-! ## The lane out of service -/

theorem lane_outOfService (s : State) (l : Fin 16) :
    (s.outOfService l).lane l =
      { s.lane l with sup := ((s.lane l).sup.lose (s.lostNow l)).lockedOut } := by
  rw [State.outOfService, State.updSup, lane_updLane_same, lane_lose, if_pos rfl]

/-- The Supervisor stays out of service where a park that waits is entered. -/
theorem sup_lockOut (inService : (s.lane l).sup.state ≠ .lockout) :
    ((s.lockOut l).lane l).sup = ((s.lane l).sup.lose (s.lostNow l)).lockedOut := by
  rw [lockOut_eq inService]
  rcases sup_enterPending (s.outOfService l) l with kept | withdrawn
  · rw [kept, lane_outOfService]
  · rw [withdrawn, lane_outOfService]
    rfl

theorem turn_lockOut (inService : (s.lane l).sup.state ≠ .lockout) (p : Fin 8) :
    (s.lockOut l).turn p = (s.lose l (s.lostNow l)).turn p := by
  rw [lockOut_eq inService, turn_enterPending, State.outOfService, turn_updSup]

theorem slot_lockOut (inService : (s.lane l).sup.state ≠ .lockout) (i : Fin 12) :
    (s.lockOut l).slot (pairOf l) i =
      if (s.lostNow l).any (·.lands i) = true then { s.slot (pairOf l) i with inFlight := false }
      else s.slot (pairOf l) i := by
  rw [State.slot, turn_lockOut inService]
  exact slot_lose s l _ i

/-! ## The ball that is lost -/

theorem lostNow_of_no_delivery (none : (s.lane l).sup.delivery = .none) : s.lostNow l = .none := by
  unfold State.lostNow State.lostWith
  cases s.cycling l with
  | none => rfl
  | some c => rw [none]; simp [stillInFlight]

theorem lostNow_of_not_cycling (idle : (s.lane l).sup.state ≠ .cycling) : s.lostNow l = none := by
  rw [State.lostNow, State.cycling, if_neg idle]
  rfl

theorem lostNow_of_awaitingDeck {d : Delivery} (there : (s.lane l).sup.delivery = some d) (step : d.step = .awaitingDeck) :
    s.lostNow l = none := by
  have kept : stillInFlight (s.lane l).sup.delivery = none := by simp [stillInFlight, there, step]
  unfold State.lostNow State.lostWith
  cases s.cycling l <;> simp [kept]

theorem lostNow_of_ball {d : Delivery} {c : Cycle} (there : (s.lane l).sup.delivery = some d)
    (step : d.step = .awaitingRead) (cycling : (s.lane l).sup.state = .cycling) (cycle : (s.lane l).sup.cycle = some c)
    (ball : c.origin = .ball) : s.lostNow l = if c.phase = .beforeRead then some d else none := by
  have kept : stillInFlight (s.lane l).sup.delivery = some d := by simp [stillInFlight, there, step]
  have cycles : s.cycling l = some c := by rw [State.cycling, if_pos cycling, cycle]
  rw [State.lostNow, cycles, Option.bind_some, State.lostWith, kept]
  simp [Cycle.awaitsRead, ball]

theorem lockOut_takes_park (inService : (s.lane l).sup.state ≠ .lockout) :
    ((s.lane l).session.pendingPark = none →
      ((s.lockOut l).lane l).session = (s.lane l).session ∧ (s.lockOut l).ret (pairOf l) = s.ret (pairOf l)) ∧
    ∀ x, (s.lane l).session.pendingPark = some x →
      (x.mask.credit = true ∧ s.creditHolds l = true →
        ((s.lockOut l).lane l).session = { (s.lane l).session with pendingPark := none } ∧
          (s.lockOut l).ret (pairOf l) = s.ret (pairOf l)) ∧
      (¬ (x.mask.credit = true ∧ s.creditHolds l = true) →
        ((s.lockOut l).lane l).session = (s.lane l).session.asParked x.mask x.cause ∧
          s.returnStopped (s.lockOut l) (pairOf l)) := by
  rw [lockOut_eq inService]
  exact enterPending_taken (by rw [lane_outOfService]) (by rw [lane_outOfService]) (by simp [State.outOfService])
    (by simp [State.outOfService])

/-! ## The request -/

theorem exec_lockout (able : s.canServe .mc) :
    exec (.lockout .mc (laneNo l)) s = .next ((s.lockOut l).replying .mc 0x17 .ok []) := by
  have taken := exec_ok (i := .lockout .mc (laneNo l)) rfl able.1 rfl (by
    rw [← List.append_nil (mechanicChecks _ _ _), mechanicChecks_passed able.2]; rfl)
  rwa [laneIx_laneNo] at taken

theorem flagged_lockOut (inService : (s.lane l).sup.state ≠ .lockout) :
    (s.lockOut l).flagged (.console (pairOf l)) 3 := by
  rw [lockOut_eq inService]
  refine flagged_enterPending (flagged_updSup_changed ?_) l
  rw [lane_lose, if_pos rfl]
  exact Ne.symm inService

/-- Settles O20, by the ball lost with its cycle, the Supervisor out of service, and the park that waits. -/
theorem lockoutDropsEverything : Obligations.LockoutDropsEverything := by
  intro l s able
  refine ⟨fun out => ?_, fun inService => ⟨_, exec_lockout able, ?_⟩⟩
  · rw [exec_lockout able, State.lockOut, if_pos out]
  · have takes := lockOut_takes_park inService
    refine ⟨answers_replying (fun o => line_lockOut ..) _ _ _ _, by simp, flagged_replying (flagged_lockOut inService) .., by simp,
      by simp, by simp, by simp, fun k other => ?_, fun p other => ?_, ⟨s.lostNow l, ?_, lostNow_of_no_delivery,
        lostNow_of_not_cycling, fun d there step => lostNow_of_awaitingDeck there step,
        fun d c there step cycling cycle ball => lostNow_of_ball there step cycling cycle ball, ?_, fun i => ?_⟩,
      takes.1, fun k waits => ⟨(takes.2 k waits).1, fun free => ?_⟩⟩
    · rw [lane_replying, laneOther_lockOut _ _ _ (by simpa using other)]
    · rw [pair_replying, pairOther_lockOut _ _ _ (by simpa using other)]
    · rw [lane_replying, sup_lockOut inService]
      rfl
    · rw [turn_replying, turn_lockOut inService, turn_lose]
    · exact slot_lockOut inService i
    · have parks := (takes.2 k waits).2 free
      exact ⟨parks.1, returnStopped_congr parks.2 rfl (ret_replying ..) fun _ => rfl⟩

end Sys2Proof.Machine
end

section
/-! PROOFS. PS JAM, the cycle timeout and PS DONE before the READ: a cycle that ends in FAULT (R33). -/

namespace Sys2Proof.Machine

variable {s t : State} {l : Fin 16} {c : Cycle} {why : FaultReason}

theorem cycling_of_state (cycles : (s.lane l).sup.state = .cycling) (cycle : (s.lane l).sup.cycle = some c) :
    s.cycling l = some c := by
  rw [State.cycling, if_pos cycles, cycle]

theorem cycling_none (idle : (s.lane l).sup.state ≠ .cycling) : s.cycling l = none := by
  rw [State.cycling, if_neg idle]

/-! ## The fault -/

/-- A Supervisor whose cycle ends in FAULT (R33). -/
def Supervisor.faulted (u : Supervisor) (c : Cycle) (why : FaultReason) : Supervisor :=
  { u with state := .fault, cycle := none, fault := some (faultOf c why u.standing), standing := none }

theorem lane_faultCycle (s : State) (l : Fin 16) (c : Cycle) (why : FaultReason) :
    (s.faultCycle l c why).lane l =
      { s.lane l with
        sup := { ((s.lane l).sup.lose (s.lostWith l c)).faulted c why with horn := some ⟨.call, 2000⟩ } } := by
  rw [State.faultCycle, loseBall_eq, State.sound, State.modSup, lane_modLane_same, lane_flagMc, lane_raiseCall,
    State.updSup, lane_updLane_same, lane_lose, if_pos rfl]
  rfl

theorem turn_faultCycle (s : State) (l : Fin 16) (c : Cycle) (why : FaultReason) (p : Fin 8) :
    (s.faultCycle l c why).turn p = (s.lose l (s.lostWith l c)).turn p := by
  rw [State.faultCycle, loseBall_eq]
  simp

theorem pool_faultCycle (s : State) (l : Fin 16) (c : Cycle) (why : FaultReason) :
    (s.faultCycle l c why).pool = (s.raiseCall ⟨laneNo l, .pinsetterFault, why.code⟩).pool := by
  rw [State.faultCycle, loseBall_eq, pool_sound, pool_flagMc]
  exact pool_raiseCall_congr (by simp) (loading_of_chip (by simp)) _

/-- A cycle that ends in FAULT, with the park that waits. -/
def State.faultTaken (s : State) (l : Fin 16) (c : Cycle) (why : FaultReason) : State :=
  (s.faultCycle l c why).enterPending l

theorem afterCycle_faultCycle (s : State) (l : Fin 16) (c : Cycle) (why : FaultReason) :
    (s.faultCycle l c why).afterCycle l = s.faultTaken l c why := by
  rw [State.afterCycle, if_neg (by rw [lane_faultCycle]; nofun)]
  rfl

/-- The Supervisor in FAULT: a park that is entered withdraws service power only. -/
theorem sup_faultTaken (s : State) (l : Fin 16) (c : Cycle) (why : FaultReason) :
    ∃ power, ((s.faultTaken l c why).lane l).sup =
      { ((s.lane l).sup.lose (s.lostWith l c)).faulted c why with
        horn := some ⟨.call, 2000⟩, servicePower := power } := by
  rcases sup_enterPending (s.faultCycle l c why) l with kept | withdrawn
  · exact ⟨_, by rw [State.faultTaken, kept, lane_faultCycle]⟩
  · exact ⟨false, by rw [State.faultTaken, withdrawn, lane_faultCycle]; rfl⟩

theorem pinsetterFault_faultTaken (s : State) (l : Fin 16) (c : Cycle) (why : FaultReason) :
    (s.faultTaken l c why).flagged .mc 2 := by
  refine flagged_enterPending (s := s.faultCycle l c why) ?_ l
  rw [State.faultCycle]
  exact flagged_setEvent_same _ _ 2

theorem slot_faultTaken (s : State) (l : Fin 16) (c : Cycle) (why : FaultReason) (i : Fin 12) :
    (s.faultTaken l c why).slot (pairOf l) i =
      if (s.lostWith l c).any (·.lands i) = true then { s.slot (pairOf l) i with inFlight := false }
      else s.slot (pairOf l) i := by
  rw [State.slot, State.faultTaken, turn_enterPending, turn_faultCycle]
  exact slot_lose s l _ i

theorem faultTaken_takes_park (s : State) (l : Fin 16) (c : Cycle) (why : FaultReason) :
    ((s.lane l).session.pendingPark = none →
      ((s.faultTaken l c why).lane l).session = (s.lane l).session ∧
        (s.faultTaken l c why).ret (pairOf l) = s.ret (pairOf l)) ∧
    ∀ x, (s.lane l).session.pendingPark = some x →
      (x.mask.credit = true ∧ s.creditHolds l = true →
        ((s.faultTaken l c why).lane l).session = { (s.lane l).session with pendingPark := none } ∧
          (s.faultTaken l c why).ret (pairOf l) = s.ret (pairOf l)) ∧
      (¬ (x.mask.credit = true ∧ s.creditHolds l = true) →
        ((s.faultTaken l c why).lane l).session = (s.lane l).session.asParked x.mask x.cause ∧
          s.returnStopped (s.faultTaken l c why) (pairOf l)) :=
  enterPending_taken (by rw [lane_faultCycle]) (by rw [lane_faultCycle]) (chip_faultCycle ..) (ret_faultCycle ..)

/-! ## The ball lost with the cycle -/

theorem lostWith_eq (s : State) (l : Fin 16) (c : Cycle) :
    s.lostWith l c = if c.origin = .ball ∧ c.phase = .beforeRead then stillInFlight (s.lane l).sup.delivery else none := by
  unfold State.lostWith Cycle.awaitsRead
  simp only [Bool.and_eq_true, beq_iff_eq]

theorem lostWith_any (s : State) (l : Fin 16) (c : Cycle) (i : Fin 12) :
    (s.lostWith l c).any (·.lands i) = true ↔
      c.origin = .ball ∧ c.phase = .beforeRead ∧
        ((s.lane l).sup.delivery.any fun d =>
          d.step == .awaitingRead && !d.laneClosed && d.place.any fun a => a.slot == i) = true := by
  rw [lostWith_eq]
  split
  next ball =>
    cases (s.lane l).sup.delivery with
    | none => simp [stillInFlight]
    | some d => by_cases step : d.step = .awaitingRead <;> simp [stillInFlight, Delivery.lands, ball, step]
  next other => simp [← and_assoc, other]

/-! ## The commands -/

theorem exec_fault_idle {i : Instr} (released : s.resetHeld = false)
    (cause : (i, why) ∈ [(Instr.psJam l, FaultReason.jam), (.cycleTimeout l, .timeout), (.psDone l, .noRead)])
    (idle : (s.lane l).sup.state ≠ .cycling) : exec i s = .next s := by
  have none := cycling_none idle
  simp only [List.mem_cons, List.not_mem_nil, or_false, Prod.mk.injEq] at cause
  rcases cause with ⟨rfl, -⟩ | ⟨rfl, -⟩ | ⟨rfl, -⟩
  · rw [exec_event (f := psJam l) rfl released, psJam, none]
  · rw [exec_event (f := cycleTimeout l) rfl released, cycleTimeout, none]
  · rw [exec_event (f := psDone l) rfl released, psDone, none]

theorem exec_fault {i : Instr} (released : s.resetHeld = false)
    (cause : (i, why) ∈ [(Instr.psJam l, FaultReason.jam), (.cycleTimeout l, .timeout), (.psDone l, .noRead)])
    (cycles : s.cycling l = some c) (early : why = .noRead → c.origin = .ball ∧ c.phase = .beforeRead) :
    exec i s = .next (s.faultTaken l c why) := by
  rw [← afterCycle_faultCycle]
  simp only [List.mem_cons, List.not_mem_nil, or_false, Prod.mk.injEq] at cause
  rcases cause with ⟨rfl, rfl⟩ | ⟨rfl, rfl⟩ | ⟨rfl, rfl⟩
  · rw [exec_event (f := psJam l) rfl released, psJam, cycles]
  · rw [exec_event (f := cycleTimeout l) rfl released, cycleTimeout, cycles]
  · have awaits : c.awaitsRead = true := by simp [Cycle.awaitsRead, early rfl]
    rw [exec_event (f := psDone l) rfl released, psDone, cycles]
    simp only [awaits, if_true]

/-- Settles O32, by the ball lost with the cycle, the fault, and the park that waits. -/
theorem faultsStopTheCycle : Obligations.FaultsStopTheCycle := by
  intro l why i s released cause
  refine ⟨exec_fault_idle released cause, fun c state cycle early =>
    ⟨_, exec_fault released cause (cycling_of_state state cycle) early, ?_⟩⟩
  obtain ⟨power, sup⟩ := sup_faultTaken s l c why
  have takes := faultTaken_takes_park s l c why
  have lost := lostWith_eq s l c
  dsimp only
  refine ⟨?_, fun q => ?_, ?_, ⟨?_, ?_, ?_, ?_, ?_, ?_, pinsetterFault_faultTaken .., ?_, fun d ball phase there step => ?_,
    fun other => ?_, takes.1, takes.2, fun j => ?_⟩, ?_, ?_, fun k other => ?_, fun p other => ?_, ?_⟩
  · simp [State.faultTaken]
  · simp [State.faultTaken]
  · simp [State.faultTaken]
  · rw [sup]; rfl
  · rw [sup]; rfl
  · rw [sup]; rfl
  · rw [sup]; rfl
  · rw [sup]
  · rw [sup]; rfl
  · rw [State.faultTaken, pool_enterPending, pool_faultCycle]
    cases why <;> rfl
  · have taken : stillInFlight (s.lane l).sup.delivery = some d := by simp [stillInFlight, there, step]
    rw [sup, lost, if_pos ⟨ball, phase⟩, taken]
    exact ⟨rfl, rfl, rfl⟩
  · have kept : ¬ (c.origin = .ball ∧ c.phase = .beforeRead) := by
      rintro ⟨ball, phase⟩
      rcases other with notBall | after
      · exact notBall ball
      · rw [after] at phase; cases phase
    rw [sup, lost, if_neg kept]
    exact ⟨rfl, rfl, rfl⟩
  · rw [slot_faultTaken]
    simp only [lostWith_any]
  · simp [State.faultTaken]
  · simp [State.faultTaken]
  · simp [State.faultTaken, show k ≠ l by simpa using other]
  · simp [State.faultTaken, show p ≠ pairOf l by simpa using other]
  · rw [State.faultTaken, turn_enterPending, turn_faultCycle]
    exact turn_lose s l _ (pairOf l)

end Sys2Proof.Machine
end

section
/-! PROOFS. PS DONE of a cycle that completes (R34, R28, R10). -/

namespace Sys2Proof.Machine

variable {s u : State} {l : Fin 16} {c : Cycle}

/-! ## The Supervisor after a park that waits -/

theorem sup_enterPending_taken (record : (u.lane l).session = (s.lane l).session)
    (meter : (u.lane l).meter = (s.lane l).meter) (chip : u.chip = s.chip) :
    ((s.lane l).session.pendingPark = none → ((u.enterPending l).lane l).sup = (u.lane l).sup) ∧
    ∀ x, (s.lane l).session.pendingPark = some x →
      (x.mask.credit = true ∧ s.creditHolds l = true → ((u.enterPending l).lane l).sup = (u.lane l).sup) ∧
      (¬ (x.mask.credit = true ∧ s.creditHolds l = true) →
        ((u.enterPending l).lane l).sup = { (u.lane l).sup with servicePower := false }.withdrawn ∧
          (u.enterPending l).flagged .dk 4) := by
  have credit : u.creditHolds l = s.creditHolds l := creditHolds_congr chip meter (by rw [record])
  refine ⟨fun free => ?_, fun x waits => ⟨fun held => ?_, fun free => ?_⟩⟩
  · rw [enterPending_none (by rw [record, free])]
  · rw [enterPending_credit (x := x) (by rw [record, waits]) (by rwa [credit]), lane_dropPending]
  · rw [enterPending_parks (x := x) (by rw [record, waits]) (by rwa [credit]), lane_enterParked]
    exact ⟨rfl, laneParked_enterParked ..⟩

/-! ## What follows the cycle, the first that applies (R34) -/

/-- A Supervisor with the standing set and the practice index of a cycle that completes (R34, R28). -/
def Supervisor.completed (v : Supervisor) (c : Cycle) : Supervisor :=
  { v with
    standing :=
      if c.kind = .final then some fullRack else if c.origin = .manual then v.standing else c.result
    practice := if c.kind = .final then 1 else v.practice }

theorem completeCycle_eq (s : State) (l : Fin 16) (c : Cycle) :
    s.completeCycle l c = (s.modSup l fun v => v.completed c).nextAfter l c := by
  have standing (v : Option PinSet) : standingAfter c v =
      if c.kind = .final then some fullRack else if c.origin = .manual then v else c.result := by
    unfold standingAfter
    cases c.kind <;> cases c.origin <;> rfl
  rw [State.completeCycle]
  simp only [standing]
  rfl

theorem sup_completed (s : State) (l : Fin 16) (c : Cycle) :
    ((s.modSup l fun v => v.completed c).lane l).sup = (s.lane l).sup.completed c := by
  rw [sup_modSup, if_pos rfl]

theorem powerGranted_completed (s : State) (l : Fin 16) (c : Cycle) :
    (s.modSup l fun v => v.completed c).powerGranted l = s.powerGranted l := by
  rw [State.powerGranted, State.powerGranted, sup_completed, State.running, State.running, session_modSup]
  rfl

/-- A follow-on that is pending runs, where no restore is held. -/
theorem sup_completeCycle_followOn (none : c.restore = .none) (due : c.followOn = true) :
    ((s.completeCycle l c).lane l).sup =
      { (s.lane l).sup.completed c with
        state := .cycling, warmUp := .none, handSet := .none
        cycle := some (followOnCycle c s.timers.cycle) } := by
  rw [completeCycle_eq, State.nextAfter, none]
  simp only [due, if_true]
  rw [sup_startCycle_same, sup_completed]
  rfl

/-- Nothing follows: READY, or OFF where power is withheld. -/
theorem sup_completeCycle_rests (none : c.restore = .none) (due : c.followOn = false) :
    ((s.completeCycle l c).lane l).sup =
      { (s.lane l).sup.completed c with
        state := if s.powerGranted l = true then .ready else .off, cycle := .none } := by
  rw [completeCycle_eq, State.nextAfter, none]
  simp only [due, Bool.false_eq_true, if_false]
  rw [sup_updSup, if_pos rfl, sup_completed, powerGranted_completed]

/-- A held restore is dropped where power is withheld. -/
theorem sup_completeCycle_off {target : PinSet} (held : c.restore = some target) (withheld : s.powerGranted l = false) :
    ((s.completeCycle l c).lane l).sup =
      { (s.lane l).sup.completed c with state := .off, cycle := none, standing := none } := by
  rw [completeCycle_eq, State.nextAfter, held]
  simp only [powerGranted_completed, withheld, Bool.false_eq_true, if_false]
  rw [sup_updSup, if_pos rfl, sup_completed]

theorem sup_completeCycle_reball {target : PinSet} (held : c.restore = some target) (granted : s.powerGranted l = true)
    (full : target = fullRack) :
    ((s.completeCycle l c).lane l).sup =
      { (s.lane l).sup.completed c with
        state := .cycling, warmUp := none, handSet := none
        cycle := some (newCycle .final .reball s.timers.cycle none) } := by
  rw [completeCycle_eq, State.nextAfter, held]
  simp only [powerGranted_completed, granted, if_true, State.restoreReady, full, State.startFinal]
  rw [sup_startCycle_same, sup_modSup, if_pos rfl, sup_completed]
  rfl

theorem completeCycle_handSet {target : PinSet} (held : c.restore = some target) (granted : s.powerGranted l = true)
    (partly : target ≠ fullRack) :
    ((s.completeCycle l c).lane l).sup =
        { (s.lane l).sup.completed c with
          state := .handSet, cycle := none, warmUp := none, handSet := some ⟨target, s.now⟩, standing := none
          horn := some ⟨.call, 2000⟩ } ∧
      (s.completeCycle l c).pool = (s.raiseCall ⟨laneNo l, .handSet, 2⟩).pool := by
  rw [completeCycle_eq, State.nextAfter, held]
  simp only [powerGranted_completed, granted, if_true, State.restoreReady, partly, if_false]
  refine ⟨?_, ?_⟩
  · rw [sup_enterHandSet, sup_modSup, if_pos rfl, sup_completed]
    rfl
  · rw [pool_enterHandSet]
    exact pool_raiseCall_congr (by simp) (loading_of_chip (by simp)) _

/-- PS DONE of a cycle that completes (R34). -/
theorem exec_psDone (released : s.resetHeld = false) (cycles : s.cycling l = some c)
    (read : c.origin = .ball → c.phase = .afterRead) :
    exec (.psDone l) s = .next ((s.completeCycle l c).afterCycle l) := by
  have late : c.awaitsRead = false := by
    unfold Cycle.awaitsRead
    by_cases ball : c.origin = .ball
    · rw [read ball]; simp
    · simp [ball]
  rw [exec_event (f := psDone l) rfl released, psDone, cycles]
  simp only [late, Bool.false_eq_true, if_false]

theorem afterCycle_cycling (cycles : (u.lane l).sup.state = .cycling) : u.afterCycle l = u := if_pos cycles
theorem afterCycle_stopped (stopped : (u.lane l).sup.state ≠ .cycling) : u.afterCycle l = u.enterPending l :=
  if_neg stopped

/-- What holds of the end of a cycle whatever follows it. -/
theorem afterCycle_completeCycle_frame (s : State) (l : Fin 16) (c : Cycle) :
    ((s.lane l).session.pendingPark = none ∨ (((s.completeCycle l c).afterCycle l).lane l).sup.state = .cycling →
      ((s.completeCycle l c).afterCycle l).ret (pairOf l) = s.ret (pairOf l)) ∧
    ∀ x, (s.lane l).session.pendingPark = some x →
      (((s.completeCycle l c).afterCycle l).lane l).sup.state ≠ .cycling →
      (x.mask.credit = true ∧ s.creditHolds l = true →
        ((s.completeCycle l c).afterCycle l).ret (pairOf l) = s.ret (pairOf l)) ∧
      (¬ (x.mask.credit = true ∧ s.creditHolds l = true) →
        s.returnStopped ((s.completeCycle l c).afterCycle l) (pairOf l)) := by
  by_cases cycles : ((s.completeCycle l c).lane l).sup.state = .cycling
  · rw [afterCycle_cycling cycles]
    exact ⟨fun _ => ret_completeCycle .., fun _ _ stopped => absurd cycles stopped⟩
  · have takes := enterPending_taken (s := s) (l := l) (u := s.completeCycle l c) (record_completeCycle ..)
      (meter_completeCycle ..) (chip_completeCycle ..) (ret_completeCycle ..)
    rw [afterCycle_stopped cycles]
    refine ⟨fun either => ?_, fun x waits _ => ⟨fun held => ((takes.2 x waits).1 held).2,
      fun free => ((takes.2 x waits).2 free).2⟩⟩
    rcases either with free | cyclesAgain
    · exact (takes.1 free).2
    · have stays (v : Supervisor) (h : v.state ≠ .cycling) :
          ({ v with servicePower := false } : Supervisor).withdrawn.state ≠ .cycling := by
        unfold Supervisor.withdrawn
        cases state : v.state <;> simp_all
      rcases sup_enterPending (s.completeCycle l c) l with kept | withdrawn
      · exact absurd (kept ▸ cyclesAgain) cycles
      · exact absurd (withdrawn ▸ cyclesAgain) (stays _ cycles)

/-- Settles O31, by the restore that is held, the follow-on that is pending, and the park that waits. -/
theorem doneCompletesTheCycle : Obligations.DoneCompletesTheCycle := by
  intro l c s released state cycle read
  refine ⟨_, exec_psDone released (cycling_of_state state cycle) read, by simp, fun q => by simp, by simp, ?_,
    (afterCycle_completeCycle_frame s l c).1, (afterCycle_completeCycle_frame s l c).2, fun k other => ?_,
    fun p other => ?_, by simp⟩
  · have record : ((s.completeCycle l c).lane l).session = (s.lane l).session := record_completeCycle ..
    have takes := enterPending_taken (s := s) record (meter_completeCycle ..) (chip_completeCycle ..)
      (ret_completeCycle ..)
    have supTakes := sup_enterPending_taken (s := s) record (meter_completeCycle ..) (chip_completeCycle ..)
    dsimp only
    refine ⟨fun none due => ?_, fun none due => ?_, fun target held withheld free => ?_,
      fun target held granted full => ?_, fun target held granted partly => ?_, by simp, by simp⟩
    · have sup := sup_completeCycle_followOn (s := s) (l := l) none due
      rw [afterCycle_cycling (by rw [sup]), sup]
      refine ⟨?_, record⟩
      rw [← state]
      rfl
    · have sup := sup_completeCycle_rests (s := s) (l := l) none due
      rw [afterCycle_stopped (by rw [sup]; dsimp only; split <;> nofun)]
      refine ⟨fun free => ⟨(takes.1 free).1, ?_⟩, fun k waits freely => ⟨((takes.2 k waits).2 freely).1,
        ((supTakes.2 k waits).2 freely).2, ?_⟩, fun k waits credit holds => ((takes.2 k waits).1 ⟨credit, holds⟩).1⟩
      · rw [supTakes.1 free, sup]
        rfl
      · rw [((supTakes.2 k waits).2 freely).1, sup]
        cases s.powerGranted l <;> rfl
    · have sup := sup_completeCycle_off (l := l) held withheld
      rw [afterCycle_stopped (by rw [sup]; nofun), supTakes.1 free, sup]
      rfl
    · have sup := sup_completeCycle_reball (l := l) held granted full
      rw [afterCycle_cycling (by rw [sup]), sup]
      refine ⟨?_, record⟩
      rw [← state]
      rfl
    · obtain ⟨sup, pool⟩ := completeCycle_handSet (l := l) held granted partly
      rw [afterCycle_stopped (by rw [sup]; nofun)]
      refine ⟨by rw [pool_enterPending, pool], fun free => ⟨?_, (takes.1 free).1⟩, fun k waits =>
        ⟨fun credit holds => ⟨?_, ((takes.2 k waits).1 ⟨credit, holds⟩).1⟩, fun freely => ⟨?_,
          ((takes.2 k waits).2 freely).1, ((supTakes.2 k waits).2 freely).2⟩⟩⟩
      · rw [supTakes.1 free, sup]
        rfl
      · rw [(supTakes.2 k waits).1 ⟨credit, holds⟩, sup]
        rfl
      · rw [((supTakes.2 k waits).2 freely).1, sup]
        rfl
  · simp [show k ≠ l by simpa using other]
  · simp [show p ≠ pairOf l by simpa using other]

end Sys2Proof.Machine
end

section
/-! PROOFS. WARM-UP END (R30). -/

namespace Sys2Proof.Machine

variable {s t : State} {l : Fin 16} {w : WarmUp}

/-- The pairs are the same where each pair is. -/
theorem pairs_ext (h : ∀ p, t.pair p = s.pair p) : t.pairs = s.pairs :=
  Vector.ext fun p bound => h ⟨p, bound⟩

/-! ## The two ways a set is put down -/

theorem startFinal_eq (s : State) (l : Fin 16) (origin : CycleOrigin) :
    ((s.startFinal l origin).lane l).sup =
        { (s.lane l).sup with
          state := .cycling, warmUp := none, handSet := none
          cycle := some (newCycle .final origin s.timers.cycle none) } ∧
      (s.startFinal l origin).pool = s.pool := by
  refine ⟨?_, by simp [State.startFinal]⟩
  rw [State.startFinal, sup_startCycle_same]

theorem enterHandSet_eq (s : State) (l : Fin 16) (target : PinSet) :
    ((s.enterHandSet l target none).lane l).sup =
        { (s.lane l).sup with
          state := .handSet, warmUp := none, cycle := none, standing := none
          handSet := some ⟨target, s.now⟩, horn := some ⟨.call, 2000⟩ } ∧
      (s.enterHandSet l target none).pool = (s.raiseCall ⟨laneNo l, .handSet, 2⟩).pool :=
  ⟨sup_enterHandSet .., pool_enterHandSet ..⟩

/-! ## The set the next ball is due at (R30 step 3) -/

theorem dueSet_empty (nobody : s.upSlot l = none) : s.dueSet l = fullRack := by
  rw [State.dueSet, nobody]

section
variable {i : Fin 12} {sh : Sheet} (up : s.upSlot l = some i) (sheet : (s.slot (pairOf l) i).sheet = some sh)
include up sheet

theorem dueSet_first (first : (frameAt sh.frames (s.slot (pairOf l) i).frame).balls = []) : s.dueSet l = fullRack := by
  rw [State.dueSet, up]
  simp only [sheet, first, List.getLast?_nil]

theorem dueSet_next {b : BallEntry} (last : (frameAt sh.frames (s.slot (pairOf l) i).frame).balls.getLast? = some b) :
    s.dueSet l =
      if rackOf ((s.slot (pairOf l) i).frame == 10) (frameAt sh.frames (s.slot (pairOf l) i).frame).balls = .standing then
        b.after
      else fullRack := by
  rw [State.dueSet, up]
  simp only [sheet, last]

end

/-! ## The ends of a warm-up -/

theorem setDue_full {target : PinSet} (full : target = fullRack) : s.setDue l target = s.startFinal l .wake := if_pos full
theorem setDue_partly {target : PinSet} (partly : target ≠ fullRack) : s.setDue l target = s.enterHandSet l target none :=
  if_neg partly

theorem restoreReady_full {target : PinSet} {after : Option CyclePhase} (full : target = fullRack) :
    s.restoreReady l target after = s.startFinal l .reball := if_pos full
theorem restoreReady_partly {target : PinSet} {after : Option CyclePhase} (partly : target ≠ fullRack) :
    s.restoreReady l target after = s.enterHandSet l target after := if_neg partly

theorem endWarmUp_held {target : PinSet} (held : w.restore = some target) :
    s.endWarmUp l w = s.restoreReady l target none := by
  rw [State.endWarmUp, held]

theorem endWarmUp_stands (free : w.restore = none) (stands : (s.lane l).sup.standing ≠ none) :
    s.endWarmUp l w = s.updSup l fun u => { u with state := .ready, warmUp := none } := by
  obtain ⟨set, there⟩ := Option.ne_none_iff_exists'.mp stands
  rw [State.endWarmUp, free, there]

theorem endWarmUp_due (free : w.restore = none) (unknown : (s.lane l).sup.standing = none) :
    s.endWarmUp l w = s.setDue l (s.dueSet l) := by
  rw [State.endWarmUp, free, unknown]

theorem exec_warmUpEnd_ignored (released : s.resetHeld = false) (other : (s.lane l).sup.state ≠ .warming) :
    exec (.warmUpEnd l) s = .next s := by
  rw [exec_event (f := warmUpEnd l) rfl released, warmUpEnd]
  split
  next warms _ => exact absurd warms other
  next => rfl

theorem exec_warmUpEnd (released : s.resetHeld = false) (warms : (s.lane l).sup.state = .warming)
    (warmUp : (s.lane l).sup.warmUp = some w) : exec (.warmUpEnd l) s = .next (s.endWarmUp l w) := by
  rw [exec_event (f := warmUpEnd l) rfl released, warmUpEnd, warms, warmUp]

/-- The state of the pinsetter changes at the end of its warm-up, and the console is told. -/
theorem flagged_startFinal (other : (s.lane l).sup.state ≠ .cycling) (origin : CycleOrigin) :
    (s.startFinal l origin).flagged (.console (pairOf l)) 3 :=
  flagged_updSup_changed (Ne.symm other)

theorem flagged_enterHandSet (other : (s.lane l).sup.state ≠ .handSet) (target : PinSet) (after : Option CyclePhase) :
    (s.enterHandSet l target after).flagged (.console (pairOf l)) 3 :=
  flagged_raiseCall (flagged_updSup_changed (Ne.symm other)) _

theorem flagged_endWarmUp (warms : (s.lane l).sup.state = .warming) (w : WarmUp) :
    (s.endWarmUp l w).flagged (.console (pairOf l)) 3 := by
  have byFinal (origin : CycleOrigin) := flagged_startFinal (l := l) (by rw [warms]; nofun) origin
  have byHand (target : PinSet) := flagged_enterHandSet (l := l) (by rw [warms]; nofun) target none
  unfold State.endWarmUp
  split
  · unfold State.restoreReady
    split
    · exact byFinal _
    · exact byHand _
  · exact flagged_updSup_changed (by rw [warms]; nofun)
  · unfold State.setDue
    split
    · exact byFinal _
    · exact byHand _

theorem pair_endWarmUp (s : State) (l : Fin 16) (w : WarmUp) (p : Fin 8) : (s.endWarmUp l w).pair p = s.pair p := by
  simp only [State.endWarmUp]; split <;> simp

/-- Settles O33, by the restore that is held, the set that stands, and the set the next ball is due at. -/
theorem warmUpEnds : Obligations.WarmUpEnds := by
  intro l s released
  refine ⟨exec_warmUpEnd_ignored released, fun w warms warmUp => ⟨_, exec_warmUpEnd released warms warmUp, by simp,
    fun q => by simp, flagged_endWarmUp warms w, pairs_ext (pair_endWarmUp s l w), by simp, fun k other => ?_, by simp, by simp, ?_⟩⟩
  · simp [show k ≠ l by simpa using other]
  · dsimp only
    refine ⟨fun target held full => ?_, fun target held partly => ?_, fun free stands => ?_, fun free unknown nobody => ?_,
      fun i sh b free unknown up sheet last standing partly => ?_,
      fun i sh b free unknown up sheet last fresh => ?_, fun i sh free unknown up sheet first => ?_⟩
    · rw [endWarmUp_held held, restoreReady_full full]
      exact startFinal_eq ..
    · rw [endWarmUp_held held, restoreReady_partly partly]
      exact enterHandSet_eq ..
    · rw [endWarmUp_stands free stands, sup_updSup, if_pos rfl, pool_updSup]
      exact ⟨rfl, rfl⟩
    · rw [endWarmUp_due free unknown, setDue_full (dueSet_empty nobody)]
      exact startFinal_eq ..
    · have due := dueSet_next up sheet last
      rw [if_pos standing] at due
      rw [endWarmUp_due free unknown, due, setDue_partly partly]
      exact enterHandSet_eq ..
    · have due : s.dueSet l = fullRack := by
        rw [dueSet_next up sheet last]
        rcases fresh with fresh | full
        · rw [fresh]; rfl
        · rw [full, ite_self]
      rw [endWarmUp_due free unknown, setDue_full due]
      exact startFinal_eq ..
    · rw [endWarmUp_due free unknown, setDue_full (dueSet_first up sheet first)]
      exact startFinal_eq ..

end Sys2Proof.Machine
end

section
/-! PROOFS. The rack's and the overload's inputs (R57, R58). -/

namespace Sys2Proof.Machine

variable {s : State} {p : Fin 8}

/-! ## RACK FULL -/

theorem rackFullOn_eq (s : State) (p : Fin 8) :
    rackFullOn p s = s.modRet p fun r =>
      { r with
        rackFull := true, lift := if r.lift = .running then .fullPause else r.lift
        idle := if r.lift = .running then none else r.idle } := by
  refine modRet_congr ?_
  dsimp only
  by_cases runs : (s.ret p).lift = .running
  · simp [runs]
  · simp [runs]

theorem rackFullOff_eq (s : State) (p : Fin 8) :
    rackFullOff p s = s.modRet p fun r =>
      let r : ReturnMonitor := { r with rackFull := false, lift := if r.lift = .fullPause then .running else r.lift }
      { r with idle := s.idleAfter p r } := by
  unfold rackFullOff
  rw [idleRule_eq, modRet_modRet]
  refine modRet_congr ?_
  simp only [idleAfter_modRet]
  by_cases paused : (s.ret p).lift = .fullPause
  · simp [paused]
  · simp [paused]

/-! ## LIFT OVERLOAD -/

/-- A lift that runs or is paused, its overload input raised. -/
theorem liftOverload_stalls (moves : (s.ret p).lift = .running ∨ (s.ret p).lift = .fullPause) :
    liftOverload p s = (s.modRet p fun r => { r with overload := true }).enterStall p := by
  unfold liftOverload
  dsimp only
  rw [ret_modRet_same]
  rcases moves with runs | paused
  · simp only [runs]
  · simp only [paused]

theorem liftOverload_kept (rests : (s.ret p).lift = .off ∨ (s.ret p).lift = .stall) :
    liftOverload p s = s.modRet p fun r => { r with overload := true } := by
  unfold liftOverload
  dsimp only
  rw [ret_modRet_same]
  rcases rests with off | stalls
  · simp only [off]
  · simp only [stalls]

/-! ## Entry to STALL (R58) -/

theorem pool_raiseCall_modRet (s : State) (p : Fin 8) (f : ReturnMonitor → ReturnMonitor) (c : Call) :
    ((s.modRet p f).raiseCall c).pool = (s.raiseCall c).pool :=
  pool_raiseCall_congr (t := s.modRet p f) (s := s) rfl rfl c

theorem raiseCall_loading (loads : s.loading = true) (c : Call) : s.raiseCall c = s := if_pos loads

theorem ret_enterStall (s : State) (p : Fin 8) :
    (s.enterStall p).ret p = { s.ret p with lift := .stall, idle := none } := by
  simp [State.enterStall]

theorem flagged_enterStall (s : State) (p : Fin 8) : (s.enterStall p).flagged .mc 6 :=
  flagged_setEvent_same _ .mc 6

theorem pool_enterStall (s : State) (p : Fin 8) :
    (s.enterStall p).pool = (s.raiseCall ⟨2 * p.val + 1, .liftStall, 0⟩).pool := by
  simp only [State.enterStall, pool_sound, pool_flagMc]
  have call : laneNo (laneAt p .odd) = 2 * p.val + 1 := rfl
  rw [call, pool_raiseCall_modRet]

/-- A lane is of a pair exactly where it is one of the pair's two. -/
theorem pairOf_eq_iff (l : Fin 16) (p : Fin 8) : pairOf l = p ↔ l = laneAt p .odd ∨ l = laneAt p .even := by
  simp only [pairOf, laneAt, Fin.ext_iff]
  omega

theorem lane_sound (s : State) (l k : Fin 16) (tone : Tone) :
    (s.sound l tone).lane k =
      if k = l then { s.lane k with sup := { (s.lane k).sup with horn := some ⟨tone, tone.length⟩ } } else s.lane k := by
  rw [State.sound, State.modSup, lane_modLane]

theorem lane_enterStall (s : State) (p : Fin 8) (l : Fin 16) :
    (s.enterStall p).lane l =
      if pairOf l = p then { s.lane l with sup := { (s.lane l).sup with horn := some ⟨.call, 2000⟩ } } else s.lane l := by
  simp only [State.enterStall, lane_sound, lane_flagMc, lane_raiseCall, lane_modRet, pairOf_eq_iff]
  by_cases odd : l = laneAt p .odd
  · simp only [odd, if_true, true_or]
    split <;> rfl
  · simp only [odd, if_false, false_or]
    rfl

/-- Settles O35, by the lift's state at each input. -/
theorem liftInputsMoveTheLift : Obligations.LiftInputsMoveTheLift := by
  refine ⟨fun p s released => ⟨?_, ?_⟩, fun p s released => ⟨?_, fun rests => ?_, fun moves =>
    ⟨(s.modRet p fun r => { r with overload := true }).enterStall p, ?_, ?_⟩⟩⟩
  · rw [exec_event (f := rackFullOn p) rfl released, rackFullOn_eq]
  · rw [exec_event (f := rackFullOff p) rfl released, rackFullOff_eq]
  · exact exec_event (f := liftOverloadLow p) rfl released
  · rw [exec_event (f := liftOverload p) rfl released, liftOverload_kept rests]
  · rw [exec_event (f := liftOverload p) rfl released, liftOverload_stalls moves]
  · refine ⟨by simp, fun q => by simp, fun q other => ?_, by simp, by simp, ?_, flagged_enterStall .., ?_,
      fun loads => ?_, fun l => ?_⟩
    · simp [show q ≠ p by simpa using other]
    · rw [ret_enterStall, ret_modRet_same]
    · rw [pool_enterStall, pool_raiseCall_modRet]
    · rw [pool_enterStall, pool_raiseCall_modRet, raiseCall_loading loads]
    · rw [lane_enterStall, lane_modRet]

end Sys2Proof.Machine
end

section
/-! SUPPORT. The episode rule of a pair's two lanes, when records of the pair have become overdue (R53). -/

namespace Sys2Proof.Machine

variable {s t : State} {p : Fin 8} {sd : Side}

/-! ## The episode rule of a lane -/

/-- A lane's episode opens with a call: it has an overdue record, no episode is open, and the lift is not in STALL. -/
def ReturnMonitor.calls (r : ReturnMonitor) (sd : Side) : Bool :=
  decide (0 < r.overdueCount sd) && r.episode sd == false && r.lift != .stall

theorem calls_iff (r : ReturnMonitor) (sd : Side) :
    r.calls sd = true ↔ 0 < r.overdueCount sd ∧ r.episode sd = false ∧ r.lift ≠ .stall := by
  simp [ReturnMonitor.calls, and_assoc]

/-- The call of a lane's overdue records, where its episode opens with one (R53). -/
def State.callOverdue (s : State) (p : Fin 8) (r : ReturnMonitor) (sd : Side) : State :=
  if r.calls sd = true then s.raiseCall ⟨laneNo (laneAt p sd), .returnOverdue, r.overdueCount sd⟩ else s

/-- A lane with the CALL tone started. -/
def Lane.called (a : Lane) : Lane := { a with sup := { a.sup with horn := some ⟨.call, 2000⟩ } }

/-- An episode that opens with a call: the call, the mechanic's flag, and the tone. -/
theorem episodeRule_calls (calls : (s.ret p).calls sd = true) :
    s.episodeRule p sd =
      ((((s.modRet p fun r => r.setEpisode sd true).raiseCall
        ⟨laneNo (laneAt p sd), .returnOverdue, (s.ret p).overdueCount sd⟩).flagMc .returnOverdue).sound
          (laneAt p sd) .call) := by
  obtain ⟨late, closed, runs⟩ := (calls_iff _ _).mp calls
  unfold State.episodeRule
  dsimp only
  rw [if_pos ⟨late, closed⟩, if_neg runs]

/-- Without a call, the episode rule writes the lane's episode and nothing else. -/
theorem episodeRule_silent (silent : (s.ret p).calls sd = false) :
    s.episodeRule p sd = s.modRet p fun r => r.setEpisode sd (decide (0 < r.overdueCount sd)) := by
  by_cases opens : 0 < (s.ret p).overdueCount sd ∧ (s.ret p).episode sd = false
  · have stalls : (s.ret p).lift = .stall := by
      by_contra runs
      exact Bool.false_ne_true (silent.symm.trans ((calls_iff _ _).mpr ⟨opens.1, opens.2, runs⟩))
    unfold State.episodeRule
    dsimp only
    rw [if_pos opens, if_pos stalls]
    exact modRet_congr (by simp [opens.1])
  · exact episodeRule_quiet opens

theorem pool_episodeRule (s : State) (p : Fin 8) (sd : Side) :
    (s.episodeRule p sd).pool = (s.callOverdue p (s.ret p) sd).pool := by
  unfold State.callOverdue
  cases calls : (s.ret p).calls sd with
  | true => rw [episodeRule_calls calls, pool_sound, pool_flagMc, pool_raiseCall_modRet, if_pos rfl]
  | false => rw [episodeRule_silent calls]; rfl

theorem lane_episodeRule (s : State) (p : Fin 8) (sd : Side) (k : Fin 16) :
    (s.episodeRule p sd).lane k =
      if k = laneAt p sd ∧ (s.ret p).calls sd = true then (s.lane k).called else s.lane k := by
  cases calls : (s.ret p).calls sd with
  | true =>
    rw [episodeRule_calls calls, lane_sound, lane_flagMc, lane_raiseCall, lane_modRet]
    simp only [and_true]
    rfl
  | false => rw [episodeRule_silent calls]; simp

/-! ## Records of a pair made overdue -/

/-- A Return Monitor whose records are rewritten. -/
def ReturnMonitor.aged (r : ReturnMonitor) (f : Transit → Transit) : ReturnMonitor :=
  { r with transit := r.transit.map f }

/-- A Return Monitor whose episodes are those of its overdue records. -/
def ReturnMonitor.inEpisodes (r : ReturnMonitor) : ReturnMonitor :=
  { r with
    episodeOdd := decide (0 < r.overdueCount .odd), episodeEven := decide (0 < r.overdueCount .even) }

/-- The even lane's call does not depend on the odd lane's episode. -/
theorem calls_setEpisode_odd (r : ReturnMonitor) (b : Bool) : (r.setEpisode .odd b).calls .even = r.calls .even := rfl

theorem callOverdue_pool_congr (pool : t.pool = s.pool) (loading : t.loading = s.loading) (p : Fin 8) (r : ReturnMonitor)
    (sd : Side) : (t.callOverdue p r sd).pool = (s.callOverdue p r sd).pool := by
  unfold State.callOverdue
  split
  · exact pool_raiseCall_congr pool loading _
  · exact pool

variable (s p) (f : Transit → Transit)

theorem ret_markOverdue : (s.markOverdue p f).ret p = ((s.ret p).aged f).inEpisodes := by
  rw [State.markOverdue, ret_episodeRule, ret_episodeRule, ret_modRet_same]
  rfl

theorem ret_markOverdue_other {q : Fin 8} (other : q ≠ p) : (s.markOverdue p f).ret q = s.ret q := by
  rw [State.ret, State.ret, pairOther_markOverdue _ _ _ _ other]

@[simp] theorem chip_callOverdue (r : ReturnMonitor) (sd : Side) : (s.callOverdue p r sd).chip = s.chip := by
  unfold State.callOverdue
  split <;> simp

/-- The calls are raised in order, the odd lane's first (log 22). -/
theorem pool_markOverdue :
    (s.markOverdue p f).pool =
      ((s.callOverdue p ((s.ret p).aged f) .odd).callOverdue p ((s.ret p).aged f) .even).pool := by
  rw [State.markOverdue, pool_episodeRule, ret_episodeRule, ret_modRet_same]
  have even : ((s.modRet p fun r => { r with transit := r.transit.map f }).episodeRule p .odd).callOverdue p
      (((s.ret p).aged f).setEpisode .odd (decide (0 < ((s.ret p).aged f).overdueCount .odd))) .even =
      ((s.modRet p fun r => { r with transit := r.transit.map f }).episodeRule p .odd).callOverdue p
        ((s.ret p).aged f) .even := rfl
  refine (congrArg State.pool even).trans (callOverdue_pool_congr ?_ ?_ _ _ _)
  · rw [pool_episodeRule, ret_modRet_same]
    exact callOverdue_pool_congr (t := s.modRet p _) (s := s) rfl rfl _ _ _
  · exact loading_of_chip (by simp)

theorem lane_markOverdue (k : Fin 16) :
    (s.markOverdue p f).lane k =
      if pairOf k = p ∧ ((s.ret p).aged f).calls (sideOf k) = true then (s.lane k).called else s.lane k := by
  have odd : (laneAt p .odd = laneAt p .even) = False := by
    simp [laneAt]
  rw [State.markOverdue, lane_episodeRule, lane_episodeRule, ret_episodeRule, ret_modRet_same, calls_setEpisode_odd,
    lane_modRet]
  by_cases here : pairOf k = p
  · subst here
    cases side : sideOf k with
    | odd =>
      have isOdd : k = laneAt (pairOf k) .odd := by rw [← side, laneAt_pairOf]
      have notEven : k ≠ laneAt (pairOf k) .even := fun e => by
        rw [e, sideOf_laneAt] at side; cases side
      simp only [notEven, false_and, if_false, ← isOdd, true_and]
      rfl
    | even =>
      have isEven : k = laneAt (pairOf k) .even := by rw [← side, laneAt_pairOf]
      have notOdd : k ≠ laneAt (pairOf k) .odd := fun e => by
        rw [e, sideOf_laneAt] at side; cases side
      simp only [notOdd, false_and, if_false, ← isEven, true_and]
      rfl
  · have away := mt (pairOf_eq_iff k p).mpr here
    simp only [not_or] at away
    simp only [here, away, false_and, if_false]

theorem flagged_markOverdue_calls (calls : ((s.ret p).aged f).calls sd = true) : (s.markOverdue p f).flagged .mc 3 := by
  have opened (u : State) (sd : Side) (calls : (u.ret p).calls sd = true) : (u.episodeRule p sd).flagged .mc 3 := by
    rw [episodeRule_calls calls]
    exact flagged_setEvent_same _ .mc 3
  rw [State.markOverdue]
  cases sd with
  | odd => exact flagged_episodeRule (opened _ .odd (by rwa [ret_modRet_same])) p .even
  | even => exact opened _ .even (by rwa [ret_episodeRule, ret_modRet_same, calls_setEpisode_odd])

variable {s p} in
theorem flagged_markOverdue {q : Port} {k : Nat} (h : s.flagged q k) : (s.markOverdue p f).flagged q k :=
  flagged_episodeRule (flagged_episodeRule (s := s.modRet p _) h p .odd) p .even

/-- Where no call is raised, records become overdue and episodes open without one. -/
theorem markOverdue_silent (silent : ∀ sd, ((s.ret p).aged f).calls sd = false) :
    s.markOverdue p f = s.modRet p fun r => (r.aged f).inEpisodes := by
  have odd : (s.modRet p fun r => { r with transit := r.transit.map f }).episodeRule p .odd =
      (s.modRet p fun r => { r with transit := r.transit.map f }).modRet p fun r =>
        r.setEpisode .odd (decide (0 < r.overdueCount .odd)) :=
    episodeRule_silent (by rw [ret_modRet_same]; exact silent .odd)
  rw [State.markOverdue, odd, episodeRule_silent, modRet_modRet, modRet_modRet]
  · rfl
  · rw [ret_modRet_same, ret_modRet_same]
    exact silent .even

end Sys2Proof.Machine
end

section
/-! PROOFS. RECORD OVERDUE, SET RETURN SETTINGS and LIFT IDLE EXPIRY (R52, R53, R60, R61). -/

namespace Sys2Proof.Machine

variable {s t : State} {p : Fin 8}

/-! ## RECORD OVERDUE -/

theorem recordOverdue_frozen (seqs : List (BitVec 16)) (frozen : (s.ret p).lift = .off ∨ (s.ret p).lift = .fullPause) :
    recordOverdue p seqs s = s := by
  rw [recordOverdue]
  rcases frozen with off | paused
  · rw [off]; rfl
  · rw [paused]; rfl

theorem recordOverdue_ages (seqs : List (BitVec 16)) (ages : (s.ret p).lift = .running ∨ (s.ret p).lift = .stall) :
    recordOverdue p seqs s = s.markOverdue p (Transit.expire s.retSettings.timeout seqs) := by
  rw [recordOverdue]
  rcases ages with runs | stalls
  · rw [runs]; rfl
  · rw [stalls]; rfl

theorem expire_eq (timeout : Nat) (seqs : List (BitVec 16)) :
    Transit.expire timeout seqs = fun x =>
      if x.seq ∈ seqs ∧ x.overdue = false then { x with overdue := true, age := max x.age (timeout * 1000) } else x := by
  funext x
  simp [Transit.expire]

/-- A lane's episode opens with a call while ages advance: its lift runs. -/
theorem calls_iff_runs {r : ReturnMonitor} (ages : r.lift = .running ∨ r.lift = .stall) (sd : Side) :
    r.calls sd = true ↔ r.lift = .running ∧ 0 < r.overdueCount sd ∧ r.episode sd = false := by
  rw [calls_iff]
  rcases ages with runs | stalls
  · simp [runs]
  · simp [stalls]

theorem callOverdue_eq {r : ReturnMonitor} (ages : r.lift = .running ∨ r.lift = .stall) (sd : Side) (u : State) :
    u.callOverdue p r sd =
      if r.lift = .running ∧ 0 < r.overdueCount sd ∧ r.episode sd = false then
        u.raiseCall ⟨laneNo (laneAt p sd), .returnOverdue, r.overdueCount sd⟩
      else u :=
  if_congr (calls_iff_runs ages sd) rfl rfl

theorem episode_inEpisodes (r : ReturnMonitor) (sd : Side) : r.inEpisodes.episode sd = decide (0 < r.overdueCount sd) := by
  cases sd <;> rfl

/-- The lane of a pair's side after records of the pair have become overdue. -/
theorem lane_markOverdue_side (s : State) (p : Fin 8) (f : Transit → Transit) (sd : Side) :
    (s.markOverdue p f).lane (laneAt p sd) =
      if ((s.ret p).aged f).calls sd = true then (s.lane (laneAt p sd)).called else s.lane (laneAt p sd) := by
  simp only [lane_markOverdue, pairOf_laneAt, sideOf_laneAt, true_and]

theorem sameLaneButHorn_markOverdue (s : State) (p : Fin 8) (f : Transit → Transit) (k : Fin 16) :
    s.sameLaneButHorn (s.markOverdue p f) k := by
  rw [State.sameLaneButHorn, lane_markOverdue]
  split <;> rfl

/-- Settles O36, by the lift's state; the episodes are those of the records as they have become. -/
theorem overdueRecordsOpenEpisodes : Obligations.OverdueRecordsOpenEpisodes := by
  intro p seqs s released
  have run := exec_event (s := s) (i := .recordOverdue p seqs) (f := recordOverdue p seqs) rfl released
  refine ⟨fun frozen => by rw [run, recordOverdue_frozen seqs frozen], fun ages => ?_⟩
  rw [run, recordOverdue_ages seqs ages, expire_eq]
  generalize (fun x : Transit => if x.seq ∈ seqs ∧ x.overdue = false then _ else x) = f
  have agesStill : ((s.ret p).aged f).lift = .running ∨ ((s.ret p).aged f).lift = .stall := ages
  refine ⟨_, rfl, by simp, fun q => by simp, fun q other => ?_, by simp, by simp, ?_, sameLaneButHorn_markOverdue s p f⟩
  · simp [show q ≠ p by simpa using other]
  · dsimp only
    rw [ret_markOverdue]
    refine ⟨rfl, rfl, rfl, rfl, rfl, rfl, rfl, rfl, rfl, rfl, episode_inEpisodes _, ?_, fun sd opens runs => ?_,
      fun sd rests => ?_⟩
    · rw [pool_markOverdue, callOverdue_eq agesStill, callOverdue_eq agesStill]
      rfl
    · have calls := (calls_iff_runs agesStill sd).mpr ⟨runs, opens⟩
      refine ⟨flagged_markOverdue_calls s p f calls, ?_⟩
      rw [lane_markOverdue_side, if_pos calls]
      rfl
    · have silent : ¬ ((s.ret p).aged f).calls sd = true := fun calls =>
        rests (And.comm.mp ((calls_iff_runs agesStill sd).mp calls))
      rw [lane_markOverdue_side, if_neg silent]

end Sys2Proof.Machine
end

section
/-! PROOFS. SET RETURN SETTINGS and LIFT IDLE EXPIRY (R53, R60, R61). -/

namespace Sys2Proof.Machine

variable {s t : State} {p : Fin 8}

/-! ## Records of several pairs made overdue -/

/-- The calls of a pair's two lanes, the odd lane's first (log 22). -/
def State.callsOf (f : Transit → Transit) (monitors : Fin 8 → ReturnMonitor) (u : State) (p : Fin 8) : State :=
  (u.callOverdue p ((monitors p).aged f) .odd).callOverdue p ((monitors p).aged f) .even

/-- Records of pairs made overdue, pair by pair. -/
def State.markPairs (f : Transit → Transit) (s : State) (pairs : List (Fin 8)) : State :=
  pairs.foldl (fun s p => s.markOverdue p f) s

section
variable (f : Transit → Transit) (pairs : List (Fin 8))

@[simp] theorem markPairs_cons (s : State) (p : Fin 8) :
    s.markPairs f (p :: pairs) = (s.markOverdue p f).markPairs f pairs := rfl

@[simp] theorem chip_markPairs (s : State) : (s.markPairs f pairs).chip = s.chip :=
  foldl_keeps (fun t : State => t.chip) (by simp) _ _

@[simp] theorem directory_markPairs (s : State) : (s.markPairs f pairs).directory = s.directory :=
  foldl_keeps (fun t : State => t.directory) (by simp) _ _

@[simp] theorem turn_markPairs (s : State) (w : Fin 8) : (s.markPairs f pairs).turn w = s.turn w :=
  foldl_keeps (fun t : State => t.turn w) (by simp) _ _

@[simp] theorem line_markPairs (s : State) (o : Port) : ((s.markPairs f pairs).port o).line = (s.port o).line :=
  foldl_keeps (fun t : State => (t.port o).line) (by simp) _ _

theorem flagged_markPairs {q : Port} {k : Nat} (h : s.flagged q k) : (s.markPairs f pairs).flagged q k := by
  induction pairs generalizing s with
  | nil => exact h
  | cons p rest ih => exact ih (flagged_markOverdue f h)

/-- Each pair named takes the rule once, and no other pair does. -/
theorem ret_markPairs (once : pairs.Nodup) (s : State) (p : Fin 8) :
    (s.markPairs f pairs).ret p = if p ∈ pairs then ((s.ret p).aged f).inEpisodes else s.ret p := by
  induction pairs generalizing s with
  | nil => simp [State.markPairs]
  | cons q rest ih =>
    obtain ⟨notIn, once⟩ := List.nodup_cons.mp once
    rw [markPairs_cons, ih once]
    by_cases same : p = q
    · subst same
      rw [if_neg notIn, if_pos (List.mem_cons_self ..), ret_markOverdue]
    · rw [ret_markOverdue_other s q f same]
      simp [same]

theorem lane_markPairs (once : pairs.Nodup) (s : State) (k : Fin 16) :
    (s.markPairs f pairs).lane k =
      if pairOf k ∈ pairs ∧ ((s.ret (pairOf k)).aged f).calls (sideOf k) = true then (s.lane k).called else s.lane k := by
  induction pairs generalizing s with
  | nil => simp [State.markPairs]
  | cons q rest ih =>
    obtain ⟨notIn, once⟩ := List.nodup_cons.mp once
    rw [markPairs_cons, ih once, lane_markOverdue]
    by_cases same : pairOf k = q
    · simp [same, notIn]
    · rw [ret_markOverdue_other s q f same]
      simp [same]

theorem flagged_markPairs_calls {p : Fin 8} {sd : Side} (once : pairs.Nodup) (named : p ∈ pairs)
    (calls : ((s.ret p).aged f).calls sd = true) : (s.markPairs f pairs).flagged .mc 3 := by
  induction pairs generalizing s with
  | nil => cases named
  | cons q rest ih =>
    obtain ⟨notIn, once⟩ := List.nodup_cons.mp once
    rw [markPairs_cons]
    rcases List.mem_cons.mp named with rfl | named
    · exact flagged_markPairs f rest (flagged_markOverdue_calls s p f calls)
    · have other : p ≠ q := fun e => notIn (e ▸ named)
      exact ih once named (by rwa [ret_markOverdue_other s q f other])

theorem callsOf_pool_congr (monitors : Fin 8 → ReturnMonitor) (pool : t.pool = s.pool) (loading : t.loading = s.loading)
    (p : Fin 8) : (t.callsOf f monitors p).pool = (s.callsOf f monitors p).pool := by
  refine callOverdue_pool_congr (callOverdue_pool_congr pool loading ..) ?_ ..
  exact (loading_of_chip (by simp)).trans (loading.trans (loading_of_chip (by simp)).symm)

theorem chip_callsOf (monitors : Fin 8 → ReturnMonitor) (s : State) (p : Fin 8) :
    (s.callsOf f monitors p).chip = s.chip := by
  simp [State.callsOf]

theorem callsOf_foldl_pool_congr (monitors : Fin 8 → ReturnMonitor) (pool : t.pool = s.pool)
    (loading : t.loading = s.loading) :
    (pairs.foldl (State.callsOf f monitors) t).pool = (pairs.foldl (State.callsOf f monitors) s).pool := by
  induction pairs generalizing s t with
  | nil => exact pool
  | cons p rest ih =>
    refine ih (callsOf_pool_congr f monitors pool loading p) ?_
    rw [loading_of_chip (chip_callsOf f monitors t p), loading_of_chip (chip_callsOf f monitors s p), loading]

/-- The calls are raised in the order of the pairs (log 22). -/
theorem pool_markPairs (once : pairs.Nodup) (s : State) (monitors : Fin 8 → ReturnMonitor)
    (same : ∀ p ∈ pairs, s.ret p = monitors p) :
    (s.markPairs f pairs).pool = (pairs.foldl (State.callsOf f monitors) s).pool := by
  induction pairs generalizing s with
  | nil => rfl
  | cons q rest ih =>
    obtain ⟨notIn, once⟩ := List.nodup_cons.mp once
    rw [markPairs_cons, ih once]
    · refine callsOf_foldl_pool_congr f rest monitors ?_ ?_
      · rw [pool_markOverdue, same q (List.mem_cons_self ..)]
        rfl
      · rw [loading_of_chip (chip_markOverdue ..), loading_of_chip (chip_callsOf f monitors s q)]
    · intro p named
      have other : p ≠ q := fun e => notIn (e ▸ named)
      rw [ret_markOverdue_other s q f other, same p (List.mem_cons_of_mem _ named)]

/-- Where no lane calls, the pool and the ports stay. -/
theorem markPairs_silent (once : pairs.Nodup) (silent : ∀ p ∈ pairs, ∀ sd, ((s.ret p).aged f).calls sd = false) :
    (s.markPairs f pairs).pool = s.pool ∧ (s.markPairs f pairs).ports = s.ports := by
  induction pairs generalizing s with
  | nil => exact ⟨rfl, rfl⟩
  | cons q rest ih =>
    obtain ⟨notIn, once⟩ := List.nodup_cons.mp once
    have others := ih (s := s.markOverdue q f) once fun p named sd => by
      have other : p ≠ q := fun e => notIn (e ▸ named)
      rw [ret_markOverdue_other s q f other]
      exact silent p (List.mem_cons_of_mem _ named) sd
    rw [markPairs_cons, others.1, others.2, markOverdue_silent s q f (silent q (List.mem_cons_self ..))]
    exact ⟨rfl, rfl⟩

end

/-! ## SET RETURN SETTINGS -/

theorem allPairs_nodup : allPairs.Nodup := List.nodup_finRange 8

/-- The return settings with the present values written (R61). -/
def State.withReturnSettings (s : State) (timeout idle : Option Nat) : State :=
  { s with retSettings := ⟨timeout.getD s.retSettings.timeout, idle.getD s.retSettings.idle⟩ }

theorem writeReturnSettings_none (s : State) (idle : Option Nat) :
    s.writeReturnSettings none idle = s.withReturnSettings none idle := rfl

theorem writeReturnSettings_some (s : State) (n : Nat) (idle : Option Nat) :
    s.writeReturnSettings (some n) idle =
      (s.withReturnSettings (some n) idle).markPairs (fun x => if n * 1000 ≤ x.age then { x with overdue := true } else x)
        allPairs := rfl

theorem exec_setReturnSettings {q : Port} {timeout idle : Option Nat} (able : s.canServe q) (desk : q.isConsole = false)
    (timeoutIn : ∀ n, timeout = some n → 10 ≤ n ∧ n ≤ 120) (idleIn : ∀ n, idle = some n → 30 ≤ n ∧ n ≤ 600) :
    exec (.setReturnSettings q timeout idle) s =
      .next ((s.writeReturnSettings timeout idle).replying q 0x20 .ok []) := by
  refine exec_ok (i := .setReturnSettings q timeout idle) rfl able.1 rfl ?_
  have timeoutOk : optOut (within 10 120) timeout = false :=
    optOut_eq_false.mpr fun n there => within_eq_true.mpr (timeoutIn n there)
  have idleOk : optOut (within 30 600) idle = false :=
    optOut_eq_false.mpr fun n there => within_eq_true.mpr (idleIn n there)
  rw [desk, timeoutOk, idleOk, able.2]
  rfl

theorem chip_writeReturnSettings (s : State) (timeout idle : Option Nat) :
    (s.writeReturnSettings timeout idle).chip = (s.withReturnSettings timeout idle).chip := by
  cases timeout with
  | none => rfl
  | some n => rw [writeReturnSettings_some, chip_markPairs]

theorem line_writeReturnSettings_same (s : State) (timeout idle : Option Nat) :
    s.sameLines (s.writeReturnSettings timeout idle) := by
  intro o
  cases timeout with
  | none => rfl
  | some n => rw [writeReturnSettings_some, line_markPairs]; rfl

theorem sameLaneButHorn_markPairs (f : Transit → Transit) (s : State) (k : Fin 16) :
    s.sameLaneButHorn (s.markPairs f allPairs) k := by
  rw [State.sameLaneButHorn, lane_markPairs f allPairs allPairs_nodup]
  split <;> rfl

/-- The call of a lane as the settings' rule words it. -/
theorem callOverdue_eq_opens (u : State) (r : ReturnMonitor) (sd : Side) :
    u.callOverdue p r sd =
      if 0 < r.overdueCount sd ∧ r.episode sd = false ∧ r.lift ≠ .stall then
        u.raiseCall ⟨laneNo (laneAt p sd), .returnOverdue, r.overdueCount sd⟩
      else u :=
  if_congr (calls_iff r sd) rfl rfl

theorem callsOf_eq (f : Transit → Transit) (s u : State) (p : Fin 8) :
    u.callsOf f s.ret p =
      [Side.odd, .even].foldl (fun u sd =>
        if 0 < ((s.ret p).aged f).overdueCount sd ∧ (s.ret p).episode sd = false ∧ (s.ret p).lift ≠ .stall then
          u.raiseCall ⟨laneNo (laneAt p sd), .returnOverdue, ((s.ret p).aged f).overdueCount sd⟩
        else u) u := by
  rw [State.callsOf, callOverdue_eq_opens, callOverdue_eq_opens]
  rfl

theorem liftIdleExpiry_some (runs : (s.ret p).idle ≠ none) :
    liftIdleExpiry p s = s.modRet p fun r => { r with lift := .off, idle := none } := by
  obtain ⟨n, there⟩ := Option.ne_none_iff_exists'.mp runs
  rw [liftIdleExpiry, there]

theorem liftIdleExpiry_none (stopped : (s.ret p).idle = none) : liftIdleExpiry p s = s := by
  rw [liftIdleExpiry, stopped]

/-- What a new return timeout does to each pair and its lanes, with the calls in order. -/
theorem markPairs_effect (f : Transit → Transit) (s : State) (base : State) (rets : base.ret = s.ret)
    (lanes : base.lanes = s.lanes) (pool : base.pool = s.pool) (loading : base.loading = s.loading)
    (turns : ∀ p, base.turn p = s.turn p) (ports : base.ports = s.ports) :
    let t := base.markPairs f allPairs
    let list (p : Fin 8) := (s.ret p).transit.map f
    let opens (p : Fin 8) (sd : Side) : Prop :=
      0 < ((s.ret p).aged f).overdueCount sd ∧ (s.ret p).episode sd = false ∧ (s.ret p).lift ≠ .stall
    (∀ p, t.turn p = s.turn p ∧ (t.ret p).transit = list p ∧
      (∀ sd, (t.ret p).episode sd = decide (∃ x ∈ list p, x.lane = sd ∧ x.overdue = true)) ∧
      t.ret p =
        { s.ret p with
          transit := (t.ret p).transit, episodeOdd := (t.ret p).episodeOdd, episodeEven := (t.ret p).episodeEven }) ∧
    t.pool = (allPairs.foldl (State.callsOf f s.ret) s).pool ∧
    (∀ p sd, opens p sd → t.flagged .mc 3 ∧ (t.lane (laneAt p sd)).sup.horn = some ⟨.call, 2000⟩) ∧
    (∀ p sd, ¬ opens p sd → t.lane (laneAt p sd) = s.lane (laneAt p sd)) ∧
    ((∀ p sd, ¬ opens p sd) → t.pool = s.pool ∧ t.ports = s.ports) := by
  have calls (p : Fin 8) (sd : Side) := calls_iff ((s.ret p).aged f) sd
  have lane (p : Fin 8) (sd : Side) : (base.markPairs f allPairs).lane (laneAt p sd) =
      if ((s.ret p).aged f).calls sd = true then (s.lane (laneAt p sd)).called else s.lane (laneAt p sd) := by
    rw [lane_markPairs f allPairs allPairs_nodup, rets, pairOf_laneAt, sideOf_laneAt, State.lane, lanes]
    simp only [mem_allPairs, true_and]
    rfl
  dsimp only
  refine ⟨fun p => ?_, ?_, fun p sd opens => ?_, fun p sd rests => ?_, fun rests => ?_⟩
  · rw [turn_markPairs, turns, ret_markPairs f allPairs allPairs_nodup, if_pos (mem_allPairs p), rets]
    refine ⟨rfl, rfl, fun sd => ?_, rfl⟩
    rw [episode_inEpisodes]
    simp only [overdueCount_pos]
    rfl
  · rw [pool_markPairs f allPairs allPairs_nodup base s.ret fun p _ => congrFun rets p]
    exact callsOf_foldl_pool_congr f allPairs s.ret pool loading
  · have called := (calls p sd).mpr opens
    refine ⟨flagged_markPairs_calls f allPairs allPairs_nodup (mem_allPairs p) (by rwa [rets]), ?_⟩
    rw [lane, if_pos called]
    rfl
  · rw [lane, if_neg (mt (calls p sd).mp rests)]
  · have silent := markPairs_silent (s := base) f allPairs allPairs_nodup fun p _ sd => by
      rw [rets, ← Bool.not_eq_true]
      exact mt (calls p sd).mp (rests p sd)
    exact ⟨silent.1.trans pool, silent.2.trans ports⟩

theorem ports_replying_congr (ports : t.ports = s.ports) (q : Port) (code : Byte) (o : ReplyOutcome) (r : List Byte) :
    (t.replying q code o r).ports = (s.replying q code o r).ports := by
  simp only [State.replying, State.modPort, State.port, ports]

/-- Settles O38, by the pairs' records at the new timeout, and the calls of their lanes in order. -/
theorem returnSettingsApplyAtOnce : Obligations.ReturnSettingsApplyAtOnce := by
  intro q timeout idle s
  refine ⟨fun able desk timeoutIn idleIn => ⟨_, exec_setReturnSettings able desk timeoutIn idleIn,
    answers_replying (line_writeReturnSettings_same s timeout idle) _ _ _ _, ?_, ?_, ?_, fun l => ?_, ?_, ?_⟩,
    fun released p => ⟨fun stopped => ?_, fun runs => ?_⟩⟩
  · exact (retSettings_of_chip (chip_replying ..)).trans (retSettings_of_chip (chip_writeReturnSettings s timeout idle))
  · have chip := chip_writeReturnSettings s timeout idle
    have settings : ((s.writeReturnSettings timeout idle).replying q 0x20 .ok []).retSettings =
        (s.withReturnSettings timeout idle).retSettings := retSettings_of_chip chip
    rw [settings, chip_replying, chip]
    rfl
  · rw [directory_replying]
    cases timeout with
    | none => rfl
    | some n => rw [writeReturnSettings_some, directory_markPairs]; rfl
  · have horn : s.sameLaneButHorn (s.writeReturnSettings timeout idle) l := by
      cases timeout with
      | none => exact sameLaneButHorn_of_lane rfl
      | some n =>
        rw [writeReturnSettings_some]
        exact sameLaneButHorn_congr rfl rfl (sameLaneButHorn_markPairs _ (s.withReturnSettings (some n) idle) l)
    exact sameLaneButHorn_congr rfl (lane_replying ..).symm horn
  · rintro rfl
    rw [writeReturnSettings_none]
    exact ⟨rfl, rfl, rfl⟩
  · rintro n rfl
    rw [writeReturnSettings_some]
    obtain ⟨pairs, pool, opened, rested, quiet⟩ := markPairs_effect
      (fun x => if n * 1000 ≤ x.age then { x with overdue := true } else x) s (s.withReturnSettings (some n) idle)
      rfl rfl rfl rfl (fun _ => rfl) rfl
    generalize (s.withReturnSettings (some n) idle).markPairs _ allPairs = t at *
    dsimp only
    refine ⟨pairs, ?_, fun p sd opens => ⟨flagged_replying (opened p sd opens).1 _ _ _ _, (opened p sd opens).2⟩,
      rested, fun rests => ⟨(quiet rests).1, ports_replying_congr (quiet rests).2 ..⟩⟩
    have steps := funext fun u => funext fun p =>
      callsOf_eq (fun x => if n * 1000 ≤ x.age then { x with overdue := true } else x) s u p
    rw [pool_replying, pool, steps]
    rfl
  · rw [exec_event (f := liftIdleExpiry p) rfl released, liftIdleExpiry_none stopped]
  · rw [exec_event (f := liftIdleExpiry p) rfl released, liftIdleExpiry_some runs]

end Sys2Proof.Machine
end

section
/-! SUPPORT. What the waking and the closing of lanes leave: the records of the Directory, the lanes they do not name,
and the Return Monitor of a lane that runs. -/

namespace Sys2Proof.Machine

variable {s t u : State} {l k : Fin 16} {p : Fin 8}

/-! ## The records of the Directory (R145) -/

/-- The Directory's records apart from their locks. -/
def State.records (s : State) : Vector RangeEntry 8 × Vector Entry 112 :=
  (s.directory.ranges, s.directory.entries.map fun e => { e with locked := false })

theorem sameRecords_iff : s.sameRecords t ↔ t.records = s.records := by
  unfold State.sameRecords State.records
  rw [Prod.mk.injEq]
  refine and_congr_right fun _ => ?_
  rw [Vector.ext_iff]
  constructor
  · intro same i bound
    have entry := same ⟨i, bound⟩
    simp only [Vector.getElem_map]
    have whole : t.directory.entries[i] = { s.directory.entries[i] with locked := t.directory.entries[i].locked } := entry
    rw [whole]
  · intro same i
    have entry := same i i.isLt
    simp only [Vector.getElem_map, Entry.mk.injEq, and_true] at entry
    obtain ⟨valid, number, average, override, used⟩ := entry
    have whole (e : Entry) : e = ⟨e.valid, e.number, e.average, e.override, e.used, e.locked⟩ := rfl
    rw [whole t.directory.entries[i]]
    simp only [Fin.getElem_fin, valid, number, average, override, used]

theorem records_of_directory (h : t.directory = s.directory) : t.records = s.records := by
  rw [State.records, State.records, h]

theorem sameRecords_of_directory (h : t.directory = s.directory) : s.sameRecords t :=
  sameRecords_iff.mpr (records_of_directory h)

@[simp] theorem records_joinFetch (s : State) (number : Nat) : (s.joinFetch number).records = s.records := rfl

@[simp] theorem records_updSlot (s : State) (p : Fin 8) (i : Fin 12) (f : Slot → Slot) :
    (s.updSlot p i f).records = s.records := records_of_directory (by simp)

@[simp] theorem records_updTurn (s : State) (p : Fin 8) (f : TurnUnit → TurnUnit) :
    (s.updTurn p f).records = s.records := records_of_directory (by simp)

@[simp] theorem records_fillFetch (s : State) (fuel : Nat) : (s.fillFetch fuel).records = s.records := by
  induction fuel generalizing s with
  | zero => rfl
  | succ fuel ih =>
    unfold State.fillFetch
    split
    · split
      · rw [ih, records_updSlot, records_joinFetch]
      · rfl
    · rfl

@[simp] theorem records_leaveFetch (s : State) (number : Nat) : (s.leaveFetch number).records = s.records := by
  unfold State.leaveFetch
  split
  · rw [records_fillFetch]; rfl
  · rfl

@[simp] theorem records_missFetch (s : State) (p : Fin 8) (i : Fin 12) (number : Nat) :
    (s.missFetch p i number).records = s.records := by
  unfold State.missFetch
  split
  · rw [records_updSlot, records_joinFetch]
  · rw [records_updSlot]

@[simp] theorem records_renew (s : State) (p : Fin 8) (i : Fin 12) : (s.renew p i).records = s.records := by
  unfold State.renew
  split
  · split
    · rfl
    · rw [records_missFetch]
  · rfl

@[simp] theorem records_startGame (s : State) (l : Fin 16) (i : Fin 12) : (s.startGame l i).records = s.records := by
  have told (t : State) : (t.tellSnapshot l).records = t.records := rfl
  simp [State.startGame, told]

@[simp] theorem records_becomeUp (s : State) (l : Fin 16) (i : Fin 12) : (s.becomeUp l i).records = s.records :=
  records_of_directory (by simp)

@[simp] theorem records_askGame (s : State) (l : Fin 16) (i : Fin 12) : (s.askGame l i).records = s.records := by
  unfold State.askGame
  split
  · rfl
  · split
    · rw [records_startGame, records_becomeUp]; exact records_of_directory (by simp)
    · exact records_of_directory (by simp)

@[simp] theorem records_raiseHead (s : State) (l : Fin 16) (i : Fin 12) : (s.raiseHead l i).records = s.records := by
  unfold State.raiseHead
  split
  · simp
  · simp
  · split
    · split <;> simp
    · rfl

@[simp] theorem records_headRules (s : State) (l : Fin 16) : (s.headRules l).records = s.records := by
  simp only [State.headRules]
  split
  · rfl
  · split
    · rfl
    · split
      · simp
      · split <;> simp

@[simp] theorem records_takePaid (s : State) (l : Fin 16) : (s.takePaid l).records = s.records := by
  simp only [State.takePaid]
  split
  · simp
  · split <;> simp

@[simp] theorem records_turnPaid (s : State) (l : Fin 16) (m : Meter) : (s.turnPaid l m).records = s.records := by
  unfold State.turnPaid
  split <;> simp

@[simp] theorem records_wake (s : State) (l : Fin 16) : (s.wake l).records = s.records := by
  have machines (t : State) : (t.resumeMachines l).records = t.records := records_of_directory (by simp)
  have session (t : State) (st : SessionState) : (t.resumeSession l st).records = t.records :=
    records_of_directory (by simp)
  have frozen (t : State) : (t.endFrozen l).records = t.records := records_of_directory (by simp)
  have grace (t : State) : (t.zeroBackGrace l).records = t.records := records_of_directory (by simp)
  have meter (t : State) (m : Meter) : (t.setMeter l m).records = t.records := rfl
  have flag (t : State) : (t.flagDk .laneClosing).records = t.records := rfl
  unfold State.wake
  split
  · simp [machines, session]
  · split <;> simp [machines, session, frozen, grace, meter, flag]

/-! ## The lanes that are not named -/

/-- A lane apart from its horn. -/
def Lane.silent (a : Lane) : Lane := { a with sup := a.sup.silent }

theorem sameLaneButHorn_iff : s.sameLaneButHorn t k ↔ (t.lane k).silent = (s.lane k).silent := by
  unfold State.sameLaneButHorn
  constructor
  · intro same
    rw [same]
    rfl
  · intro same
    have whole (a : Lane) : a = { a.silent with sup := { a.silent.sup with horn := a.sup.horn } } := rfl
    conv_lhs => rw [whole (t.lane k), same]
    rfl

theorem silent_lane_of_parts (record : (t.lane k).session = (s.lane k).session)
    (meter : (t.lane k).meter = (s.lane k).meter) (snapshot : (t.lane k).snapshot = (s.lane k).snapshot)
    (out : (t.lane k).out = (s.lane k).out) (sup : (t.lane k).sup.silent = (s.lane k).sup.silent) :
    (t.lane k).silent = (s.lane k).silent :=
  sameLaneButHorn_iff.mp (sameLaneButHorn_of_silent record meter snapshot out sup)

@[simp] theorem silent_lane_startLift (s : State) (p : Fin 8) (k : Fin 16) :
    ((s.startLift p).lane k).silent = (s.lane k).silent :=
  silent_lane_of_parts (by simp) (by simp) (by simp) (by simp) (by simp)

@[simp] theorem silent_lane_liftLaneOpen (s : State) (p : Fin 8) (k : Fin 16) :
    ((s.liftLaneOpen p).lane k).silent = (s.lane k).silent :=
  silent_lane_of_parts (by simp) (by simp) (by simp) (by simp) (by simp)

/-- The other lanes of a lane that wakes keep all but their horns. -/
theorem silent_lane_resumeMachines (s : State) {l k : Fin 16} (other : k ≠ l) :
    ((s.resumeMachines l).lane k).silent = (s.lane k).silent := by
  rw [State.resumeMachines, silent_lane_liftLaneOpen, laneOther_grantPower _ _ _ other]

theorem silent_lane_wake (s : State) {l k : Fin 16} (other : k ≠ l) :
    ((s.wake l).lane k).silent = (s.lane k).silent := by
  have machines (t : State) := silent_lane_resumeMachines t other
  unfold State.wake
  split
  · simp [other, machines]
  · split <;> simp [other, machines]

theorem far_startLift (s : State) (far : pairOf k ≠ p) : (s.startLift p).lane k = s.lane k := by
  unfold State.startLift
  split
  · split
    · rw [lane_enterStall, if_neg far]
    · simp
  · rfl

theorem far_resumeMachines (s : State) (far : pairOf k ≠ pairOf l) : (s.resumeMachines l).lane k = s.lane k := by
  have other : k ≠ l := fun e => far (congrArg pairOf e)
  rw [State.resumeMachines, State.liftLaneOpen, lane_idleRule, far_startLift _ far, laneOther_grantPower _ _ _ other]

/-- The lanes of other pairs stay. -/
theorem far_wake (s : State) (far : pairOf k ≠ pairOf l) : (s.wake l).lane k = s.lane k := by
  have other : k ≠ l := fun e => far (congrArg pairOf e)
  have machines (t : State) := far_resumeMachines t far
  unfold State.wake
  split
  · simp [other, machines]
  · split <;> simp [other, machines]

/-! ## The Return Monitor of a pair whose lift has been started (R56, R60) -/

/-- The pair's Return Monitor is `r`, apart from its idle timer, which is what R60 gives it. -/
def State.rests (s : State) (p : Fin 8) (r : ReturnMonitor) : Prop := s.ret p = { r with idle := s.idleAfter p r }

variable {r : ReturnMonitor}

theorem rests_congr (h : t.rests p r) (ret : u.ret p = t.ret p) (chip : u.chip = t.chip)
    (running : ∀ sd, u.running (laneAt p sd) = t.running (laneAt p sd)) : u.rests p r := by
  have idle : u.idleAfter p r = t.idleAfter p r := by
    unfold State.idleAfter
    rw [running, running, retSettings_of_chip chip]
  rw [State.rests, ret, idle, h]

theorem rests_congr_session (h : t.rests p r) (ret : u.ret p = t.ret p) (chip : u.chip = t.chip)
    (session : ∀ k, u.session k = t.session k) : u.rests p r :=
  rests_congr h ret chip fun sd => by rw [State.running, State.running, session]

/-- The idle rule after the sessions of the pair have changed: a timer that did not run then follows R60. -/
theorem rests_idleRule (h : t.rests p r) (stopped : r.idle = none) (ret : u.ret p = t.ret p) (chip : u.chip = t.chip) :
    (u.idleRule p).rests p r := by
  have settings : u.retSettings = t.retSettings := retSettings_of_chip chip
  have timer : u.idleAfter p { r with idle := t.idleAfter p r } = u.idleAfter p r := by
    unfold State.idleAfter
    rw [stopped, settings]
    split
    · split <;> rfl
    · rfl
  rw [State.rests, idleRule_eq, ret_modRet_same, idleAfter_modRet, ret, h]
  dsimp only
  rw [timer]

theorem rests_enterParked (h : t.rests (pairOf l) r) (stopped : r.idle = none) (mask : WakeMask) (cause : ParkCause) :
    (t.enterParked l mask cause).rests (pairOf l) r := by
  unfold State.enterParked State.liftLaneStopped
  have parked := rests_idleRule (u := (t.updSession l fun n =>
    { n.enter .parked with wakeMask := mask, parkCause := cause, pendingPark := none }).withdrawPower l) h stopped
    ((ret_withdrawPower ..).trans (ret_updSession ..)) ((chip_withdrawPower ..).trans (chip_updSession ..))
  exact rests_congr_session parked (ret_flagDk ..) (chip_flagDk ..) fun k => session_flagDk ..

theorem rests_park (h : t.rests (pairOf l) r) (stopped : r.idle = none) (mask : WakeMask) (cause : ParkCause) :
    (t.park l mask cause).rests (pairOf l) r := by
  unfold State.park
  split
  · refine rests_congr_session h (by simp) (by simp) fun k => ?_
    rw [State.session, record_updSession]
    split <;> rfl
  · exact rests_enterParked h stopped mask cause

theorem rests_zeroBackGrace (h : t.rests (pairOf l) r) (stopped : r.idle = none) :
    (t.zeroBackGrace l).rests (pairOf l) r := by
  unfold State.zeroBackGrace
  split
  · split
    · exact rests_park h stopped _ _
    · exact h
  · exact h

/-- A lane that runs and enters CLOSING runs on. -/
theorem running_enterClosing (s : State) (l k : Fin 16) (runs : s.running l = true) :
    (s.enterClosing l).running k = s.running k := by
  unfold State.running State.session State.enterClosing
  rw [lane_flagDk, record_updSession]
  split
  next same =>
    subst same
    exact runs.symm
  next => rfl

theorem rests_askGame (h : t.rests (pairOf l) r) (stopped : r.idle = none) (runs : t.running l = true) (i : Fin 12) :
    (t.askGame l i).rests (pairOf l) r := by
  unfold State.askGame
  split
  · exact h
  · split
    · exact rests_congr_session h (by simp) (by simp) (by simp)
    · refine rests_zeroBackGrace (rests_congr h (by simp) (by simp) fun sd => ?_) stopped
      refine (running_enterClosing _ l _ ?_).trans ?_
      · simpa [State.running] using runs
      · simp [State.running]

theorem rests_raiseHead (h : t.rests (pairOf l) r) (stopped : r.idle = none) (runs : t.running l = true) (i : Fin 12) :
    (t.raiseHead l i).rests (pairOf l) r := by
  unfold State.raiseHead
  split
  · exact rests_congr_session h (by simp) (by simp) (by simp)
  · exact rests_congr_session h (by simp) (by simp) (by simp)
  · split
    · split
      · exact rests_congr_session h (by simp) (by simp) (by simp)
      · exact rests_askGame h stopped runs i
    · exact h

theorem rests_headRules (h : t.rests (pairOf l) r) (stopped : r.idle = none) :
    (t.headRules l).rests (pairOf l) r := by
  simp only [State.headRules]
  split
  · exact h
  next runs =>
    have runs : t.running l = true := by simpa using runs
    have queued (q : List (Fin 12)) : (t.updTurn (pairOf l) fun v => v.setQueue (sideOf l) q).rests (pairOf l) r :=
      rests_congr_session h (by simp) (by simp) (by simp)
    split
    · exact h
    · split
      · exact queued _
      · split
        · exact queued _
        · exact rests_raiseHead (queued _) stopped (by simpa [State.running] using runs) _

theorem rests_turnPaid (h : t.rests (pairOf l) r) (stopped : r.idle = none) (m : Meter) :
    (t.turnPaid l m).rests (pairOf l) r := by
  have kept : ((t.updTurn (pairOf l) fun v => v.setPaid (sideOf l) true).headRules l).rests (pairOf l) r :=
    rests_headRules (rests_congr_session h (by simp) (by simp) (by simp)) stopped
  unfold State.turnPaid
  split
  · simp only [State.takePaid]
    split
    · exact kept
    · split
      · exact rests_congr_session h (by simp) (by simp) (by simp)
      · exact kept
  · exact rests_headRules h stopped

/-- The lift once it has left OFF (R56), its idle timer discarded. -/
def ReturnMonitor.awake (r : ReturnMonitor) : ReturnMonitor := { r with lift := r.started, idle := none }

theorem started_of_not_off (moves : r.lift ≠ .off) : r.started = r.lift := by
  unfold ReturnMonitor.started
  split
  next off => exact absurd off moves
  next => rfl

theorem started_of_off (off : r.lift = .off) :
    r.started = if r.overload then .stall else if r.rackFull then .fullPause else .running := by
  rw [ReturnMonitor.started, off]

theorem ret_startLift (s : State) (p : Fin 8) :
    ∃ idle, (s.startLift p).ret p = { s.ret p with lift := (s.ret p).started, idle := idle } := by
  unfold State.startLift
  by_cases off : (s.ret p).lift = .off
  · rw [if_pos off, started_of_off off]
    cases overload : (s.ret p).overload with
    | true => exact ⟨none, by simp [ret_enterStall]⟩
    | false => exact ⟨(s.ret p).idle, by simp⟩
  · rw [if_neg off, started_of_not_off off]
    exact ⟨(s.ret p).idle, rfl⟩

/-- A pair's lift that starts while the idle timer may not run: a lane of it runs, or its list holds a record. -/
theorem ret_liftLaneOpen (busy : (s.ret p).transit = [] → ∃ sd, s.running (laneAt p sd) = true) :
    (s.liftLaneOpen p).ret p = (s.ret p).awake := by
  obtain ⟨idle, started⟩ := ret_startLift s p
  have off : (s.startLift p).idleAfter p ((s.startLift p).ret p) = none := by
    unfold State.idleAfter
    refine if_neg fun holds => ?_
    obtain ⟨-, empty, odd, even⟩ := holds
    have session (k : Fin 16) : (s.startLift p).running k = s.running k := by simp [State.running]
    obtain ⟨sd, runs⟩ := busy (by rw [started] at empty; exact empty)
    rw [session] at odd even
    cases sd with
    | odd => exact Bool.false_ne_true (odd.symm.trans runs)
    | even => exact Bool.false_ne_true (even.symm.trans runs)
  rw [State.liftLaneOpen, idleRule_eq, ret_modRet_same, off, started]
  rfl

theorem rests_resumeMachines (runs : s.running l = true) : (s.resumeMachines l).rests (pairOf l) (s.ret (pairOf l)).awake := by
  have here : laneAt (pairOf l) (sideOf l) = l := laneAt_pairOf l
  have session (k : Fin 16) : (s.resumeMachines l).running k = s.running k := by simp [State.running]
  have ret : (s.resumeMachines l).ret (pairOf l) = (s.ret (pairOf l)).awake := by
    rw [State.resumeMachines, ret_liftLaneOpen, ret_grantPower]
    exact fun _ => ⟨sideOf l, by rw [here]; simpa [State.running] using runs⟩
  have off : (s.resumeMachines l).idleAfter (pairOf l) (s.ret (pairOf l)).awake = none := by
    unfold State.idleAfter
    refine if_neg fun holds => ?_
    obtain ⟨-, -, odd, even⟩ := holds
    rw [session] at odd even
    cases side : sideOf l with
    | odd => rw [side] at here; rw [here, runs] at odd; cases odd
    | even => rw [side] at here; rw [here, runs] at even; cases even
  rw [State.rests, ret, off]
  rfl

end Sys2Proof.Machine
end

section
/-! SUPPORT. The waking of a lane: the lift of its pair starts, and the flags that are set stay set. -/

namespace Sys2Proof.Machine

variable {s t u : State} {l : Fin 16} {q : Port} {k : Nat}

/-! ## A lane that wakes runs, and its lift with it (R15, R56) -/

theorem running_resumeSession (s : State) (l : Fin 16) (st : SessionState) :
    (s.resumeSession l st).running l = st.grants := by
  rw [State.running, State.session, State.resumeSession, record_updSession, if_pos rfl]
  rfl

theorem running_startUnit (runs : s.running l = true) : (s.startUnit l).running l = true := by
  have metered (m : Meter) : (s.setMeter l m).running l = true := by simpa [State.running] using runs
  simp only [State.startUnit]
  split
  · exact runs
  · split
    · exact (running_enterClosing _ l l (metered _)).trans (metered _)
    · exact metered _

theorem running_endPeriod (runs : s.running l = true) : (s.endPeriod l).running l = true := by
  have metered (m : Meter) : (s.setMeter l m).running l = true := by simpa [State.running] using runs
  unfold State.endPeriod
  split
  · exact runs
  · split
    · exact running_startUnit runs
    · exact running_startUnit (metered _)
    · exact runs

theorem running_endFrozen (runs : s.running l = true) : (s.endFrozen l).running l = true := by
  unfold State.endFrozen
  split
  · exact runs
  · split
    · exact running_endPeriod runs
    · exact runs

/-- A lane that wakes: the lift of its pair has left OFF, and the idle timer follows R60. -/
theorem rests_wake (s : State) (l : Fin 16) : (s.wake l).rests (pairOf l) (s.ret (pairOf l)).awake := by
  have machines (t : State) (runs : t.running l = true) (ret : t.ret (pairOf l) = s.ret (pairOf l)) :
      (t.resumeMachines l).rests (pairOf l) (s.ret (pairOf l)).awake := by
    rw [← ret]
    exact rests_resumeMachines runs
  have opened (t : State) : (t.resumeSession l .opened).running l = true := running_resumeSession t l .opened
  unfold State.wake
  split
  · exact rests_headRules (machines _ (opened _) (by simp)) rfl
  · split
    · exact rests_zeroBackGrace (rests_headRules (machines _ (running_endFrozen (opened _)) (by simp)) rfl) rfl
    · exact rests_turnPaid (machines _ (opened _) (by simp)) rfl _
    · refine rests_zeroBackGrace (rests_headRules (machines _ ?_ (by simp)) rfl) rfl
      exact running_resumeSession _ l .closing

/-! ## Flags that stay set -/

theorem flagged_updSlot (h : s.flagged q k) (p : Fin 8) (i : Fin 12) (f : Slot → Slot) :
    (s.updSlot p i f).flagged q k := flagged_updTurn h p _

theorem flagged_modLane (h : s.flagged q k) {l : Fin 16} {f : Lane → Lane} : (s.modLane l f).flagged q k := h

theorem flagged_startLift (h : s.flagged q k) (p : Fin 8) : (s.startLift p).flagged q k := by
  unfold State.startLift
  split
  · split
    · exact flagged_flagMc (flagged_raiseCall (s := s.modRet p _) h _) _
    · exact h
  · exact h

theorem flagged_liftLaneOpen (h : s.flagged q k) (p : Fin 8) : (s.liftLaneOpen p).flagged q k :=
  flagged_idleRule (flagged_startLift h p) p

theorem flagged_grantPower (h : s.flagged q k) (l : Fin 16) : (s.grantPower l).flagged q k := by
  unfold State.grantPower
  split
  · exact flagged_updSup h l _
  · exact h

theorem flagged_resumeMachines (h : s.flagged q k) (l : Fin 16) : (s.resumeMachines l).flagged q k :=
  flagged_liftLaneOpen (flagged_grantPower h l) _

theorem flagged_park (h : s.flagged q k) (l : Fin 16) (mask : WakeMask) (cause : ParkCause) :
    (s.park l mask cause).flagged q k := by
  unfold State.park
  split
  · exact flagged_updSession h l _
  · exact flagged_enterParked h l mask cause

theorem flagged_zeroBackGrace (h : s.flagged q k) (l : Fin 16) : (s.zeroBackGrace l).flagged q k := by
  unfold State.zeroBackGrace
  split
  · split
    · exact flagged_park h l _ _
    · exact h
  · exact h

theorem flagged_enterClosing (h : s.flagged q k) (l : Fin 16) : (s.enterClosing l).flagged q k :=
  flagged_flagDk (flagged_updSession h l _) _

theorem flagged_missFetch (h : s.flagged q k) (p : Fin 8) (i : Fin 12) (number : Nat) :
    (s.missFetch p i number).flagged q k := by
  unfold State.missFetch
  split
  · exact flagged_updSlot (s := s.joinFetch number) h p i _
  · exact flagged_updSlot h p i _

theorem flagged_renew (h : s.flagged q k) (p : Fin 8) (i : Fin 12) : (s.renew p i).flagged q k := by
  unfold State.renew
  split
  · split
    · exact h
    · exact flagged_missFetch h p i _
  · exact h

theorem flagged_startGame (h : s.flagged q k) (l : Fin 16) (i : Fin 12) : (s.startGame l i).flagged q k := by
  unfold State.startGame State.tellSnapshot
  exact flagged_modLane (flagged_updSlot (flagged_renew (flagged_updSlot h _ _ _) _ _) _ _ _)

theorem flagged_becomeUp (h : s.flagged q k) (l : Fin 16) (i : Fin 12) : (s.becomeUp l i).flagged q k :=
  flagged_updSlot h _ i _

theorem flagged_askGame (h : s.flagged q k) (l : Fin 16) (i : Fin 12) : (s.askGame l i).flagged q k := by
  unfold State.askGame
  split
  · exact h
  next m _ =>
    split
    · exact flagged_startGame (flagged_becomeUp (s := s.setMeter l _) h l i) l i
    · exact flagged_zeroBackGrace (flagged_enterClosing (s := s.setMeter l _) h l) l

theorem flagged_raiseHead (h : s.flagged q k) (l : Fin 16) (i : Fin 12) : (s.raiseHead l i).flagged q k := by
  unfold State.raiseHead
  split
  · exact flagged_becomeUp h l i
  · exact flagged_becomeUp h l i
  · split
    · split
      · exact flagged_startGame (flagged_becomeUp (flagged_updTurn h _ _) l i) l i
      · exact flagged_askGame h l i
    · exact h

theorem flagged_headRules (h : s.flagged q k) (l : Fin 16) : (s.headRules l).flagged q k := by
  simp only [State.headRules]
  split
  · exact h
  · split
    · exact h
    · split
      · exact flagged_updTurn h _ _
      · split
        · exact flagged_updTurn h _ _
        · exact flagged_raiseHead (flagged_updTurn h _ _) l _

theorem flagged_turnPaid (h : s.flagged q k) (l : Fin 16) (m : Meter) : (s.turnPaid l m).flagged q k := by
  unfold State.turnPaid
  split
  · simp only [State.takePaid]
    split
    · exact flagged_headRules (flagged_updTurn h _ _) l
    · split
      · exact flagged_startGame (flagged_becomeUp h l _) l _
      · exact flagged_headRules (flagged_updTurn h _ _) l
  · exact flagged_headRules h l

theorem flagged_startUnit (h : s.flagged q k) (l : Fin 16) : (s.startUnit l).flagged q k := by
  simp only [State.startUnit]
  split
  · exact h
  · split
    · exact flagged_enterClosing (s := s.setMeter l _) h l
    · exact h

theorem flagged_endFrozen (h : s.flagged q k) (l : Fin 16) : (s.endFrozen l).flagged q k := by
  unfold State.endFrozen State.endPeriod
  split
  · exact h
  · split
    · split
      · exact h
      · split
        · exact flagged_startUnit h l
        · exact flagged_startUnit (s := s.setMeter l _) h l
        · exact h
    · exact h

theorem flagged_resumeSession (h : s.flagged q k) (l : Fin 16) (st : SessionState) :
    (s.resumeSession l st).flagged q k := flagged_updSession h l _

theorem flagged_wake (h : s.flagged q k) (l : Fin 16) : (s.wake l).flagged q k := by
  unfold State.wake
  split
  · exact flagged_headRules (flagged_resumeMachines (flagged_resumeSession h l _) l) l
  next m _ =>
    split
    · exact flagged_zeroBackGrace (flagged_headRules (flagged_resumeMachines
        (flagged_endFrozen (flagged_resumeSession h l _) l) l) l) l
    next paid _ _ =>
      exact flagged_turnPaid (flagged_resumeMachines (flagged_resumeSession (s := s.setMeter l paid) h l _) l) l _
    · have closing := flagged_resumeSession (s := s.setMeter l (m.resumeBack s.billing.back)) h l .closing
      exact flagged_zeroBackGrace (flagged_headRules (flagged_resumeMachines (flagged_flagDk closing _) l) l) l

end Sys2Proof.Machine
end

section
/-! SUPPORT. A lane that wakes where a back grace is set: it stays OPEN or CLOSING, and its Supervisor only takes power,
a tone and a new practice index (R15, R163). -/

namespace Sys2Proof.Machine

variable {s t : State} {l : Fin 16}

/-! ## A back grace that has time left -/

/-- The lane runs, and where it is CLOSING its back grace has time left. -/
def State.graced (s : State) (l : Fin 16) : Prop :=
  s.billing.back ≠ 0 ∧ s.running l = true ∧
    (s.session l = .closing → ∀ m, (s.lane l).meter = some m → m.left ≠ 0)

theorem graced_opened (back : s.billing.back ≠ 0) (isOpen : s.session l = .opened) : s.graced l :=
  ⟨back, by rw [State.running, isOpen]; rfl, fun closing => by rw [isOpen] at closing; cases closing⟩

theorem graced_congr (h : t.graced l) (chip : s.chip = t.chip) (session : s.session l = t.session l)
    (meter : (s.lane l).meter = (t.lane l).meter) : s.graced l := by
  obtain ⟨back, runs, left⟩ := h
  refine ⟨by rwa [billing_of_chip chip], by rwa [State.running, session], fun closing m there => ?_⟩
  exact left (session ▸ closing) m (meter ▸ there)

/-- A back grace with time left does not end at once. -/
theorem zeroBackGrace_graced (h : s.graced l) : s.zeroBackGrace l = s := by
  obtain ⟨-, -, left⟩ := h
  unfold State.zeroBackGrace
  split
  next m there =>
    refine if_neg fun ended => ?_
    exact left ended.1 m there ended.2.2
  next => rfl

/-- A charge declined where a back grace is set: the lane is CLOSING with all of it left. -/
theorem graced_declined (back : s.billing.back ≠ 0) (there : (s.lane l).meter.isSome) {m : Meter}
    (full : m.left = s.billing.back) : ((s.setMeter l m).enterClosing l).graced l := by
  have closing : ((s.setMeter l m).enterClosing l).session l = .closing := by
    rw [State.session, State.enterClosing, lane_flagDk, record_updSession, if_pos rfl]
    rfl
  have meter : (((s.setMeter l m).enterClosing l).lane l).meter = some m := by
    obtain ⟨old, there⟩ := Option.isSome_iff_exists.mp there
    rw [meter_enterClosing, State.setMeter, meter_modMeter, if_pos rfl, there]
    rfl
  have billing : ((s.setMeter l m).enterClosing l).billing = s.billing := billing_of_chip (by simp)
  refine ⟨by rwa [billing], by rw [State.running, closing]; rfl, fun _ m' there' => ?_⟩
  rw [meter, Option.some.injEq] at there'
  subst there'
  rwa [full]

theorem left_decline (m : Meter) (what : Declined) (back : Nat) : (m.decline what back).left = back := rfl

/-! ## The rules that a waking lane runs -/

/-- A Supervisor apart from its horn and its practice index. -/
def Supervisor.steady (u : Supervisor) : Supervisor := { u with horn := none, practice := 0 }

/-- Lane `l` of `t` is as that of `s` in what a waking lane keeps. -/
def State.steadyTo (s t : State) (l : Fin 16) : Prop := t.graced l ∧ (t.lane l).sup.steady = (s.lane l).sup.steady

theorem steadyTo_congr {u : State} (h : s.steadyTo t l) (chip : u.chip = t.chip) (session : u.session l = t.session l)
    (meter : (u.lane l).meter = (t.lane l).meter) (sup : (u.lane l).sup.steady = (t.lane l).sup.steady) :
    s.steadyTo u l :=
  ⟨graced_congr h.1 chip session meter, sup.trans h.2⟩

theorem steady_becomeUp (s : State) (l : Fin 16) (i : Fin 12) :
    ((s.becomeUp l i).lane l).sup.steady = (s.lane l).sup.steady := by
  rw [State.becomeUp, State.resetPractice, sup_modSup, if_pos rfl]
  simp only [State.updSlot, lane_updTurn]
  rfl

theorem steadyTo_becomeUp (h : s.steadyTo t l) (i : Fin 12) : s.steadyTo (t.becomeUp l i) l :=
  steadyTo_congr h (by simp) (by simp) (by simp) (steady_becomeUp t l i)

theorem steadyTo_startGame (h : s.steadyTo t l) (i : Fin 12) : s.steadyTo (t.startGame l i) l :=
  steadyTo_congr h (by simp) (by simp) (by simp) (by rw [sup_startGame])

/-- A game charge asked for on an OPEN lane. -/
theorem steadyTo_askGame (h : s.steadyTo t l) (isOpen : t.session l = .opened) (i : Fin 12) :
    s.steadyTo (t.askGame l i) l := by
  unfold State.askGame
  split
  · exact h
  next m there =>
    split
    next paid _ =>
      have written : s.steadyTo (t.setMeter l paid) l :=
        ⟨graced_opened (s := t.setMeter l paid) h.1.1 (by simpa using isOpen), by simpa using h.2⟩
      exact steadyTo_startGame (steadyTo_becomeUp written i) i
    next declined =>
      have closing : ((t.setMeter l (m.decline .game t.billing.back)).enterClosing l).graced l :=
        graced_declined h.1.1 (by rw [there]; rfl) (left_decline ..)
      rw [zeroBackGrace_graced closing]
      exact ⟨closing, by simpa using h.2⟩

theorem steadyTo_raiseHead (h : s.steadyTo t l) (i : Fin 12) : s.steadyTo (t.raiseHead l i) l := by
  unfold State.raiseHead
  split
  · exact steadyTo_becomeUp h i
  · exact steadyTo_becomeUp h i
  · split
    next isOpen =>
      split
      · have kept : s.steadyTo (t.updTurn (pairOf l) fun v => v.setPaid (sideOf l) false) l :=
          steadyTo_congr h (by simp) (by simp) (by simp) (by simp)
        exact steadyTo_startGame (steadyTo_becomeUp kept i) i
      · exact steadyTo_askGame h isOpen i
    · exact h

theorem steadyTo_updTurn (h : s.steadyTo t l) (p : Fin 8) (f : TurnUnit → TurnUnit) : s.steadyTo (t.updTurn p f) l :=
  steadyTo_congr h (by simp) (by simp) (by simp) (by simp)

theorem steadyTo_headRules (h : s.steadyTo t l) : s.steadyTo (t.headRules l) l := by
  simp only [State.headRules]
  split
  · exact h
  · split
    · exact h
    · split
      · exact steadyTo_updTurn h _ _
      · split
        · exact steadyTo_updTurn h _ _
        · exact steadyTo_raiseHead (steadyTo_updTurn h _ _) _

theorem steadyTo_turnPaid (h : s.steadyTo t l) (m : Meter) : s.steadyTo (t.turnPaid l m) l := by
  unfold State.turnPaid
  split
  · simp only [State.takePaid]
    split
    · exact steadyTo_headRules (steadyTo_updTurn h _ _)
    · split
      · exact steadyTo_startGame (steadyTo_becomeUp h _) _
      · exact steadyTo_headRules (steadyTo_updTurn h _ _)
  · exact steadyTo_headRules h

/-- A unit that starts on an OPEN lane: where its charge is declined, the lane is CLOSING with its back grace left. -/
theorem graced_startUnit (h : s.graced l) (isOpen : s.session l = .opened) : (s.startUnit l).graced l := by
  have opened (m : Meter) : (s.setMeter l m).graced l :=
    graced_opened (s := s.setMeter l m) h.1 (by simpa using isOpen)
  simp only [State.startUnit]
  split
  · exact h
  next m there =>
    split
    next declined =>
      refine graced_declined h.1 (by rw [there]; rfl) ?_
      unfold Meter.startUnit at declined ⊢
      split at declined
      · cases declined
      · split at declined
        · cases declined
        next => simp only [left_decline]
    · exact opened _

theorem graced_endFrozen (h : s.graced l) (isOpen : s.session l = .opened) : (s.endFrozen l).graced l := by
  have opened (m : Meter) : (s.setMeter l m).graced l :=
    graced_opened (s := s.setMeter l m) h.1 (by simpa using isOpen)
  unfold State.endFrozen State.endPeriod
  split
  · exact h
  · split
    · split
      · exact h
      · split
        · exact graced_startUnit h isOpen
        · exact graced_startUnit (opened _) (by simpa using isOpen)
        · exact h
    · exact h

theorem steady_liftLaneOpen (s : State) (p : Fin 8) : ((s.liftLaneOpen p).lane l).sup.steady = (s.lane l).sup.steady := by
  have silent : ((s.liftLaneOpen p).lane l).sup.silent = (s.lane l).sup.silent := silent_liftLaneOpen s p l
  exact congrArg (fun u : Supervisor => { u with practice := 0 }) silent

theorem sup_grantPower (s : State) (l : Fin 16) :
    ((s.grantPower l).lane l).sup = (s.lane l).sup.granted s.timers.warmUp := by
  unfold State.grantPower Supervisor.granted
  split
  next off => rw [State.enterWarming, sup_updSup, if_pos rfl, off]
  next on =>
    split
    next off => exact absurd off on
    next => rfl

theorem session_resumeSession (s : State) (l : Fin 16) (st : SessionState) : (s.resumeSession l st).session l = st := by
  rw [State.session, State.resumeSession, record_updSession, if_pos rfl]
  rfl

/-- Power and lift of a waking lane. -/
theorem graced_resumeMachines (h : t.graced l) (sup : (t.lane l).sup = (s.lane l).sup) (chip : t.chip = s.chip) :
    (t.resumeMachines l).graced l ∧
      ((t.resumeMachines l).lane l).sup.steady = ((s.lane l).sup.granted s.timers.warmUp).steady := by
  refine ⟨graced_congr h (by simp) (by simp) (by simp), ?_⟩
  rw [State.resumeMachines, steady_liftLaneOpen, sup_grantPower, sup, timers_of_chip chip]

/-- A lane that wakes where a back grace is set. -/
theorem wake_graced (back : s.billing.back ≠ 0) :
    (s.wake l).graced l ∧ ((s.wake l).lane l).sup.steady = ((s.lane l).sup.granted s.timers.warmUp).steady := by
  have opened (t : State) (chip : t.chip = s.chip) : (t.resumeSession l .opened).graced l :=
    graced_opened (by rwa [billing_of_chip ((chip_resumeSession ..).trans chip)]) (session_resumeSession t l .opened)
  have meters (m : Meter) : (s.setMeter l m).chip = s.chip := by simp
  unfold State.wake
  split
  · obtain ⟨graced, sup⟩ := graced_resumeMachines (s := s) (opened s rfl) (by simp) (by simp)
    have ruled := steadyTo_headRules (s := (s.resumeSession l .opened).resumeMachines l) ⟨graced, rfl⟩
    exact ⟨ruled.1, ruled.2.trans sup⟩
  next m there =>
    split
    · have frozen := graced_endFrozen (opened s rfl) (session_resumeSession s l .opened)
      obtain ⟨graced, sup⟩ := graced_resumeMachines (s := s) frozen (by simp) (by simp)
      have ruled := steadyTo_headRules (s := ((s.resumeSession l .opened).endFrozen l).resumeMachines l) ⟨graced, rfl⟩
      rw [zeroBackGrace_graced ruled.1]
      exact ⟨ruled.1, ruled.2.trans sup⟩
    next paid _ _ =>
      obtain ⟨graced, sup⟩ := graced_resumeMachines (s := s) (opened (s.setMeter l paid) (meters paid)) (by simp) (by simp)
      have ruled := steadyTo_turnPaid (s := ((s.setMeter l paid).resumeSession l .opened).resumeMachines l)
        ⟨graced, rfl⟩ paid
      exact ⟨ruled.1, ruled.2.trans sup⟩
    · have closing : (((s.setMeter l (m.resumeBack s.billing.back)).resumeSession l .closing).flagDk
          .laneClosing).graced l := by
        refine ⟨by rwa [billing_of_chip (s := s) (by simp)], by rw [State.running, session_flagDk, session_resumeSession]; rfl,
          fun _ n kept => ?_⟩
        have written : n = m.resumeBack s.billing.back := by
          simpa [State.setMeter, meter_modMeter, there, eq_comm] using kept
        rw [written, Meter.resumeBack]
        dsimp only
        split
        · exact back
        next some => exact some
      obtain ⟨graced, sup⟩ := graced_resumeMachines (s := s) closing (by simp) (by simp)
      have ruled := steadyTo_headRules
        (s := (((s.setMeter l (m.resumeBack s.billing.back)).resumeSession l .closing).flagDk
          .laneClosing).resumeMachines l) ⟨graced, rfl⟩
      rw [zeroBackGrace_graced ruled.1]
      exact ⟨ruled.1, ruled.2.trans sup⟩

end Sys2Proof.Machine
end

section
/-! SUPPORT. A DECK (R25, R48): the ball handed to the Return Monitor, and what each class of delivery does. -/

namespace Sys2Proof.Machine

variable {s t : State} {l k : Fin 16} {p : Fin 8}

/-! ## The record created (R48) -/

/-- A transit record at the end of the list. -/
def ReturnMonitor.append (r : ReturnMonitor) (sd : Side) (unpaid : Bool) : ReturnMonitor :=
  { r with
    transit := r.transit ++ [⟨sd, r.nextSeq, 0, false, unpaid⟩], nextSeq := r.nextSeq + 1, created := r.created + 1 }

/-- The pair's state once a full list has made room (R48). -/
def State.madeRoom (s : State) (p : Fin 8) : State :=
  if transitLimit ≤ (s.ret p).transit.length then s.writeOffOldest p else s

theorem ret_createTransit (s : State) (p : Fin 8) (sd : Side) (unpaid : Bool) :
    (s.createTransit p sd unpaid).ret p = (((s.madeRoom p).ret p).append sd unpaid).awake := by
  have busy : (((s.madeRoom p).modRet p fun r => r.append sd unpaid).ret p).transit = [] →
      ∃ side, ((s.madeRoom p).modRet p fun r => r.append sd unpaid).running (laneAt p side) = true := by
    intro empty
    rw [ret_modRet_same] at empty
    exact absurd empty (by simp [ReturnMonitor.append])
  have opened := ret_liftLaneOpen busy
  rw [ret_modRet_same] at opened
  exact opened

/-- The oldest record written off, with the episode of its lane where it was overdue (R48, R53). -/
theorem ret_writeOffOldest {x : Transit} {rest : List Transit} (list : (s.ret p).transit = x :: rest) :
    (s.writeOffOldest p).ret p =
      (let r : ReturnMonitor := { s.ret p with transit := rest, writtenOff := (s.ret p).writtenOff + 1 }
       if x.overdue = true then r.setEpisode x.lane (decide (∃ y ∈ rest, y.lane = x.lane ∧ y.overdue = true)) else r) := by
  unfold State.writeOffOldest
  rw [list]
  dsimp only
  split
  · rw [ret_episodeRule, ret_flagMc, ret_modRet_same]
    simp only [overdueCount_pos]
  · rw [ret_flagMc, ret_modRet_same]

theorem flagged_writeOffOldest {x : Transit} {rest : List Transit} (list : (s.ret p).transit = x :: rest) :
    (s.writeOffOldest p).flagged .mc 5 := by
  unfold State.writeOffOldest
  rw [list]
  dsimp only
  have told := flagged_setEvent_same
    (s.modRet p fun r => { r with transit := rest, writtenOff := r.writtenOff + 1 }) .mc 5
  split
  · exact flagged_episodeRule told p _
  · exact told

theorem flagged_createTransit {q : Port} {n : Nat} (h : (s.madeRoom p).flagged q n) (sd : Side) (unpaid : Bool) :
    (s.createTransit p sd unpaid).flagged q n :=
  flagged_liftLaneOpen (s := (s.madeRoom p).modRet p fun r => r.append sd unpaid) h p

/-! ## The lanes a DECK does not name -/

theorem silent_lane_createTransit (s : State) (p : Fin 8) (sd : Side) (unpaid : Bool) (k : Fin 16) :
    ((s.createTransit p sd unpaid).lane k).silent = (s.lane k).silent :=
  silent_lane_of_parts (by simp) (by simp) (by simp) (by simp) (by simp)

theorem far_episodeRule (s : State) (p : Fin 8) (sd : Side) (far : pairOf k ≠ p) :
    (s.episodeRule p sd).lane k = s.lane k := by
  have other : k ≠ laneAt p sd := fun e => far (by rw [e, pairOf_laneAt])
  unfold State.episodeRule
  dsimp only
  split
  · split
    · simp
    · rw [lane_sound, if_neg other]; simp
  · split <;> simp

theorem far_createTransit (s : State) (p : Fin 8) (sd : Side) (unpaid : Bool) (far : pairOf k ≠ p) :
    (s.createTransit p sd unpaid).lane k = s.lane k := by
  have room : (s.madeRoom p).lane k = s.lane k := by
    unfold State.madeRoom State.writeOffOldest
    split
    · split
      · rfl
      · dsimp only
        split
        · rw [far_episodeRule _ _ _ far]; simp
        · simp
    · rfl
  have opened : (s.createTransit p sd unpaid).lane k =
      ((((s.madeRoom p).modRet p fun r => r.append sd unpaid).startLift p).idleRule p).lane k := rfl
  rw [opened, lane_idleRule, far_startLift _ far, lane_modRet, room]

/-- The snapshots a DECK makes invalid are the lane's own, and the other lane's where its slot is UP here (R114). -/
theorem lane_dropSnapshotOf (s : State) (l k : Fin 16) (i : Fin 12) :
    (s.dropSnapshotOf l i).lane k =
      if k = l ∧ (s.lane l).snapshot.any (·.slot == i) = true then { s.lane k with snapshot := none } else s.lane k := by
  unfold State.dropSnapshotOf State.dropSnapshot
  split
  next names => simp [lane_modLane, names]
  next kept => simp [kept]

theorem lane_deckInvalidates (s : State) (l : Fin 16) :
    (s.deckInvalidates l).lane l = { s.lane l with snapshot := none } := by
  have other : l ≠ otherLane l := (otherLane_ne l).symm
  have dropped : (s.dropSnapshot l).lane l = { s.lane l with snapshot := none } := by
    simp [State.dropSnapshot]
  unfold State.deckInvalidates
  split
  · rw [lane_dropSnapshotOf, if_neg fun e => other e.1, dropped]
  · exact dropped

theorem snapshot_deckInvalidates_other {i : Fin 12} (up : s.upSlot l = some i) {n : Snapshot}
    (there : (s.lane (otherLane l)).snapshot = some n) (named : n.slot = i) :
    ((s.deckInvalidates l).lane (otherLane l)).snapshot = none := by
  have kept : ((s.dropSnapshot l).lane (otherLane l)).snapshot = some n := by
    rw [State.dropSnapshot, lane_modLane, if_neg (otherLane_ne l), there]
  unfold State.deckInvalidates
  rw [up]
  dsimp only
  rw [lane_dropSnapshotOf, if_pos ⟨rfl, by simp [kept, named]⟩]

theorem deckInvalidates_other (s : State) {l k : Fin 16} (other : k ≠ l) :
    (s.deckInvalidates l).lane k = { s.lane k with snapshot := ((s.deckInvalidates l).lane k).snapshot } := by
  have dropped : (s.dropSnapshot l).lane k = s.lane k := by rw [State.dropSnapshot, lane_modLane, if_neg other]
  unfold State.deckInvalidates
  split
  · rw [lane_dropSnapshotOf]
    split
    · rw [dropped]
    · rw [dropped]
  · rw [dropped]

theorem far_deckInvalidates (s : State) (far : pairOf k ≠ pairOf l) : (s.deckInvalidates l).lane k = s.lane k := by
  have other : k ≠ l := fun e => far (congrArg pairOf e)
  have beside : k ≠ otherLane l := fun e => far (by rw [e, pairOf_otherLane])
  have dropped : (s.dropSnapshot l).lane k = s.lane k := by rw [State.dropSnapshot, lane_modLane, if_neg other]
  unfold State.deckInvalidates
  split
  · rw [lane_dropSnapshotOf, if_neg fun e => beside e.1, dropped]
  · exact dropped

theorem flagged_deckInvalidates {q : Port} {n : Nat} (h : s.flagged q n) (l : Fin 16) :
    (s.deckInvalidates l).flagged q n := by
  have own : (s.dropSnapshot l).flagged q n := h
  unfold State.deckInvalidates
  split
  next i _ =>
    unfold State.dropSnapshotOf
    split
    · exact flagged_modLane own
    · exact own
  · exact own

/-! ## The ball taken, before its class says what follows -/

/-- The state once the Return Monitor has its ball and the snapshots are invalid. -/
def State.ballTaken (s : State) (l : Fin 16) : State :=
  (s.createTransit (pairOf l) (sideOf l) (!s.running l)).deckInvalidates l

/-- The delivery that takes a DECK, of its class. -/
def State.deckBall (s : State) (l : Fin 16) (missed : Bool) (cls : DeliveryClass) : Delivery :=
  { deckDelivery (s.lane l).sup.delivery missed with cls := some cls, pre := (s.lane l).sup.standing }

theorem unpaid_iff (session : SessionState) (pins : PsState) (up : Option (Fin 12)) :
    (deckClass session pins up == .unpaid) = !session.grants := by
  unfold deckClass
  cases grants : session.grants with
  | false => rfl
  | true => cases pins <;> cases up <;> rfl

/-- A DECK, by the class it gives its delivery. -/
theorem takeDeck_eq (s : State) (l : Fin 16) (missed : Bool) :
    s.takeDeck l missed =
      (let t := s.ballTaken l
       match deckClass (s.session l) (s.lane l).sup.state (s.upSlot l), s.upSlot l with
       | .scored, some i => t.startScored l (s.deckBall l missed .scored) i
       | .scored, none => t.startPractice l (s.deckBall l missed .scored)
       | .practice, _ => t.startPractice l (s.deckBall l missed .practice)
       | .early, _ =>
         (t.closeAtDeck l (s.deckBall l missed .early) fun u =>
           { u with earlyBalls := bump16 u.earlyBalls }).flagConsole (pairOf l) .earlyBall
       | .unscored, _ =>
         t.closeAtDeck l (s.deckBall l missed .unscored) fun u => { u with unscoredBalls := bump16 u.unscoredBalls }
       | .unpaid, _ => t.unpaidBall l (s.deckBall l missed .unpaid)) := by
  unfold State.takeDeck
  dsimp only
  rw [unpaid_iff]
  cases deckClass (s.session l) (s.lane l).sup.state (s.upSlot l) <;> cases s.upSlot l <;> rfl

section
variable {missed : Bool}

theorem takeDeck_scored (runs : s.running l = true) (ready : (s.lane l).sup.state = .ready) {i : Fin 12}
    (up : s.upSlot l = some i) :
    s.takeDeck l missed = (s.ballTaken l).startScored l (s.deckBall l missed .scored) i := by
  have runs : (s.session l).grants = true := runs
  have cls : deckClass (s.session l) (s.lane l).sup.state (s.upSlot l) = .scored := by simp [deckClass, runs, ready, up]
  rw [takeDeck_eq, cls, up]

theorem takeDeck_practice (runs : s.running l = true) (ready : (s.lane l).sup.state = .ready)
    (nobody : s.upSlot l = none) :
    s.takeDeck l missed = (s.ballTaken l).startPractice l (s.deckBall l missed .practice) := by
  have runs : (s.session l).grants = true := runs
  have cls : deckClass (s.session l) (s.lane l).sup.state (s.upSlot l) = .practice := by
    simp [deckClass, runs, ready, nobody]
  rw [takeDeck_eq, cls]

theorem takeDeck_early (runs : s.running l = true)
    (moves : (s.lane l).sup.state = .cycling ∨ (s.lane l).sup.state = .warming) :
    s.takeDeck l missed =
      ((s.ballTaken l).closeAtDeck l (s.deckBall l missed .early) fun u =>
        { u with earlyBalls := bump16 u.earlyBalls }).flagConsole (pairOf l) .earlyBall := by
  have runs : (s.session l).grants = true := runs
  have cls : deckClass (s.session l) (s.lane l).sup.state (s.upSlot l) = .early := by
    rcases moves with cycles | warms
    · simp [deckClass, runs, cycles]
    · simp [deckClass, runs, warms]
  rw [takeDeck_eq, cls]

theorem takeDeck_unscored (runs : s.running l = true) (notReady : (s.lane l).sup.state ≠ .ready)
    (notCycling : (s.lane l).sup.state ≠ .cycling) (notWarming : (s.lane l).sup.state ≠ .warming) :
    s.takeDeck l missed =
      (s.ballTaken l).closeAtDeck l (s.deckBall l missed .unscored) fun u =>
        { u with unscoredBalls := bump16 u.unscoredBalls } := by
  have runs : (s.session l).grants = true := runs
  have cls : deckClass (s.session l) (s.lane l).sup.state (s.upSlot l) = .unscored := by
    cases state : (s.lane l).sup.state with
    | ready => exact absurd state notReady
    | cycling => exact absurd state notCycling
    | warming => exact absurd state notWarming
    | off | handSet | fault | lockout => simp [deckClass, runs]
  rw [takeDeck_eq, cls]

theorem takeDeck_unpaid (stopped : s.running l = false) :
    s.takeDeck l missed = (s.ballTaken l).unpaidBall l (s.deckBall l missed .unpaid) := by
  have stopped : (s.session l).grants = false := stopped
  have cls : deckClass (s.session l) (s.lane l).sup.state (s.upSlot l) = .unpaid := by simp [deckClass, stopped]
  rw [takeDeck_eq, cls]

end

/-! ## What the ball taken leaves -/

section
variable (s l)

theorem ret_ballTaken :
    (s.ballTaken l).ret (pairOf l) = (((s.madeRoom (pairOf l)).ret (pairOf l)).append (sideOf l) (!s.running l)).awake := by
  rw [State.ballTaken, ret_deckInvalidates, ret_createTransit]

theorem lane_ballTaken :
    (s.ballTaken l).lane l =
      { s.lane l with
        sup := { (s.lane l).sup with horn := ((s.ballTaken l).lane l).sup.horn }, snapshot := none } := by
  have taken : ((s.createTransit (pairOf l) (sideOf l) (!s.running l)).lane l) =
      { s.lane l with
        sup := { (s.lane l).sup with
          horn := ((s.createTransit (pairOf l) (sideOf l) (!s.running l)).lane l).sup.horn } } :=
    sameLaneButHorn_iff.mpr (silent_lane_createTransit s _ _ _ l)
  rw [State.ballTaken, lane_deckInvalidates, taken]

theorem silent_ballTaken (k : Fin 16) : ((s.ballTaken l).lane k).sup.silent = (s.lane k).sup.silent := by
  rw [State.ballTaken, sup_deckInvalidates, silent_createTransit]

@[simp] theorem chip_ballTaken : (s.ballTaken l).chip = s.chip := by simp [State.ballTaken]
@[simp] theorem line_ballTaken (o : Port) : ((s.ballTaken l).port o).line = (s.port o).line := by simp [State.ballTaken]
@[simp] theorem directory_ballTaken : (s.ballTaken l).directory = s.directory := by simp [State.ballTaken]
@[simp] theorem turn_ballTaken (w : Fin 8) : (s.ballTaken l).turn w = s.turn w := by simp [State.ballTaken]
@[simp] theorem record_ballTaken (j : Fin 16) : ((s.ballTaken l).lane j).session = (s.lane j).session := by
  simp [State.ballTaken]
@[simp] theorem session_ballTaken (j : Fin 16) : (s.ballTaken l).session j = s.session j := by simp [State.ballTaken]
@[simp] theorem meter_ballTaken (j : Fin 16) : ((s.ballTaken l).lane j).meter = (s.lane j).meter := by
  simp [State.ballTaken]

theorem pairOther_ballTaken {w : Fin 8} (h : w ≠ pairOf l) : (s.ballTaken l).pair w = s.pair w := by
  simp [State.ballTaken, h]

theorem far_ballTaken {k : Fin 16} (far : pairOf k ≠ pairOf l) : (s.ballTaken l).lane k = s.lane k := by
  rw [State.ballTaken, far_deckInvalidates _ far, far_createTransit _ _ _ _ far]

/-- The pair's other lane keeps all but its horn and its snapshot. -/
theorem other_ballTaken {k : Fin 16} (other : k ≠ l) :
    s.sameLaneButHornSnapshot (s.ballTaken l) k := by
  have taken : s.sameLaneButHorn (s.createTransit (pairOf l) (sideOf l) (!s.running l)) k :=
    sameLaneButHorn_iff.mpr (silent_lane_createTransit s _ _ _ k)
  unfold State.sameLaneButHorn at taken
  unfold State.sameLaneButHornSnapshot State.ballTaken
  rw [deckInvalidates_other _ other, taken]

theorem flagged_ballTaken {q : Port} {n : Nat} (h : (s.madeRoom (pairOf l)).flagged q n) : (s.ballTaken l).flagged q n := by
  refine flagged_deckInvalidates ?_ l
  exact flagged_createTransit h (sideOf l) (!s.running l)

end

end Sys2Proof.Machine
end

section
/-! PROOFS. Every DECK hands the Return Monitor a ball (R24, R48). -/

namespace Sys2Proof.Machine

variable {s t : State} {l k : Fin 16} {p : Fin 8} {missed : Bool}

/-- What holds of a ball started, closed, or unpaid, of the ball taken, holds after a DECK. -/
theorem takeDeck_elim {motive : State → Prop} (scored : ∀ d i, motive ((s.ballTaken l).startScored l d i))
    (practice : ∀ d, motive ((s.ballTaken l).startPractice l d))
    (early : ∀ d f, motive (((s.ballTaken l).closeAtDeck l d f).flagConsole (pairOf l) .earlyBall))
    (unscored : ∀ d f, motive ((s.ballTaken l).closeAtDeck l d f))
    (unpaid : ∀ d, motive ((s.ballTaken l).unpaidBall l d)) : motive (s.takeDeck l missed) := by
  rw [takeDeck_eq]
  dsimp only
  split
  · exact scored _ _
  · exact practice _
  · exact practice _
  · exact early _ _
  · exact unscored _ _
  · exact unpaid _

/-- An unpaid ball: closed with a flag, and the edge of a PARKED lane taken. -/
theorem unpaidBall_elim {motive : State → Prop} (d : Delivery)
    (closed : ∀ f, motive ((t.closeAtDeck l d f).flagDk .unpaidDelivery))
    (counted : ∀ f, motive (((t.closeAtDeck l d id).modMeter l f).flagDk .unpaidDelivery))
    (wakes : ∀ f, motive ((((t.closeAtDeck l d id).modMeter l f).flagDk .unpaidDelivery).wake l)) :
    motive (t.unpaidBall l d) := by
  unfold State.unpaidBall State.ballEdge
  split
  · split
    · exact wakes _
    · exact counted _
  · exact closed _

/-! ## The Return Monitor -/

theorem started_ne_off (r : ReturnMonitor) : r.started ≠ .off := by
  unfold ReturnMonitor.started
  split
  · split
    · nofun
    · split <;> nofun
  next moves => exact moves

theorem awake_awake (r : ReturnMonitor) : r.awake.awake = r.awake := by
  have lift : r.awake.started = r.awake.lift := started_of_not_off (started_ne_off r)
  rw [ReturnMonitor.awake, lift]
  rfl

theorem idleAfter_busy {r : ReturnMonitor} (busy : r.transit ≠ []) : s.idleAfter p r = none :=
  if_neg fun holds => busy holds.2.1

/-- A lane that wakes leaves a Return Monitor that is awake and has a ball on its list. -/
theorem ret_wake_busy {r : ReturnMonitor} (awake : s.ret (pairOf l) = r.awake) (busy : r.transit ≠ []) :
    (s.wake l).ret (pairOf l) = r.awake := by
  have rests := rests_wake s l
  rw [awake, awake_awake] at rests
  rw [rests, idleAfter_busy (r := r.awake) busy]
  rfl

/-- The ball stays on the list of a Return Monitor that is awake, whatever the delivery's class. -/
theorem ret_takeDeck (s : State) (l : Fin 16) (missed : Bool) :
    (s.takeDeck l missed).ret (pairOf l) = (s.ballTaken l).ret (pairOf l) := by
  refine takeDeck_elim (motive := fun t => t.ret (pairOf l) = (s.ballTaken l).ret (pairOf l)) (fun d i => by simp)
    (fun d => by simp) (fun d f => by simp) (fun d f => by simp) fun d => ?_
  refine unpaidBall_elim (motive := fun t => t.ret (pairOf l) = (s.ballTaken l).ret (pairOf l)) d
    (fun f => by simp) (fun f => by simp) fun f => ?_
  rw [ret_ballTaken]
  exact ret_wake_busy (by simp [ret_ballTaken]) (by simp [ReturnMonitor.append])

/-- Making room changes the list, the count of records written off and the episodes. -/
theorem ret_madeRoom (s : State) (p : Fin 8) :
    ∃ transit written odd even, (s.madeRoom p).ret p =
      { s.ret p with transit := transit, writtenOff := written, episodeOdd := odd, episodeEven := even } := by
  unfold State.madeRoom
  split
  · cases list : (s.ret p).transit with
    | nil => exact ⟨_, _, _, _, by rw [State.writeOffOldest, list]⟩
    | cons x rest =>
      rw [ret_writeOffOldest list]
      dsimp only
      split
      · cases x.lane <;> exact ⟨_, _, _, _, rfl⟩
      · exact ⟨_, _, _, _, rfl⟩
  · exact ⟨_, _, _, _, rfl⟩

theorem madeRoom_free (room : (s.ret p).transit.length < 16) : s.madeRoom p = s :=
  if_neg (Nat.not_le.mpr room)

theorem madeRoom_full (full : 16 ≤ (s.ret p).transit.length) : s.madeRoom p = s.writeOffOldest p := if_pos full

/-! ## The lanes and the records -/

/-- A lane apart from its horn and its snapshot. -/
def Lane.plain (a : Lane) : Lane := { a.silent with snapshot := none }

theorem sameLaneButHornSnapshot_iff : s.sameLaneButHornSnapshot t k ↔ (t.lane k).plain = (s.lane k).plain := by
  unfold State.sameLaneButHornSnapshot
  constructor
  · intro same
    rw [same]
    rfl
  · intro same
    have whole (a : Lane) :
        a = { a.plain with sup := { a.plain.sup with horn := a.sup.horn }, snapshot := a.snapshot } := rfl
    conv_lhs => rw [whole (t.lane k), same]
    rfl

theorem plain_takeDeck (s : State) {l k : Fin 16} (missed : Bool) (other : k ≠ l) :
    ((s.takeDeck l missed).lane k).plain = (s.lane k).plain := by
  have taken : ((s.ballTaken l).lane k).plain = (s.lane k).plain :=
    sameLaneButHornSnapshot_iff.mp (other_ballTaken s l other)
  refine takeDeck_elim (motive := fun t => (t.lane k).plain = (s.lane k).plain) (fun d i => ?_) (fun d => ?_)
    (fun d f => ?_) (fun d f => ?_) fun d => ?_
  · rw [laneOther_startScored _ _ _ _ _ other, taken]
  · rw [laneOther_startPractice _ _ _ _ other, taken]
  · rw [lane_flagConsole, laneOther_closeAtDeck _ _ _ _ _ other, taken]
  · rw [laneOther_closeAtDeck _ _ _ _ _ other, taken]
  · refine unpaidBall_elim (motive := fun t => (t.lane k).plain = (s.lane k).plain) d (fun f => ?_) (fun f => ?_) fun f => ?_
    · rw [lane_flagDk, laneOther_closeAtDeck _ _ _ _ _ other, taken]
    · rw [lane_flagDk, laneOther_modMeter _ _ _ _ other, laneOther_closeAtDeck _ _ _ _ _ other, taken]
    · rw [Lane.plain, silent_lane_wake _ other, lane_flagDk, laneOther_modMeter _ _ _ _ other,
        laneOther_closeAtDeck _ _ _ _ _ other]
      exact taken

theorem far_takeDeck (s : State) {l k : Fin 16} (missed : Bool) (far : pairOf k ≠ pairOf l) :
    (s.takeDeck l missed).lane k = s.lane k := by
  have other : k ≠ l := fun e => far (congrArg pairOf e)
  have taken := far_ballTaken s l far
  refine takeDeck_elim (motive := fun t => t.lane k = s.lane k) (fun d i => ?_) (fun d => ?_)
    (fun d f => ?_) (fun d f => ?_) fun d => ?_
  · rw [laneOther_startScored _ _ _ _ _ other, taken]
  · rw [laneOther_startPractice _ _ _ _ other, taken]
  · rw [lane_flagConsole, laneOther_closeAtDeck _ _ _ _ _ other, taken]
  · rw [laneOther_closeAtDeck _ _ _ _ _ other, taken]
  · refine unpaidBall_elim (motive := fun t => t.lane k = s.lane k) d (fun f => ?_) (fun f => ?_) fun f => ?_
    · rw [lane_flagDk, laneOther_closeAtDeck _ _ _ _ _ other, taken]
    · rw [lane_flagDk, laneOther_modMeter _ _ _ _ other, laneOther_closeAtDeck _ _ _ _ _ other, taken]
    · rw [far_wake _ far, lane_flagDk, laneOther_modMeter _ _ _ _ other, laneOther_closeAtDeck _ _ _ _ _ other, taken]

theorem records_takeDeck (s : State) (l : Fin 16) (missed : Bool) : (s.takeDeck l missed).records = s.records := by
  have kept {t : State} (h : t.directory = (s.ballTaken l).directory) : t.records = s.records :=
    records_of_directory (h.trans (directory_ballTaken s l))
  refine takeDeck_elim (motive := fun t => t.records = s.records) (fun d i => kept (by simp)) (fun d => kept (by simp))
    (fun d f => kept (by simp)) (fun d f => kept (by simp)) fun d => ?_
  refine unpaidBall_elim (motive := fun t => t.records = s.records) d (fun f => kept (by simp)) (fun f => kept (by simp))
    fun f => ?_
  rw [records_wake]
  exact kept (by simp)

theorem flagged_takeDeck {q : Port} {n : Nat} (h : (s.madeRoom (pairOf l)).flagged q n) (missed : Bool) :
    (s.takeDeck l missed).flagged q n := by
  have taken := flagged_ballTaken s l h
  refine takeDeck_elim (motive := fun t => t.flagged q n)
    (fun d i => ?_) (fun d => ?_) (fun d f => ?_) (fun d f => ?_) fun d => ?_
  · refine flagged_updSlot (flagged_updSup (s := (s.ballTaken l).modSup l _) taken l _) _ i _
  · refine flagged_updSup (s := (s.ballTaken l).modSup l _) taken l _
  · exact flagged_flagConsole (s := (s.ballTaken l).closeAtDeck l d f) taken _ _
  · exact taken
  · have closed (f : Supervisor → Supervisor) : ((s.ballTaken l).closeAtDeck l d f).flagged q n := taken
    have counted (f : Meter → Meter) : (((s.ballTaken l).closeAtDeck l d id).modMeter l f).flagged q n := taken
    exact unpaidBall_elim (motive := fun t => t.flagged q n) d (fun f => flagged_flagDk (closed f) _)
      (fun f => flagged_flagDk (counted f) _) fun f => flagged_wake (flagged_flagDk (counted f) _) l

/-- The Return Monitor's record after a DECK (R48). -/
theorem ret_takeDeck_fields (s : State) (l : Fin 16) (missed : Bool) :
    let r := s.ret (pairOf l)
    let r' := (s.takeDeck l missed).ret (pairOf l)
    let record : Transit := ⟨sideOf l, r.nextSeq, 0, false, !s.running l⟩
    r'.nextSeq = r.nextSeq + 1 ∧ r'.created = r.created + 1 ∧ r'.matched = r.matched ∧ r'.stray = r.stray ∧
    r'.lift = r.started ∧ r'.rackFull = r.rackFull ∧ r'.overload = r.overload ∧ r'.idle = none ∧
    (r.transit.length < 16 →
      r'.transit = r.transit ++ [record] ∧ r'.writtenOff = r.writtenOff ∧ r'.episodeOdd = r.episodeOdd ∧
        r'.episodeEven = r.episodeEven) ∧
    (∀ x rest, r.transit = x :: rest → 16 ≤ r.transit.length →
      r'.transit = rest ++ [record] ∧ r'.writtenOff = r.writtenOff + 1 ∧ (s.takeDeck l missed).flagged .mc 5 ∧
      (x.overdue = false → r'.episodeOdd = r.episodeOdd ∧ r'.episodeEven = r.episodeEven) ∧
      (x.overdue = true →
        r'.episode x.lane = decide (∃ y ∈ rest, y.lane = x.lane ∧ y.overdue = true) ∧
        r'.episode x.lane.other = r.episode x.lane.other)) := by
  dsimp only
  rw [ret_takeDeck, ret_ballTaken]
  obtain ⟨transit, written, odd, even, room⟩ := ret_madeRoom s (pairOf l)
  have seq : ((s.madeRoom (pairOf l)).ret (pairOf l)).nextSeq = (s.ret (pairOf l)).nextSeq := by rw [room]
  refine ⟨by rw [room]; rfl, by rw [room]; rfl, by rw [room]; rfl, by rw [room]; rfl, by rw [room]; rfl, by rw [room]; rfl,
    by rw [room]; rfl, rfl, fun free => ?_, fun x rest list full => ?_⟩
  · rw [madeRoom_free free]
    exact ⟨rfl, rfl, rfl, rfl⟩
  · have wrote := ret_writeOffOldest list
    rw [madeRoom_full full] at seq ⊢
    refine ⟨?_, ?_, flagged_takeDeck ?_ missed, fun inTime => ?_, fun late => ?_⟩
    · have kept : ((s.writeOffOldest (pairOf l)).ret (pairOf l)).transit = rest := by
        rw [wrote]
        dsimp only
        split
        · rw [transit_setEpisode]
        · rfl
      simp only [ReturnMonitor.awake, ReturnMonitor.append, kept, seq]
    · rw [wrote]
      dsimp only
      split
      · exact writtenOff_setEpisode ..
      · rfl
    · rw [madeRoom_full full]
      exact flagged_writeOffOldest list
    · rw [wrote]
      simp only [inTime, Bool.false_eq_true, if_false]
      exact ⟨rfl, rfl⟩
    · rw [wrote]
      simp only [late, if_true]
      exact ⟨(episode_congr rfl rfl _).trans (episode_setEpisode_same ..),
        (episode_congr rfl rfl _).trans ((episode_setEpisode_other ..).trans (episode_congr rfl rfl _))⟩

/-! ## The travel timeout -/

theorem travelTimeout_none (no : ∀ d, (s.lane l).sup.delivery = some d → d.step ≠ .awaitingDeck) :
    travelTimeout l s = s := by
  unfold travelTimeout
  split
  next d there => exact if_neg (no d there)
  next => rfl

theorem travelTimeout_some {d : Delivery} (there : (s.lane l).sup.delivery = some d) (waits : d.step = .awaitingDeck) :
    travelTimeout l s = s.takeDeck l true := by
  rw [travelTimeout, there]
  exact if_pos waits

end Sys2Proof.Machine
end

section
/-! PROOFS. The travel timeout is the DECK of its delivery (R24), and every DECK is a ball in transit (R48). -/

namespace Sys2Proof.Machine

variable {s t : State} {l k : Fin 16} {p : Fin 8} {missed : Bool}

/-! ## A delivery rewritten before the Return Monitor has its ball -/

/-- Writings of two lanes, or of one in parts that do not meet, commute. -/
theorem modLane_comm (s : State) (l k : Fin 16) {f g : Lane → Lane} (comm : ∀ a, f (g a) = g (f a)) :
    (s.modLane l f).modLane k g = (s.modLane k g).modLane l f := by
  by_cases same : l = k
  · subst same
    rw [modLane_modLane, modLane_modLane]
    simp only [comm]
  · have apart : (l : Nat) ≠ k := fun e => same (Fin.ext e)
    unfold State.modLane
    simp only [State.lane, Fin.getElem_fin, Vector.getElem_set_ne _ _ apart, Vector.getElem_set_ne _ _ apart.symm]
    rw [Vector.set_comm _ _ apart]

/-- A lane whose delivery in flight is `x`. -/
def State.withDelivery (s : State) (l : Fin 16) (x : Option Delivery) : State :=
  s.modSup l fun u => { u with delivery := x }

section
variable (s l) (x : Option Delivery)

@[simp] theorem ret_withDelivery (w : Fin 8) : (s.withDelivery l x).ret w = s.ret w := rfl

@[simp] theorem session_withDelivery (j : Fin 16) : (s.withDelivery l x).session j = s.session j := session_modSup ..

@[simp] theorem chip_withDelivery : (s.withDelivery l x).chip = s.chip := rfl

theorem modRet_withDelivery (p : Fin 8) (f : ReturnMonitor → ReturnMonitor) :
    (s.withDelivery l x).modRet p f = (s.modRet p f).withDelivery l x := rfl

theorem flagMc_withDelivery (f : McFlag) : (s.withDelivery l x).flagMc f = (s.flagMc f).withDelivery l x := rfl

theorem raiseCall_withDelivery (c : Call) : (s.withDelivery l x).raiseCall c = (s.raiseCall c).withDelivery l x := by
  have backlog : (s.withDelivery l x).backlogCall c = (s.backlogCall c).withDelivery l x := by
    have pool : (s.withDelivery l x).pool = s.pool := rfl
    unfold State.backlogCall
    rw [pool]
    split
    · rfl
    · split <;> rfl
  have loading : (s.withDelivery l x).loading = s.loading := rfl
  have pool : (s.withDelivery l x).pool = s.pool := rfl
  unfold State.raiseCall
  rw [loading, pool]
  split
  · rfl
  · split
    · rfl
    · exact backlog

theorem sound_withDelivery (k : Fin 16) (tone : Tone) :
    (s.withDelivery l x).sound k tone = (s.sound k tone).withDelivery l x :=
  modLane_comm s l k (f := fun a => { a with sup := { a.sup with delivery := x } })
    (g := fun a => { a with sup := { a.sup with horn := some ⟨tone, tone.length⟩ } }) fun _ => rfl

theorem idleRule_withDelivery (p : Fin 8) : (s.withDelivery l x).idleRule p = (s.idleRule p).withDelivery l x := by
  have idle (r : ReturnMonitor) : (s.withDelivery l x).idleAfter p r = s.idleAfter p r :=
    idleAfter_congr (chip_withDelivery s l x) (fun sd => session_withDelivery s l x _) r
  rw [idleRule_eq, idleRule_eq]
  simp only [idle]
  rfl

theorem episodeRule_withDelivery (p : Fin 8) (sd : Side) :
    (s.withDelivery l x).episodeRule p sd = (s.episodeRule p sd).withDelivery l x := by
  unfold State.episodeRule
  simp only [ret_withDelivery, modRet_withDelivery, raiseCall_withDelivery, flagMc_withDelivery, sound_withDelivery,
    apply_ite (fun u : State => u.withDelivery l x)]
  rfl

theorem startLift_withDelivery (p : Fin 8) : (s.withDelivery l x).startLift p = (s.startLift p).withDelivery l x := by
  unfold State.startLift State.enterStall
  simp only [ret_withDelivery, modRet_withDelivery, raiseCall_withDelivery, flagMc_withDelivery, sound_withDelivery]
  split
  · split <;> rfl
  · rfl

theorem createTransit_withDelivery (p : Fin 8) (sd : Side) (unpaid : Bool) :
    (s.withDelivery l x).createTransit p sd unpaid = (s.createTransit p sd unpaid).withDelivery l x := by
  have room : (s.withDelivery l x).madeRoom p = (s.madeRoom p).withDelivery l x := by
    unfold State.madeRoom State.writeOffOldest
    rw [ret_withDelivery]
    split
    · split
      · rfl
      · simp only [modRet_withDelivery, flagMc_withDelivery, episodeRule_withDelivery]
        split <;> rfl
    · rfl
  have made (u : State) : u.createTransit p sd unpaid =
      (((u.madeRoom p).modRet p fun r => r.append sd unpaid).startLift p).idleRule p := rfl
  rw [made, made, room, modRet_withDelivery, startLift_withDelivery, idleRule_withDelivery]

theorem deckInvalidates_withDelivery : (s.withDelivery l x).deckInvalidates l = (s.deckInvalidates l).withDelivery l x := by
  have drop (u : State) (k : Fin 16) : (u.withDelivery l x).dropSnapshot k = (u.dropSnapshot k).withDelivery l x :=
    modLane_comm u l k (f := fun a => { a with sup := { a.sup with delivery := x } })
      (g := fun a => { a with snapshot := none }) fun _ => rfl
  have dropOf (u : State) (k : Fin 16) (i : Fin 12) :
      (u.withDelivery l x).dropSnapshotOf k i = (u.dropSnapshotOf k i).withDelivery l x := by
    have named : ((u.withDelivery l x).lane k).snapshot = (u.lane k).snapshot := snapshot_modSup ..
    unfold State.dropSnapshotOf
    rw [named]
    split
    · exact drop u k
    · rfl
  have up : (s.withDelivery l x).upSlot l = s.upSlot l := rfl
  unfold State.deckInvalidates
  rw [up]
  split
  · rw [drop, dropOf]
  · exact drop s l

theorem ballTaken_withDelivery : (s.withDelivery l x).ballTaken l = (s.ballTaken l).withDelivery l x := by
  have running : (s.withDelivery l x).running l = s.running l := by
    rw [State.running, State.running, session_withDelivery]
  rw [State.ballTaken, running, createTransit_withDelivery, deckInvalidates_withDelivery]
  rfl

/-- A ball cycle's delivery is written whatever was in flight. -/
theorem startBall_withDelivery (d : Delivery) (kind : CycleKind) :
    (s.withDelivery l x).startBall l d kind = s.startBall l d kind := by
  have timers : (s.withDelivery l x).timers = s.timers := rfl
  unfold State.startBall
  rw [State.withDelivery, modSup_modSup]
  rfl

theorem closeAtDeck_withDelivery (d : Delivery) (f : Supervisor → Supervisor)
    (still : stillInFlight x = stillInFlight (s.lane l).sup.delivery) :
    (s.withDelivery l x).closeAtDeck l d f = s.closeAtDeck l d f := by
  unfold State.closeAtDeck
  rw [State.withDelivery, modSup_modSup]
  exact modSup_congr (by simp only [still])

theorem startScored_withDelivery (d : Delivery) (i : Fin 12) :
    (s.withDelivery l x).startScored l d i = s.startScored l d i := by
  unfold State.startScored
  simp only [startBall_withDelivery]
  rfl

theorem startPractice_withDelivery (d : Delivery) : (s.withDelivery l x).startPractice l d = s.startPractice l d := by
  have index : ((s.withDelivery l x).lane l).sup.practice = (s.lane l).sup.practice := by
    rw [State.withDelivery, sup_modSup, if_pos rfl]
  unfold State.startPractice
  rw [startBall_withDelivery, index]

theorem unpaidBall_withDelivery (d : Delivery) (still : stillInFlight x = stillInFlight (s.lane l).sup.delivery) :
    (s.withDelivery l x).unpaidBall l d = s.unpaidBall l d := by
  unfold State.unpaidBall
  rw [session_withDelivery, closeAtDeck_withDelivery _ _ _ _ _ still, closeAtDeck_withDelivery _ _ _ _ _ still]

end

/-- A delivery that awaits its DECK, marked DECK_MISSED. -/
def Delivery.late (d : Delivery) : Delivery := { d with marks := { d.marks with deckMissed := true } }

theorem deckDelivery_late {d : Delivery} (waits : d.step = .awaitingDeck) :
    deckDelivery (some d.late) false = deckDelivery (some d) true := by
  have still : d.late.step = .awaitingDeck := waits
  simp only [deckDelivery, waits, still, if_true]
  simp [Delivery.late]

theorem delivery_ballTaken (s : State) (l : Fin 16) :
    ((s.ballTaken l).lane l).sup.delivery = (s.lane l).sup.delivery := by
  have same := congrArg (fun u : Supervisor => u.delivery) (silent_ballTaken s l l)
  exact same

/-- The DECK of a delivery marked DECK_MISSED is its travel timeout (R24). -/
theorem takeDeck_late {d : Delivery} (there : (s.lane l).sup.delivery = some d) (waits : d.step = .awaitingDeck) :
    (s.withDelivery l (some d.late)).takeDeck l false = s.takeDeck l true := by
  have own : ((s.withDelivery l (some d.late)).lane l).sup = { (s.lane l).sup with delivery := some d.late } := by
    rw [State.withDelivery, sup_modSup, if_pos rfl]
  have up : (s.withDelivery l (some d.late)).upSlot l = s.upSlot l := rfl
  have ball (cls : DeliveryClass) :
      (s.withDelivery l (some d.late)).deckBall l false cls = s.deckBall l true cls := by
    rw [State.deckBall, State.deckBall, own, there, deckDelivery_late waits]
  have still : stillInFlight (some d.late) = stillInFlight ((s.ballTaken l).lane l).sup.delivery := by
    have step : d.late.step = .awaitingDeck := waits
    rw [delivery_ballTaken, there]
    simp [stillInFlight, Option.filter, step, waits]
  rw [takeDeck_eq, takeDeck_eq, session_withDelivery, own, up, ballTaken_withDelivery]
  simp only [ball, startScored_withDelivery, startPractice_withDelivery, closeAtDeck_withDelivery _ _ _ _ _ still,
    unpaidBall_withDelivery _ _ _ _ still]

/-- A DECK, and the travel timeout of a delivery that awaits one, take a ball. -/
theorem exec_ball {i : Instr} (kind : i = .deck l ∨
      i = .travelTimeout l ∧ ∃ d, (s.lane l).sup.delivery = some d ∧ d.step = .awaitingDeck)
    (released : s.resetHeld = false) : ∃ missed, exec i s = .next (s.takeDeck l missed) := by
  rcases kind with rfl | ⟨rfl, d, there, waits⟩
  · exact ⟨false, exec_event (f := deck l) rfl released⟩
  · exact ⟨true, by rw [exec_event (f := travelTimeout l) rfl released, travelTimeout_some there waits]⟩

/-- Settles O26, by the ball the Return Monitor takes before the delivery's class says what follows. -/
theorem everyDeckIsABallInTransit : Obligations.EveryDeckIsABallInTransit := by
  unfold Obligations.EveryDeckIsABallInTransit
  refine ⟨fun l i s released kind => ?_, fun l s released => ⟨fun no => ?_, fun d there waits => ?_⟩⟩
  · obtain ⟨missed, ran⟩ := exec_ball kind released
    refine ⟨s.takeDeck l missed, ran, ret_takeDeck_fields s l missed, chip_takeDeck .., line_takeDeck s l missed, ?_, ?_, ?_,
      sameRecords_iff.mpr (records_takeDeck s l missed)⟩
    · intro w other
      exact pairOther_takeDeck s l missed w (by simpa using other)
    · intro k other
      exact far_takeDeck s missed fun beside => other (by simpa using (lane_of_pair l k).mp beside)
    · exact sameLaneButHornSnapshot_iff.mpr (plain_takeDeck s missed (otherLane_ne l))
  · rw [exec_event (f := travelTimeout l) rfl released, travelTimeout_none no]
  · have marked : exec (.deck l) (s.withDelivery l (some d.late)) =
        .next (deck l (s.withDelivery l (some d.late))) := exec_event (f := deck l) rfl released
    rw [exec_event (f := travelTimeout l) rfl released, travelTimeout_some there waits, ← takeDeck_late there waits]
    exact marked.symm

end Sys2Proof.Machine
end

section
/-! PROOFS. A DECK with the pinsetter READY starts a ball cycle (R25, R26, R28, R114). -/

namespace Sys2Proof.Machine

variable {s t : State} {l : Fin 16}

/-- A Supervisor whose ball cycle starts (R26). -/
def Supervisor.cycled (u : Supervisor) (d : Delivery) (kind : CycleKind) (timeout : Nat) : Supervisor :=
  { u with
    state := .cycling, warmUp := none, handSet := none, delivery := some { d with step := .awaitingRead }
    cycle := some (newCycle kind .ball timeout d.pre) }

theorem sup_startBall (s : State) (l : Fin 16) (d : Delivery) (kind : CycleKind) :
    ((s.startBall l d kind).lane l).sup = (s.lane l).sup.cycled d kind s.timers.cycle := by
  rw [State.startBall, sup_startCycle_same, sup_modSup, if_pos rfl]
  rfl

theorem flagged_startBall (moves : (s.lane l).sup.state ≠ .cycling) (d : Delivery) (kind : CycleKind) :
    (s.startBall l d kind).flagged (.console (pairOf l)) 3 := by
  refine flagged_updSup_changed fun same => moves ?_
  rw [sup_modSup, if_pos rfl] at same
  exact same.symm

theorem sup_ballTaken (s : State) (l : Fin 16) :
    ((s.ballTaken l).lane l).sup = { (s.lane l).sup with horn := ((s.ballTaken l).lane l).sup.horn } :=
  congrArg (fun a : Lane => a.sup) (lane_ballTaken s l)

theorem snapshot_ballTaken (s : State) (l : Fin 16) : ((s.ballTaken l).lane l).snapshot = none :=
  congrArg (fun a : Lane => a.snapshot) (lane_ballTaken s l)

/-- A ball cycle that starts as the Return Monitor has its ball. -/
theorem sup_startBall_taken (s : State) (l : Fin 16) (d : Delivery) (kind : CycleKind) :
    (((s.ballTaken l).startBall l d kind).lane l).sup =
      { (s.lane l).sup.cycled d kind s.timers.cycle with
        horn := (((s.ballTaken l).startBall l d kind).lane l).sup.horn } := by
  rw [sup_startBall, timers_of_chip (chip_ballTaken s l)]
  conv_lhs => rw [sup_ballTaken]
  rfl

theorem lane_startScored (s : State) (l : Fin 16) (d : Delivery) (i : Fin 12) :
    (s.startScored l d i).lane l =
      (let x := s.slot (pairOf l) i
       (s.startBall l { d with place := some ⟨i, x.game.getD 0, x.frame, x.ball⟩ } (scoredKind x.frame x.ball)).lane l) :=
  lane_updSlot ..

theorem slot_of_turn {p : Fin 8} (turn : t.turn p = s.turn p) (i : Fin 12) : t.slot p i = s.slot p i :=
  congrArg (fun v : TurnUnit => v.slots[i]) turn

theorem upSlot_of_turn (turn : t.turn (pairOf l) = s.turn (pairOf l)) : t.upSlot l = s.upSlot l :=
  congrArg (fun v : TurnUnit => v.upSlot (sideOf l)) turn

theorem slot_ballTaken (s : State) (l : Fin 16) (i : Fin 12) : (s.ballTaken l).slot (pairOf l) i = s.slot (pairOf l) i :=
  slot_of_turn (turn_ballTaken s l _) i

theorem slot_startScored (s : State) (l : Fin 16) (d : Delivery) (i : Fin 12) :
    (s.startScored l d i).slot (pairOf l) i = { s.slot (pairOf l) i with inFlight := true } := by
  rw [State.startScored, slot_updSlot_same, slot_of_turn (turn_startBall ..) i]

/-- The first ball of a frame is a FIRST cycle, and so are those of frame 10 but its third (R26). -/
theorem scoredKind_eq (frame ball : Nat) :
    scoredKind frame ball =
      if (frame = 10 ∧ ball ≠ 3) ∨ (frame ≠ 10 ∧ ball = 1) then .first else .final := by
  unfold scoredKind
  by_cases last : frame = 10
  · by_cases third : ball = 3 <;> simp [last, third]
  · by_cases one : ball = 1 <;> simp [last, one]

/-- Settles O27, by the ball cycle that starts once the Return Monitor has its ball. -/
theorem readyDeckStartsABall : Obligations.ReadyDeckStartsABall := by
  unfold Obligations.ReadyDeckStartsABall
  intro l s released runs ready
  refine ⟨s.takeDeck l false, exec_event (f := deck l) rfl released, ?_⟩
  have still : ((s.ballTaken l).lane l).sup.state ≠ .cycling := by
    rw [sup_ballTaken]
    simp [ready]
  have slots := slot_ballTaken s l
  cases up : s.upSlot l with
  | some i =>
    rw [takeDeck_scored runs ready up]
    refine ⟨⟨fun j there => ?_, nofun⟩, ?_, ?_, ?_, ?_, ?_⟩
    · obtain rfl := Option.some.inj there
      refine ⟨?_, ?_, fun n named slot => ?_⟩
      · rw [lane_startScored]
        dsimp only
        rw [slots, ← scoredKind_eq]
        exact sup_startBall_taken s l _ _
      · rw [slot_startScored, slots]
      · rw [laneOther_startScored _ _ _ _ _ (otherLane_ne l), State.ballTaken]
        refine snapshot_deckInvalidates_other (n := n) (i := i) ?_ ?_ slot
        · rw [upSlot_of_turn (turn_createTransit ..), up]
        · rw [snapshot_createTransit, named]
    · rw [snapshot_startScored, snapshot_ballTaken]
    · simp
    · simp
    · simp
    · exact flagged_updSlot (flagged_startBall still _ _) _ _ _
  | none =>
    rw [takeDeck_practice runs ready up]
    refine ⟨⟨nofun, fun _ => ⟨?_, by simp⟩⟩, ?_, ?_, ?_, ?_, ?_⟩
    · rw [State.startPractice, sup_ballTaken]
      exact sup_startBall_taken s l _ _
    · rw [snapshot_startPractice, snapshot_ballTaken]
    · simp
    · simp
    · simp
    · exact flagged_startBall still _ _

end Sys2Proof.Machine
end

section
/-! PROOFS. A DECK on a lane whose pinsetter is not READY, or whose session has no ball, closes its delivery at once
(R25, R27, R13). -/

namespace Sys2Proof.Machine

variable {s t : State} {l : Fin 16}

/-! ## What a waking lane keeps of its deliveries -/

/-- The deliveries of a lane, whether it has a snapshot, and its waiting foul. -/
def Lane.play (a : Lane) : Option Delivery × Option Delivery × Bool × Option Nat :=
  (a.sup.delivery, a.sup.last, a.snapshot.isSome, a.sup.waitingFoul)

theorem play_updSup {f : Supervisor → Supervisor} (delivery : (f (s.lane l).sup).delivery = (s.lane l).sup.delivery)
    (last : (f (s.lane l).sup).last = (s.lane l).sup.last)
    (foul : (f (s.lane l).sup).waitingFoul = (s.lane l).sup.waitingFoul) : ((s.updSup l f).lane l).play = (s.lane l).play := by
  rw [State.updSup, lane_updLane_same, Lane.play, Lane.play]
  simp only [delivery, last, foul]

theorem play_of (sup : (t.lane l).sup = (s.lane l).sup) (snapshot : (t.lane l).snapshot = (s.lane l).snapshot) :
    (t.lane l).play = (s.lane l).play := by
  rw [Lane.play, Lane.play, sup, snapshot]

theorem play_of_silent (silent : (t.lane l).silent = (s.lane l).silent) : (t.lane l).play = (s.lane l).play := by
  have same := congrArg Lane.play silent
  exact same

theorem play_setMeter (s : State) (l : Fin 16) (m : Meter) : ((s.setMeter l m).lane l).play = (s.lane l).play :=
  play_of (by simp) (by simp)

theorem play_becomeUp (s : State) (l : Fin 16) (i : Fin 12) : ((s.becomeUp l i).lane l).play = (s.lane l).play := by
  rw [State.becomeUp, State.resetPractice, State.modSup, lane_modLane, if_pos rfl, lane_updSlot]
  rfl

theorem play_startGame (s : State) (l : Fin 16) (i : Fin 12) : ((s.startGame l i).lane l).play = (s.lane l).play := by
  simp only [State.startGame, State.tellSnapshot]
  rw [lane_modLane, if_pos rfl]
  simp [Lane.play]

theorem play_enterParked (s : State) (l : Fin 16) (mask : WakeMask) (cause : ParkCause) :
    ((s.enterParked l mask cause).lane l).play = (s.lane l).play := by
  have kept (u : Supervisor) :
      u.withdrawn.delivery = u.delivery ∧ u.withdrawn.last = u.last ∧ u.withdrawn.waitingFoul = u.waitingFoul := by
    cases state : u.state <;> simp [Supervisor.withdrawn, state]
  rw [lane_enterParked, Lane.play, Lane.play, (kept _).1, (kept _).2.1, (kept _).2.2]

theorem play_park (s : State) (l : Fin 16) (mask : WakeMask) (cause : ParkCause) :
    ((s.park l mask cause).lane l).play = (s.lane l).play := by
  unfold State.park
  split
  · exact play_of (by simp) (by simp)
  · exact play_enterParked ..

theorem play_zeroBackGrace (s : State) (l : Fin 16) : ((s.zeroBackGrace l).lane l).play = (s.lane l).play := by
  unfold State.zeroBackGrace State.parkExhausted
  split
  · split
    · exact play_park ..
    · rfl
  · rfl

theorem play_askGame (s : State) (l : Fin 16) (i : Fin 12) : ((s.askGame l i).lane l).play = (s.lane l).play := by
  unfold State.askGame
  split
  · rfl
  · split
    · rw [play_startGame, play_becomeUp, play_setMeter]
    · rw [play_zeroBackGrace, play_of (sup_enterClosing ..) (snapshot_enterClosing ..), play_setMeter]

theorem play_raiseHead (s : State) (l : Fin 16) (i : Fin 12) : ((s.raiseHead l i).lane l).play = (s.lane l).play := by
  unfold State.raiseHead
  split
  · exact play_becomeUp ..
  · exact play_becomeUp ..
  · split
    · split
      · rw [play_startGame, play_becomeUp, lane_updTurn]
      · exact play_askGame ..
    · rfl

theorem play_headRules (s : State) (l : Fin 16) : ((s.headRules l).lane l).play = (s.lane l).play := by
  simp only [State.headRules]
  split
  · rfl
  · split
    · rfl
    · split
      · rw [lane_updTurn]
      · split
        · rw [lane_updTurn]
        · rw [play_raiseHead, lane_updTurn]

theorem play_turnPaid (s : State) (l : Fin 16) (m : Meter) : ((s.turnPaid l m).lane l).play = (s.lane l).play := by
  have kept : (((s.updTurn (pairOf l) fun v => v.setPaid (sideOf l) true).headRules l).lane l).play = (s.lane l).play := by
    rw [play_headRules, lane_updTurn]
  unfold State.turnPaid
  split
  · simp only [State.takePaid]
    split
    · exact kept
    · split
      · rw [play_startGame, play_becomeUp]
      · exact kept
  · exact play_headRules ..

theorem play_resumeMachines (s : State) (l : Fin 16) : ((s.resumeMachines l).lane l).play = (s.lane l).play := by
  rw [State.resumeMachines, play_of_silent (silent_lane_liftLaneOpen ..), State.grantPower]
  split
  · exact play_updSup rfl rfl rfl
  · rfl

theorem play_wake (s : State) (l : Fin 16) : ((s.wake l).lane l).play = (s.lane l).play := by
  unfold State.wake
  split
  · rw [play_headRules, play_resumeMachines, play_of (sup_resumeSession ..) (snapshot_resumeSession ..)]
  · split
    · rw [play_zeroBackGrace, play_headRules, play_resumeMachines, play_of (sup_endFrozen ..) (snapshot_endFrozen ..),
        play_of (sup_resumeSession ..) (snapshot_resumeSession ..)]
    · rw [play_turnPaid, play_resumeMachines, play_of (sup_resumeSession ..) (snapshot_resumeSession ..), play_setMeter]
    · dsimp only
      rw [play_zeroBackGrace, play_headRules, play_resumeMachines, lane_flagDk,
        play_of (sup_resumeSession ..) (snapshot_resumeSession ..), play_setMeter]

end Sys2Proof.Machine
end

section
/-! PROOFS. A DECK that starts no ball cycle (R25, R27, R13). -/

namespace Sys2Proof.Machine

variable {s t : State} {l : Fin 16} {missed : Bool}

theorem stillInFlight_eq (x : Option Delivery) :
    stillInFlight x = if x.any (·.step == .awaitingRead) then x else none := by
  cases x with
  | none => rfl
  | some d => simp [stillInFlight, Option.filter]

theorem deckBall_eq (s : State) (l : Fin 16) (missed : Bool) (cls : DeliveryClass) :
    s.deckBall l missed cls =
      { deckDelivery (s.lane l).sup.delivery missed with cls := some cls, pre := (s.lane l).sup.standing } := rfl

/-- A delivery closed as the Return Monitor has its ball. -/
theorem lane_closeAtDeck_taken (s : State) (l : Fin 16) (d : Delivery) (f : Supervisor → Supervisor) :
    ((s.ballTaken l).closeAtDeck l d f).lane l =
      { s.lane l with
        sup := f { (s.lane l).sup with
          delivery := stillInFlight (s.lane l).sup.delivery, last := some d
          horn := ((s.ballTaken l).lane l).sup.horn }
        snapshot := none } := by
  rw [State.closeAtDeck, State.modSup, lane_modLane, if_pos rfl]
  conv_lhs => rw [lane_ballTaken]

/-- A ball that comes while the pinsetter moves (R27). -/
theorem lane_takeDeck_early (runs : s.running l = true)
    (moves : (s.lane l).sup.state = .cycling ∨ (s.lane l).sup.state = .warming) :
    (s.takeDeck l missed).lane l =
      { s.lane l with
        sup := { (s.lane l).sup with
          delivery := stillInFlight (s.lane l).sup.delivery, last := some (s.deckBall l missed .early)
          earlyBalls := bump16 (s.lane l).sup.earlyBalls, horn := ((s.takeDeck l missed).lane l).sup.horn }
        snapshot := none } := by
  rw [takeDeck_early runs moves, lane_flagConsole, lane_closeAtDeck_taken]

/-- A ball at a pinsetter that does not move and is not READY (R27). -/
theorem lane_takeDeck_unscored (runs : s.running l = true) (notReady : (s.lane l).sup.state ≠ .ready)
    (notCycling : (s.lane l).sup.state ≠ .cycling) (notWarming : (s.lane l).sup.state ≠ .warming) :
    (s.takeDeck l missed).lane l =
      { s.lane l with
        sup := { (s.lane l).sup with
          delivery := stillInFlight (s.lane l).sup.delivery, last := some (s.deckBall l missed .unscored)
          unscoredBalls := bump16 (s.lane l).sup.unscoredBalls, horn := ((s.takeDeck l missed).lane l).sup.horn }
        snapshot := none } := by
  rw [takeDeck_unscored runs notReady notCycling notWarming, lane_closeAtDeck_taken]

/-! ## A ball that nobody pays for -/

/-- The state of a PARKED lane that has counted an unpaid ball. -/
def State.unpaidCounted (s : State) (l : Fin 16) (missed : Bool) : State :=
  (((s.ballTaken l).closeAtDeck l (s.deckBall l missed .unpaid) id).modMeter l fun m =>
    { m with unpaid := bump16 m.unpaid }).flagDk .unpaidDelivery

theorem takeDeck_closed (closed : s.session l = .closed) :
    s.takeDeck l missed =
      ((s.ballTaken l).closeAtDeck l (s.deckBall l missed .unpaid) fun u =>
        { u with closedUnpaid := bump16 u.closedUnpaid }).flagDk .unpaidDelivery := by
  rw [takeDeck_unpaid (by rw [State.running, closed]; rfl), State.unpaidBall, session_ballTaken, closed]
  rfl

theorem takeDeck_parked (parked : s.session l = .parked) :
    s.takeDeck l missed =
      if (s.lane l).session.wakeMask.ball = true then (s.unpaidCounted l missed).wake l else s.unpaidCounted l missed := by
  have still : (s.unpaidCounted l missed).session l = .parked := by simp [State.unpaidCounted, parked]
  have mask : ((s.unpaidCounted l missed).lane l).session = (s.lane l).session := by simp [State.unpaidCounted]
  rw [takeDeck_unpaid (by rw [State.running, parked]; rfl), State.unpaidBall, session_ballTaken, parked, if_pos rfl]
  have edge : (s.unpaidCounted l missed).ballEdge l =
      if (s.lane l).session.wakeMask.ball = true then (s.unpaidCounted l missed).wake l else s.unpaidCounted l missed := by
    simp only [State.ballEdge, still, mask, true_and]
  exact edge

theorem lane_takeDeck_closed (closed : s.session l = .closed) :
    (s.takeDeck l missed).lane l =
      { s.lane l with
        sup := { (s.lane l).sup with
          delivery := stillInFlight (s.lane l).sup.delivery, last := some (s.deckBall l missed .unpaid)
          closedUnpaid := bump16 (s.lane l).sup.closedUnpaid, horn := ((s.takeDeck l missed).lane l).sup.horn }
        snapshot := none } := by
  rw [takeDeck_closed closed, lane_flagDk, lane_closeAtDeck_taken]

theorem lane_unpaidCounted (s : State) (l : Fin 16) (missed : Bool) :
    (s.unpaidCounted l missed).lane l =
      { s.lane l with
        sup := { (s.lane l).sup with
          delivery := stillInFlight (s.lane l).sup.delivery, last := some (s.deckBall l missed .unpaid)
          horn := ((s.unpaidCounted l missed).lane l).sup.horn }
        snapshot := none, meter := (s.lane l).meter.map fun m => { m with unpaid := bump16 m.unpaid } } := by
  rw [State.unpaidCounted, lane_flagDk, State.modMeter, lane_modLane, if_pos rfl, lane_closeAtDeck_taken]
  rfl

theorem play_takeDeck_parked (parked : s.session l = .parked) :
    ((s.takeDeck l missed).lane l).play =
      (stillInFlight (s.lane l).sup.delivery, some (s.deckBall l missed .unpaid), false, (s.lane l).sup.waitingFoul) := by
  rw [takeDeck_parked parked]
  split
  · rw [play_wake, lane_unpaidCounted]
    rfl
  · rw [lane_unpaidCounted]
    rfl

theorem granted_cases (u : Supervisor) (warmUp : Nat) :
    (u.granted warmUp).state = (if u.state = .off then .warming else u.state) ∧
      (u.granted warmUp).standing = u.standing := by
  unfold Supervisor.granted
  split
  next off => simp [off]
  next on => exact ⟨(if_neg on).symm, rfl⟩

/-- A PARKED lane that a ball wakes, where a back grace is set (R13, R15). -/
theorem sup_takeDeck_wakes (parked : s.session l = .parked) (ball : (s.lane l).session.wakeMask.ball = true)
    (back : s.billing.back ≠ 0) :
    (s.takeDeck l missed).running l = true ∧
      ((s.takeDeck l missed).lane l).sup.state =
        (if (s.lane l).sup.state = .off then .warming else (s.lane l).sup.state) ∧
      ((s.takeDeck l missed).lane l).sup.standing = (s.lane l).sup.standing := by
  have chip : (s.unpaidCounted l missed).chip = s.chip := by simp [State.unpaidCounted]
  rw [takeDeck_parked parked, if_pos ball]
  obtain ⟨⟨-, runs, -⟩, steady⟩ := wake_graced (s := s.unpaidCounted l missed) (l := l) (by rwa [billing_of_chip chip])
  have state := congrArg (fun u : Supervisor => u.state) steady
  have standing := congrArg (fun u : Supervisor => u.standing) steady
  refine ⟨runs, (state.trans (granted_cases _ _).1).trans ?_, (standing.trans (granted_cases _ _).2).trans ?_⟩
  · rw [lane_unpaidCounted]
  · rw [lane_unpaidCounted]

theorem flagged_unpaidDelivery (s : State) : (s.flagDk .unpaidDelivery).flagged .dk 5 := flagged_setEvent_same s .dk 5

theorem flagged_earlyBall (s : State) (p : Fin 8) : (s.flagConsole p .earlyBall).flagged (.console p) 5 :=
  flagged_setEvent_same s (.console p) 5

theorem flagged_unpaidCounted (s : State) (l : Fin 16) (missed : Bool) : (s.unpaidCounted l missed).flagged .dk 5 := by
  rw [State.unpaidCounted]
  exact flagged_unpaidDelivery _

theorem flagged_takeDeck_parked (parked : s.session l = .parked) : (s.takeDeck l missed).flagged .dk 5 := by
  rw [takeDeck_parked parked]
  split
  · exact flagged_wake (flagged_unpaidCounted ..) l
  · exact flagged_unpaidCounted ..

/-! ## Any class but those that start a ball cycle -/

/-- A lane that runs, is CLOSED or is PARKED. -/
theorem session_cases (s : State) (l : Fin 16) : s.running l = true ∨ s.session l = .closed ∨ s.session l = .parked := by
  unfold State.running
  cases s.session l <;> simp [SessionState.grants]

theorem running_iff : s.running l = true ↔ s.session l = .opened ∨ s.session l = .closing := by
  unfold State.running
  cases s.session l <;> simp [SessionState.grants]

/-- The delivery still in flight, and the snapshot, where no ball cycle starts. -/
theorem play_takeDeck (idle : s.running l = true → (s.lane l).sup.state ≠ .ready) :
    ((s.takeDeck l missed).lane l).sup.delivery = stillInFlight (s.lane l).sup.delivery ∧
      ((s.takeDeck l missed).lane l).snapshot = none := by
  rcases session_cases s l with runs | closed | parked
  · by_cases moves : (s.lane l).sup.state = .cycling ∨ (s.lane l).sup.state = .warming
    · rw [lane_takeDeck_early runs moves]
      exact ⟨rfl, rfl⟩
    · obtain ⟨notCycling, notWarming⟩ := not_or.mp moves
      rw [lane_takeDeck_unscored runs (idle runs) notCycling notWarming]
      exact ⟨rfl, rfl⟩
  · rw [lane_takeDeck_closed closed]
    exact ⟨rfl, rfl⟩
  · have play := play_takeDeck_parked (missed := missed) parked
    simp only [Lane.play, Prod.mk.injEq, Option.isSome_eq_false_iff, Option.isNone_iff_eq_none] at play
    exact ⟨play.1, play.2.2.1⟩

theorem standing_takeDeck (idle : s.running l = true → (s.lane l).sup.state ≠ .ready)
    (kept : s.session l ≠ .parked ∨ s.billing.back ≠ 0) :
    ((s.takeDeck l missed).lane l).sup.standing = (s.lane l).sup.standing := by
  rcases session_cases s l with runs | closed | parked
  · by_cases moves : (s.lane l).sup.state = .cycling ∨ (s.lane l).sup.state = .warming
    · rw [lane_takeDeck_early runs moves]
    · obtain ⟨notCycling, notWarming⟩ := not_or.mp moves
      rw [lane_takeDeck_unscored runs (idle runs) notCycling notWarming]
  · rw [lane_takeDeck_closed closed]
  · by_cases ball : (s.lane l).session.wakeMask.ball = true
    · exact (sup_takeDeck_wakes parked ball (kept.resolve_left (not_not.mpr parked))).2.2
    · rw [takeDeck_parked parked, if_neg ball, lane_unpaidCounted]

/-- A ball on a lane that runs, where no ball cycle starts, leaves the session, the meter, the turns and the
directory. -/
theorem rest_takeDeck_running (runs : s.running l = true) (notReady : (s.lane l).sup.state ≠ .ready) :
    ((s.takeDeck l missed).lane l).session = (s.lane l).session ∧
      ((s.takeDeck l missed).lane l).meter = (s.lane l).meter ∧
      (s.takeDeck l missed).turn (pairOf l) = s.turn (pairOf l) ∧ (s.takeDeck l missed).directory = s.directory := by
  by_cases moves : (s.lane l).sup.state = .cycling ∨ (s.lane l).sup.state = .warming
  · rw [takeDeck_early runs moves]
    simp
  · obtain ⟨notCycling, notWarming⟩ := not_or.mp moves
    rw [takeDeck_unscored runs notReady notCycling notWarming]
    simp

/-- Settles O28, by the class of the delivery: EARLY, UNSCORED, or UNPAID on a lane that is CLOSED or PARKED. -/
theorem otherDecksCloseAtOnce : Obligations.OtherDecksCloseAtOnce := by
  unfold Obligations.OtherDecksCloseAtOnce
  intro l s released idle
  refine ⟨s.takeDeck l false, exec_event (f := deck l) rfl released, ?_⟩
  obtain ⟨delivery, snapshot⟩ := play_takeDeck (missed := false) idle
  dsimp only
  rw [← stillInFlight_eq]
  refine ⟨snapshot, delivery, standing_takeDeck idle, fun runs moves => ⟨?_, ?_⟩, fun runs notCycling notWarming => ?_,
    fun runs => rest_takeDeck_running runs (idle runs), fun closed => ?_, fun parked => ⟨?_, ?_, fun asleep => ?_,
    fun ball back => ?_⟩⟩
  · exact congrArg (fun a : Lane => a.sup) (lane_takeDeck_early runs moves)
  · rw [takeDeck_early runs moves]
    exact flagged_earlyBall _ _
  · exact congrArg (fun a : Lane => a.sup) (lane_takeDeck_unscored runs (idle runs) notCycling notWarming)
  · refine ⟨congrArg (fun a : Lane => a.sup) (lane_takeDeck_closed closed), ?_⟩
    rw [takeDeck_closed closed]
    exact ⟨by simp, by simp, by simp, flagged_unpaidDelivery _⟩
  · exact congrArg (fun w => w.2.1) (play_takeDeck_parked (missed := false) parked)
  · exact flagged_takeDeck_parked parked
  · rw [takeDeck_parked parked, asleep, if_neg Bool.false_ne_true]
    refine ⟨by simp [State.unpaidCounted], by simp [State.unpaidCounted], ?_, ?_⟩
    · exact congrArg (fun a : Lane => a.sup) (lane_unpaidCounted s l false)
    · exact congrArg (fun a : Lane => a.meter) (lane_unpaidCounted s l false)
  · obtain ⟨runs, state, -⟩ := sup_takeDeck_wakes (missed := false) parked ball back
    exact ⟨running_iff.mp runs, state⟩

end Sys2Proof.Machine
end

section
/-! SUPPORT. What the head rules of a lane do to the turns of its pair (R72 to R75): the away heads go to the tail, and
the head that is then found rises, with its game under way or with a game started. -/

namespace Sys2Proof.Machine

variable {s t : State} {l : Fin 16} {i j : Fin 12} {p : Fin 8}

/-! ## A game that starts (R75, R133) -/

/-- A slot with its next game before its first ball. -/
def Slot.begun (x : Slot) : Slot :=
  { x with
    game := some (nextGame x.game), stage := .started, frame := 1, ball := 1, sheet := some (Sheet.new (nextGame x.game)) }

/-- No range entry covers the number of a RANGE slot any more. -/
def Directory.misses (d : Directory) (x : Slot) : Bool :=
  x.source == .range && x.bowler.any fun number => (d.cover number).isNone

/-- A slot with its average renewed (R133). -/
def Slot.renewed (d : Directory) (x : Slot) : Slot :=
  if d.misses x then
    { x with source := .pending, fetch := if d.fetch.length < 16 then .requested else .deferred }
  else x

/-- The Directory once a slot's average is renewed. -/
def Directory.renewedFor (d : Directory) (x : Slot) : Directory :=
  if d.misses x = true ∧ d.fetch.length < 16 then { d with fetch := d.fetch ++ [x.bowler.getD 0] } else d

/-- A slot's handicap by its average source (R104, R105). -/
def Slot.handicapBy (d : Directory) (st : PairSettings) (x : Slot) : Handicap :=
  let number := x.bowler.getD 0
  match x.source with
  | .none => .value 0
  | .pending => .pending
  | .entry =>
    match d.find number with
    | some k => .value (entryHandicap d.entries[k].average d.entries[k].override st)
    | none => .value 0
  | .range =>
    match d.cover number with
    | some k => .value (computedHandicap d.ranges[k].average st)
    | none => .value 0

theorem handicapOf_eq (s : State) (p : Fin 8) (i : Fin 12) :
    s.handicapOf p i = (s.slot p i).handicapBy s.directory (s.turn p).settings := rfl

/-- A slot with a game started (R75). -/
def Slot.launched (d : Directory) (st : PairSettings) (x : Slot) : Slot :=
  { x.begun.renewed d with handicap := (x.begun.renewed d).handicapBy d st }

theorem modSlot_modSlot (v : TurnUnit) (i : Fin 12) (f g : Slot → Slot) :
    (v.modSlot i f).modSlot i g = v.modSlot i fun x => g (f x) := by
  simp [TurnUnit.modSlot]

theorem modSlot_congr {v : TurnUnit} {f g : Slot → Slot} (same : f v.slots[i] = g v.slots[i]) :
    v.modSlot i f = v.modSlot i g := by
  rw [TurnUnit.modSlot, TurnUnit.modSlot, same]

theorem turn_updSlot (s : State) (p : Fin 8) (i : Fin 12) (f : Slot → Slot) :
    (s.updSlot p i f).turn p = (s.turn p).modSlot i f := by
  rw [State.updSlot, turn_updTurn_same]

/-- The renewal of an average, by whether a range entry still covers the number. -/
theorem renew_eq (s : State) (p : Fin 8) (i : Fin 12) :
    s.renew p i =
      if s.directory.misses (s.slot p i) = true then s.missFetch p i ((s.slot p i).bowler.getD 0) else s := by
  unfold State.renew Directory.misses
  split
  next number range bowler =>
    rw [range, bowler]
    cases cover : s.directory.cover number with
    | none => simp [cover]
    | some k => simp [cover]
  next other =>
    rw [if_neg]
    intro misses
    rw [Bool.and_eq_true, beq_iff_eq] at misses
    obtain ⟨range, bowled⟩ := misses
    cases number : (s.slot p i).bowler with
    | none => rw [number] at bowled; cases bowled
    | some n => exact other n range number

theorem renew_parts (s : State) (p : Fin 8) (i : Fin 12) :
    (s.renew p i).turn p = (s.turn p).modSlot i (Slot.renewed s.directory) ∧
      (s.renew p i).directory = s.directory.renewedFor (s.slot p i) := by
  have slot : (s.turn p).slots[i] = s.slot p i := rfl
  rw [renew_eq, Directory.renewedFor]
  by_cases misses : s.directory.misses (s.slot p i) = true
  · have renewed : Slot.renewed s.directory (s.turn p).slots[i] =
        { s.slot p i with
          source := .pending, fetch := if s.directory.fetch.length < 16 then .requested else .deferred } := by
      rw [slot, Slot.renewed, if_pos misses]
    have joined (number : Nat) (f : Slot → Slot) :
        ((s.joinFetch number).updSlot p i f).turn p = (s.turn p).modSlot i f := turn_updSlot (s.joinFetch number) p i f
    rw [if_pos misses, State.missFetch]
    by_cases room : s.directory.fetch.length < 16
    · rw [if_pos room, if_pos ⟨misses, room⟩, joined]
      exact ⟨modSlot_congr (by rw [renewed, if_pos room]; rfl), by simp [State.joinFetch]⟩
    · rw [if_neg room, if_neg (fun both => room both.2), turn_updSlot]
      exact ⟨modSlot_congr (by rw [renewed, if_neg room]; rfl), by simp⟩
  · have kept : (s.turn p).modSlot i (Slot.renewed s.directory) = (s.turn p).modSlot i id :=
      modSlot_congr (by rw [slot, Slot.renewed, if_neg misses]; rfl)
    rw [if_neg misses, if_neg (fun both => misses both.1), kept]
    exact ⟨by simp [TurnUnit.modSlot], rfl⟩

/-- The queue of numbers to fetch has no part in a handicap. -/
theorem handicapBy_renewedFor (d : Directory) (st : PairSettings) (x y : Slot) :
    x.handicapBy (d.renewedFor y) st = x.handicapBy d st := by
  unfold Directory.renewedFor
  split
  · rfl
  · rfl

theorem startGame_parts (s : State) (l : Fin 16) (i : Fin 12) :
    (s.startGame l i).turn (pairOf l) =
        (s.turn (pairOf l)).modSlot i (Slot.launched s.directory (s.turn (pairOf l)).settings) ∧
      (s.startGame l i).directory = s.directory.renewedFor (s.slot (pairOf l) i).begun := by
  have begun : ((s.updSlot (pairOf l) i Slot.begun).turn (pairOf l)) = (s.turn (pairOf l)).modSlot i Slot.begun :=
    turn_updSlot ..
  have slot : (s.updSlot (pairOf l) i Slot.begun).slot (pairOf l) i = (s.slot (pairOf l) i).begun := slot_updSlot_same ..
  have directory : (s.updSlot (pairOf l) i Slot.begun).directory = s.directory := by simp
  obtain ⟨turn, renewed⟩ := renew_parts (s.updSlot (pairOf l) i Slot.begun) (pairOf l) i
  rw [begun, directory, modSlot_modSlot] at turn
  rw [directory, slot] at renewed
  have own : ((s.updSlot (pairOf l) i Slot.begun).renew (pairOf l) i).slot (pairOf l) i =
      (s.slot (pairOf l) i).begun.renewed s.directory := by
    rw [State.slot, turn, slots_modSlot, if_pos rfl]
    rfl
  have settings : (((s.updSlot (pairOf l) i Slot.begun).renew (pairOf l) i).turn (pairOf l)).settings =
      (s.turn (pairOf l)).settings := by rw [turn]; rfl
  have unfolded : s.startGame l i =
      (((s.updSlot (pairOf l) i Slot.begun).renew (pairOf l) i).updSlot (pairOf l) i fun x =>
        { x with handicap := ((s.updSlot (pairOf l) i Slot.begun).renew (pairOf l) i).handicapOf (pairOf l) i }).tellSnapshot
          l := rfl
  rw [unfolded]
  refine ⟨?_, by simp [renewed]⟩
  rw [turn_tellSnapshot, turn_updSlot, turn, modSlot_modSlot, handicapOf_eq, own, settings, renewed, handicapBy_renewedFor]
  rfl

end Sys2Proof.Machine
end

section
/-! SUPPORT. The turns of a pair after the head rules of one lane (R72, R73, R74). -/

namespace Sys2Proof.Machine

variable {s t : State} {l k : Fin 16} {i j : Fin 12} {p : Fin 8}

/-! ## A slot that rises -/

/-- What a slot keeps from one game to the next turn. -/
def Slot.lasting (x : Slot) : Option Nat × Bool × Bool × Nat × List GameRecord :=
  (x.bowler, x.away, x.inFlight, x.finished, x.retained)

/-- A slot made UP, its game under way or a game started. -/
def Slot.risesTo (x y : Slot) : Prop :=
  y.state = .up ∧ y.lasting = x.lasting ∧
    (x.stage ≠ .waiting ∧ y = { x with state := .up } ∨ x.stage = .waiting ∧ y.stage = .started)

theorem risesTo_up {x : Slot} (underWay : x.stage ≠ .waiting) : x.risesTo { x with state := .up } :=
  ⟨rfl, rfl, Or.inl ⟨underWay, rfl⟩⟩

theorem risesTo_launched {x : Slot} (waits : x.stage = .waiting) (d : Directory) (st : PairSettings) :
    x.risesTo (Slot.launched d st { x with state := .up }) := by
  unfold Slot.launched Slot.renewed
  split
  · exact ⟨rfl, rfl, Or.inr ⟨waits, rfl⟩⟩
  · exact ⟨rfl, rfl, Or.inr ⟨waits, rfl⟩⟩

theorem turn_becomeUp (s : State) (l : Fin 16) (i : Fin 12) :
    (s.becomeUp l i).turn (pairOf l) = (s.turn (pairOf l)).modSlot i fun x => { x with state := .up } := by
  rw [State.becomeUp, turn_resetPractice, turn_updSlot]

/-- A slot made UP with a game started, from any state with the Turn Unit `v` and the Directory `d`. -/
theorem turn_launch {v : TurnUnit} {d : Directory} (turn : t.turn (pairOf l) = v) (directory : t.directory = d)
    (i : Fin 12) :
    ((t.becomeUp l i).startGame l i).turn (pairOf l) =
      v.modSlot i fun x => Slot.launched d v.settings { x with state := .up } := by
  have settings : ((t.becomeUp l i).turn (pairOf l)).settings = v.settings := by rw [turn_becomeUp, turn]; rfl
  rw [(startGame_parts ..).1, turn_becomeUp, turn, modSlot_modSlot, directory_becomeUp, directory]
  rfl

/-! ## The head -/

/-- Where the head rises: nowhere, UP with its game under way, or UP with a game started, its charge paid already or
granted. -/
theorem turn_raiseHead (s : State) (l : Fin 16) (i : Fin 12) :
    (s.raiseHead l i).turn (pairOf l) = s.turn (pairOf l) ∨
    ((s.turn (pairOf l)).slots[i].stage ≠ .waiting ∧
      (s.raiseHead l i).turn (pairOf l) = (s.turn (pairOf l)).modSlot i fun x => { x with state := .up }) ∨
    ((s.turn (pairOf l)).slots[i].stage = .waiting ∧ ∃ v, (v = s.turn (pairOf l) ∨
        v = (s.turn (pairOf l)).setPaid (sideOf l) false) ∧
      (s.raiseHead l i).turn (pairOf l) =
        v.modSlot i fun x => Slot.launched s.directory v.settings { x with state := .up }) := by
  unfold State.raiseHead
  split
  next stage => exact Or.inr (Or.inl ⟨fun e => (by rw [State.slot, e] at stage; cases stage), turn_becomeUp ..⟩)
  next stage => exact Or.inr (Or.inl ⟨fun e => (by rw [State.slot, e] at stage; cases stage), turn_becomeUp ..⟩)
  next stage =>
    split
    · split
      · exact Or.inr (Or.inr ⟨stage, _, Or.inr rfl, turn_launch (turn_updTurn_same ..) (by simp) i⟩)
      · unfold State.askGame
        split
        · exact Or.inl rfl
        · split
          · exact Or.inr (Or.inr ⟨stage, _, Or.inl rfl, turn_launch (by simp) (by simp) i⟩)
          · exact Or.inl (by simp)
    · exact Or.inl rfl

/-! ## The queue and its head -/

/-- Turn Unit `w` is `v` after the head rules of the lane on side `sd`, which run where `runs` holds. -/
structure TurnUnit.headed (v w : TurnUnit) (sd : Side) (runs : Bool) : Prop where
  mode : w.mode = v.mode
  settings : w.settings = v.settings
  other : w.queue sd.other = v.queue sd.other
  rotated : ∃ n, w.queue sd = (v.queue sd).drop n ++ (v.queue sd).take n ∧
    ∀ j ∈ (v.queue sd).take n, v.slots[j].away = true
  slots : ∀ j : Fin 12, w.slots[j] = v.slots[j] ∨
    runs = true ∧ v.slots[j].away = false ∧ j ∈ v.queue sd ∧ v.slots[j].risesTo w.slots[j]

theorem headed_refl (v : TurnUnit) (sd : Side) (runs : Bool) : v.headed v sd runs :=
  ⟨rfl, rfl, rfl, ⟨0, by simp⟩, fun _ => Or.inl rfl⟩

theorem passAway_eq (away : Fin 12 → Bool) (q : List (Fin 12)) :
    ∃ n, passAway away q = q.drop n ++ q.take n ∧ ∀ j ∈ q.take n, away j = true := by
  unfold passAway
  split
  · exact ⟨0, by simp⟩
  · refine ⟨(q.takeWhile away).length, ?_, fun j there => ?_⟩
    · have front : q.take (q.takeWhile away).length = q.takeWhile away :=
        (List.prefix_iff_eq_take.mp (List.takeWhile_prefix away)).symm
      have back : q.drop (q.takeWhile away).length = q.dropWhile away := by
        have whole := List.drop_left (l₁ := q.takeWhile away) (l₂ := q.dropWhile away)
        rwa [List.takeWhile_append_dropWhile] at whole
      rw [front, back]
    · rw [(List.prefix_iff_eq_take.mp (List.takeWhile_prefix away)).symm] at there
      exact List.mem_takeWhile_imp there

theorem passAway_perm (away : Fin 12 → Bool) (q : List (Fin 12)) : (passAway away q).Perm q := by
  obtain ⟨n, rotated, -⟩ := passAway_eq away q
  rw [rotated]
  exact (List.perm_append_comm).trans (by rw [List.take_append_drop])

/-- The queue with its away heads at the tail. -/
def TurnUnit.passed (v : TurnUnit) (sd : Side) : TurnUnit :=
  v.setQueue sd (passAway (fun i => v.slots[i].away) (v.queue sd))

theorem headed_passed (v : TurnUnit) (sd : Side) (runs : Bool) : v.headed (v.passed sd) sd runs where
  mode := by cases sd <;> rfl
  settings := by cases sd <;> rfl
  other := queue_setQueue_other ..
  rotated := by
    obtain ⟨n, rotated, away⟩ := passAway_eq (fun i => v.slots[i].away) (v.queue sd)
    exact ⟨n, by rw [TurnUnit.passed, queue_setQueue_same, rotated], away⟩
  slots j := Or.inl (by rw [TurnUnit.passed, slots_setQueue])

/-- A slot of the queue that is not away rises. -/
theorem headed_rises {v w x : TurnUnit} {sd : Side} (head : v.headed w sd true) (kept : ∀ j : Fin 12, w.slots[j] = v.slots[j])
    (mode : x.mode = w.mode) (settings : x.settings = w.settings) (queue : ∀ q, x.queue q = w.queue q)
    (slots : x.slots = w.slots) (present : v.slots[i].away = false) (queued : i ∈ v.queue sd) {f : Slot → Slot}
    (rises : v.slots[i].risesTo (f v.slots[i])) : v.headed (x.modSlot i f) sd true where
  mode := mode.trans head.mode
  settings := settings.trans head.settings
  other := by rw [queue_modSlot, queue, head.other]
  rotated := by
    obtain ⟨n, rotated, away⟩ := head.rotated
    exact ⟨n, by rw [queue_modSlot, queue, rotated], away⟩
  slots j := by
    rw [slots_modSlot, slots]
    split
    next same =>
      subst same
      rw [kept]
      exact Or.inr ⟨rfl, present, queued, rises⟩
    next => exact Or.inl (kept j)

theorem headed_raiseHead {v : TurnUnit} (turn : t.turn (pairOf l) = v.passed (sideOf l)) (present : v.slots[i].away = false)
    (queued : i ∈ v.queue (sideOf l)) : v.headed ((t.raiseHead l i).turn (pairOf l)) (sideOf l) true := by
  have slots : (v.passed (sideOf l)).slots = v.slots := slots_setQueue ..
  have rises := turn_raiseHead t l i
  have head := headed_passed v (sideOf l) true
  rw [turn] at rises
  simp only [slots] at rises
  rcases rises with kept | ⟨underWay, up⟩ | ⟨waits, x, paid, started⟩
  · rw [kept]
    exact head
  · rw [up]
    exact headed_rises head (fun j => by rw [slots]) rfl rfl (fun q => rfl) rfl present queued (risesTo_up underWay)
  · rw [started]
    have parts : x.mode = (v.passed (sideOf l)).mode ∧ x.settings = (v.passed (sideOf l)).settings ∧
        (∀ q, x.queue q = (v.passed (sideOf l)).queue q) ∧ x.slots = (v.passed (sideOf l)).slots := by
      rcases paid with rfl | rfl
      · exact ⟨rfl, rfl, fun _ => rfl, rfl⟩
      · cases sideOf l <;> exact ⟨rfl, rfl, fun q => by cases q <;> rfl, rfl⟩
    obtain ⟨mode, settings, queue, same⟩ := parts
    exact headed_rises head (fun j => by rw [slots]) mode settings queue same present queued (risesTo_launched waits _ _)

theorem headed_headRules (s : State) (l : Fin 16) :
    (s.turn (pairOf l)).headed ((s.headRules l).turn (pairOf l)) (sideOf l) (s.running l) := by
  have passed : ((s.updTurn (pairOf l) fun t => t.setQueue (sideOf l) (passAway
      (fun i => (s.turn (pairOf l)).slots[i].away) ((s.turn (pairOf l)).queue (sideOf l)))).turn (pairOf l)) =
      (s.turn (pairOf l)).passed (sideOf l) := turn_updTurn_same ..
  simp only [State.headRules]
  split
  · exact headed_refl ..
  next runs =>
    have runs : s.running l = true := by simpa using runs
    split
    · exact headed_refl ..
    · split
      · rw [passed]
        exact headed_passed ..
      next i rest queue =>
        split
        · rw [passed]
          exact headed_passed ..
        next present =>
          have queued : i ∈ (s.turn (pairOf l)).queue (sideOf l) :=
            (passAway_perm _ _).mem_iff.mp (by rw [queue]; exact List.mem_cons_self)
          rw [runs]
          exact headed_raiseHead passed (by simpa using present) queued


end Sys2Proof.Machine
end

section
/-! SUPPORT. A turn that ends while the pinsetter is CYCLING (R78, R113): the Supervisor, the snapshot, and the turns of
the pair. -/

namespace Sys2Proof.Machine

variable {s t : State} {l k : Fin 16} {i j : Fin 12} {p : Fin 8}

/-! ## The Supervisor of a lane that is CYCLING -/

theorem sup_park_cycling (cycles : (s.lane l).sup.state = .cycling) (mask : WakeMask) (cause : ParkCause) :
    ((s.park l mask cause).lane l).sup = (s.lane l).sup := by
  rw [State.park, if_pos cycles, sup_updSession]

theorem sup_zeroBackGrace_cycling (cycles : (s.lane l).sup.state = .cycling) :
    ((s.zeroBackGrace l).lane l).sup = (s.lane l).sup := by
  unfold State.zeroBackGrace State.parkExhausted
  split
  · split
    · exact sup_park_cycling cycles _ _
    · rfl
  · rfl

theorem steady_askGame_cycling (cycles : (s.lane l).sup.state = .cycling) (i : Fin 12) :
    ((s.askGame l i).lane l).sup.steady = (s.lane l).sup.steady := by
  unfold State.askGame
  split
  · rfl
  next m _ =>
    split
    · rw [sup_startGame, steady_becomeUp, sup_setMeter]
    · have kept : (((s.setMeter l (m.decline .game s.billing.back)).enterClosing l).lane l).sup = (s.lane l).sup := by simp
      rw [sup_zeroBackGrace_cycling (by rw [kept, cycles]), kept]

theorem steady_raiseHead_cycling (cycles : (s.lane l).sup.state = .cycling) (i : Fin 12) :
    ((s.raiseHead l i).lane l).sup.steady = (s.lane l).sup.steady := by
  unfold State.raiseHead
  split
  · exact steady_becomeUp ..
  · exact steady_becomeUp ..
  · split
    · split
      · rw [sup_startGame, steady_becomeUp, lane_updTurn]
      · exact steady_askGame_cycling cycles i
    · rfl

theorem steady_headRules_cycling (cycles : (s.lane l).sup.state = .cycling) :
    ((s.headRules l).lane l).sup.steady = (s.lane l).sup.steady := by
  simp only [State.headRules]
  split
  · rfl
  · split
    · rfl
    · split
      · rw [lane_updTurn]
      · split
        · rw [lane_updTurn]
        · rw [steady_raiseHead_cycling (by rwa [lane_updTurn]), lane_updTurn]

/-! ## The snapshot -/

/-- A snapshot told of a game start. -/
def Snapshot.told (n : Snapshot) : Snapshot := { n with gameStarted := true }

theorem snapshot_launch (s : State) (l : Fin 16) (i : Fin 12) :
    (((s.becomeUp l i).startGame l i).lane l).snapshot = (s.lane l).snapshot.map Snapshot.told := by
  simp only [State.startGame, State.tellSnapshot]
  rw [lane_modLane, if_pos rfl]
  simp
  rfl

theorem snapshot_headRules (s : State) (l : Fin 16) :
    ((s.headRules l).lane l).snapshot = (s.lane l).snapshot ∨
      ((s.headRules l).lane l).snapshot = (s.lane l).snapshot.map Snapshot.told := by
  have head (t : State) (i : Fin 12) : ((t.raiseHead l i).lane l).snapshot = (t.lane l).snapshot ∨
      ((t.raiseHead l i).lane l).snapshot = (t.lane l).snapshot.map Snapshot.told := by
    unfold State.raiseHead
    split
    · exact Or.inl (by simp)
    · exact Or.inl (by simp)
    · split
      · split
        · exact Or.inr (by rw [snapshot_launch, lane_updTurn])
        · unfold State.askGame
          split
          · exact Or.inl rfl
          · split
            · exact Or.inr (by rw [snapshot_launch, snapshot_setMeter])
            · exact Or.inl (by simp)
      · exact Or.inl rfl
  simp only [State.headRules]
  split
  · exact Or.inl rfl
  · split
    · exact Or.inl rfl
    · split
      · exact Or.inl (by rw [lane_updTurn])
      · split
        · exact Or.inl (by rw [lane_updTurn])
        next i _ _ _ => simpa only [lane_updTurn] using head (s.updTurn (pairOf l) _) i

/-! ## The turn end -/

/-- The Turn Unit whose slot `i` has left the head for its next turn. -/
def TurnUnit.turned (v : TurnUnit) (i : Fin 12) (next : Option Side) : TurnUnit :=
  v.moveTurn i next (if next.isSome then .queued else .done)

/-- The state of a turn end before the other lane's head rules. -/
def State.turnedOwn (s : State) (l : Fin 16) (i : Fin 12) (next : Option Side) : State :=
  ((s.updTurn (pairOf l) fun v => v.turned i next).headRules l).turnEffect l next

theorem endTurn_eq (s : State) (l : Fin 16) (i : Fin 12) (finished : Bool) :
    s.endTurn l i finished =
      (let next := (s.turn (pairOf l)).nextTurn i (sideOf l) finished
       if next = some (sideOf l).other then (s.turnedOwn l i next).headRules (otherLane l) else s.turnedOwn l i next) := rfl

/-- What both forms of a turn end share. -/
theorem endTurn_elim {motive : State → Prop} (i : Fin 12) (finished : Bool) (own : ∀ next, motive (s.turnedOwn l i next))
    (other : ∀ next, motive ((s.turnedOwn l i next).headRules (otherLane l))) : motive (s.endTurn l i finished) := by
  rw [endTurn_eq]
  dsimp only
  split
  · exact other _
  · exact own _

theorem lane_endTurn (s : State) (l : Fin 16) (i : Fin 12) (finished : Bool) :
    (s.endTurn l i finished).lane l =
      (s.turnedOwn l i ((s.turn (pairOf l)).nextTurn i (sideOf l) finished)).lane l := by
  rw [endTurn_eq]
  dsimp only
  split
  · rw [laneOther_headRules _ _ _ (otherLane_ne l).symm]
  · rfl

theorem steady_endTurn (cycles : (s.lane l).sup.state = .cycling) (i : Fin 12) (finished : Bool) :
    ((s.endTurn l i finished).lane l).sup.steady = (s.lane l).sup.steady := by
  rw [lane_endTurn, State.turnedOwn, sup_turnEffect, steady_headRules_cycling (by rwa [lane_updTurn]), lane_updTurn]

theorem far_endTurn (s : State) {l k : Fin 16} (far : pairOf k ≠ pairOf l) (i : Fin 12) (finished : Bool) :
    (s.endTurn l i finished).lane k = s.lane k := by
  have other : k ≠ l := fun e => far (congrArg pairOf e)
  have beside : k ≠ otherLane l := fun e => far (by rw [e, pairOf_otherLane])
  have own (next : Option Side) : (s.turnedOwn l i next).lane k = s.lane k := by
    rw [State.turnedOwn, laneOther_turnEffect _ _ _ _ other, laneOther_headRules _ _ _ other, lane_updTurn]
  exact endTurn_elim (motive := fun t => t.lane k = s.lane k) i finished own fun next => by
    rw [laneOther_headRules _ _ _ beside, own]

theorem pairOther_endTurn (s : State) (l : Fin 16) (i : Fin 12) (finished : Bool) {w : Fin 8} (other : w ≠ pairOf l) :
    (s.endTurn l i finished).pair w = s.pair w := by
  have beside : w ≠ pairOf (otherLane l) := by rwa [pairOf_otherLane]
  have own (next : Option Side) : (s.turnedOwn l i next).pair w = s.pair w := by
    rw [State.turnedOwn, pair_turnEffect, pairOther_headRules _ _ _ other, pairOther_updTurn _ _ _ _ other]
  exact endTurn_elim (motive := fun t => t.pair w = s.pair w) i finished own fun next => by
    rw [pairOther_headRules _ _ _ beside, own]

theorem records_endTurn (s : State) (l : Fin 16) (i : Fin 12) (finished : Bool) :
    (s.endTurn l i finished).records = s.records := by
  have own (next : Option Side) : (s.turnedOwn l i next).records = s.records := by
    rw [State.turnedOwn, records_of_directory (directory_turnEffect ..), records_headRules, records_updTurn]
  exact endTurn_elim (motive := fun t => t.records = s.records) i finished own fun next => by
    rw [records_headRules, own]

theorem snapshot_endTurn {n : Snapshot} (there : (s.lane l).snapshot = some n) (i : Fin 12) (finished : Bool) :
    ∃ started next up, ((s.endTurn l i finished).lane l).snapshot =
      some { n with gameStarted := started, turnEnded := true, nextLane := next, madeUp := up } := by
  have effect (t : State) (next : Option Side) : ((t.turnEffect l next).lane l).snapshot =
      (t.lane l).snapshot.map fun n => { n with turnEnded := true, nextLane := next, madeUp := t.upSlot l } := by
    rw [State.turnEffect, lane_modLane, if_pos rfl]
  rw [lane_endTurn, State.turnedOwn, effect]
  rcases snapshot_headRules (s.updTurn (pairOf l) fun v => v.turned i _) l with kept | told
  · rw [kept, lane_updTurn, there]
    exact ⟨n.gameStarted, _, _, rfl⟩
  · rw [told, lane_updTurn, there]
    exact ⟨true, _, _, rfl⟩

end Sys2Proof.Machine
end

section
/-! PROOFS. PS READ (R31, R32, R28). -/

namespace Sys2Proof.Machine

variable {s t : State} {l k : Fin 16} {i j : Fin 12} {p : Fin 8} {c : Cycle} {d : Delivery} {sensed : PinSet}

/-! ## The ball passed on by its class -/

/-- The snapshot taken and the slot's next place, before a turn ends. -/
def State.sheetTaken (s : State) (l : Fin 16) (a : Place) (sh new : Sheet) (pre : PinSet) : State :=
  (s.modLane l fun b => { b with snapshot := some (takeSnapshot a sh new pre) }).updSlot (pairOf l) a.slot fun x =>
    { x with inFlight := false }.afterBall a.frame new

theorem scoreBall_eq (s : State) (l : Fin 16) (a : Place) (sh : Sheet) (pre after : PinSet) (m : Marks) :
    s.scoreBall l a sh pre after m =
      (let new := sh.addBall a.frame pre after m
       let t := s.sheetTaken l a sh new pre
       if new.frameComplete a.frame then ⟨t.endTurn l a.slot new.gameFinished, true⟩ else ⟨t, false⟩) := rfl

theorem passOn_practice (practice : d.cls = some .practice) : s.passOn l d = ⟨s, false⟩ := if_pos practice

theorem passOn_unscored (played : d.cls ≠ some .practice) (unscored : s.scoredAt l d = none) :
    s.passOn l d = s.leaveUnscored l d := by
  rw [State.passOn, if_neg played, unscored]

theorem passOn_scored (played : d.cls ≠ some .practice) {a : Place} {sh : Sheet} (scored : s.scoredAt l d = some (a, sh)) :
    s.passOn l d = s.scoreBall l a sh (d.pre.getD fullRack) (d.counted.getD 0) d.marks := by
  rw [State.passOn, if_neg played, scored]

/-- What a ball passed on leaves holds where each of its three ways leaves it. -/
theorem passOn_elim {motive : State → Prop} (practice : motive s) (unscored : motive (s.leaveUnscored l d).state)
    (taken : ∀ a sh new pre, motive (s.sheetTaken l a sh new pre))
    (ended : ∀ a sh new pre finished, motive ((s.sheetTaken l a sh new pre).endTurn l a.slot finished)) :
    motive (s.passOn l d).state := by
  by_cases played : d.cls = some .practice
  · rw [passOn_practice played]
    exact practice
  · cases scored : s.scoredAt l d with
    | none =>
      rw [passOn_unscored played scored]
      exact unscored
    | some a =>
      rw [passOn_scored played scored, scoreBall_eq]
      dsimp only
      split
      · exact ended _ _ _ _ _
      · exact taken _ _ _ _

theorem sup_sheetTaken (s : State) (l : Fin 16) (a : Place) (sh new : Sheet) (pre : PinSet) :
    ((s.sheetTaken l a sh new pre).lane l).sup = (s.lane l).sup := by
  rw [State.sheetTaken, lane_updSlot, lane_modLane, if_pos rfl]

theorem laneOther_sheetTaken (s : State) (a : Place) (sh new : Sheet) (pre : PinSet) (other : k ≠ l) :
    (s.sheetTaken l a sh new pre).lane k = s.lane k := by
  rw [State.sheetTaken, lane_updSlot, lane_modLane, if_neg other]

theorem pairOther_sheetTaken (s : State) (a : Place) (sh new : Sheet) (pre : PinSet) {w : Fin 8} (other : w ≠ pairOf l) :
    (s.sheetTaken l a sh new pre).pair w = s.pair w := by
  simp [State.sheetTaken, other]

theorem records_sheetTaken (s : State) (l : Fin 16) (a : Place) (sh new : Sheet) (pre : PinSet) :
    (s.sheetTaken l a sh new pre).records = s.records := by
  rw [State.sheetTaken, records_updSlot]
  rfl

theorem lane_leaveUnscored (s : State) (l : Fin 16) (d : Delivery) :
    ((s.leaveUnscored l d).state.lane l) =
      { s.lane l with sup := { (s.lane l).sup with unscoredBalls := bump16 (s.lane l).sup.unscoredBalls } } := by
  rw [State.leaveUnscored, lane_landBall, State.modSup, lane_modLane, if_pos rfl]

/-- A READ is taken by a pinsetter that stays CYCLING, with its standing set. -/
theorem sup_passOn (cycles : (s.lane l).sup.state = .cycling) (d : Delivery) :
    ((s.passOn l d).state.lane l).sup.state = .cycling ∧
      ((s.passOn l d).state.lane l).sup.standing = (s.lane l).sup.standing := by
  have taken (a : Place) (sh new : Sheet) (pre : PinSet) :
      ((s.sheetTaken l a sh new pre).lane l).sup = (s.lane l).sup := sup_sheetTaken ..
  have steady {u v : Supervisor} (same : u.steady = v.steady) : u.state = v.state ∧ u.standing = v.standing :=
    have state := congrArg (fun u : Supervisor => u.state) same
    have standing := congrArg (fun u : Supervisor => u.standing) same
    ⟨state, standing⟩
  refine passOn_elim (motive := fun t => (t.lane l).sup.state = .cycling ∧
    (t.lane l).sup.standing = (s.lane l).sup.standing) ⟨cycles, rfl⟩ ?_ (fun a sh new pre => ?_)
    fun a sh new pre finished => ?_
  · rw [lane_leaveUnscored]
    exact ⟨cycles, rfl⟩
  · rw [taken]
    exact ⟨cycles, rfl⟩
  · obtain ⟨state, standing⟩ := steady (steady_endTurn (s := s.sheetTaken l a sh new pre) (l := l) (by rwa [taken])
      a.slot finished)
    rw [state, standing, taken]
    exact ⟨cycles, rfl⟩

theorem far_passOn (s : State) {l k : Fin 16} (far : pairOf k ≠ pairOf l) (d : Delivery) :
    (s.passOn l d).state.lane k = s.lane k := by
  have other : k ≠ l := fun e => far (congrArg pairOf e)
  exact passOn_elim (motive := fun t => t.lane k = s.lane k) rfl (laneOther_leaveUnscored _ _ _ _ other)
    (fun a sh new pre => laneOther_sheetTaken s a sh new pre other)
    fun a sh new pre finished => by rw [far_endTurn _ far, laneOther_sheetTaken s a sh new pre other]

theorem pairOther_passOn (s : State) (l : Fin 16) (d : Delivery) {w : Fin 8} (other : w ≠ pairOf l) :
    (s.passOn l d).state.pair w = s.pair w :=
  passOn_elim (motive := fun t => t.pair w = s.pair w) rfl (pairOther_leaveUnscored _ _ _ _ other)
    (fun a sh new pre => pairOther_sheetTaken s a sh new pre other)
    fun a sh new pre finished => by rw [pairOther_endTurn _ _ _ _ other, pairOther_sheetTaken s a sh new pre other]

theorem records_passOn (s : State) (l : Fin 16) (d : Delivery) : (s.passOn l d).state.records = s.records :=
  passOn_elim (motive := fun t => t.records = s.records) rfl (records_of_directory (directory_leaveUnscored ..))
    (fun a sh new pre => records_sheetTaken s l a sh new pre)
    fun a sh new pre finished => by rw [records_endTurn, records_sheetTaken]

/-! ## The READ taken -/

theorem psRead_taken (cycles : (s.lane l).sup.state = .cycling) (cycle : (s.lane l).sup.cycle = some c)
    (inFlight : (s.lane l).sup.delivery = some d) (origin : c.origin = .ball) (phase : c.phase = .beforeRead)
    (waits : d.step = .awaitingRead) : psRead l sensed s = s.takeRead l c (d.counts sensed) := by
  rw [psRead, cycling_of_state cycles cycle, inFlight]
  simp [Cycle.awaitsRead, origin, phase, waits]

theorem psRead_ignored (no : ∀ c d, (s.lane l).sup.state = .cycling → (s.lane l).sup.cycle = some c →
    (s.lane l).sup.delivery = some d → c.origin = .ball → c.phase = .beforeRead → d.step ≠ .awaitingRead) :
    psRead l sensed s = s := by
  unfold psRead
  split
  next c d cycling inFlight =>
    obtain ⟨state, cycle⟩ := cycling_eq_some cycling
    refine if_neg fun takes => ?_
    simp only [Cycle.awaitsRead, Bool.and_eq_true, beq_iff_eq] at takes
    exact no c d state cycle inFlight takes.1.1 takes.1.2 takes.2
  next => rfl

/-- The lane after a READ. -/
theorem lane_takeRead (s : State) (l : Fin 16) (c : Cycle) (d : Delivery) :
    (s.takeRead l c d).lane l =
      (let r := s.passOn l d
       { r.state.lane l with
         sup := { (r.state.lane l).sup with
           cycle := some (c.afterRead d r.turnEnded), delivery := none, last := some d
           practice := practiceAfter d (followOnDue c d r.turnEnded) (r.state.lane l).sup.practice } }) := by
  rw [State.takeRead, State.modSup, lane_modLane, if_pos rfl]

theorem laneOther_takeRead (s : State) (c : Cycle) (d : Delivery) (other : k ≠ l) :
    (s.takeRead l c d).lane k = (s.passOn l d).state.lane k := by
  rw [State.takeRead, State.modSup, lane_modLane, if_neg other]

theorem turn_takeRead (s : State) (l : Fin 16) (c : Cycle) (d : Delivery) (w : Fin 8) :
    (s.takeRead l c d).turn w = (s.passOn l d).state.turn w := rfl

/-! ## What is counted -/

theorem counts_eq (d : Delivery) (sensed : PinSet) :
    d.counts sensed =
      (let pre := d.pre.getD fullRack
       { d with
         pre := some pre, counted := some (sensed &&& pre)
         marks := { d.marks with senseOdd := d.marks.senseOdd || decide (sensed &&& ~~~pre ≠ 0) } }) := by
  have odd (pre : PinSet) : (!pinsWithin sensed pre) = decide (sensed &&& ~~~pre ≠ 0) := by
    rw [pinsWithin, decide_not]
    rfl
  unfold Delivery.counts
  simp only [odd]

theorem sheetFor_some {x : Slot} {a : Place} {sh : Sheet} (present : x.state ≠ .empty) (frame : x.frame = a.frame)
    (ball : x.ball = a.ball) (sheet : x.sheet = some sh) (game : sh.game = a.game) : x.sheetFor a = some sh := by
  rw [Slot.sheetFor, if_pos ⟨present, frame, ball⟩, sheet]
  simp [game]

theorem sheetFor_none {x : Slot} {a : Place}
    (off : x.state = .empty ∨ x.frame ≠ a.frame ∨ x.ball ≠ a.ball ∨ ∀ sh, x.sheet = some sh → sh.game ≠ a.game) :
    x.sheetFor a = none := by
  unfold Slot.sheetFor
  split
  next there =>
    obtain ⟨present, frame, ball⟩ := there
    rcases off with empty | other | other | other
    · exact absurd empty present
    · exact absurd frame other
    · exact absurd ball other
    · rw [Option.filter_eq_none_iff]
      intro sh there
      simpa using other sh there
  next => rfl

theorem scoredAt_barred (barred : d.laneClosed = true ∨ s.running l = false) : s.scoredAt l d = none := by
  refine if_pos ?_
  rcases barred with closed | stopped
  · simp [closed]
  · simp [stopped]

theorem scoredAt_eq (notClosed : d.laneClosed = false) (runs : s.running l = true) {a : Place} (place : d.place = some a) :
    s.scoredAt l d = ((s.slot (pairOf l) a.slot).sheetFor a).map fun sh => (a, sh) := by
  rw [State.scoredAt, if_neg (by simp [notClosed, runs]), place]
  rfl

theorem turnEnded_scoreBall (s : State) (l : Fin 16) (a : Place) (sh : Sheet) (pre after : PinSet) (m : Marks) :
    (s.scoreBall l a sh pre after m).turnEnded = (sh.addBall a.frame pre after m).frameComplete a.frame := by
  rw [scoreBall_eq]
  dsimp only
  split
  next complete => exact complete.symm
  next more => exact (by simpa using more : _ = false).symm

theorem scoredAt_place {b : Place × Sheet} (scored : s.scoredAt l d = some b) {a : Place} (place : d.place = some a) :
    ((s.slot (pairOf l) a.slot).sheetFor a).isSome := by
  unfold State.scoredAt at scored
  split at scored
  · cases scored
  · rw [place] at scored
    cases sheet : (s.slot (pairOf l) a.slot).sheetFor a with
    | none =>
      rw [Option.bind_some, sheet] at scored
      cases scored
    | some sh => rfl

/-- A practice ball changes its own lane alone. -/
theorem takeRead_practice (practice : d.cls = some .practice) :
    s.takeRead l c d = s.modLane l fun a =>
      { a with
        sup := { a.sup with
          cycle := some (c.afterRead d false), delivery := none, last := some d
          practice := practiceAfter d (followOnDue c d false) a.sup.practice } } := by
  rw [State.takeRead, passOn_practice practice]
  rfl

/-- A ball that is not scored changes no slot but for its in-flight mark. -/
theorem slot_leaveUnscored (s : State) (l : Fin 16) (d : Delivery) (q : Fin 8) (i : Fin 12) :
    (s.leaveUnscored l d).state.slot q i =
      { s.slot q i with inFlight := ((s.leaveUnscored l d).state.slot q i).inFlight } := by
  have landed (t : State) : (t.landBall l d).slot q i = { t.slot q i with inFlight := ((t.landBall l d).slot q i).inFlight } := by
    by_cases own : q = pairOf l
    · subst own
      rw [slot_landBall]
      split <;> rfl
    · rw [slot_of_turn (congrArg Pair.turn (pairOther_landBall t l d q own))]
  exact landed _

/-- Settles O29, by the three ways a counted ball is passed on. -/
theorem readCountsTheBall : Obligations.ReadCountsTheBall := by
  unfold Obligations.ReadCountsTheBall
  intro l sensed s released
  refine ⟨fun no => ?_, fun c d cycles cycle inFlight origin phase waits => ?_⟩
  · rw [exec_event (f := psRead l sensed) rfl released, psRead_ignored no]
  · dsimp only
    have ran : exec (.psRead l sensed) s = .next (s.takeRead l c (d.counts sensed)) := by
      rw [exec_event (f := psRead l sensed) rfl released, psRead_taken cycles cycle inFlight origin phase waits]
    have due (ended : Bool) : followOnDue c (d.counts sensed) ended =
        (c.kind == .first && (sensed &&& d.pre.getD fullRack == 0 || d.marks.foul || ended)) := by
      rw [counts_eq, followOnDue]
      rfl
    obtain ⟨state, standing⟩ := sup_passOn cycles (d.counts sensed)
    refine ⟨_, (s.passOn l (d.counts sensed)).turnEnded, ran, by simp, fun q => by simp, ?_, ?_, ?_, ?_, by simp⟩
    · rw [lane_takeRead]
      dsimp only
      simp only [← due, ← counts_eq]
      refine ⟨state, trivial, trivial, standing, ?_, fun practice => ?_, fun played barred => ?_,
        fun a sh played notClosed runs place at' => ?_, fun a played place off => ?_⟩
      · rw [counts_eq]
        rfl
      · have read := takeRead_practice (s := s) (l := l) (c := c) (d := d.counts sensed) practice
        rw [read, passOn_practice (d := d.counts sensed) practice]
        refine ⟨rfl, rfl, rfl, fun k other => ?_, rfl, ?_⟩
        · exact (lane_modLane ..).trans (if_neg (by simpa using other))
        · exact if_pos practice
      · have passed := passOn_unscored (d := d.counts sensed) played (scoredAt_barred (d := d.counts sensed) barred)
        rw [passed]
        refine ⟨rfl, ?_, ?_, fun k other => ?_, fun q i => ?_⟩
        · rw [lane_leaveUnscored]
        · rw [lane_leaveUnscored]
        · have other : k ≠ l := by simpa using other
          rw [laneOther_takeRead _ _ _ other, passed, laneOther_leaveUnscored _ _ _ _ other]
        · rw [slot_of_turn (turn_takeRead ..), passed, slot_leaveUnscored]
      · obtain ⟨present, frame, ball, sheet, game⟩ := at'
        have scored : s.scoredAt l (d.counts sensed) = some (a, sh) := by
          rw [scoredAt_eq (d := d.counts sensed) notClosed runs place, sheetFor_some present frame ball sheet game]
          rfl
        rw [passOn_scored (d := d.counts sensed) played scored, turnEnded_scoreBall, counts_eq]
        rfl
      · have unscored : s.scoredAt l (d.counts sensed) = none := by
          cases scorable : s.scoredAt l (d.counts sensed) with
          | none => rfl
          | some b =>
            have taken := scoredAt_place scorable (a := a) place
            rw [sheetFor_none off] at taken
            cases taken
        rw [passOn_unscored (d := d.counts sensed) played unscored]
        rfl
    · intro w other
      have other : w ≠ pairOf l := by simpa using other
      exact pairOther_passOn s l _ other
    · intro k far
      rw [laneOther_takeRead _ _ _ (fun e => far (congrArg pairOf e)), far_passOn s far]
    · exact sameRecords_iff.mpr (records_passOn s l _)

end Sys2Proof.Machine
end

section
/-! SUPPORT. The turns of a pair after a slot's turn has moved and the head rules of its lanes have run (R72, R78). -/

namespace Sys2Proof.Machine

variable {s t : State} {l k : Fin 16} {i j : Fin 12} {p : Fin 8} {v w x : TurnUnit} {sd : Side} {runs : Bool}

theorem risesTo_away {a b : Slot} (h : a.risesTo b) : b.away = a.away :=
  congrArg (fun q => q.2.1) h.2.1

theorem risesTo_trans {a b c : Slot} (h : a.risesTo b) (g : b.risesTo c) : a.risesTo c := by
  obtain ⟨-, kept, how⟩ := h
  obtain ⟨up, kept', how'⟩ := g
  refine ⟨up, kept'.trans kept, ?_⟩
  rcases how with ⟨underWay, rfl⟩ | ⟨waits, started⟩
  · rcases how' with ⟨-, rfl⟩ | ⟨waits, -⟩
    · exact Or.inl ⟨underWay, rfl⟩
    · exact absurd waits underWay
  · rcases how' with ⟨-, rfl⟩ | ⟨waits', -⟩
    · exact Or.inr ⟨waits, started⟩
    · rw [started] at waits'
      cases waits'

/-- Turn Unit `w` is `v` after the head rules of its lanes. -/
structure TurnUnit.settlesTo (v w : TurnUnit) : Prop where
  mode : w.mode = v.mode
  settings : w.settings = v.settings
  rotated : ∀ sd, ∃ n, w.queue sd = (v.queue sd).drop n ++ (v.queue sd).take n ∧
    ∀ j ∈ (v.queue sd).take n, v.slots[j].away = true
  slots : ∀ j : Fin 12, w.slots[j] = v.slots[j] ∨
    v.slots[j].away = false ∧ (∃ sd, j ∈ v.queue sd) ∧ v.slots[j].risesTo w.slots[j]

theorem settlesTo_refl (v : TurnUnit) : v.settlesTo v := ⟨rfl, rfl, fun _ => ⟨0, by simp⟩, fun _ => Or.inl rfl⟩

theorem settlesTo_away (h : v.settlesTo w) (j : Fin 12) : w.slots[j].away = v.slots[j].away := by
  rcases h.slots j with same | ⟨-, -, rises⟩
  · rw [same]
  · exact risesTo_away rises

theorem mem_queue_settlesTo (h : v.settlesTo w) (sd : Side) (j : Fin 12) : j ∈ w.queue sd ↔ j ∈ v.queue sd := by
  obtain ⟨n, rotated, -⟩ := h.rotated sd
  rw [rotated, List.mem_append, or_comm, ← List.mem_append, List.take_append_drop]

/-- The head rules of a lane whose queue has not moved yet. -/
theorem settlesTo_headed (h : v.settlesTo w) (g : w.headed x sd runs) (fresh : w.queue sd = v.queue sd) :
    v.settlesTo x where
  mode := g.mode.trans h.mode
  settings := g.settings.trans h.settings
  rotated q := by
    by_cases own : q = sd
    · subst own
      obtain ⟨n, rotated, away⟩ := g.rotated
      rw [fresh] at rotated away
      exact ⟨n, rotated, fun j there => by rw [← settlesTo_away h]; exact away j there⟩
    · have other : q = sd.other := by cases q <;> cases sd <;> simp_all [Side.other]
      rw [other, g.other]
      exact h.rotated _
  slots j := by
    rcases g.slots j with same | ⟨-, present, queued, rises⟩
    · rw [same]
      exact h.slots j
    · have queued : ∃ q, j ∈ v.queue q := ⟨sd, fresh ▸ queued⟩
      rw [settlesTo_away h] at present
      rcases h.slots j with same | ⟨-, -, rose⟩
      · rw [same] at rises
        exact Or.inr ⟨present, queued, rises⟩
      · exact Or.inr ⟨present, queued, risesTo_trans rose rises⟩

/-- The head rules of one lane. -/
theorem settlesTo_headRules (h : v.settlesTo (t.turn (pairOf l)))
    (fresh : (t.turn (pairOf l)).queue (sideOf l) = v.queue (sideOf l)) :
    v.settlesTo ((t.headRules l).turn (pairOf l)) :=
  settlesTo_headed h (headed_headRules t l) fresh

/-! ## A turn that moves -/

theorem queue_moveTurn (v : TurnUnit) (i : Fin 12) (dest : Option Side) (st : SlotState) (sd : Side) :
    (v.moveTurn i dest st).queue sd =
      (v.queue sd).filter (· != i) ++ if dest = some sd then [i] else [] := by
  unfold TurnUnit.moveTurn
  cases dest with
  | none => cases sd <;> simp [TurnUnit.queue, TurnUnit.setQueue, TurnUnit.modSlot]
  | some q => cases sd <;> cases q <;> simp [TurnUnit.queue, TurnUnit.setQueue, TurnUnit.modSlot]

theorem slots_moveTurn (v : TurnUnit) (i j : Fin 12) (dest : Option Side) (st : SlotState) :
    (v.moveTurn i dest st).slots[j] = if j = i then { v.slots[j] with state := st } else v.slots[j] := by
  unfold TurnUnit.moveTurn
  rw [slots_modSlot]
  cases dest <;> simp

theorem mode_moveTurn (v : TurnUnit) (i : Fin 12) (dest : Option Side) (st : SlotState) :
    (v.moveTurn i dest st).mode = v.mode ∧ (v.moveTurn i dest st).settings = v.settings := by
  unfold TurnUnit.moveTurn
  cases dest with
  | none => exact ⟨rfl, rfl⟩
  | some q => cases q <;> exact ⟨rfl, rfl⟩

/-- A turn end settles the turns of its pair (R78). -/
theorem settlesTo_endTurn (s : State) (l : Fin 16) (i : Fin 12) (finished : Bool) :
    ((s.turn (pairOf l)).turned i ((s.turn (pairOf l)).nextTurn i (sideOf l) finished)).settlesTo
      ((s.endTurn l i finished).turn (pairOf l)) := by
  have turned (next : Option Side) : (s.updTurn (pairOf l) fun v => v.turned i next).turn (pairOf l) =
      (s.turn (pairOf l)).turned i next := turn_updTurn_same ..
  have own (next : Option Side) : ((s.turn (pairOf l)).turned i next).settlesTo ((s.turnedOwn l i next).turn (pairOf l)) := by
    rw [State.turnedOwn, turn_turnEffect]
    exact settlesTo_headRules (by rw [turned]; exact settlesTo_refl _) (by rw [turned])
  rw [endTurn_eq]
  dsimp only
  generalize (s.turn (pairOf l)).nextTurn i (sideOf l) finished = next
  split
  · rw [← pairOf_otherLane l] at own ⊢
    refine settlesTo_headRules (own _) ?_
    have head := headed_headRules (s.updTurn (pairOf l) fun v => v.turned i next) l
    rw [pairOf_otherLane, sideOf_otherLane, State.turnedOwn, turn_turnEffect, head.other, turned]
  · exact own _

end Sys2Proof.Machine
end

section
/-! PROOFS. A SCORED ball at its READ (R31, R32, R77, R78, R80, R89, R100, R113). -/

namespace Sys2Proof.Machine

variable {s t : State} {l k : Fin 16} {i j : Fin 12} {p : Fin 8} {a : Place} {sh new : Sheet} {pre : PinSet}

/-- The slot that has taken its ball. -/
def Slot.bowled (x : Slot) (frame : Nat) (sh : Sheet) : Slot := { x with inFlight := false }.afterBall frame sh

theorem turn_sheetTaken (s : State) (l : Fin 16) (a : Place) (sh new : Sheet) (pre : PinSet) :
    (s.sheetTaken l a sh new pre).turn (pairOf l) =
      (s.turn (pairOf l)).modSlot a.slot fun x => x.bowled a.frame new := by
  rw [State.sheetTaken, turn_updSlot]
  rfl

theorem snapshot_sheetTaken (s : State) (l : Fin 16) (a : Place) (sh new : Sheet) (pre : PinSet) :
    ((s.sheetTaken l a sh new pre).lane l).snapshot = some (takeSnapshot a sh new pre) := by
  rw [State.sheetTaken, lane_updSlot, lane_modLane, if_pos rfl]

/-- What the ball leaves, its frame complete or not. -/
def State.ballPlaced (s : State) (l : Fin 16) (a : Place) (sh new : Sheet) (pre : PinSet) : State :=
  if new.frameComplete a.frame then (s.sheetTaken l a sh new pre).endTurn l a.slot new.gameFinished
  else s.sheetTaken l a sh new pre

theorem scoreBall_placed (s : State) (l : Fin 16) (a : Place) (sh : Sheet) (pre after : PinSet) (m : Marks) :
    s.scoreBall l a sh pre after m =
      (let new := sh.addBall a.frame pre after m
       ⟨s.ballPlaced l a sh new pre, new.frameComplete a.frame⟩) := by
  rw [scoreBall_eq]
  dsimp only
  cases complete : (sh.addBall a.frame pre after m).frameComplete a.frame with
  | true => simp [State.ballPlaced, complete]
  | false => simp [State.ballPlaced, complete]

/-! ## The slot that bowled -/

theorem lasting_bowled (x : Slot) (frame : Nat) (sh : Sheet) :
    (x.bowled frame sh).bowler = x.bowler ∧ (x.bowled frame sh).inFlight = false ∧ (x.bowled frame sh).game = x.game ∧
      (x.bowled frame sh).away = x.away := by
  unfold Slot.bowled Slot.afterBall
  split
  · exact ⟨rfl, rfl, rfl, rfl⟩
  · split <;> exact ⟨rfl, rfl, rfl, rfl⟩

theorem bowled_finished (x : Slot) (frame : Nat) {sh : Sheet} (finished : sh.gameFinished = true) :
    (x.bowled frame sh).finished = min (x.finished + 1) 255 ∧
      (x.bowled frame sh).retained =
        (if 3 ≤ x.retained.length then x.retained.drop 1 else x.retained) ++ [GameRecord.finish sh x.handicap] := by
  rw [Slot.bowled, Slot.afterBall, if_pos finished]
  exact ⟨rfl, rfl⟩

theorem bowled_complete (x : Slot) {frame : Nat} {sh : Sheet} (goesOn : sh.gameFinished = false)
    (complete : sh.frameComplete frame = true) :
    x.bowled frame sh =
      { x with inFlight := false, sheet := some sh, stage := .inProgress, frame := x.frame + 1, ball := 1 } := by
  rw [Slot.bowled, Slot.afterBall, if_neg (by simp [goesOn]), if_pos complete]

theorem bowled_continues (x : Slot) {frame : Nat} {sh : Sheet} (goesOn : sh.gameFinished = false)
    (more : sh.frameComplete frame = false) :
    x.bowled frame sh = { x with sheet := some sh, stage := .inProgress, ball := x.ball + 1, inFlight := false } := by
  rw [Slot.bowled, Slot.afterBall, if_neg (by simp [goesOn]), if_neg (by simp [more])]

/-- The slot that bowled, after its turn: as its ball left it, but for its state, or risen for its next turn. -/
theorem slot_ballPlaced (s : State) (l : Fin 16) (a : Place) (sh new : Sheet) (pre : PinSet) :
    ∃ st, let x := { (s.slot (pairOf l) a.slot).bowled a.frame new with state := st }
      let y := (s.ballPlaced l a sh new pre).slot (pairOf l) a.slot
      y = x ∨ x.risesTo y := by
  have own : ((s.sheetTaken l a sh new pre).turn (pairOf l)).slots[a.slot] =
      (s.slot (pairOf l) a.slot).bowled a.frame new := by
    rw [turn_sheetTaken, slots_modSlot, if_pos rfl]
    rfl
  unfold State.ballPlaced
  split
  · have settles := (settlesTo_endTurn (s.sheetTaken l a sh new pre) l a.slot new.gameFinished).slots a.slot
    rw [TurnUnit.turned, slots_moveTurn, if_pos rfl, own] at settles
    refine ⟨if (((s.sheetTaken l a sh new pre).turn (pairOf l)).nextTurn a.slot (sideOf l) new.gameFinished).isSome
      then .queued else .done, ?_⟩
    rcases settles with same | ⟨-, -, rises⟩
    · exact Or.inl same
    · exact Or.inr rises
  · exact ⟨((s.slot (pairOf l) a.slot).bowled a.frame new).state, Or.inl own⟩

theorem lasting_ballPlaced (s : State) (l : Fin 16) (a : Place) (sh new : Sheet) (pre : PinSet) :
    ((s.ballPlaced l a sh new pre).slot (pairOf l) a.slot).lasting =
      ((s.slot (pairOf l) a.slot).bowled a.frame new).lasting := by
  obtain ⟨st, same | rises⟩ := slot_ballPlaced s l a sh new pre
  · rw [same]
    rfl
  · exact rises.2.1

/-- A slot whose game goes on keeps its place through the rise of its next turn. -/
theorem place_ballPlaced (goesOn : new.gameFinished = false) (complete : new.frameComplete a.frame = true) :
    let x := s.slot (pairOf l) a.slot
    let y := (s.ballPlaced l a sh new pre).slot (pairOf l) a.slot
    y.sheet = some new ∧ y.stage = .inProgress ∧ y.frame = x.frame + 1 ∧ y.ball = 1 ∧ y.retained = x.retained := by
  have bowled := bowled_complete (s.slot (pairOf l) a.slot) goesOn complete
  obtain ⟨st, same | rises⟩ := slot_ballPlaced s l a sh new pre
  · dsimp only at same ⊢
    rw [same, bowled]
    exact ⟨rfl, rfl, rfl, rfl, rfl⟩
  · obtain ⟨-, -, ⟨-, same⟩ | ⟨waits, -⟩⟩ := rises
    · dsimp only at same ⊢
      rw [same, bowled]
      exact ⟨rfl, rfl, rfl, rfl, rfl⟩
    · rw [bowled] at waits
      cases waits

/-! ## Its next turn -/

/-- The side of the next turn (R78, R79, R80). -/
def nextSide (turn : TurnUnit) (side : Side) (a : Place) (x : Slot) (new : Sheet) : Option Side :=
  if new.gameFinished = false then
    match turn.mode with
    | .opened => some side
    | .alternate => some side.other
  else if turn.settings.games ≠ 0 ∧ turn.settings.games ≤ min (x.finished + 1) 255 then none
  else some (startSide turn.mode a.slot (nextGame x.game))

theorem nextTurn_eq (s : State) (l : Fin 16) (a : Place) (sh new : Sheet) (pre : PinSet) :
    ((s.sheetTaken l a sh new pre).turn (pairOf l)).nextTurn a.slot (sideOf l) new.gameFinished =
      nextSide (s.turn (pairOf l)) (sideOf l) a (s.slot (pairOf l) a.slot) new := by
  have own : ((s.turn (pairOf l)).modSlot a.slot fun x => x.bowled a.frame new).slots[a.slot] =
      (s.slot (pairOf l) a.slot).bowled a.frame new := by
    rw [slots_modSlot, if_pos rfl]
    rfl
  have kept : ((s.turn (pairOf l)).modSlot a.slot fun x => x.bowled a.frame new).mode = (s.turn (pairOf l)).mode ∧
      ((s.turn (pairOf l)).modSlot a.slot fun x => x.bowled a.frame new).settings = (s.turn (pairOf l)).settings :=
    ⟨rfl, rfl⟩
  rw [turn_sheetTaken, TurnUnit.nextTurn, nextSide, own, kept.1, kept.2, (lasting_bowled ..).2.2.1]
  cases finished : new.gameFinished with
  | false => rfl
  | true =>
    rw [(bowled_finished _ _ finished).1]
    simp [limitReached]

/-- The turns of the pair after a ball that ended its turn. -/
theorem settlesTo_ballPlaced (complete : new.frameComplete a.frame = true) :
    (((s.turn (pairOf l)).modSlot a.slot fun x => x.bowled a.frame new).turned a.slot
      (nextSide (s.turn (pairOf l)) (sideOf l) a (s.slot (pairOf l) a.slot) new)).settlesTo
        ((s.ballPlaced l a sh new pre).turn (pairOf l)) := by
  have settles := settlesTo_endTurn (s.sheetTaken l a sh new pre) l a.slot new.gameFinished
  rw [nextTurn_eq, turn_sheetTaken] at settles
  rw [State.ballPlaced, if_pos complete]
  exact settles

/-- Where the next turn stands, and in what state the slot is. -/
theorem turn_ballPlaced (complete : new.frameComplete a.frame = true) :
    let next := nextSide (s.turn (pairOf l)) (sideOf l) a (s.slot (pairOf l) a.slot) new
    let y := (s.ballPlaced l a sh new pre).slot (pairOf l) a.slot
    (next = none → y.state = .done) ∧ (next ≠ none → y.state = .queued ∨ y.state = .up) ∧
      ∀ side,
        let placed := ((s.turn (pairOf l)).queue side).filter (· != a.slot) ++ if next = some side then [a.slot] else []
        ∃ k, ((s.ballPlaced l a sh new pre).turn (pairOf l)).queue side = placed.drop k ++ placed.take k ∧
          ∀ j ∈ placed.take k, (s.slot (pairOf l) j).away = true := by
  have settles := settlesTo_ballPlaced (s := s) (l := l) (a := a) (sh := sh) (new := new) (pre := pre) complete
  generalize nextSide (s.turn (pairOf l)) (sideOf l) a (s.slot (pairOf l) a.slot) new = next at settles
  dsimp only
  have queue (side : Side) : (((s.turn (pairOf l)).modSlot a.slot fun x => x.bowled a.frame new).turned a.slot
      next).queue side =
      ((s.turn (pairOf l)).queue side).filter (· != a.slot) ++ if next = some side then [a.slot] else [] := by
    rw [TurnUnit.turned, queue_moveTurn, queue_modSlot]
  have away (j : Fin 12) : (((s.turn (pairOf l)).modSlot a.slot fun x => x.bowled a.frame new).turned a.slot
      next).slots[j].away = (s.slot (pairOf l) j).away := by
    rw [TurnUnit.turned, slots_moveTurn, slots_modSlot]
    split
    · exact (lasting_bowled ..).2.2.2
    · rfl
  have state : (((s.turn (pairOf l)).modSlot a.slot fun x => x.bowled a.frame new).turned a.slot
      next).slots[a.slot].state = if next.isSome then .queued else .done := by
    rw [TurnUnit.turned, slots_moveTurn, if_pos rfl]
  have y : (s.ballPlaced l a sh new pre).slot (pairOf l) a.slot =
      ((s.ballPlaced l a sh new pre).turn (pairOf l)).slots[a.slot] := rfl
  refine ⟨fun nowhere => ?_, fun somewhere => ?_, fun side => ?_⟩
  · rw [y]
    rcases settles.slots a.slot with same | ⟨-, ⟨sd, queued⟩, -⟩
    · rw [same, state, nowhere]
      rfl
    · rw [queue, nowhere] at queued
      simp at queued
  · rw [y]
    rcases settles.slots a.slot with same | ⟨-, -, up, -⟩
    · rw [same, state, if_pos (Option.isSome_iff_ne_none.mpr somewhere)]
      exact Or.inl rfl
    · exact Or.inr up
  · obtain ⟨k, rotated, front⟩ := settles.rotated side
    rw [queue] at rotated front
    exact ⟨k, rotated, fun j there => by rw [← away]; exact front j there⟩

theorem snapshot_ballPlaced (s : State) (l : Fin 16) (a : Place) (sh new : Sheet) (pre : PinSet) :
    ∃ n, ((s.ballPlaced l a sh new pre).lane l).snapshot = some n ∧ n.slot = a.slot ∧ n.game = a.game ∧
      n.frame = a.frame ∧ n.ball = a.ball ∧ n.pre = pre ∧ n.prior = priorFrames sh new a.frame ∧ n.bonus = sh.awaiting ∧
      n.turnEnded = new.frameComplete a.frame ∧ n.gameFinished = new.gameFinished := by
  unfold State.ballPlaced
  split
  next complete =>
    obtain ⟨started, next, up, taken⟩ :=
      snapshot_endTurn (snapshot_sheetTaken s l a sh new pre) a.slot new.gameFinished
    exact ⟨_, taken, rfl, rfl, rfl, rfl, rfl, rfl, rfl, complete.symm, rfl⟩
  next more =>
    exact ⟨_, snapshot_sheetTaken s l a sh new pre, rfl, rfl, rfl, rfl, rfl, rfl, rfl, by simpa [takeSnapshot] using more,
      rfl⟩

/-- A ball that leaves its frame open moves its own lane and its own slot alone. -/
theorem ballPlaced_continues (goesOn : new.gameFinished = false) (more : new.frameComplete a.frame = false) :
    let x := s.slot (pairOf l) a.slot
    let t := s.ballPlaced l a sh new pre
    t.slot (pairOf l) a.slot = { x with sheet := some new, stage := .inProgress, ball := x.ball + 1, inFlight := false } ∧
      (t.turn (pairOf l)).queueOdd = (s.turn (pairOf l)).queueOdd ∧
      (t.turn (pairOf l)).queueEven = (s.turn (pairOf l)).queueEven ∧ (∀ k, k ≠ l → t.lane k = s.lane k) ∧
      ∀ j, j ≠ a.slot → t.slot (pairOf l) j = s.slot (pairOf l) j := by
  dsimp only
  rw [← bowled_continues _ goesOn more, State.ballPlaced, if_neg (by simp [more]), turn_sheetTaken]
  refine ⟨?_, rfl, rfl, fun k other => laneOther_sheetTaken s a sh new pre other, fun j other => ?_⟩
  · rw [State.slot, turn_sheetTaken, slots_modSlot, if_pos rfl]
    rfl
  · rw [State.slot, turn_sheetTaken, slots_modSlot, if_neg other]
    rfl

/-- Settles O30, by the slot that bowled, its next turn, and the head rules of the lanes whose queues move. -/
theorem readScoresTheBall : Obligations.ReadScoresTheBall := by
  unfold Obligations.ReadScoresTheBall
  intro l sensed c d a sh s released runs cycles cycle inFlight origin phase waits cls notClosed place at'
  obtain ⟨present, frame, ball, sheet, game⟩ := at'
  have scored : s.scoredAt l (d.counts sensed) = some (a, sh) := by
    rw [scoredAt_eq (d := d.counts sensed) notClosed runs place, sheetFor_some present frame ball sheet game]
    rfl
  have played : (d.counts sensed).cls ≠ some .practice := by
    rw [show (d.counts sensed).cls = d.cls from rfl, cls]
    simp
  refine ⟨s.takeRead l c (d.counts sensed), ?_, ?_⟩
  · rw [exec_event (f := psRead l sensed) rfl released, psRead_taken cycles cycle inFlight origin phase waits]
  · dsimp only
    generalize taken : sh.addBall a.frame (d.pre.getD fullRack) (sensed &&& d.pre.getD fullRack)
      { d.marks with senseOdd := d.marks.senseOdd || decide (sensed &&& ~~~d.pre.getD fullRack ≠ 0) } = new
    have passed : s.passOn l (d.counts sensed) =
        ⟨s.ballPlaced l a sh new (d.pre.getD fullRack), new.frameComplete a.frame⟩ := by
      rw [passOn_scored played scored, scoreBall_placed, counts_eq, ← taken]
      rfl
    have lane := lane_takeRead s l c (d.counts sensed)
    have turn : (s.takeRead l c (d.counts sensed)).turn (pairOf l) =
        (s.ballPlaced l a sh new (d.pre.getD fullRack)).turn (pairOf l) := by rw [turn_takeRead, passed]
    have slot (j : Fin 12) : (s.takeRead l c (d.counts sensed)).slot (pairOf l) j =
        (s.ballPlaced l a sh new (d.pre.getD fullRack)).slot (pairOf l) j := slot_of_turn turn j
    have lasting := lasting_ballPlaced s l a sh new (d.pre.getD fullRack)
    simp only [Slot.lasting, Prod.mk.injEq] at lasting
    obtain ⟨bowler, -, landed, finished, retained⟩ := lasting
    obtain ⟨bowler', landed', -, -⟩ := lasting_bowled (s.slot (pairOf l) a.slot) a.frame new
    simp only [turn, slot]
    refine ⟨?_, ?_, landed.trans landed', bowler.trans bowler', ?_, fun more goesOn => ?_,
      fun complete goesOn => place_ballPlaced goesOn complete, fun gameEnds => ?_, fun complete => turn_ballPlaced complete⟩
    · rw [lane, passed, counts_eq]
      rfl
    · rw [lane, counts_eq]
    · rw [lane, passed]
      exact snapshot_ballPlaced ..
    · obtain ⟨own, odd, even, lanes, others⟩ := ballPlaced_continues (s := s) (l := l) (sh := sh)
        (pre := d.pre.getD fullRack) goesOn more
      refine ⟨own, odd, even, fun k other => ?_, others⟩
      have other : k ≠ l := by simpa using other
      rw [laneOther_takeRead _ _ _ other, passed, lanes k other]
    · obtain ⟨count, records⟩ := bowled_finished (s.slot (pairOf l) a.slot) a.frame gameEnds
      exact ⟨finished.trans count, retained.trans records⟩

end Sys2Proof.Machine
end

section
/-! SUPPORT. A Reball Snapshot applied to the sheet, the place and the queues of its pair (R114, R116, R117). -/

namespace Sys2Proof.Machine

variable {s t : State} {l k : Fin 16} {i j : Fin 12} {p : Fin 8} {n : Snapshot} {v : TurnUnit}

/-! ## The steps -/

/-- The sheet and the place taken back (R116). -/
def State.rewound (s : State) (l : Fin 16) (n : Snapshot) : State := s.updSlot (pairOf l) n.slot fun x => x.takeBack n

/-- The queues restored, where the ball ended its turn (R117). -/
def State.requeued (s : State) (l : Fin 16) (n : Snapshot) : State :=
  ((s.rewound l n).updTurn (pairOf l) fun v => v.takeBack (sideOf l) n).resetPractice l

/-- The state before the snapshot is dropped. -/
def State.replayed (s : State) (l : Fin 16) (n : Snapshot) : State :=
  if n.turnEnded then
    if n.nextLane = some (sideOf l).other then (s.requeued l n).headRules (otherLane l) else s.requeued l n
  else s.rewound l n

theorem applySnapshot_eq (s : State) (l : Fin 16) (n : Snapshot) :
    s.applySnapshot l n =
      (((s.replayed l n).dropSnapshot l).flagConsole (pairOf l) .frameChanged).flagConsole (pairOf l) .turnChanged := rfl

/-- What the three ways of applying a snapshot leave. -/
theorem replayed_elim {motive : State → Prop} (rewound : motive (s.rewound l n)) (requeued : motive (s.requeued l n))
    (ruled : motive ((s.requeued l n).headRules (otherLane l))) : motive (s.replayed l n) := by
  unfold State.replayed
  split
  · split
    · exact ruled
    · exact requeued
  · exact rewound

/-! ## The lanes, the pairs and the Directory -/

theorem lane_requeued (s : State) (l : Fin 16) (n : Snapshot) (k : Fin 16) :
    (s.requeued l n).lane k =
      if k = l then { s.lane l with sup := { (s.lane l).sup with practice := 1 } } else s.lane k := by
  rw [State.requeued, State.resetPractice, State.modSup, lane_modLane, lane_updTurn, State.rewound, lane_updSlot]
  split
  next same => rw [same]
  next => rfl

theorem lane_rewound (s : State) (l : Fin 16) (n : Snapshot) (k : Fin 16) : (s.rewound l n).lane k = s.lane k :=
  lane_updSlot ..

theorem lane_applySnapshot (s : State) (l : Fin 16) (n : Snapshot) :
    (s.applySnapshot l n).lane l =
      { s.lane l with
        sup := { (s.lane l).sup with practice := if n.turnEnded then 1 else (s.lane l).sup.practice }
        snapshot := none } := by
  have own : (s.replayed l n).lane l =
      { s.lane l with sup := { (s.lane l).sup with practice := if n.turnEnded then 1 else (s.lane l).sup.practice } } := by
    have kept : ((s.requeued l n).headRules (otherLane l)).lane l = (s.requeued l n).lane l :=
      laneOther_headRules _ _ _ (otherLane_ne l).symm
    unfold State.replayed
    split
    · split
      · rw [kept, lane_requeued, if_pos rfl]
      · rw [lane_requeued, if_pos rfl]
    · exact lane_rewound s l n l
  rw [applySnapshot_eq, lane_flagConsole, lane_flagConsole, State.dropSnapshot, lane_modLane, if_pos rfl, own]

theorem laneOther_applySnapshot (s : State) (l : Fin 16) (n : Snapshot) (other : k ≠ l) :
    (s.applySnapshot l n).lane k = (s.replayed l n).lane k := by
  rw [applySnapshot_eq, lane_flagConsole, lane_flagConsole, State.dropSnapshot, lane_modLane, if_neg other]

theorem far_applySnapshot (s : State) {l k : Fin 16} (n : Snapshot) (far : pairOf k ≠ pairOf l) :
    (s.applySnapshot l n).lane k = s.lane k := by
  have other : k ≠ l := fun e => far (congrArg pairOf e)
  have beside : k ≠ otherLane l := fun e => far (by rw [e, pairOf_otherLane])
  have queued : (s.requeued l n).lane k = s.lane k := by rw [lane_requeued, if_neg other]
  rw [laneOther_applySnapshot s l n other]
  exact replayed_elim (motive := fun t => t.lane k = s.lane k) (lane_rewound ..) queued
    (by rw [laneOther_headRules _ _ _ beside, queued])

theorem pairOther_applySnapshot (s : State) (l : Fin 16) (n : Snapshot) {w : Fin 8} (other : w ≠ pairOf l) :
    (s.applySnapshot l n).pair w = s.pair w := by
  have beside : w ≠ pairOf (otherLane l) := by rwa [pairOf_otherLane]
  have rewound : (s.rewound l n).pair w = s.pair w := by simp [State.rewound, other]
  have queued : (s.requeued l n).pair w = s.pair w := by
    rw [State.requeued, pair_resetPractice, pairOther_updTurn _ _ _ _ other, rewound]
  have dropped : (s.applySnapshot l n).pair w = (s.replayed l n).pair w := by rw [applySnapshot_eq]; simp
  rw [dropped]
  exact replayed_elim (motive := fun t => t.pair w = s.pair w) rewound queued
    (by rw [pairOther_headRules _ _ _ beside, queued])

theorem records_applySnapshot (s : State) (l : Fin 16) (n : Snapshot) : (s.applySnapshot l n).records = s.records := by
  have queued : (s.requeued l n).records = s.records := records_of_directory (by simp [State.requeued, State.rewound])
  have dropped : (s.applySnapshot l n).records = (s.replayed l n).records := rfl
  rw [dropped]
  exact replayed_elim (motive := fun t => t.records = s.records) (records_updSlot ..) queued
    (by rw [records_headRules, queued])

theorem flagged_applySnapshot (s : State) (l : Fin 16) (n : Snapshot) :
    (s.applySnapshot l n).flagged (.console (pairOf l)) 1 ∧ (s.applySnapshot l n).flagged (.console (pairOf l)) 2 := by
  rw [applySnapshot_eq]
  have sheets := flagged_setEvent_same ((s.replayed l n).dropSnapshot l) (.console (pairOf l)) 1
  exact ⟨flagged_setEvent (s := ((s.replayed l n).dropSnapshot l).flagConsole (pairOf l) .frameChanged) sheets _ _,
    flagged_setEvent_same (((s.replayed l n).dropSnapshot l).flagConsole (pairOf l) .frameChanged) (.console (pairOf l)) 2⟩

/-! ## The turns -/

theorem turn_applySnapshot (s : State) (l : Fin 16) (n : Snapshot) (w : Fin 8) :
    (s.applySnapshot l n).turn w = (s.replayed l n).turn w := by
  rw [applySnapshot_eq]
  simp

theorem turn_rewound (s : State) (l : Fin 16) (n : Snapshot) :
    (s.rewound l n).turn (pairOf l) = (s.turn (pairOf l)).modSlot n.slot fun x => x.takeBack n := turn_updSlot ..

theorem turn_requeued (s : State) (l : Fin 16) (n : Snapshot) :
    (s.requeued l n).turn (pairOf l) =
      ((s.turn (pairOf l)).modSlot n.slot fun x => x.takeBack n).takeBack (sideOf l) n := by
  rw [State.requeued, turn_resetPractice, turn_updTurn_same, turn_rewound]

/-- The slot out of the queue that its next turn went to. -/
def TurnUnit.unplaced (v : TurnUnit) (n : Snapshot) : TurnUnit :=
  match n.nextLane with
  | some q => v.setQueue q ((v.queue q).filter (· != n.slot))
  | none => v

/-- The slot made UP in its stead QUEUED again. -/
def TurnUnit.demoted (v : TurnUnit) (n : Snapshot) : TurnUnit :=
  match n.madeUp with
  | some i => if i = n.slot then v else v.modSlot i fun x => { x with state := .queued }
  | none => v

/-- The slots before the one that bowled is UP again. -/
def TurnUnit.cleared (v : TurnUnit) (sd : Side) (n : Snapshot) : TurnUnit := ((v.unplaced n).demoted n).onlyUp sd n.slot

theorem takeBack_eq (v : TurnUnit) (sd : Side) (n : Snapshot) :
    v.takeBack sd n =
      ((v.cleared sd n).setQueue sd (n.slot :: (v.cleared sd n).queue sd)).modSlot n.slot fun x => { x with state := .up } :=
  rfl

theorem queue_cleared (v : TurnUnit) (sd side : Side) (n : Snapshot) :
    (v.cleared sd n).queue side =
      if n.nextLane = some side then (v.queue side).filter (· != n.slot) else v.queue side := by
  have demoted : ((v.unplaced n).demoted n).queue side = (v.unplaced n).queue side := by
    unfold TurnUnit.demoted
    split
    · split
      · rfl
      · simp
    · rfl
  rw [TurnUnit.cleared, queue_onlyUp, demoted, TurnUnit.unplaced]
  cases n.nextLane with
  | none => simp
  | some q => cases q <;> cases side <;> simp [TurnUnit.queue, TurnUnit.setQueue]

/-- A queue restored by a snapshot that ended a turn. -/
theorem queue_takeBack (v : TurnUnit) (sd side : Side) (n : Snapshot) :
    (v.takeBack sd n).queue side =
      if side = sd then n.slot :: (v.cleared sd n).queue side else (v.cleared sd n).queue side := by
  rw [takeBack_eq, queue_modSlot]
  split
  next own =>
    subst own
    rw [queue_setQueue_same]
  next other =>
    have other : side = sd.other := by cases side <;> cases sd <;> simp_all [Side.other]
    rw [other, queue_setQueue_other]

/-- A slot restored by a snapshot that ended a turn: the slot that bowled is UP, and no other slot of the lane's queue
is. -/
theorem slots_takeBack (v : TurnUnit) (sd : Side) (n : Snapshot) (j : Fin 12) :
    ∃ st, (v.takeBack sd n).slots[j] = { v.slots[j] with state := st } ∧
      (j = n.slot → st = .up) ∧ (j ≠ n.slot → j ∈ (v.takeBack sd n).queue sd → st ≠ .up) := by
  have unplaced : (v.unplaced n).slots[j] = v.slots[j] := by
    unfold TurnUnit.unplaced
    split
    · simp
    · rfl
  obtain ⟨st, demoted⟩ : ∃ st, ((v.unplaced n).demoted n).slots[j] = { v.slots[j] with state := st } := by
    unfold TurnUnit.demoted
    split
    · split
      · exact ⟨v.slots[j].state, unplaced⟩
      · rw [slots_modSlot, unplaced]
        split
        · exact ⟨_, rfl⟩
        · exact ⟨v.slots[j].state, rfl⟩
    · exact ⟨v.slots[j].state, unplaced⟩
  have queued : ((v.unplaced n).demoted n).queue sd = (v.cleared sd n).queue sd := (queue_onlyUp ..).symm
  have slot : (v.takeBack sd n).slots[j] =
      if j = n.slot then { (v.cleared sd n).slots[j] with state := .up } else (v.cleared sd n).slots[j] := by
    rw [takeBack_eq, slots_modSlot, slots_setQueue]
  have cleared : (v.cleared sd n).slots[j] =
      if st = .up ∧ j ≠ n.slot ∧ j ∈ (v.cleared sd n).queue sd then { v.slots[j] with state := .queued }
      else { v.slots[j] with state := st } := by
    rw [TurnUnit.cleared, getElem_onlyUp, demoted, queued]
    rfl
  rw [slot, cleared, queue_takeBack, if_pos rfl]
  by_cases own : j = n.slot
  · refine ⟨.up, ?_, fun _ => rfl, fun other => absurd own other⟩
    rw [if_pos own, if_neg fun both => both.2.1 own]
  · rw [if_neg own]
    by_cases lowers : st = .up ∧ j ≠ n.slot ∧ j ∈ (v.cleared sd n).queue sd
    · exact ⟨.queued, if_pos lowers, fun e => absurd e own, fun _ _ => nofun⟩
    · refine ⟨st, if_neg lowers, fun e => absurd e own, fun _ there up => lowers ⟨up, own, ?_⟩⟩
      exact (List.mem_cons.mp there).resolve_left own

/-- The turns of a pair whose snapshot did not end a turn. -/
theorem turn_replayed_kept (goesOn : n.turnEnded = false) :
    (s.replayed l n).turn (pairOf l) = (s.turn (pairOf l)).modSlot n.slot fun x => x.takeBack n := by
  rw [State.replayed, if_neg (by simp [goesOn]), turn_rewound]

/-- The turns of a pair whose snapshot ended a turn: the queues restored, and the head rules of the other lane, where the
next turn had gone. -/
theorem turn_replayed_ended (ended : n.turnEnded = true) :
    let v := ((s.turn (pairOf l)).modSlot n.slot fun x => x.takeBack n).takeBack (sideOf l) n
    (s.replayed l n).turn (pairOf l) = v ∨
      n.nextLane = some (sideOf l).other ∧ ∃ runs, v.headed ((s.replayed l n).turn (pairOf l)) (sideOf l).other runs := by
  dsimp only
  rw [State.replayed, if_pos ended]
  split
  next placed =>
    have head := headed_headRules (s.requeued l n) (otherLane l)
    rw [pairOf_otherLane, sideOf_otherLane, turn_requeued] at head
    exact Or.inr ⟨placed, _, head⟩
  · exact Or.inl (turn_requeued ..)

/-- The slot that bowled, taken back: its sheet and its place, and UP again where the ball ended its turn. -/
theorem slot_applySnapshot (s : State) (l : Fin 16) (n : Snapshot) :
    (s.applySnapshot l n).slot (pairOf l) n.slot =
      { (s.slot (pairOf l) n.slot).takeBack n with
        state := if n.turnEnded then .up else (s.slot (pairOf l) n.slot).state } := by
  have back : ((s.turn (pairOf l)).modSlot n.slot fun x => x.takeBack n).slots[n.slot] =
      (s.slot (pairOf l) n.slot).takeBack n := by
    rw [slots_modSlot, if_pos rfl]
    rfl
  rw [State.slot, turn_applySnapshot]
  cases ended : n.turnEnded with
  | false =>
    rw [turn_replayed_kept ended, back]
    rfl
  | true =>
    obtain ⟨st, own, up, -⟩ := slots_takeBack ((s.turn (pairOf l)).modSlot n.slot fun x => x.takeBack n) (sideOf l) n n.slot
    rw [back, up rfl] at own
    rcases turn_replayed_ended (s := s) (l := l) ended with same | ⟨placed, runs, head⟩
    · rw [same, own]
      rfl
    · rcases head.slots n.slot with same | ⟨-, -, queued, -⟩
      · rw [same, own]
        rfl
      · rw [queue_takeBack, if_neg (side_ne _), queue_cleared, if_pos placed] at queued
        simp at queued

end Sys2Proof.Machine
end

section
/-! PROOFS. CLEAR FAULT (R37). -/

namespace Sys2Proof.Machine

variable {s t : State} {l : Fin 16} {n : Snapshot} {f : FaultRec} {target : PinSet} {phase : CyclePhase} {choice : Nat}

/-! ## A lane that leaves FAULT -/

/-- The lane with its fault record gone. -/
def State.faultGone (s : State) (l : Fin 16) : State := s.modSup l fun u => { u with fault := none }

theorem sup_faultGone (s : State) (l : Fin 16) :
    ((s.faultGone l).lane l).sup = { (s.lane l).sup with fault := none } := by
  rw [State.faultGone, sup_modSup, if_pos rfl]

theorem leaveFault_eq (s : State) (l : Fin 16) (target : PinSet) (phase : CyclePhase) :
    s.leaveFault l target phase =
      if s.powerGranted l = true then
        if target = fullRack then (s.faultGone l).startFinal l .reball
        else (s.faultGone l).enterHandSet l target (some phase)
      else (s.faultGone l).updSup l fun u => { u with state := .off, standing := none } := by
  have power : (s.faultGone l).powerGranted l = s.powerGranted l := by
    rw [State.powerGranted, State.powerGranted, sup_faultGone, State.running, State.running, State.faultGone,
      session_modSup]
  have unfolded : s.leaveFault l target phase =
      if (s.faultGone l).powerGranted l = true then (s.faultGone l).restoreReady l target (some phase)
      else (s.faultGone l).updSup l fun u => { u with state := .off, standing := none } := rfl
  rw [unfolded, power]
  rfl

theorem leaveFault_off (withheld : s.powerGranted l = false) :
    ((s.leaveFault l target phase).lane l).sup = { (s.lane l).sup with fault := none, state := .off, standing := none } ∧
      (s.leaveFault l target phase).pool = s.pool := by
  rw [leaveFault_eq, if_neg (by simp [withheld]), sup_updSup, if_pos rfl, sup_faultGone]
  exact ⟨rfl, by simp [State.faultGone]⟩

theorem leaveFault_full (granted : s.powerGranted l = true) (full : target = fullRack) :
    ((s.leaveFault l target phase).lane l).sup =
        { (s.lane l).sup with
          fault := none, state := .cycling, warmUp := none, handSet := none
          cycle := some (newCycle .final .reball s.timers.cycle none) } ∧
      (s.leaveFault l target phase).pool = s.pool := by
  obtain ⟨sup, pool⟩ := startFinal_eq (s.faultGone l) l .reball
  rw [leaveFault_eq, if_pos granted, if_pos full]
  exact ⟨by rw [sup, sup_faultGone]; rfl, pool⟩

theorem leaveFault_partly (granted : s.powerGranted l = true) (partly : target ≠ fullRack) :
    ((s.leaveFault l target phase).lane l).sup =
        { (s.lane l).sup with
          fault := none, state := .handSet, cycle := none, warmUp := none, handSet := some ⟨target, s.now⟩
          standing := none, horn := some ⟨.call, 2000⟩ } ∧
      (s.leaveFault l target phase).pool =
        (s.raiseCall ⟨laneNo l, .handSet, if phase = .beforeRead then 0 else 1⟩).pool := by
  have detail : handSetDetail (some phase) = if phase = .beforeRead then 0 else 1 := by cases phase <;> rfl
  rw [leaveFault_eq, if_pos granted, if_neg partly, ← detail]
  refine ⟨by rw [sup_enterHandSet, sup_faultGone]; rfl, ?_⟩
  rw [pool_enterHandSet]
  exact pool_raiseCall_congr (t := s.faultGone l) (s := s) rfl rfl _

/-- The pinsetter leaves FAULT, and the console is told. -/
theorem flagged_leaveFault (faulted : (s.lane l).sup.state = .fault) :
    (s.leaveFault l target phase).flagged (.console (pairOf l)) 3 := by
  have still : ((s.faultGone l).lane l).sup.state = .fault := by rw [sup_faultGone, faulted]
  rw [leaveFault_eq]
  split
  · split
    · exact flagged_startFinal (by rw [still]; nofun) _
    · exact flagged_enterHandSet (by rw [still]; nofun) _ _
  · exact flagged_updSup_changed (by rw [still]; nofun)

theorem fault_leaveFault (s : State) (l : Fin 16) (target : PinSet) (phase : CyclePhase) :
    ((s.leaveFault l target phase).lane l).sup.fault = none := by
  cases granted : s.powerGranted l with
  | false => rw [(leaveFault_off granted).1]
  | true =>
    by_cases full : target = fullRack
    · rw [(leaveFault_full granted full).1]
    · rw [(leaveFault_partly granted full).1]

/-! ## The request -/

/-- The state from which the lane leaves FAULT: its snapshot applied, where the choice says so. -/
def State.faultBase (s : State) (l : Fin 16) : Option Snapshot → State
  | some n => s.applySnapshot l n
  | none => s

/-- The set that the pins are restored to. -/
def faultTarget (f : FaultRec) : Option Snapshot → PinSet
  | some n => n.pre
  | none => f.target

/-- The snapshot that the choice applies. -/
def faultSnapshot (s : State) (l : Fin 16) (f : FaultRec) (choice : Nat) : Option Snapshot :=
  if f.reballs choice then (s.lane l).snapshot else none

theorem clearFault_eq (there : (s.lane l).sup.fault = some f) :
    s.clearFault l choice =
      (s.faultBase l (faultSnapshot s l f choice)).leaveFault l (faultTarget f (faultSnapshot s l f choice)) f.phase := by
  rw [State.clearFault, there, faultSnapshot]
  cases snapshot : (s.lane l).snapshot with
  | none => cases f.reballs choice <;> rfl
  | some n =>
    cases reballs : f.reballs choice with
    | false => simp [reballs, State.faultBase, faultTarget]
    | true => simp [reballs, State.faultBase, faultTarget]

/-- What the base keeps of the state. -/
theorem faultBase_kept (s : State) (l : Fin 16) (x : Option Snapshot) :
    (s.faultBase l x).chip = s.chip ∧ (s.faultBase l x).pool = s.pool ∧
      (∀ q, ((s.faultBase l x).port q).line = (s.port q).line) ∧
      ((s.faultBase l x).lane l).session = (s.lane l).session ∧ ((s.faultBase l x).lane l).meter = (s.lane l).meter ∧
      ((s.faultBase l x).lane l).sup.state = (s.lane l).sup.state ∧
      (s.faultBase l x).powerGranted l = s.powerGranted l := by
  cases x with
  | none => exact ⟨rfl, rfl, fun _ => rfl, rfl, rfl, rfl, rfl⟩
  | some n =>
    have lane := lane_applySnapshot s l n
    refine ⟨chip_applySnapshot .., pool_applySnapshot .., line_applySnapshot s l n, ?_, ?_, ?_, ?_⟩
    · exact (congrArg (fun a : Lane => a.session) lane :)
    · exact (congrArg (fun a : Lane => a.meter) lane :)
    · exact (congrArg (fun a : Lane => a.sup.state) lane :)
    · have power (a : State) : a.powerGranted l = ((a.lane l).session.state.grants || (a.lane l).sup.servicePower) := rfl
      rw [power, power]
      exact (congrArg (fun a : Lane => (a.session.state.grants || a.sup.servicePower)) lane :)

theorem exec_clearFault_state (able : s.canServe .mc) (small : choice ≤ 1)
    (refused : ((s.lane l).sup.state != .fault) = true ∨ s.faultReballBarred l choice = true) :
    exec (.clearFault .mc (laneNo l) choice) s = .next (s.replying .mc 0x1A .state []) := by
  refine exec_refused rfl able.1 rfl ?_ nofun
  rw [inLanes_laneNo, decide_eq_false (Nat.not_lt.mpr small), able.2, laneIx_laneNo]
  cases off : (s.lane l).sup.state != .fault with
  | true => rfl
  | false => rw [refused.resolve_left (by simp [off])]; rfl

theorem exec_clearFault_ok (able : s.canServe .mc) (small : choice ≤ 1) (faulted : (s.lane l).sup.state = .fault)
    (free : s.faultReballBarred l choice = false) :
    exec (.clearFault .mc (laneNo l) choice) s = .next ((s.clearFault l choice).replying .mc 0x1A .ok []) := by
  have taken := exec_ok (i := .clearFault .mc (laneNo l) choice) rfl able.1 rfl (by
    rw [inLanes_laneNo, decide_eq_false (Nat.not_lt.mpr small), able.2, laneIx_laneNo, faulted, free]; rfl)
  rwa [laneIx_laneNo] at taken

theorem faultReballBarred_eq (there : (s.lane l).sup.fault = some f) :
    s.faultReballBarred l choice = (f.reballs choice && reballBarred (s.lane l).snapshot) := by
  rw [State.faultReballBarred, there]
  rfl

/-! ## The target of a fault -/

theorem target_cases (f : FaultRec) :
    (∀ t, f.replaced = some t → f.target = t) ∧
    (f.replaced = none → f.phase = .beforeRead → ∀ t, f.pre = some t → f.target = t) ∧
    (f.replaced = none → f.phase = .afterRead → (f.origin = .ball ∨ f.origin = .followOn) →
      ((f.kind = .final ∨ f.turnEnded = true ∨ f.followOn = true) → f.target = fullRack) ∧
      (f.kind = .first → f.turnEnded = false → f.followOn = false → ∀ t, f.read = some t → f.target = t)) ∧
    (f.replaced = none → f.phase = .afterRead → f.origin = .manual → f.kind = .first →
      ∀ t, f.pre = some t → f.target = t) ∧
    (f.replaced = none → f.phase = .afterRead →
      (f.origin = .manual ∧ f.kind = .final ∨ f.origin = .wake ∨ f.origin = .reball) → f.target = fullRack) := by
  refine ⟨fun t replaced => ?_, fun kept phase t pre => ?_, fun kept phase origin => ⟨fun due => ?_,
    fun kind ended due t read => ?_⟩, fun kept phase origin kind t pre => ?_, fun kept phase origin => ?_⟩
  · rw [FaultRec.target, replaced]
  · rw [FaultRec.target, kept, phase]
    simp [pre]
  · rw [FaultRec.target, kept, phase]
    rcases origin with ball | followOn
    · simpa [ball, or_assoc] using fun a b c => absurd due (by simp [a, b, c])
    · simpa [followOn, or_assoc] using fun a b c => absurd due (by simp [a, b, c])
  · rw [FaultRec.target, kept, phase]
    rcases origin with ball | followOn
    · simp [ball, kind, ended, due, read]
    · simp [followOn, kind, ended, due, read]
  · rw [FaultRec.target, kept, phase, origin]
    simp [kind, pre]
  · rw [FaultRec.target, kept, phase]
    rcases origin with ⟨manual, final⟩ | wake | reball
    · simp [manual, final]
    · simp [wake]
    · simp [reball]

/-- Settles O22, by the target of each fault and the state from which the lane leaves FAULT. -/
theorem clearFaultRestores : Obligations.ClearFaultRestores := by
  unfold Obligations.ClearFaultRestores
  refine ⟨target_cases, fun l choice f s able small => ⟨fun other => ?_, fun faulted there reballs barred => ?_,
    fun faulted there free => ?_⟩⟩
  · exact exec_clearFault_state able small (Or.inl (by simpa using other))
  · exact exec_clearFault_state able small (Or.inr (by rw [faultReballBarred_eq there, reballs, barred]; rfl))
  · have barred : s.faultReballBarred l choice = false := by
      rw [faultReballBarred_eq there]
      cases reballs : f.reballs choice with
      | false => rfl
      | true => rw [free reballs]; rfl
    refine ⟨_, faultTarget f (faultSnapshot s l f choice), exec_clearFault_ok able small faulted barred, ?_⟩
    rw [clearFault_eq there]
    obtain ⟨chip, pool, line, session, meter, state, power⟩ := faultBase_kept s l (faultSnapshot s l f choice)
    generalize based : s.faultBase l (faultSnapshot s l f choice) = b at *
    generalize aimed : faultTarget f (faultSnapshot s l f choice) = target
    refine ⟨answers_replying (fun q => by simp [line]) _ _ _ _, by simp [chip], flagged_replying (flagged_leaveFault
      (by rw [state, faulted])) _ _ _ _, fun keeps => ?_, fun n there' reballs => ?_, by simp [session], by simp [meter],
      by simp [fault_leaveFault], fun withheld => ?_, fun granted full => ?_, fun granted partly => ?_⟩
    · have kept : faultSnapshot s l f choice = none := if_neg (by simp [keeps])
      rw [kept] at based aimed
      subst based
      refine ⟨aimed.symm, pairs_ext fun p => by simp [State.faultBase], by simp [State.faultBase], fun k other => ?_,
        by simp [State.faultBase]⟩
      have other : k ≠ l := by simpa using other
      simp [State.faultBase, other]
    · have applied : faultSnapshot s l f choice = some n := (if_pos reballs).trans there'
      rw [applied] at based aimed
      have lane := lane_applySnapshot s l n
      have snapshot : (b.lane l).snapshot = none := by
        rw [← based]
        exact congrArg (fun a : Lane => a.snapshot) lane
      have turn : (((b.leaveFault l target f.phase).replying .mc 0x1A .ok []).turn (pairOf l)) =
          (s.applySnapshot l n).turn (pairOf l) := by
        rw [← based]
        simp [State.faultBase]
      refine ⟨aimed.symm, by simp [snapshot], ?_, ?_⟩
      · rw [slot_of_turn turn, slot_applySnapshot]
        rfl
      · rw [slot_of_turn turn, slot_applySnapshot]
        rfl
    · obtain ⟨sup, pool'⟩ := leaveFault_off (s := b) (l := l) (target := target) (phase := f.phase) (by rw [power, withheld])
      simp [sup, pool', pool]
    · obtain ⟨sup, pool'⟩ := leaveFault_full (s := b) (l := l) (phase := f.phase) (by rw [power, granted]) full
      simp [sup, pool', pool, timers_of_chip chip]
    · obtain ⟨sup, pool'⟩ := leaveFault_partly (s := b) (l := l) (phase := f.phase) (by rw [power, granted]) partly
      simp [sup, pool', now_of_chip chip, pool_raiseCall_congr pool (loading_of_chip chip)]

end Sys2Proof.Machine
end

section
/-! SUPPORT. What the rules that run on a lane in play keep of its record: its settings, the kind, mode and credit of its
meter, that it is not CLOSED, that no service power is on, and that a TAB session stays OPEN. -/

namespace Sys2Proof.Machine

variable {s t u : State} {l : Fin 16} {i : Fin 12} {a b c : Lane} {m : Meter}

/-! ## A meter's account (R156) -/

/-- The kind, the mode and the credit of a meter. -/
def Meter.account (m : Meter) : MeterKind × MeterMode × Nat := (m.kind, m.mode, m.credited)

theorem account_addCharge (m : Meter) (price : Nat) : (m.addCharge price).account = m.account := by
  unfold Meter.addCharge
  split <;> rfl

theorem account_charge {price : Nat} {paid : Meter} (h : m.charge price = some paid) : paid.account = m.account := by
  unfold Meter.charge at h
  split at h
  · split at h
    · cases h
    · obtain rfl := Option.some.inj h
      exact account_addCharge ..
  · obtain rfl := Option.some.inj h
    exact account_addCharge ..

theorem account_askGame {price : Nat} {paid : Meter} (h : m.askGame price = some paid) : paid.account = m.account := by
  unfold Meter.askGame at h
  split at h
  · obtain rfl := Option.some.inj h
    rfl
  · obtain ⟨charged, paid', rfl⟩ := Option.map_eq_some_iff.mp h
    have same := account_charge paid'
    exact same

/-- A charge of a TAB session is never declined. -/
theorem askGame_tab (tab : m.mode = .tab) (price : Nat) : m.askGame price ≠ none := by
  unfold Meter.askGame Meter.charge
  rw [tab]
  split <;> simp

theorem account_startUnit (m : Meter) (price length back : Nat) : (m.startUnit price length back).1.account = m.account := by
  unfold Meter.startUnit
  split
  · rfl
  · split
    next paid charged =>
      have same := account_charge charged
      exact same
    next => rfl

theorem startUnit_tab (tab : m.mode = .tab) (price length back : Nat) : (m.startUnit price length back).2 = false := by
  rw [Meter.startUnit, tab]

/-! ## A lane in play -/

/-- Record `b` of a lane is a later one than `a` of the same session. -/
structure Lane.playsOn (a b : Lane) : Prop where
  settings : b.session.settings = a.session.settings
  account : b.meter.map Meter.account = a.meter.map Meter.account
  notClosed : a.session.state ≠ .closed → b.session.state ≠ .closed
  power : a.sup.servicePower = false → b.sup.servicePower = false
  tab : a.session.state = .opened → (∀ m, a.meter = some m → m.mode = .tab) → b.session.state = .opened

theorem playsOn_refl (a : Lane) : a.playsOn a := ⟨rfl, rfl, id, id, fun h _ => h⟩

/-- The meter of a later record is TAB where that of the first is. -/
theorem playsOn_tab (h : a.playsOn b) (tab : ∀ m, a.meter = some m → m.mode = .tab) : ∀ m, b.meter = some m → m.mode = .tab := by
  intro m there
  have account := h.account
  rw [there, Option.map_some] at account
  obtain ⟨old, found, same⟩ := Option.map_eq_some_iff.mp account.symm
  have mode : old.mode = m.mode := congrArg (fun x => x.2.1) same
  rw [← mode]
  exact tab old found

theorem playsOn_trans (h : a.playsOn b) (g : b.playsOn c) : a.playsOn c where
  settings := g.settings.trans h.settings
  account := g.account.trans h.account
  notClosed := g.notClosed ∘ h.notClosed
  power := g.power ∘ h.power
  tab isOpen tab := g.tab (h.tab isOpen tab) (playsOn_tab h tab)

theorem playsOn_of_parts (session : b.session = a.session) (meter : b.meter = a.meter)
    (power : b.sup.servicePower = a.sup.servicePower) : a.playsOn b where
  settings := by rw [session]
  account := by rw [meter]
  notClosed h := by rwa [session]
  power h := by rwa [power]
  tab h _ := by rwa [session]

theorem power_of_steady {u v : Supervisor} (h : u.steady = v.steady) : u.servicePower = v.servicePower := by
  have same := congrArg (fun u : Supervisor => u.servicePower) h
  exact same

theorem power_becomeUp (s : State) (l : Fin 16) (i : Fin 12) :
    ((s.becomeUp l i).lane l).sup.servicePower = (s.lane l).sup.servicePower :=
  power_of_steady (steady_becomeUp s l i)

theorem playsOn_becomeUp (s : State) (l : Fin 16) (i : Fin 12) : (s.lane l).playsOn ((s.becomeUp l i).lane l) :=
  playsOn_of_parts (by simp) (by simp) (power_becomeUp ..)

theorem playsOn_startGame (s : State) (l : Fin 16) (i : Fin 12) : (s.lane l).playsOn ((s.startGame l i).lane l) :=
  playsOn_of_parts (by simp) (by simp) (by simp)

theorem lane_setMeter (s : State) (l : Fin 16) (m : Meter) :
    (s.setMeter l m).lane l = { s.lane l with meter := (s.lane l).meter.map fun _ => m } := by
  rw [State.setMeter, State.modMeter, lane_modLane, if_pos rfl]

theorem lane_enterClosing (s : State) (l : Fin 16) :
    (s.enterClosing l).lane l = { s.lane l with session := (s.lane l).session.enter .closing } := by
  rw [State.enterClosing, lane_flagDk, State.updSession, lane_updLane_same]

theorem playsOn_setMeter (there : (s.lane l).meter = some m) {new : Meter} (account : new.account = m.account) :
    (s.lane l).playsOn ((s.setMeter l new).lane l) := by
  rw [lane_setMeter]
  refine ⟨rfl, ?_, id, id, fun h _ => h⟩
  rw [there]
  exact congrArg some account

/-- A charge declined on a lane whose meter is not TAB. -/
theorem playsOn_declined (there : (s.lane l).meter = some m) {new : Meter} (account : new.account = m.account)
    (prepaid : m.mode ≠ .tab) : (s.lane l).playsOn (((s.setMeter l new).enterClosing l).lane l) := by
  rw [lane_enterClosing, lane_setMeter]
  refine ⟨rfl, ?_, fun _ => nofun, id, fun _ tab => absurd (tab m there) prepaid⟩
  dsimp only
  rw [there]
  exact congrArg some account

theorem playsOn_park (mask : WakeMask) (cause : ParkCause) (notOpen : s.session l ≠ .opened) :
    (s.lane l).playsOn ((s.park l mask cause).lane l) := by
  have withdrawn (u : Supervisor) : u.withdrawn.servicePower = u.servicePower := by
    cases state : u.state <;> simp [Supervisor.withdrawn, state]
  unfold State.park
  split
  · rw [State.updSession, lane_updLane_same]
    exact ⟨rfl, rfl, id, id, fun h _ => h⟩
  · rw [lane_enterParked]
    exact ⟨rfl, rfl, fun _ => nofun, fun _ => withdrawn _, fun isOpen => absurd isOpen notOpen⟩

theorem playsOn_zeroBackGrace (s : State) (l : Fin 16) : (s.lane l).playsOn ((s.zeroBackGrace l).lane l) := by
  unfold State.zeroBackGrace State.parkExhausted
  split
  · split
    next ended => exact playsOn_park _ _ (by rw [ended.1]; nofun)
    next => exact playsOn_refl _
  · exact playsOn_refl _

theorem playsOn_launch (s : State) (l : Fin 16) (i : Fin 12) :
    (s.lane l).playsOn (((s.becomeUp l i).startGame l i).lane l) :=
  playsOn_trans (playsOn_becomeUp s l i) (playsOn_startGame ..)

theorem playsOn_askGame (s : State) (l : Fin 16) (i : Fin 12) : (s.lane l).playsOn ((s.askGame l i).lane l) := by
  unfold State.askGame
  split
  · exact playsOn_refl _
  next m there =>
    split
    next paid asked => exact playsOn_trans (playsOn_setMeter there (account_askGame asked)) (playsOn_launch _ l i)
    next declined =>
      refine playsOn_trans (playsOn_declined (new := m.decline .game s.billing.back) there rfl fun tab => ?_)
        (playsOn_zeroBackGrace _ l)
      exact askGame_tab tab _ declined

theorem playsOn_raiseHead (s : State) (l : Fin 16) (i : Fin 12) : (s.lane l).playsOn ((s.raiseHead l i).lane l) := by
  unfold State.raiseHead
  split
  · exact playsOn_becomeUp ..
  · exact playsOn_becomeUp ..
  · split
    · split
      · have launched := playsOn_launch (s.updTurn (pairOf l) fun v => v.setPaid (sideOf l) false) l i
        rwa [lane_updTurn] at launched
      · exact playsOn_askGame ..
    · exact playsOn_refl _

theorem playsOn_headRules (s : State) (l : Fin 16) : (s.lane l).playsOn ((s.headRules l).lane l) := by
  simp only [State.headRules]
  split
  · exact playsOn_refl _
  · split
    · exact playsOn_refl _
    · split
      · rw [lane_updTurn]
        exact playsOn_refl _
      next i _ _ =>
        split
        · rw [lane_updTurn]
          exact playsOn_refl _
        · have raised := playsOn_raiseHead (s.updTurn (pairOf l) fun v => v.setQueue (sideOf l)
            (passAway (fun i => (s.turn (pairOf l)).slots[i].away) ((s.turn (pairOf l)).queue (sideOf l)))) l i
          rwa [lane_updTurn] at raised

theorem playsOn_startUnit (s : State) (l : Fin 16) : (s.lane l).playsOn ((s.startUnit l).lane l) := by
  simp only [State.startUnit]
  split
  · exact playsOn_refl _
  next m there =>
    have account := account_startUnit m (s.priceOf l).unit s.billing.unit s.billing.back
    split
    next declined =>
      refine playsOn_declined there account fun tab => ?_
      rw [startUnit_tab tab] at declined
      cases declined
    next => exact playsOn_setMeter there account

theorem playsOn_resumeMachines (s : State) (l : Fin 16) : (s.lane l).playsOn ((s.resumeMachines l).lane l) := by
  have granted (u : Supervisor) (warmUp : Nat) : (u.granted warmUp).servicePower = u.servicePower := by
    unfold Supervisor.granted
    split <;> rfl
  have steady : ((s.resumeMachines l).lane l).sup.steady = ((s.lane l).sup.granted s.timers.warmUp).steady := by
    rw [State.resumeMachines, steady_liftLaneOpen, sup_grantPower]
  have power : ((s.resumeMachines l).lane l).sup.servicePower =
      ((s.lane l).sup.granted s.timers.warmUp).servicePower := power_of_steady steady
  rw [granted] at power
  exact playsOn_of_parts (by simp) (by simp) power

end Sys2Proof.Machine
end

section
/-! PROOFS. OPEN LANE (R3, R56, R60, R157). -/

namespace Sys2Proof.Machine

variable {s t u : State} {l k : Fin 16} {p : Fin 8} {i : Fin 12} {m : Meter}

/-! ## The rules of a lane where nobody is queued -/

/-- The head rules of an empty queue change nothing but event flags (R72). -/
theorem headRules_nobody (nobody : s.nobodyQueued l) :
    (∀ j, (s.headRules l).lane j = s.lane j) ∧ (s.headRules l).turn (pairOf l) = s.turn (pairOf l) ∧
      (s.headRules l).directory = s.directory := by
  have nobody : (s.turn (pairOf l)).queue (sideOf l) = [] := nobody
  have same : (s.turn (pairOf l)).setQueue (sideOf l) [] = s.turn (pairOf l) := by
    rw [← nobody]
    cases sideOf l <;> rfl
  simp only [State.headRules, nobody, passAway, List.dropWhile_nil, List.isEmpty_nil, if_true]
  split
  · exact ⟨fun _ => rfl, rfl, rfl⟩
  · split
    · exact ⟨fun _ => rfl, rfl, rfl⟩
    · exact ⟨fun j => lane_updTurn .., by rw [turn_updTurn_same, same], directory_updTurn ..⟩

theorem zeroBackGrace_open (isOpen : s.session l = .opened) : s.zeroBackGrace l = s := by
  unfold State.zeroBackGrace
  split
  · exact if_neg fun ended => by rw [isOpen] at ended; exact nomatch ended.1
  · rfl

/-! ## Power and lift -/

/-- The own lane of a waking lane: power is granted, and a stalled lift may sound its horn. -/
theorem lane_resumeMachines (s : State) (l : Fin 16) :
    (s.resumeMachines l).lane l =
      { s.lane l with
        sup := { (s.lane l).sup.granted s.timers.warmUp with horn := ((s.resumeMachines l).lane l).sup.horn } } := by
  have granted : (s.grantPower l).lane l = { s.lane l with sup := (s.lane l).sup.granted s.timers.warmUp } := by
    have sup := sup_grantPower s l
    have parts (a b : Lane) (session : a.session = b.session) (sup : a.sup = b.sup) (snapshot : a.snapshot = b.snapshot)
        (meter : a.meter = b.meter) (out : a.out = b.out) : a = b := by
      cases a; cases b; simp_all
    exact parts _ _ (by simp) sup (by simp) (by simp) (by simp)
  have opened : (s.grantPower l).sameLaneButHorn (s.resumeMachines l) l :=
    sameLaneButHorn_iff.mpr (silent_lane_liftLaneOpen ..)
  rw [State.sameLaneButHorn, granted] at opened
  exact opened

/-- A lift that is not stalled by its start raises no call (R56). -/
theorem pool_resumeMachines (light : (s.ret (pairOf l)).overload = false) : (s.resumeMachines l).pool = s.pool := by
  have started (t : State) (light : (t.ret (pairOf l)).overload = false) : (t.startLift (pairOf l)).pool = t.pool := by
    unfold State.startLift
    split
    · rw [light]
      rfl
    · rfl
  rw [State.resumeMachines, State.liftLaneOpen, pool_idleRule, started _ (by rw [ret_grantPower, light]), pool_grantPower]

/-! ## The lane opened -/

section
variable (s l) (kind : MeterKind) (mode : MeterMode) (credit cls : Nat)

/-- The session record and the meter of a lane that opens, and its own power off, before power and lift start. -/
def State.opening : State :=
  ((s.updSession l fun n => n.open cls).beginMeter l kind mode credit).modSup l fun u => { u with servicePower := false }

theorem openLane_eq : s.openLane l kind mode credit cls =
    ((((s.opening l kind mode credit cls).resumeMachines l).headRules l)).zeroBackGrace l := rfl

/-- The record of a lane as it opens, before a front grace of 0 ends. -/
def Lane.opening (a : Lane) (front : Nat) : Lane :=
  { a with session := a.session.open cls, meter := some (Meter.fresh kind mode credit front) }

theorem playsOn_opening :
    ((s.lane l).opening kind mode credit cls s.billing.front).playsOn ((s.opening l kind mode credit cls).lane l) ∧
      ((s.opening l kind mode credit cls).lane l).sup.servicePower = false := by
  have start : (((s.updSession l fun n => n.open cls).modLane l fun a =>
      { a with meter := some (Meter.fresh kind mode credit (s.updSession l fun n => n.open cls).billing.front) }).lane l) =
      (s.lane l).opening kind mode credit cls s.billing.front := by
    rw [lane_modLane, if_pos rfl, State.updSession, lane_updLane_same, billing_of_chip (s := s) (by simp)]
    rfl
  have begun : ((s.lane l).opening kind mode credit cls s.billing.front).playsOn
      (((s.updSession l fun n => n.open cls).beginMeter l kind mode credit).lane l) := by
    unfold State.beginMeter
    dsimp only
    rw [← start]
    split
    · exact playsOn_startUnit _ l
    · exact playsOn_refl _
  have off : (s.opening l kind mode credit cls).lane l =
      { ((s.updSession l fun n => n.open cls).beginMeter l kind mode credit).lane l with
        sup := { (((s.updSession l fun n => n.open cls).beginMeter l kind mode credit).lane l).sup with
          servicePower := false } } := by
    rw [State.opening, State.modSup, lane_modLane, if_pos rfl]
  rw [off]
  exact ⟨⟨begun.settings, begun.account, begun.notClosed, fun _ => rfl, begun.tab⟩, rfl⟩

theorem running_opening : (s.opening l kind mode credit cls).running l = true := by
  have isOpen : (s.updSession l fun n => n.open cls).running l = true := by
    rw [State.running, State.session, record_updSession, if_pos rfl]
    rfl
  have same : (s.opening l kind mode credit cls).running l =
      ((s.updSession l fun n => n.open cls).beginMeter l kind mode credit).running l := by
    rw [State.running, State.running, State.opening, session_modSup]
  rw [same]
  unfold State.beginMeter
  dsimp only
  have metered (m : Meter) : ((s.updSession l fun n => n.open cls).modLane l fun a => { a with meter := some m }).running l =
      true := by
    rw [State.running, State.session, lane_modLane, if_pos rfl]
    exact isOpen
  split
  · exact running_startUnit (metered _)
  · exact metered _

theorem rests_openLane : (s.openLane l kind mode credit cls).rests (pairOf l) (s.ret (pairOf l)).awake := by
  have machines := rests_resumeMachines (running_opening s l kind mode credit cls)
  have ret : (s.opening l kind mode credit cls).ret (pairOf l) = s.ret (pairOf l) := by simp [State.opening]
  have timer : (s.ret (pairOf l)).awake.idle = none := rfl
  rw [ret] at machines
  rw [openLane_eq]
  generalize s.opening l kind mode credit cls = b at *
  exact rests_zeroBackGrace (rests_headRules machines timer) timer

theorem playsOn_openLane :
    ((s.lane l).opening kind mode credit cls s.billing.front).playsOn ((s.openLane l kind mode credit cls).lane l) ∧
      ((s.openLane l kind mode credit cls).lane l).sup.servicePower = false := by
  obtain ⟨opens, off⟩ := playsOn_opening s l kind mode credit cls
  have rules (b : State) : (b.lane l).playsOn ((((b.resumeMachines l).headRules l).zeroBackGrace l).lane l) :=
    playsOn_trans (playsOn_trans (playsOn_resumeMachines b l) (playsOn_headRules _ l)) (playsOn_zeroBackGrace _ l)
  rw [openLane_eq]
  exact ⟨playsOn_trans opens (rules _), (rules _).power off⟩

theorem pool_openLane (light : (s.ret (pairOf l)).overload = false) : (s.openLane l kind mode credit cls).pool = s.pool := by
  rw [openLane_eq, pool_zeroBackGrace, pool_headRules, pool_resumeMachines (by simpa [State.opening] using light)]
  simp [State.opening]

theorem laneOther_opening {k : Fin 16} (other : k ≠ l) : (s.opening l kind mode credit cls).lane k = s.lane k := by
  simp [State.opening, other]

theorem silent_openLane {k : Fin 16} (other : k ≠ l) :
    ((s.openLane l kind mode credit cls).lane k).silent = (s.lane k).silent := by
  rw [openLane_eq, laneOther_zeroBackGrace _ _ _ other, laneOther_headRules _ _ _ other, silent_lane_resumeMachines _ other,
    laneOther_opening s l kind mode credit cls other]

theorem far_openLane {k : Fin 16} (far : pairOf k ≠ pairOf l) :
    (s.openLane l kind mode credit cls).lane k = s.lane k := by
  have other : k ≠ l := fun e => far (congrArg pairOf e)
  rw [openLane_eq, laneOther_zeroBackGrace _ _ _ other, laneOther_headRules _ _ _ other, far_resumeMachines _ far,
    laneOther_opening s l kind mode credit cls other]

theorem records_openLane : (s.openLane l kind mode credit cls).records = s.records := by
  rw [openLane_eq, records_of_directory (directory_zeroBackGrace ..), records_headRules,
    records_of_directory (directory_resumeMachines ..)]
  exact records_of_directory (by simp [State.opening])

end

end Sys2Proof.Machine
end

section
/-! PROOFS. OPEN LANE as it is served (R3). -/

namespace Sys2Proof.Machine

variable {s t u : State} {l : Fin 16}

@[simp] theorem session_replying (s : State) (q : Port) (code : Byte) (o : ReplyOutcome) (results : List Byte) (k : Fin 16) :
    (s.replying q code o results).session k = s.session k := by
  rw [State.session, State.session, lane_replying]

/-- The reply to a request leaves a pair's Return Monitor at rest. -/
theorem rests_replying {p : Fin 8} {r : ReturnMonitor} (h : s.rests p r) (q : Port) (code : Byte) (o : ReplyOutcome)
    (results : List Byte) : (s.replying q code o results).rests p r :=
  rests_congr_session h (by simp) (by simp) fun k => by simp [State.session]

theorem sameLaneButHorn_replying {k : Fin 16} (h : (t.lane k).silent = (s.lane k).silent) (q : Port) (code : Byte)
    (o : ReplyOutcome) (results : List Byte) : s.sameLaneButHorn (t.replying q code o results) k :=
  sameLaneButHorn_iff.mpr (by rw [lane_replying, h])

theorem exec_openLane {kind mode credit cls : Nat} (able : s.canServe .dk) (closed : s.session l = .closed)
    (set : s.clock.unset = false) (kinds : kind ≤ 1) (modes : mode ≤ 1) (classes : cls ≤ 3)
    (fits : creditOut mode credit = false) :
    exec (.openLane .dk (laneNo l) kind mode credit cls) s =
      .next ((s.openLane l (meterKindOf kind) (meterModeOf mode) credit cls).replying .dk 0x10 .ok []) := by
  have taken := exec_ok (i := .openLane .dk (laneNo l) kind mode credit cls) rfl able.1 rfl (by
    rw [inLanes_laneNo, decide_eq_false (Nat.not_lt.mpr kinds), decide_eq_false (Nat.not_lt.mpr modes),
      decide_eq_false (Nat.not_lt.mpr classes), fits, able.2, laneIx_laneNo, set, closed]; rfl)
  rwa [laneIx_laneNo] at taken

theorem flagged_openLane (closed : s.session l = .closed) (kind : MeterKind) (mode : MeterMode) (credit cls : Nat) :
    (s.openLane l kind mode credit cls).flagged (.console (pairOf l)) 3 := by
  have opens : (s.updSession l fun n => n.open cls).flagged (.console (pairOf l)) 3 :=
    flagged_updSession_changed fun same => by
      rw [show (s.lane l).session.state = .closed from closed] at same
      cases same
  have begun : ((s.updSession l fun n => n.open cls).beginMeter l kind mode credit).flagged (.console (pairOf l)) 3 := by
    unfold State.beginMeter
    dsimp only
    split
    · exact flagged_startUnit (s := (s.updSession l fun n => n.open cls).modLane l _) opens l
    · exact opens
  have opening : (s.opening l kind mode credit cls).flagged (.console (pairOf l)) 3 := begun
  rw [openLane_eq]
  generalize s.opening l kind mode credit cls = b at *
  exact flagged_zeroBackGrace (flagged_headRules (flagged_resumeMachines opening l) l) l

/-- A meter that begins without a unit that starts at once. -/
theorem beginMeter_waits {kind : MeterKind} (waits : kind = .games ∨ s.billing.front ≠ 0) (mode : MeterMode) (credit : Nat) :
    s.beginMeter l kind mode credit =
      s.modLane l fun a => { a with meter := some (Meter.fresh kind mode credit s.billing.front) } := by
  refine if_neg ?_
  rintro ⟨rfl, ended⟩
  rcases waits with games | some
  · cases games
  · exact some ended

/-- A lane opened where nobody is queued and no unit starts at once (R3, R157). -/
theorem openLane_nobody {kind : MeterKind} {mode : MeterMode} {credit cls : Nat} (nobody : s.nobodyQueued l)
    (waits : kind = .games ∨ s.billing.front ≠ 0) :
    (s.openLane l kind mode credit cls).lane l =
        { s.lane l with
          session := (s.lane l).session.open cls
          meter := some (Meter.fresh kind mode credit s.billing.front)
          sup := { ({ (s.lane l).sup with servicePower := false }.granted s.timers.warmUp) with
            horn := ((s.openLane l kind mode credit cls).lane l).sup.horn } } ∧
      (s.openLane l kind mode credit cls).turn (pairOf l) = s.turn (pairOf l) ∧
      (s.openLane l kind mode credit cls).directory = s.directory := by
  have kept : (s.opening l kind mode credit cls).chip = s.chip ∧
      (s.opening l kind mode credit cls).turn (pairOf l) = s.turn (pairOf l) ∧
      (s.opening l kind mode credit cls).directory = s.directory := by
    refine ⟨by simp [State.opening], by simp [State.opening], by simp [State.opening]⟩
  have lane : (s.opening l kind mode credit cls).lane l =
      { s.lane l with
        session := (s.lane l).session.open cls
        meter := some (Meter.fresh kind mode credit s.billing.front)
        sup := { (s.lane l).sup with servicePower := false } } := by
    have billing : (s.updSession l fun n => n.open cls).billing = s.billing := billing_of_chip (by simp)
    rw [State.opening, State.modSup, lane_modLane, if_pos rfl, beginMeter_waits (by rwa [billing]), billing, lane_modLane,
      if_pos rfl, State.updSession, lane_updLane_same]
  have isOpen : (s.opening l kind mode credit cls).session l = .opened := by
    rw [State.session, lane]
    rfl
  rw [openLane_eq]
  generalize s.opening l kind mode credit cls = b at *
  obtain ⟨chip, turn, directory⟩ := kept
  have nobody : (b.resumeMachines l).nobodyQueued l := by
    rw [State.nobodyQueued, turn_resumeMachines, turn]
    exact nobody
  obtain ⟨lanes, turns, dir⟩ := headRules_nobody nobody
  have stays : ((b.resumeMachines l).headRules l).session l = .opened := by
    rw [State.session, lanes, record_resumeMachines]
    exact isOpen
  have own := lane_resumeMachines b l
  rw [zeroBackGrace_open stays, lanes, turns, dir, turn_resumeMachines, directory_resumeMachines]
  refine ⟨?_, turn, directory⟩
  rw [lane, timers_of_chip chip] at own
  exact own

/-- Settles O13, by the record that opens, the rules that run on it, and the lift that starts. -/
theorem openLaneOpens : Obligations.OpenLaneOpens := by
  unfold Obligations.OpenLaneOpens
  intro l kind mode credit cls s able closed set kinds modes classes fits
  refine ⟨_, exec_openLane able closed set kinds modes classes fits, ?_⟩
  obtain ⟨plays, off⟩ := playsOn_openLane s l (meterKindOf kind) (meterModeOf mode) credit cls
  have rests := rests_openLane s l (meterKindOf kind) (meterModeOf mode) credit cls
  have silent (k : Fin 16) (other : k ≠ l) := silent_openLane s l (meterKindOf kind) (meterModeOf mode) credit cls other
  have records := records_openLane s l (meterKindOf kind) (meterModeOf mode) credit cls
  have told := flagged_openLane closed (meterKindOf kind) (meterModeOf mode) credit cls
  have pool := pool_openLane s l (meterKindOf kind) (meterModeOf mode) credit cls
  have far (k : Fin 16) (h : pairOf k ≠ pairOf l) := far_openLane s l (meterKindOf kind) (meterModeOf mode) credit cls h
  have quiet := openLane_nobody (s := s) (l := l) (kind := meterKindOf kind) (mode := meterModeOf mode) (credit := credit)
    (cls := cls)
  have line (q : Port) := line_openLane s l (meterKindOf kind) (meterModeOf mode) credit cls q
  have chip := chip_openLane s l (meterKindOf kind) (meterModeOf mode) credit cls
  have pair (w : Fin 8) (h : w ≠ pairOf l) := pairOther_openLane s l (meterKindOf kind) (meterModeOf mode) credit cls w h
  generalize s.openLane l (meterKindOf kind) (meterModeOf mode) credit cls = t at *
  refine ⟨answers_replying line _ _ _ _, by simp [chip], sameRecords_iff.mpr ?_, ?_, ?_, ?_, ?_, flagged_replying told _ _ _ _,
    rests_replying rests _ _ _ _, fun light => ?_, fun w other => ?_, fun k other => ?_,
    sameLaneButHorn_replying (silent _ (otherLane_ne l)) _ _ _ _, fun nobody waits => ?_⟩
  · rw [← records]
    exact records_of_directory (by simp)
  · rw [lane_replying, plays.settings]
    rfl
  · rw [lane_replying]
    obtain ⟨m, there, same⟩ := Option.map_eq_some_iff.mp plays.account
    simp only [Meter.account, Prod.mk.injEq] at same
    exact ⟨m, there, same.1, same.2.1, same.2.2⟩
  · rw [session_replying]
    have notClosed : t.session l ≠ .closed := plays.notClosed nofun
    by_cases prepaid : mode = 0
    · cases session : t.session l with
      | opened => exact Or.inl rfl
      | closing => exact Or.inr ⟨prepaid, Or.inl rfl⟩
      | parked => exact Or.inr ⟨prepaid, Or.inr rfl⟩
      | closed => exact absurd session notClosed
    · refine Or.inl (plays.tab rfl fun m there => ?_)
      obtain rfl := Option.some.inj there
      exact if_neg prepaid
  · rw [lane_replying, off]
  · rw [pool_replying, pool light]
  · rw [pair_replying, pair w (by simpa using other)]
  · rw [lane_replying, far k fun beside => other (by simpa using (lane_of_pair l k).mp beside)]
  · obtain ⟨lane, turn, directory⟩ := quiet nobody (waits.imp (fun games => if_pos games) id)
    simp only [lane_replying, turn_replying, directory_replying]
    exact ⟨(congrArg (fun a : Lane => a.session) lane :), (congrArg (fun a : Lane => a.meter) lane :),
      (congrArg (fun a : Lane => a.sup) lane :), turn, directory⟩

end Sys2Proof.Machine
end

section
/-! SUPPORT. Slots cleared (R68, R145): the queues they leave, the slots whose numbers take the room they leave in the fetch
queue, and the snapshots that name them. -/

namespace Sys2Proof.Machine

variable {s t u : State} {l k : Fin 16} {i j : Fin 12} {p q : Fin 8} {x y z : Slot}

/-! ## Numbers that take the room in the fetch queue (R135) -/

/-- A slot that stays, or whose deferred number has joined the fetch queue. -/
def Slot.fetchesTo (x y : Slot) : Prop := y = x ∨ x.fetch = .deferred ∧ y = { x with fetch := .requested }

theorem fetchesTo_trans (h : x.fetchesTo y) (g : y.fetchesTo z) : x.fetchesTo z := by
  rcases h with rfl | ⟨deferred, rfl⟩
  · exact g
  · rcases g with rfl | ⟨again, -⟩
    · exact Or.inr ⟨deferred, rfl⟩
    · cases again

/-- A slot that waits for no number stays. -/
theorem eq_of_fetchesTo (h : x.fetchesTo y) (done : x.fetch ≠ .deferred) : y = x :=
  h.resolve_right fun both => done both.1

theorem butFetch_of_fetchesTo (h : x.fetchesTo y) : y = { x with fetch := y.fetch } := by
  rcases h with rfl | ⟨-, rfl⟩ <;> rfl

theorem state_of_fetchesTo (h : x.fetchesTo y) : y.state = x.state := by
  rcases h with rfl | ⟨-, rfl⟩ <;> rfl

/-- Deferred numbers of `s` have joined the fetch queue in `t`, and the turns are the same apart from that. -/
def State.fetchesTo (s t : State) : Prop :=
  ∀ q, t.turn q = { s.turn q with slots := (t.turn q).slots } ∧ ∀ j, (s.slot q j).fetchesTo (t.slot q j)

theorem fetches_of_turn (h : ∀ q, t.turn q = s.turn q) : s.fetchesTo t :=
  fun q => ⟨by rw [h], fun j => Or.inl (slot_of_turn (h q) j)⟩

theorem fetches_trans (h : s.fetchesTo t) (g : t.fetchesTo u) : s.fetchesTo u := fun q =>
  ⟨by rw [(g q).1, (h q).1], fun j => fetchesTo_trans ((h q).2 j) ((g q).2 j)⟩

theorem firstDeferred_some {a : Fin 8 × Fin 12} (h : s.firstDeferred = some a) : (s.slot a.1 a.2).fetch = .deferred := by
  have found := List.find?_some h
  simpa using found

/-- A deferred number that joins the fetch queue. -/
theorem fetches_updSlot (deferred : (s.slot p i).fetch = .deferred) :
    s.fetchesTo (s.updSlot p i fun x => { x with fetch := .requested }) := by
  intro q
  refine ⟨?_, fun j => ?_⟩
  · rw [State.updSlot, turn_updTurn]
    split <;> rfl
  · rw [slot_updSlot]
    split
    next here => rw [here.1, here.2]; exact Or.inr ⟨deferred, rfl⟩
    next => exact Or.inl rfl

theorem fetches_fillFetch (s : State) (fuel : Nat) : s.fetchesTo (s.fillFetch fuel) := by
  induction fuel generalizing s with
  | zero => exact fetches_of_turn fun _ => rfl
  | succ fuel ih =>
    unfold State.fillFetch
    split
    · split
      next p i first =>
        have joined := fetches_updSlot (s := s.joinFetch ((s.slot p i).bowler.getD 0)) (p := p) (i := i)
          (firstDeferred_some first)
        have turns : s.fetchesTo (s.joinFetch ((s.slot p i).bowler.getD 0)) := fetches_of_turn fun _ => rfl
        exact fetches_trans (fetches_trans turns joined) (ih _)
      next => exact fetches_of_turn fun _ => rfl
    · exact fetches_of_turn fun _ => rfl

theorem fetches_leaveFetch (s : State) (number : Nat) : s.fetchesTo (s.leaveFetch number) := by
  unfold State.leaveFetch
  split
  · have left : s.fetchesTo (s.modDirectory fun d => { d with fetch := d.fetch.filter (· != number) }) :=
      fetches_of_turn fun _ => rfl
    exact fetches_trans left (fetches_fillFetch _ _)
  · exact fetches_of_turn fun _ => rfl

theorem fetches_releaseNumber (s : State) (p : Fin 8) (i : Fin 12) : s.fetchesTo (s.releaseNumber p i) := by
  unfold State.releaseNumber
  split
  · split
    · exact fetches_of_turn fun _ => rfl
    · exact fetches_of_turn fun _ => rfl
  · exact fetches_leaveFetch _ _
  · exact fetches_of_turn fun _ => rfl

/-- The lock of an entry is no part of its record. -/
theorem records_unlocked (s : State) (k : Fin 112) (b : Bool) :
    (s.modDirectory fun d => d.modEntry k fun e => { e with locked := b }).records = s.records := by
  have entries : ((s.directory.entries.set k { s.directory.entries[k] with locked := b }).map fun e =>
      { e with locked := false }) = s.directory.entries.map fun e => { e with locked := false } := by
    refine Vector.ext fun n bound => ?_
    rw [Vector.getElem_map, Vector.getElem_map, Vector.getElem_set]
    split
    next same => subst same; rfl
    next => rfl
  exact congrArg (Prod.mk s.directory.ranges) entries

theorem records_releaseNumber (s : State) (p : Fin 8) (i : Fin 12) : (s.releaseNumber p i).records = s.records := by
  unfold State.releaseNumber
  split
  · split
    next k _ => exact records_unlocked s k false
    · rfl
  · rw [records_leaveFetch]
  · rfl

/-! ## Snapshots that name a slot -/

theorem odd_ne_even (p : Fin 8) : laneAt p .odd ≠ laneAt p .even := by
  revert p
  decide

/-- A snapshot is made invalid where it names a slot of the pair. -/
theorem lane_dropSnapshotsOf (s : State) (p : Fin 8) (i : Fin 12) (k : Fin 16) :
    (s.dropSnapshotsOf p i).lane k =
      if pairOf k = p ∧ (s.lane k).snapshot.any (·.slot == i) = true then { s.lane k with snapshot := none }
      else s.lane k := by
  have ofPair : pairOf k = p ↔ k = laneAt p .odd ∨ k = laneAt p .even := pairOf_eq_iff k p
  have apart := odd_ne_even p
  have kept : ((s.dropSnapshotOf (laneAt p .odd) i).lane (laneAt p .even)) = s.lane (laneAt p .even) := by
    rw [lane_dropSnapshotOf, if_neg fun both => apart both.1.symm]
  rw [State.dropSnapshotsOf, lane_dropSnapshotOf, kept, lane_dropSnapshotOf]
  simp only [ofPair]
  by_cases odd : k = laneAt p .odd
  · subst odd
    simp [apart]
  · by_cases even : k = laneAt p .even
    · subst even
      simp [apart.symm]
    · simp [odd, even]

/-- A lane whose snapshot stays or is made invalid. -/
theorem sameLaneButSnapshot_iff : s.sameLaneButSnapshot t k ↔
    { t.lane k with snapshot := none } = { s.lane k with snapshot := none } := by
  unfold State.sameLaneButSnapshot
  constructor
  · intro same
    rw [same]
  · intro same
    have whole (a : Lane) : a = { ({ a with snapshot := none } : Lane) with snapshot := a.snapshot } := rfl
    conv_lhs => rw [whole (t.lane k), same]

theorem sameLaneButSnapshot_trans (h : s.sameLaneButSnapshot t k) (g : t.sameLaneButSnapshot u k) :
    s.sameLaneButSnapshot u k := by
  rw [sameLaneButSnapshot_iff] at *
  rw [g, h]

/-! ## Slots cleared -/

/-- In `t` the slots of pair `p` that `gone` names are cleared; every other slot, queue and lane of `s` is the same, but
for numbers that join the fetch queue and snapshots that are dropped. -/
structure State.vacates (s t : State) (p : Fin 8) (gone : Fin 12 → Bool) : Prop where
  cleared : ∀ j, gone j = true → t.slot p j = Slot.empty
  others : ∀ q j, (q = p → gone j = false) → (s.slot q j).fetchesTo (t.slot q j)
  queue : ∀ sd, (t.turn p).queue sd = ((s.turn p).queue sd).filter fun j => !gone j
  own : t.turn p = { s.turn p with
    queueOdd := (t.turn p).queueOdd, queueEven := (t.turn p).queueEven, slots := (t.turn p).slots }
  away : ∀ q, q ≠ p → t.turn q = { s.turn q with slots := (t.turn q).slots }
  lanes : ∀ k, t.lane k = s.lane k ∨ t.lane k = { s.lane k with snapshot := none }
  far : ∀ k, pairOf k ≠ p → t.lane k = s.lane k
  records : t.records = s.records

theorem vacates_congr {g g' : Fin 12 → Bool} (h : s.vacates t p g) (same : ∀ j, g' j = g j) : s.vacates t p g' := by
  rwa [show g' = g from funext same]

theorem vacates_refl (s : State) (p : Fin 8) : s.vacates s p fun _ => false :=
  ⟨nofun, fun _ _ _ => Or.inl rfl, fun _ => by simp, rfl, fun _ _ => rfl, fun _ => Or.inl rfl, fun _ _ => rfl, rfl⟩

theorem vacates_trans {g g' : Fin 12 → Bool} (h : s.vacates t p g) (h' : t.vacates u p g') :
    s.vacates u p fun j => g j || g' j where
  cleared j gone := by
    cases late : g' j with
    | true => exact h'.cleared j late
    | false =>
      have early : g j = true := by simpa [late] using gone
      have empty := h.cleared j early
      have kept := h'.others p j fun _ => late
      rw [empty] at kept
      exact eq_of_fetchesTo kept nofun
  others q j stays := by
    have early (e : q = p) : g j = false := by have := stays e; simp_all
    have late (e : q = p) : g' j = false := by have := stays e; simp_all
    exact fetchesTo_trans (h.others q j early) (h'.others q j late)
  queue sd := by
    rw [h'.queue, h.queue, List.filter_filter]
    exact List.filter_congr fun j _ => by simp [Bool.and_comm]
  own := by rw [h'.own, h.own]
  away q other := by rw [h'.away q other, h.away q other]
  lanes k := by
    rcases h'.lanes k with same | dropped
    · rw [same]
      exact h.lanes k
    · refine Or.inr ?_
      rcases h.lanes k with same | gone
      · rw [dropped, same]
      · rw [dropped, gone]
  far k other := by rw [h'.far k other, h.far k other]
  records := by rw [h'.records, h.records]

theorem sameLaneButSnapshot_vacates {gone : Fin 12 → Bool} (h : s.vacates t p gone) (k : Fin 16) :
    s.sameLaneButSnapshot t k := by
  unfold State.sameLaneButSnapshot
  rcases h.lanes k with same | dropped
  · rw [same]
  · rw [dropped]

/-- The steps of a clear: the turn leaves its queue, the number is released, the slot is empty, and the snapshots that name
it are dropped. -/
theorem vacates_clearSlot (s : State) (p : Fin 8) (i : Fin 12) : s.vacates (s.clearSlot p i) p fun j => j == i := by
  have moved : (s.updTurn p fun v => v.moveTurn i none v.slots[i].state).turn p =
      (s.turn p).moveTurn i none (s.turn p).slots[i].state := turn_updTurn_same ..
  have apart (q : Fin 8) (other : q ≠ p) :
      (s.updTurn p fun v => v.moveTurn i none v.slots[i].state).turn q = s.turn q := by rw [turn_updTurn, if_neg other]
  have slots (q : Fin 8) (j : Fin 12) :
      (s.updTurn p fun v => v.moveTurn i none v.slots[i].state).slot q j = s.slot q j := by
    by_cases here : q = p
    · subst here
      rw [State.slot, moved, slots_moveTurn]
      split
      next same => subst same; rfl
      next => rfl
    · exact slot_of_turn (apart q here) j
  have freed := fetches_releaseNumber (s.updTurn p fun v => v.moveTurn i none v.slots[i].state) p i
  have records : ((s.updTurn p fun v => v.moveTurn i none v.slots[i].state).releaseNumber p i).records = s.records := by
    rw [records_releaseNumber, records_updTurn]
  have lanes (k : Fin 16) :
      ((s.updTurn p fun v => v.moveTurn i none v.slots[i].state).releaseNumber p i).lane k = s.lane k := by simp
  have unfolded : s.clearSlot p i =
      ((((s.updTurn p fun v => v.moveTurn i none v.slots[i].state).releaseNumber p i).updSlot p i fun _ =>
        Slot.empty).dropSnapshotsOf p i).flagConsole p .frameChanged := rfl
  rw [unfolded]
  generalize (s.updTurn p fun v => v.moveTurn i none v.slots[i].state).releaseNumber p i = b at *
  have turn (q : Fin 8) : (((b.updSlot p i fun _ => Slot.empty).dropSnapshotsOf p i).flagConsole p .frameChanged).turn q =
      (b.updSlot p i fun _ => Slot.empty).turn q := by simp
  have lane (k : Fin 16) : (((b.updSlot p i fun _ => Slot.empty).dropSnapshotsOf p i).flagConsole p .frameChanged).lane k =
      ((b.updSlot p i fun _ => Slot.empty).dropSnapshotsOf p i).lane k := by simp
  have kept (k : Fin 16) : (b.updSlot p i fun _ => Slot.empty).lane k = s.lane k := by rw [lane_updSlot, lanes]
  have modes := mode_moveTurn (s.turn p) i none (s.turn p).slots[i].state
  refine ⟨fun j gone => ?_, fun q j stays => ?_, fun sd => ?_, ?_, fun q other => ?_, fun k => ?_, fun k far => ?_, ?_⟩
  · obtain rfl : j = i := by simpa using gone
    rw [slot_of_turn (turn p), slot_updSlot_same]
  · have stays : ¬ (q = p ∧ j = i) := fun both => by simpa [both.2] using stays both.1
    rw [slot_of_turn (turn q), slot_updSlot, if_neg stays, ← slots]
    exact (freed q).2 j
  · rw [turn, turn_updSlot, queue_modSlot, (freed p).1]
    have same (v : TurnUnit) (slots : Vector Slot 12) : ({ v with slots := slots } : TurnUnit).queue sd = v.queue sd := by
      cases sd <;> rfl
    rw [same, moved, queue_moveTurn]
    simp [bne]
  · have own : b.turn p = { s.turn p with
        queueOdd := (b.turn p).queueOdd, queueEven := (b.turn p).queueEven, slots := (b.turn p).slots } := by
      rw [(freed p).1, moved]
      rfl
    rw [turn, turn_updSlot]
    conv_lhs => rw [own]
    rfl
  · rw [turn, State.updSlot, turn_updTurn, if_neg other, (freed q).1, apart q other]
  · rw [lane, lane_dropSnapshotsOf, kept]
    split
    · exact Or.inr rfl
    · exact Or.inl rfl
  · rw [lane, lane_dropSnapshotsOf, if_neg fun both => far both.1, kept]
  · rw [← records]
    exact records_of_directory (by simp)

/-- The slots with a bowler are cleared, whichever slots are gone through. -/
theorem vacates_foldl (s : State) (p : Fin 8) (list : List (Fin 12)) :
    s.vacates (list.foldl (fun s i => s.vacate p i) s) p fun j => list.contains j && (s.slot p j).state != .empty := by
  induction list generalizing s with
  | nil => exact vacates_congr (vacates_refl s p) fun j => by simp
  | cons i list ih =>
    rw [List.foldl_cons]
    by_cases empty : (s.slot p i).state = .empty
    · rw [State.vacate, if_pos empty]
      refine vacates_congr (ih s) fun j => ?_
      by_cases here : j = i
      · subst here
        simp [empty]
      · simp [here]
    · have first := vacates_clearSlot s p i
      rw [State.vacate, if_neg empty]
      refine vacates_congr (vacates_trans first (ih (s.clearSlot p i))) fun j => ?_
      by_cases here : j = i
      · subst here
        simp [empty]
      · have kept : ((s.clearSlot p i).slot p j).state = (s.slot p j).state :=
          state_of_fetchesTo (first.others p j fun _ => by simpa using here)
        simp [here, kept]

end Sys2Proof.Machine
end

section
/-! PROOFS. CLOSE LANE (R4, R5, R6, R60, R145, R167). -/

namespace Sys2Proof.Machine

variable {s t u : State} {l k : Fin 16} {p : Fin 8}

/-! ## What a closing lane leaves of its record -/

/-- The Supervisor of a lane whose session ends: a ball past its DECK is marked, and power is withdrawn (R6). -/
def Supervisor.closed (u : Supervisor) : Supervisor :=
  { u with delivery := u.delivery.map Delivery.closeLane, servicePower := false }.withdrawn

/-- The record of a lane that is closed. -/
def Lane.closed (a : Lane) : Lane :=
  { a with session := a.session.asClosed, sup := a.sup.closed, snapshot := none, meter := none }

theorem lane_endSession (s : State) (l : Fin 16) :
    (s.endSession l).lane l =
      { s.lane l with
        session := (s.lane l).session.asClosed, meter := none
        sup := { (s.lane l).sup with delivery := (s.lane l).sup.delivery.map Delivery.closeLane } } := by
  rw [State.endSession, State.modSup, lane_modLane, if_pos rfl, lane_modLane, if_pos rfl, State.updSession,
    lane_updLane_same]
  rfl

theorem lane_stopMachines (s : State) (l : Fin 16) :
    (s.stopMachines l).lane l =
      { s.lane l with sup := ({ (s.lane l).sup with servicePower := false } : Supervisor).withdrawn, snapshot := none } := by
  rw [State.stopMachines, State.liftLaneStopped, lane_idleRule, State.withdrawPower, State.updSup, lane_updLane_same,
    State.dropSnapshot, lane_modLane, if_pos rfl]

/-- A lane whose session ends and whose power is withdrawn, whatever is done to its snapshot in between. -/
theorem lane_stopped (butSnapshot : (s.endSession l).sameLaneButSnapshot u l) :
    (u.stopMachines l).lane l = (s.lane l).closed := by
  unfold State.sameLaneButSnapshot at butSnapshot
  rw [lane_stopMachines, butSnapshot, lane_endSession]
  rfl

theorem flagged_endSession (inPlay : s.session l ≠ .closed) : (s.endSession l).flagged (.console (pairOf l)) 3 := by
  have closed : (s.updSession l fun n =>
      { n.enter .closed with wakeMask := .empty, parkCause := .none, pendingPark := none }).flagged
        (.console (pairOf l)) 3 := flagged_updSession_changed (Ne.symm inPlay)
  exact closed

/-! ## Flags that stay set -/

section
variable {q : Port} {n : Nat} (h : s.flagged q n)
include h

theorem flagged_fillFetch (fuel : Nat) : (s.fillFetch fuel).flagged q n := by
  induction fuel generalizing s with
  | zero => exact h
  | succ fuel ih =>
    unfold State.fillFetch
    split
    · split
      · exact ih (flagged_updSlot (s := s.joinFetch _) h _ _ _)
      · exact h
    · exact h

theorem flagged_clearSlot (p : Fin 8) (i : Fin 12) : (s.clearSlot p i).flagged q n := by
  have dropped (t : State) (k : Fin 16) (told : t.flagged q n) : (t.dropSnapshotOf k i).flagged q n := by
    unfold State.dropSnapshotOf
    split
    · exact told
    · exact told
  have released (t : State) (told : t.flagged q n) : (t.releaseNumber p i).flagged q n := by
    unfold State.releaseNumber State.leaveFetch
    split
    · split <;> exact told
    · split
      · exact flagged_fillFetch (s := t.modDirectory _) told 16
      · exact told
    · exact told
  exact flagged_flagConsole (dropped _ _ (dropped _ _ (flagged_updSlot (released _ (flagged_updTurn h p _)) p i _))) p _

theorem flagged_vacates (p : Fin 8) (list : List (Fin 12)) :
    (list.foldl (fun s i => s.vacate p i) s).flagged q n := by
  induction list generalizing s with
  | nil => exact h
  | cons i list ih =>
    refine ih ?_
    unfold State.vacate
    dsimp only
    split
    · exact h
    · exact flagged_clearSlot h p i

theorem flagged_stopMachines (l : Fin 16) : (s.stopMachines l).flagged q n :=
  flagged_idleRule (flagged_withdrawPower (s := s.dropSnapshot l) h l) _

end

/-! ## One lane of a pair in OPEN mode -/

/-- The slots that are cleared with a lane: those of its home side in which a bowler stands. -/
def State.leaves (s : State) (l : Fin 16) (j : Fin 12) : Bool :=
  homeSide j == sideOf l && (s.slot (pairOf l) j).state != .empty

/-- The state of a lane alone closed, before its power and lift stop. -/
def State.emptied (s : State) (l : Fin 16) : State :=
  ((allSlots.filter fun i => homeSide i = sideOf l).foldl (fun s i => s.vacate (pairOf l) i) (s.endSession l)).emptyQueue l

theorem closeAlone_eq (s : State) (l : Fin 16) : s.closeAlone l = (s.emptied l).stopMachines l := rfl

theorem vacates_closeAlone (s : State) (l : Fin 16) :
    (s.endSession l).vacates
      ((allSlots.filter fun i => homeSide i = sideOf l).foldl (fun s i => s.vacate (pairOf l) i) (s.endSession l))
      (pairOf l) (s.leaves l) := by
  refine vacates_congr (vacates_foldl (s.endSession l) (pairOf l) _) fun j => ?_
  have slot : (s.endSession l).slot (pairOf l) j = s.slot (pairOf l) j := slot_of_turn (turn_endSession ..) j
  have listed : (allSlots.filter fun i => homeSide i = sideOf l).contains j = (homeSide j == sideOf l) := by
    have all : j ∈ allSlots := List.mem_finRange j
    rw [Bool.eq_iff_iff]
    simp [all]
  rw [slot, listed, State.leaves]

theorem ret_emptied (s : State) (l : Fin 16) (w : Fin 8) : (s.emptied l).ret w = s.ret w := by
  rw [State.emptied, ret_emptyQueue, foldl_keeps (g := fun t : State => t.ret w) (fun t i => ret_vacate t _ i w), ret_endSession]

theorem turn_emptied (s : State) (l : Fin 16) :
    ∃ v, (s.endSession l).vacates v (pairOf l) (s.leaves l) ∧
      (s.emptied l).turn (pairOf l) = ((v.turn (pairOf l)).setQueue (sideOf l) []).setPaid (sideOf l) false ∧
      (∀ q, q ≠ pairOf l → (s.emptied l).turn q = v.turn q) ∧ (∀ k, (s.emptied l).lane k = v.lane k) ∧
      (s.emptied l).records = v.records := by
  refine ⟨_, vacates_closeAlone s l, ?_, fun q other => ?_, fun k => lane_emptyQueue .., ?_⟩
  · rw [State.emptied, State.emptyQueue, turn_updTurn_same]
  · rw [State.emptied, State.emptyQueue, turn_updTurn, if_neg other]
  · rw [State.emptied, records_of_directory (directory_emptyQueue ..)]

theorem paid_setQueue (v : TurnUnit) (sd q : Side) (list : List (Fin 12)) : (v.setQueue sd list).paid q = v.paid q := by
  cases sd <;> cases q <;> rfl

theorem paid_setPaid_other (v : TurnUnit) (sd : Side) (b : Bool) : (v.setPaid sd b).paid sd.other = v.paid sd.other := by
  cases sd <;> rfl

theorem mode_setQueue (v : TurnUnit) (sd : Side) (list : List (Fin 12)) :
    (v.setQueue sd list).mode = v.mode ∧ (v.setQueue sd list).settings = v.settings := by
  cases sd <;> exact ⟨rfl, rfl⟩

theorem mode_setPaid (v : TurnUnit) (sd : Side) (b : Bool) :
    (v.setPaid sd b).mode = v.mode ∧ (v.setPaid sd b).settings = v.settings := by
  cases sd <;> exact ⟨rfl, rfl⟩

/-- The turns after a lane alone is closed. -/
theorem turns_closeAlone (s : State) (l : Fin 16) :
    ((s.closeAlone l).turn (pairOf l)).queue (sideOf l) = [] ∧ ((s.closeAlone l).turn (pairOf l)).paid (sideOf l) = false ∧
    ((s.closeAlone l).turn (pairOf l)).queue (sideOf l).other =
      ((s.turn (pairOf l)).queue (sideOf l).other).filter (fun i => !s.leaves l i) ∧
    ((s.closeAlone l).turn (pairOf l)).paid (sideOf l).other = (s.turn (pairOf l)).paid (sideOf l).other ∧
    (∀ i, (s.leaves l i = true → (s.closeAlone l).slot (pairOf l) i = Slot.empty)) ∧
    (∀ q i, (q = pairOf l → s.leaves l i = false) → (s.slot q i).fetchesTo ((s.closeAlone l).slot q i)) ∧
    (∀ q, ((s.closeAlone l).turn q).mode = (s.turn q).mode ∧ ((s.closeAlone l).turn q).settings = (s.turn q).settings) ∧
    ∀ q, q ≠ pairOf l → (s.closeAlone l).turn q = { s.turn q with slots := ((s.closeAlone l).turn q).slots } := by
  obtain ⟨v, vac, turn, away, -, -⟩ := turn_emptied s l
  have stopped (q : Fin 8) : (s.closeAlone l).turn q = (s.emptied l).turn q := by
    rw [closeAlone_eq, turn_stopMachines]
  have ended (q : Fin 8) : (s.endSession l).turn q = s.turn q := turn_endSession ..
  have slots (i : Fin 12) : (s.closeAlone l).slot (pairOf l) i = v.slot (pairOf l) i := by
    rw [State.slot, stopped, turn, slots_setPaid, slots_setQueue]
    rfl
  have own := vac.own
  rw [ended] at own
  refine ⟨?_, ?_, ?_, ?_, fun i gone => ?_, fun q i stays => ?_, fun q => ?_, fun q other => ?_⟩
  · rw [stopped, turn, queue_setPaid, queue_setQueue_same]
  · rw [stopped, turn, paid_setPaid_same]
  · rw [stopped, turn, queue_setPaid, queue_setQueue_other, vac.queue, ended]
  · rw [stopped, turn, paid_setPaid_other, paid_setQueue, own]
    cases (sideOf l).other <;> rfl
  · rw [slots, vac.cleared i gone]
  · have kept := vac.others q i stays
    rw [slot_of_turn (ended q)] at kept
    by_cases here : q = pairOf l
    · subst here
      rwa [slots]
    · rwa [slot_of_turn ((stopped q).trans (away q here))]
  · by_cases here : q = pairOf l
    · subst here
      have modes := mode_setPaid ((v.turn (pairOf l)).setQueue (sideOf l) []) (sideOf l) false
      have queues := mode_setQueue (v.turn (pairOf l)) (sideOf l) []
      rw [stopped, turn, modes.1, modes.2, queues.1, queues.2, own]
      exact ⟨rfl, rfl⟩
    · rw [stopped, away q here, vac.away q here, ended]
      exact ⟨rfl, rfl⟩
  · rw [stopped, away q other, vac.away q other, ended]

theorem lanes_closeAlone (s : State) (l : Fin 16) :
    (s.closeAlone l).lane l = (s.lane l).closed ∧ (∀ k, k ≠ l → s.sameLaneButSnapshot (s.closeAlone l) k) ∧
      (∀ k, pairOf k ≠ pairOf l → (s.closeAlone l).lane k = s.lane k) ∧ (s.closeAlone l).records = s.records := by
  obtain ⟨v, vac, -, -, lanes, records⟩ := turn_emptied s l
  have kept (k : Fin 16) (other : k ≠ l) : (s.closeAlone l).lane k = v.lane k := by
    rw [closeAlone_eq, laneOther_stopMachines _ _ _ other, lanes]
  refine ⟨?_, fun k other => ?_, fun k far => ?_, ?_⟩
  · rw [closeAlone_eq]
    refine lane_stopped ?_
    have same := sameLaneButSnapshot_vacates vac l
    unfold State.sameLaneButSnapshot at *
    rwa [lanes]
  · have same := sameLaneButSnapshot_vacates vac k
    unfold State.sameLaneButSnapshot at *
    rw [kept k other]
    rwa [laneOther_endSession _ _ _ other] at same
  · have other : k ≠ l := fun e => far (congrArg pairOf e)
    rw [kept k other, vac.far k far, laneOther_endSession _ _ _ other]
  · rw [closeAlone_eq, records_of_directory (directory_stopMachines ..), records, vac.records,
      records_of_directory (directory_endSession ..)]

theorem stopped_closeAlone (s : State) (l : Fin 16) :
    s.returnStopped (s.closeAlone l) (pairOf l) ∧ ∀ w, w ≠ pairOf l → (s.closeAlone l).ret w = s.ret w := by
  refine ⟨?_, fun w other => ?_⟩
  · have kept : (((s.emptied l).dropSnapshot l).withdrawPower l).ret (pairOf l) = s.ret (pairOf l) := by
      rw [ret_withdrawPower, State.dropSnapshot, ret_modLane, ret_emptied]
    rw [closeAlone_eq, State.stopMachines, State.liftLaneStopped]
    exact returnStopped_idleRule kept
  · rw [closeAlone_eq, State.ret, pairOther_stopMachines _ _ _ other]
    exact ret_emptied s l w

theorem flagged_closeAlone (inPlay : s.session l ≠ .closed) : (s.closeAlone l).flagged (.console (pairOf l)) 3 :=
  flagged_stopMachines (flagged_updTurn (flagged_vacates (flagged_endSession inPlay) _ _) _ _) l

/-! ## The request -/

theorem exec_closeLane (able : s.canServe .dk) (inPlay : s.session l ≠ .closed) :
    exec (.closeLane .dk (laneNo l)) s =
      .next ((s.closeLane l).replying .dk 0x11 .ok (byteList (s.closeSummaries l))) := by
  have taken := exec_accepted (i := .closeLane .dk (laneNo l)) rfl able.1 rfl (by
    rw [inLanes_laneNo, able.2, laneIx_laneNo, beq_eq_false_iff_ne.mpr inPlay]; rfl) nofun
  rwa [laneIx_laneNo] at taken

theorem returnStopped_replying (h : s.returnStopped t p) (q : Port) (code : Byte) (o : ReplyOutcome)
    (results : List Byte) : s.returnStopped (t.replying q code o results) p :=
  returnStopped_congr h rfl (ret_replying ..) fun r => idleAfter_congr (chip_replying ..) (fun _ => session_replying ..) r

/-- Settles O14, by the slots of the lane's home side that are cleared. -/
theorem closeLaneClosesOne : Obligations.CloseLaneClosesOne := by
  unfold Obligations.CloseLaneClosesOne
  intro l m s able inPlay mode there
  have close : s.closeLane l = s.closeAlone l := by rw [State.closeLane, mode]
  have summaries : s.closeSummaries l = [byte1 (laneNo l) ++ m.complete.summary] := by
    rw [State.closeSummaries, mode, State.summaryOf, there]
  refine ⟨_, exec_closeLane able inPlay, ?_⟩
  rw [close, summaries]
  obtain ⟨queue, paid, other, otherPaid, cleared, kept, modes, pairs⟩ := turns_closeAlone s l
  obtain ⟨lane, beside, far, records⟩ := lanes_closeAlone s l
  obtain ⟨stopped, rets⟩ := stopped_closeAlone s l
  have told := flagged_closeAlone inPlay
  have line (q : Port) := line_closeAlone s l q
  have chip := chip_closeAlone s l
  have pool := pool_closeAlone s l
  generalize s.closeAlone l = t at *
  have slot (q : Fin 8) (i : Fin 12) (o : Port) (code : Byte) (out : ReplyOutcome) (results : List Byte) :
      (t.replying o code out results).slot q i = t.slot q i := slot_of_turn (turn_replying ..) i
  simp only [chip_replying, pool_replying, lane_replying, turn_replying, ret_replying, slot]
  refine ⟨answers_replying line _ _ _ _, chip, pool, ?_, flagged_replying told _ _ _ _, (congrArg Lane.session lane :),
    (congrArg Lane.meter lane :), (congrArg Lane.snapshot lane :), (congrArg Lane.sup lane :), queue, paid, other, otherPaid,
    fun i home => ?_, fun q i stays => ?_, fun k here => ?_, fun k here => ?_, modes, fun q here => ⟨rets q here, pairs q here⟩,
    ?_⟩
  · exact sameRecords_iff.mpr ((records_of_directory (directory_replying ..)).trans records)
  · by_cases stands : (s.slot (pairOf l) i).state = .empty
    · have stays : s.leaves l i = false := by simp [State.leaves, stands]
      exact ⟨(state_of_fetchesTo (kept (pairOf l) i fun _ => stays)).trans stands, fun other => absurd stands other⟩
    · have gone : s.leaves l i = true := by simp [State.leaves, stands, home]
      exact ⟨by rw [cleared i gone]; rfl, fun _ => cleared i gone⟩
  · have stays : q = pairOf l → s.leaves l i = false := fun here => by simp [State.leaves, stays here]
    unfold State.sameSlotButFetch
    rw [slot]
    exact butFetch_of_fetchesTo (kept q i stays)
  · have same := beside k here
    unfold State.sameLaneButSnapshot at *
    rwa [lane_replying]
  · rw [lane_replying, far k fun near => here (by simpa using (lane_of_pair l k).mp near)]
  · exact returnStopped_replying stopped _ _ _ _

end Sys2Proof.Machine
end

section
/-! PROOFS. CLOSE LANE in a pair in ALTERNATE mode (R5, R60). -/

namespace Sys2Proof.Machine

variable {s t u : State} {l k : Fin 16} {p : Fin 8}

/-! ## One lane of the two -/

theorem closeOne_closed (closed : s.session l = .closed) : s.closeOne l = s := if_pos closed

theorem closeOne_inPlay (inPlay : s.session l ≠ .closed) : s.closeOne l = (s.endSession l).stopMachines l := if_neg inPlay

theorem lane_closeOne (inPlay : s.session l ≠ .closed) : (s.closeOne l).lane l = (s.lane l).closed := by
  rw [closeOne_inPlay inPlay]
  exact lane_stopped (by unfold State.sameLaneButSnapshot; rfl)

theorem session_closeOne (s : State) (l : Fin 16) : (s.closeOne l).session l = .closed := by
  by_cases closed : s.session l = .closed
  · rw [closeOne_closed closed, closed]
  · rw [State.session, lane_closeOne closed]
    rfl

theorem stopped_closeOne (inPlay : s.session l ≠ .closed) : s.returnStopped (s.closeOne l) (pairOf l) := by
  have kept : (((s.endSession l).dropSnapshot l).withdrawPower l).ret (pairOf l) = s.ret (pairOf l) := by
    rw [ret_withdrawPower, State.dropSnapshot, ret_modLane, ret_endSession]
  rw [closeOne_inPlay inPlay, State.stopMachines, State.liftLaneStopped]
  exact returnStopped_idleRule kept

/-! ## Both lanes -/

/-- The state with both sessions ended. -/
def State.bothEnded (s : State) (p : Fin 8) : State := (s.closeOne (laneAt p .odd)).closeOne (laneAt p .even)

/-- The state with the roster empty, before the queues are. -/
def State.rosterGone (s : State) (p : Fin 8) : State := allSlots.foldl (fun s i => s.vacate p i) (s.bothEnded p)

theorem closeBoth_eq (s : State) (p : Fin 8) :
    s.closeBoth p = ((s.rosterGone p).emptyQueue (laneAt p .odd)).emptyQueue (laneAt p .even) := rfl

theorem vacates_rosterGone (s : State) (p : Fin 8) :
    (s.bothEnded p).vacates (s.rosterGone p) p fun j => (s.slot p j).state != .empty := by
  refine vacates_congr (vacates_foldl (s.bothEnded p) p allSlots) fun j => ?_
  have slot : (s.bothEnded p).slot p j = s.slot p j :=
    slot_of_turn ((turn_closeOne ..).trans (turn_closeOne ..)) j
  have all : allSlots.contains j = true := by
    rw [List.contains_iff_mem]
    exact List.mem_finRange j
  rw [slot, all, Bool.true_and]

theorem turn_closeBoth (s : State) (p : Fin 8) :
    (s.closeBoth p).turn p =
      (((((s.rosterGone p).turn p).setQueue .odd []).setPaid .odd false).setQueue .even []).setPaid .even false := by
  have odd : pairOf (laneAt p .odd) = p ∧ sideOf (laneAt p .odd) = .odd := ⟨pairOf_laneAt .., sideOf_laneAt ..⟩
  have even : pairOf (laneAt p .even) = p ∧ sideOf (laneAt p .even) = .even := ⟨pairOf_laneAt .., sideOf_laneAt ..⟩
  rw [closeBoth_eq, State.emptyQueue, State.emptyQueue, odd.1, odd.2, even.1, even.2, turn_updTurn_same, turn_updTurn_same]

theorem turnOther_closeBoth (s : State) {q : Fin 8} (other : q ≠ p) :
    (s.closeBoth p).turn q = (s.rosterGone p).turn q := by
  have apart (sd : Side) : q ≠ pairOf (laneAt p sd) := by rwa [pairOf_laneAt]
  rw [closeBoth_eq, State.turn, pairOther_emptyQueue _ _ _ (apart _), pairOther_emptyQueue _ _ _ (apart _)]
  rfl

theorem lane_closeBoth (s : State) (p : Fin 8) (k : Fin 16) : (s.closeBoth p).lane k = (s.rosterGone p).lane k := by
  rw [closeBoth_eq, lane_emptyQueue, lane_emptyQueue]

/-- A lane of the pair with its session ended. -/
theorem lane_bothEnded (here : pairOf k = p) :
    (s.bothEnded p).lane k = if s.session k = .closed then s.lane k else (s.lane k).closed := by
  have apart := odd_ne_even p
  rcases (pairOf_eq_iff k p).mp here with rfl | rfl
  · rw [State.bothEnded, laneOther_closeOne _ _ _ apart]
    split
    next closed => rw [closeOne_closed closed]
    next inPlay => rw [lane_closeOne inPlay]
  · have kept : (s.closeOne (laneAt p .odd)).lane (laneAt p .even) = s.lane (laneAt p .even) :=
      laneOther_closeOne _ _ _ apart.symm
    have session : (s.closeOne (laneAt p .odd)).session (laneAt p .even) = s.session (laneAt p .even) := by
      rw [State.session, kept]
      rfl
    rw [State.bothEnded]
    split
    next closed => rw [closeOne_closed (by rwa [session]), kept]
    next inPlay => rw [lane_closeOne (by rwa [session]), kept]

theorem far_bothEnded (far : pairOf k ≠ p) : (s.bothEnded p).lane k = s.lane k := by
  have apart (sd : Side) : k ≠ laneAt p sd := fun e => far (by rw [e, pairOf_laneAt])
  rw [State.bothEnded, laneOther_closeOne _ _ _ (apart _), laneOther_closeOne _ _ _ (apart _)]

theorem session_bothEnded (s : State) (p : Fin 8) (sd : Side) : (s.bothEnded p).session (laneAt p sd) = .closed := by
  rw [State.session, lane_bothEnded (pairOf_laneAt ..)]
  split
  next closed => exact closed
  next => rfl

/-! ## The idle timer (R60) -/

/-- The idle rule taken again, while neither lane runs. -/
theorem idleAfter_again {r : ReturnMonitor} (chip : u.retSettings = t.retSettings)
    (stopped : ∀ sd, t.running (laneAt p sd) = false) (stays : ∀ sd, u.running (laneAt p sd) = false) :
    u.idleAfter p { r with idle := t.idleAfter p r } = u.idleAfter p r := by
  unfold State.idleAfter
  simp only [stopped, stays, chip]
  split
  · rfl
  · rfl

theorem running_of_closed (closed : s.session k = .closed) : s.running k = false := by
  rw [State.running, closed]
  rfl

theorem ret_bothEnded (inPlay : ∃ sd, s.session (laneAt p sd) ≠ .closed) :
    let r : ReturnMonitor :=
      { s.ret p with
        idle :=
          if s.session (laneAt p .odd) ≠ .closed ∧ s.running (laneAt p .even) = true then none else (s.ret p).idle }
    (s.bothEnded p).ret p = { r with idle := (s.bothEnded p).idleAfter p r } := by
  have oddPair : pairOf (laneAt p .odd) = p := pairOf_laneAt ..
  have evenPair : pairOf (laneAt p .even) = p := pairOf_laneAt ..
  have even : (s.closeOne (laneAt p .odd)).session (laneAt p .even) = s.session (laneAt p .even) := by
    rw [State.session, laneOther_closeOne _ _ _ (odd_ne_even p).symm]
    rfl
  have evenRuns : (s.closeOne (laneAt p .odd)).running (laneAt p .even) = s.running (laneAt p .even) := by
    rw [State.running, even, State.running]
  have chip : (s.bothEnded p).retSettings = (s.closeOne (laneAt p .odd)).retSettings :=
    retSettings_of_chip (chip_closeOne ..)
  dsimp only
  by_cases oddClosed : s.session (laneAt p .odd) = .closed
  · have inPlay : s.session (laneAt p .even) ≠ .closed := by
      obtain ⟨sd, plays⟩ := inPlay
      cases sd with
      | odd => exact absurd oddClosed plays
      | even => exact plays
    have stopped := stopped_closeOne inPlay
    rw [evenPair] at stopped
    rw [if_neg fun both => both.1 oddClosed, State.bothEnded, closeOne_closed oddClosed]
    exact stopped
  · have first := stopped_closeOne oddClosed
    rw [oddPair] at first
    by_cases evenClosed : s.session (laneAt p .even) = .closed
    · have rests : ¬ (s.session (laneAt p .odd) ≠ .closed ∧ s.running (laneAt p .even) = true) := fun both => by
        have off := running_of_closed evenClosed
        rw [both.2] at off
        cases off
      rw [if_neg rests, State.bothEnded, closeOne_closed (even.trans evenClosed)]
      exact first
    · have second : (s.closeOne (laneAt p .odd)).returnStopped (s.bothEnded p) p := by
        have stopped := stopped_closeOne (s := s.closeOne (laneAt p .odd)) (l := laneAt p .even) (by rwa [even])
        rwa [evenPair] at stopped
      unfold State.returnStopped at first second
      rw [second, first]
      by_cases runs : s.running (laneAt p .even) = true
      · have none : (s.closeOne (laneAt p .odd)).idleAfter p (s.ret p) = .none := by
          refine if_neg fun holds => ?_
          have off := holds.2.2.2
          rw [evenRuns, runs] at off
          cases off
        rw [if_pos ⟨oddClosed, runs⟩, none]
      · have oddStopped : (s.closeOne (laneAt p .odd)).running (laneAt p .odd) = false :=
          running_of_closed (session_closeOne ..)
        have again : (s.bothEnded p).idleAfter p
            { s.ret p with idle := (s.closeOne (laneAt p .odd)).idleAfter p (s.ret p) } =
            (s.bothEnded p).idleAfter p (s.ret p) := by
          refine idleAfter_again chip (fun sd => ?_) fun sd => running_of_closed (session_bothEnded s p sd)
          cases sd with
          | odd => exact oddStopped
          | even => rw [evenRuns]; simpa using runs
        rw [if_neg fun both => runs both.2, again]

/-! ## The request -/

theorem ret_closeBoth (s : State) (p w : Fin 8) : (s.closeBoth p).ret w = (s.bothEnded p).ret w := by
  rw [closeBoth_eq, ret_emptyQueue, ret_emptyQueue, State.rosterGone,
    foldl_keeps (g := fun t : State => t.ret w) fun t i => ret_vacate t p i w]

theorem retOther_closeBoth (s : State) {q : Fin 8} (other : q ≠ p) : (s.closeBoth p).ret q = s.ret q := by
  have apart (sd : Side) : q ≠ pairOf (laneAt p sd) := by rwa [pairOf_laneAt]
  rw [ret_closeBoth, State.bothEnded, State.ret, pairOther_closeOne _ _ _ (apart _), pairOther_closeOne _ _ _ (apart _)]
  rfl

theorem turns_closeBoth (s : State) (p : Fin 8) :
    ((s.closeBoth p).turn p).mode = (s.turn p).mode ∧ ((s.closeBoth p).turn p).settings = (s.turn p).settings ∧
    (∀ sd, ((s.closeBoth p).turn p).queue sd = [] ∧ ((s.closeBoth p).turn p).paid sd = false) ∧
    (∀ i, ((s.closeBoth p).slot p i).state = .empty ∧
      ((s.slot p i).state ≠ .empty → (s.closeBoth p).slot p i = Slot.empty)) ∧
    ∀ q i, q ≠ p → (s.slot q i).fetchesTo ((s.closeBoth p).slot q i) ∧
      (s.closeBoth p).turn q = { s.turn q with slots := ((s.closeBoth p).turn q).slots } := by
  have vac := vacates_rosterGone s p
  have ended (q : Fin 8) : (s.bothEnded p).turn q = s.turn q := (turn_closeOne ..).trans (turn_closeOne ..)
  have slots (i : Fin 12) : (s.closeBoth p).slot p i = (s.rosterGone p).slot p i := by
    rw [State.slot, turn_closeBoth, slots_setPaid, slots_setQueue, slots_setPaid, slots_setQueue]
    rfl
  have own := vac.own
  rw [ended] at own
  refine ⟨?_, ?_, fun sd => ?_, fun i => ?_, fun q i other => ⟨?_, ?_⟩⟩
  · rw [turn_closeBoth, own]
    rfl
  · rw [turn_closeBoth, own]
    rfl
  · rw [turn_closeBoth]
    cases sd <;> exact ⟨rfl, rfl⟩
  · rw [slots]
    by_cases stands : (s.slot p i).state = .empty
    · have kept := vac.others p i fun _ => by simp [stands]
      rw [slot_of_turn (ended p)] at kept
      exact ⟨(state_of_fetchesTo kept).trans stands, fun other => absurd stands other⟩
    · have cleared := vac.cleared i (by simp [stands])
      exact ⟨by rw [cleared]; rfl, fun _ => cleared⟩
  · have kept := vac.others q i fun here => absurd here other
    rw [slot_of_turn (ended q)] at kept
    rwa [slot_of_turn (turnOther_closeBoth s other)]
  · rw [turnOther_closeBoth s other, vac.away q other, ended]

/-- A lane of the pair once both are closed. -/
theorem lanes_closeBoth (s : State) (here : pairOf k = p) :
    (s.closeBoth p).session k = .closed ∧ (s.session k = .closed → s.sameLaneButSnapshot (s.closeBoth p) k) ∧
      (s.session k ≠ .closed → (s.closeBoth p).lane k = (s.lane k).closed) := by
  have ended := lane_bothEnded (s := s) here
  have vac := (vacates_rosterGone s p).lanes k
  rw [ended, ← lane_closeBoth] at vac
  by_cases closed : s.session k = .closed
  · rw [if_pos closed] at vac
    refine ⟨?_, fun _ => ?_, fun inPlay => absurd closed inPlay⟩
    · rw [State.session]
      rcases vac with same | dropped
      · rw [same]; exact closed
      · rw [dropped]; exact closed
    · unfold State.sameLaneButSnapshot
      rcases vac with same | dropped
      · rw [same]
      · rw [dropped]
  · rw [if_neg closed] at vac
    have lane : (s.closeBoth p).lane k = (s.lane k).closed := by
      rcases vac with same | dropped
      · exact same
      · exact dropped
    exact ⟨by rw [State.session, lane]; rfl, fun other => absurd other closed, fun _ => lane⟩

theorem records_closeBoth (s : State) (p : Fin 8) : (s.closeBoth p).records = s.records := by
  rw [closeBoth_eq, records_of_directory (directory_emptyQueue ..), records_of_directory (directory_emptyQueue ..),
    (vacates_rosterGone s p).records, State.bothEnded, records_of_directory (directory_closeOne ..),
    records_of_directory (directory_closeOne ..)]

/-- Settles O15, by the two sessions that end, the odd lane's first, and the roster that is emptied. -/
theorem closeLaneClosesBoth : Obligations.CloseLaneClosesBoth := by
  unfold Obligations.CloseLaneClosesBoth
  intro l s able inPlay mode
  have close : s.closeLane l = s.closeBoth (pairOf l) := by rw [State.closeLane, mode]
  have summaries : s.closeSummaries l =
      s.summaryOf (laneAt (pairOf l) .odd) ++ s.summaryOf (laneAt (pairOf l) .even) := by rw [State.closeSummaries, mode]
  have ret := ret_bothEnded (s := s) (p := pairOf l) ⟨sideOf l, by rwa [laneAt_pairOf]⟩
  obtain ⟨mode', settings, queues, slots, others⟩ := turns_closeBoth s (pairOf l)
  have lanes (k : Fin 16) (here : pairOf k = pairOf l) := lanes_closeBoth s here
  have ret' := ret_closeBoth s (pairOf l) (pairOf l)
  have idle : (s.bothEnded (pairOf l)).idleAfter (pairOf l) = (s.closeBoth (pairOf l)).idleAfter (pairOf l) := by
    funext r
    refine idleAfter_congr (t := s.bothEnded (pairOf l)) ?_ (fun sd => ?_) r
    · rw [chip_closeBoth, State.bothEnded, chip_closeOne, chip_closeOne]
    · rw [session_bothEnded, (lanes_closeBoth s (pairOf_laneAt ..)).1]
  rw [ret] at ret'
  dsimp only at ret'
  rw [idle] at ret'
  refine ⟨_, exec_closeLane able inPlay, ?_⟩
  rw [close, summaries]
  have far (k : Fin 16) (here : pairOf k ≠ pairOf l) : (s.closeBoth (pairOf l)).lane k = s.lane k := by
    rw [lane_closeBoth, (vacates_rosterGone s (pairOf l)).far k here, far_bothEnded here]
  have records := records_closeBoth s (pairOf l)
  have line (q : Port) := line_closeBoth s (pairOf l) q
  have chip := chip_closeBoth s (pairOf l)
  have pool := pool_closeBoth s (pairOf l)
  have rets (q : Fin 8) (other : q ≠ pairOf l) := retOther_closeBoth s other
  generalize s.closeBoth (pairOf l) = t at *
  have slot (q : Fin 8) (i : Fin 12) (o : Port) (code : Byte) (out : ReplyOutcome) (results : List Byte) :
      (t.replying o code out results).slot q i = t.slot q i := slot_of_turn (turn_replying ..) i
  simp only [chip_replying, pool_replying, lane_replying, turn_replying, ret_replying, session_replying, slot]
  refine ⟨answers_replying line _ _ _ _, chip, pool, ?_, fun k here => ?_, mode'.trans mode, settings, queues, slots,
    fun q i other => ⟨?_, rets q other, (others q i other).2⟩, far, ?_⟩
  · exact sameRecords_iff.mpr ((records_of_directory (directory_replying ..)).trans records)
  · obtain ⟨session, kept, closed⟩ := lanes k here
    refine ⟨session, fun stays => ?_, fun plays => ?_⟩
    · have same := kept stays
      unfold State.sameLaneButSnapshot at *
      rwa [lane_replying]
    · exact ⟨(congrArg Lane.session (closed plays) :), (congrArg Lane.meter (closed plays) :),
        (congrArg Lane.snapshot (closed plays) :), (congrArg Lane.sup (closed plays) :)⟩
  · unfold State.sameSlotButFetch
    rw [slot]
    exact butFetch_of_fetchesTo (others q i other).1
  · have idleSame (r : ReturnMonitor) (o : Port) (code : Byte) (out : ReplyOutcome) (results : List Byte) :
        (t.replying o code out results).idleAfter (pairOf l) r = t.idleAfter (pairOf l) r :=
      idleAfter_congr (chip_replying ..) (fun _ => session_replying ..) r
    rw [idleSame]
    exact ret'

end Sys2Proof.Machine
end

section
/-! PROOFS. The ends of a TIME meter's periods, and the close summaries (R158, R159, R161 to R163, R167). -/

namespace Sys2Proof.Machine

variable {s : State} {l : Fin 16} {m : Meter} {i : Instr} {price length back : Nat}

/-! ## What a period's end does to the meter -/

theorem setMeter_eq (there : (s.lane l).meter = some m) (new : Meter) :
    s.setMeter l new = s.modLane l fun a => { a with meter := some new } := by
  unfold State.setMeter State.modMeter
  exact modLane_congr (by rw [there]; rfl)

theorem setMeter_setMeter (s : State) (l : Fin 16) (m new : Meter) : (s.setMeter l m).setMeter l new = s.setMeter l new := by
  unfold State.setMeter State.modMeter
  rw [modLane_modLane]
  exact modLane_congr (by cases (s.lane l).meter <;> rfl)

theorem meter_setMeter (there : (s.lane l).meter = some m) (new : Meter) : ((s.setMeter l new).lane l).meter = some new := by
  rw [lane_setMeter, there]
  rfl

theorem priceOf_setMeter (s : State) (l : Fin 16) (new : Meter) : (s.setMeter l new).priceOf l = s.priceOf l :=
  priceOf_congr (chip_setMeter ..) (by rw [lane_setMeter])

/-- The price that falls due as the meter's period ends: that which its unit holds, if it is in one. -/
def Meter.ended (m : Meter) : Nat := if m.phase = .metered then (m.unit.bind TimeUnit.price).getD 0 else 0

/-- The meter as a period of it ends, before its next unit starts. -/
def Meter.endPeriod (m : Meter) : Meter := if m.phase = .metered then m.endUnit else m

theorem mode_endPeriod (m : Meter) : m.endPeriod.mode = m.mode := by
  unfold Meter.endPeriod Meter.endUnit Meter.addCharge
  split
  · split
    · split <;> rfl
    · rfl
  · rfl

theorem endPeriod_prepaid (prepaid : m.mode = .prepaid) : m.endPeriod = m := by
  unfold Meter.endPeriod Meter.endUnit
  split
  · rw [prepaid]
  · rfl

theorem addCharge_within (within : m.charged + price ≤ 9999999) :
    m.addCharge price = { m with charged := m.charged + price } :=
  if_neg (Nat.not_lt.mpr within)

theorem addCharge_beyond (beyond : 9999999 < m.charged + price) :
    m.addCharge price = { m with charged := 9999999, saturated := true } :=
  if_pos beyond

/-- A TAB meter's period ends: the price its unit holds is charged. -/
theorem endPeriod_tab (tab : m.mode = .tab) (lawful : m.charged ≤ 9999999) : m.endPeriod = m.addCharge m.ended := by
  have nothing : m.addCharge 0 = m := addCharge_within (m := m) (price := 0) lawful
  unfold Meter.endPeriod Meter.ended
  split
  · unfold Meter.endUnit
    rw [tab]
    cases held : m.unit with
    | none => exact nothing.symm
    | some u => rfl
  · exact nothing.symm

/-- A period's end is the end of a unit, if one runs, and the start of the next (R158). -/
theorem endPeriod_eq (there : (s.lane l).meter = some m) (time : m.kind = .time) (phase : m.phase ≠ .back) :
    s.endPeriod l =
      (let unit := m.endPeriod.startUnit (s.priceOf l).unit s.billing.unit s.billing.back
       if unit.2 then (s.setMeter l unit.1).enterClosing l else s.setMeter l unit.1) := by
  have billing : (s.setMeter l m.endUnit).billing = s.billing := billing_of_chip (chip_setMeter ..)
  unfold State.endPeriod Meter.endPeriod
  rw [there]
  dsimp only
  cases held : m.phase with
  | back => exact absurd held phase
  | front =>
    rw [time]
    dsimp only
    rw [State.startUnit, there]
    have apart : ¬ MeterPhase.front = MeterPhase.metered := nofun
    simp only [if_neg apart]
  | metered =>
    rw [time]
    dsimp only
    rw [State.startUnit, meter_setMeter there, priceOf_setMeter, billing, if_pos rfl]
    simp only [setMeter_setMeter]

/-- A meter that counts no back grace is no reason to park. -/
theorem zeroBackGrace_counting (there : (s.lane l).meter = some m) (counts : m.phase = .back → m.left ≠ 0) :
    s.zeroBackGrace l = s := by
  rw [State.zeroBackGrace, there]
  exact if_neg fun ended => counts ended.2.1 ended.2.2

/-! ## The event -/

/-- The end of a period, of a lane that runs and of one that does not. -/
theorem exec_periodEnd (free : s.resetHeld = false)
    (due : i = .frontGraceEnd l ∧ m.phase = .front ∨ i = .unitEnd l ∧ m.phase = .metered)
    (there : (s.lane l).meter = some m) :
    (s.running l = false → exec i s = .next s) ∧
      (s.running l = true → m.kind = .time → exec i s = .next ((s.endPeriod l).zeroBackGrace l)) := by
  have front : exec (.frontGraceEnd l) s = .next (s.unlessHeld (frontGraceEnd l)) := rfl
  have unit : exec (.unitEnd l) s = .next (s.unlessHeld (unitEnd l)) := rfl
  rcases due with ⟨rfl, phase⟩ | ⟨rfl, phase⟩
  · rw [front, State.unlessHeld, free, frontGraceEnd, State.meterRuns, there]
    exact ⟨fun stopped => by simp [stopped], fun runs time => by simp [runs, phase]⟩
  · rw [unit, State.unlessHeld, free, unitEnd, State.meterRuns, there]
    exact ⟨fun stopped => by simp [stopped], fun runs time => by simp [runs, phase, time]⟩

/-- A period's end after which the next unit has started. -/
theorem periodEnd_starts (there : (s.lane l).meter = some m) (time : m.kind = .time) (phase : m.phase ≠ .back)
    {new : Meter} (starts : m.endPeriod.startUnit (s.priceOf l).unit s.billing.unit s.billing.back = (new, false))
    (metered : new.phase = .metered) :
    (s.endPeriod l).zeroBackGrace l = s.modLane l fun a => { a with meter := some new } := by
  rw [endPeriod_eq there time phase, starts]
  dsimp only
  rw [if_neg nofun, zeroBackGrace_counting (meter_setMeter there new) (fun back => by rw [metered] at back; cases back),
    setMeter_eq there]

/-- A period's end after which the next unit is declined. -/
theorem periodEnd_declined (there : (s.lane l).meter = some m) (time : m.kind = .time) (phase : m.phase ≠ .back)
    {new : Meter} (declined : m.endPeriod.startUnit (s.priceOf l).unit s.billing.unit s.billing.back = (new, true))
    (left : new.left ≠ 0) :
    (s.endPeriod l).zeroBackGrace l = (s.setMeter l new).enterClosing l := by
  have meter : (((s.setMeter l new).enterClosing l).lane l).meter = some new := by
    rw [lane_enterClosing]
    exact meter_setMeter there new
  rw [endPeriod_eq there time phase, declined]
  dsimp only
  rw [if_pos rfl, zeroBackGrace_counting meter fun _ => left]

theorem flagged_enterClosing_dk (s : State) (l : Fin 16) : (s.enterClosing l).flagged .dk 3 :=
  flagged_setEvent_same (s.updSession l fun n => n.enter .closing) .dk 3

/-- The clauses of R158 and R161 to R163 about one period that ends. -/
theorem unitsStart (free : s.resetHeld = false)
    (due : i = .frontGraceEnd l ∧ m.phase = .front ∨ i = .unitEnd l ∧ m.phase = .metered)
    (there : (s.lane l).meter = some m) (runs : s.running l = true) (time : m.kind = .time) :
    (m.mode = .tab → m.charged ≤ 9999999 →
      exec i s = .next (s.modLane l fun a =>
        { a with meter := some ((m.addCharge m.ended).beginUnit s.billing.unit (some (s.priceOf l).unit)) })) ∧
    (m.mode = .prepaid → (s.priceOf l).unit ≤ m.balance →
      exec i s = .next (s.modLane l fun a =>
        { a with
          meter :=
            some (({ m with balance := m.balance - (s.priceOf l).unit }.addCharge (s.priceOf l).unit).beginUnit
              s.billing.unit none) })) ∧
    (m.mode = .prepaid → m.balance < (s.priceOf l).unit → s.billing.back ≠ 0 →
      exec i s = .next ((s.setMeter l (m.decline .unit s.billing.back)).enterClosing l)) := by
  have phase : m.phase ≠ .back := by
    rcases due with ⟨-, held⟩ | ⟨-, held⟩ <;> rw [held] <;> nofun
  rw [(exec_periodEnd free due there).2 runs time]
  refine ⟨fun tab lawful => congrArg _ (periodEnd_starts there time phase ?_ rfl), fun prepaid afford =>
    congrArg _ (periodEnd_starts there time phase ?_ rfl), fun prepaid lacks back =>
    congrArg _ (periodEnd_declined there time phase ?_ back)⟩
  · rw [Meter.startUnit, mode_endPeriod, tab, endPeriod_tab tab lawful]
  · rw [Meter.startUnit, endPeriod_prepaid prepaid, prepaid, Meter.charge, prepaid, if_neg (Nat.not_lt.mpr afford)]
  · rw [Meter.startUnit, endPeriod_prepaid prepaid, prepaid, Meter.charge, prepaid, if_pos lacks]

/-! ## The close summary (R167) -/

theorem complete_same (m : Meter) :
    m.complete.declined = none ∧ m.complete.balance = m.balance ∧ m.complete.credited = m.credited ∧
      m.complete.games = m.games ∧ m.complete.units = m.units ∧ m.complete.unpaid = m.unpaid ∧
      m.complete.kind = m.kind ∧ m.complete.mode = m.mode := by
  unfold Meter.complete Meter.addCharge
  split
  · split <;> exact ⟨rfl, rfl, rfl, rfl, rfl, rfl, rfl, rfl⟩
  · exact ⟨rfl, rfl, rfl, rfl, rfl, rfl, rfl, rfl⟩

theorem complete_uncharged (h : m.kind = .games ∨ m.mode = .prepaid ∨ m.unit = none) :
    m.complete.charged = m.charged ∧ m.complete.saturated = m.saturated := by
  have none : m.partUnit = none := by
    unfold Meter.partUnit
    rcases h with kind | mode | unit
    · rw [kind]
    · rw [mode]
      cases m.kind <;> rfl
    · rw [unit]
      cases m.kind <;> cases m.mode <;> rfl
  rw [Meter.complete, none]
  exact ⟨rfl, rfl⟩

/-- The quotient rounded up: the least number that times the divisor reaches the dividend. -/
theorem roundedUp (n d : Nat) (pos : 1 ≤ d) : (n + (d - 1)) / d * d < n + d ∧ n ≤ (n + (d - 1)) / d * d := by
  have whole := Nat.div_add_mod (n + (d - 1)) d
  have rest := Nat.mod_lt (n + (d - 1)) pos
  rw [Nat.mul_comm] at whole
  omega

theorem complete_partUnit (time : m.kind = .time) (tab : m.mode = .tab) (unit : m.unit = some ⟨length, some price⟩)
    (pos : 1 ≤ length) :
    ∃ part, part * length < price * (length - m.left) + length ∧ price * (length - m.left) ≤ part * length ∧
      (m.charged + part ≤ 9999999 → m.complete.charged = m.charged + part ∧ m.complete.saturated = m.saturated) ∧
      (9999999 < m.charged + part → m.complete.charged = 9999999 ∧ m.complete.saturated = true) := by
  obtain ⟨below, reaches⟩ := roundedUp (price * (length - m.left)) length pos
  have part : m.partUnit = some ((price * (length - m.left) + (length - 1)) / length) := by
    rw [Meter.partUnit, time, tab, unit]
    rfl
  refine ⟨_, below, reaches, fun within => ?_, fun beyond => ?_⟩
  · rw [Meter.complete, part]
    dsimp only
    rw [addCharge_within within]
    exact ⟨rfl, rfl⟩
  · rw [Meter.complete, part]
    dsimp only
    rw [addCharge_beyond beyond]
    exact ⟨rfl, rfl⟩

/-- Settles O16, by the charge a period's end makes, and by what completing a record adds to it. -/
theorem unitsAndCloseSummaries : Obligations.UnitsAndCloseSummaries := by
  unfold Obligations.UnitsAndCloseSummaries
  refine ⟨fun l m i s free due there => ⟨(exec_periodEnd free due there).1, fun runs time => ?_⟩, fun m => ?_⟩
  · obtain ⟨tab, paid, declined⟩ := unitsStart free due there runs time
    refine ⟨fun mode within => ?_, fun mode lawful beyond => ?_, fun mode afford within => ?_, fun mode lacks back => ?_⟩
    · have lawful : m.charged ≤ 9999999 := Nat.le_trans (Nat.le_add_right ..) within
      rw [tab mode lawful, addCharge_within (price := m.ended) within]
      rfl
    · rw [tab mode lawful, addCharge_beyond (price := m.ended) beyond]
      rfl
    · rw [paid mode afford,
        addCharge_within (m := { m with balance := m.balance - (s.priceOf l).unit }) within]
      rfl
    · refine ⟨_, declined mode lacks back, by rw [chip_enterClosing, chip_setMeter], fun q => by
        rw [line_enterClosing, line_setMeter], flagged_enterClosing_dk .., ?_, by rw [pool_enterClosing, pool_setMeter],
        by rw [directory_enterClosing, directory_setMeter], fun k other => ?_, ?_⟩
      · exact pairs_ext fun q => (pair_enterClosing ..).trans (pair_setMeter ..)
      · rw [List.mem_singleton] at other
        rw [laneOther_enterClosing _ _ _ other, laneOther_setMeter _ _ _ _ other]
      · rw [lane_enterClosing, lane_setMeter, there]
        rfl
  · obtain ⟨owed, balance, credited, games, units, unpaid, kind, mode⟩ := complete_same m
    refine ⟨owed, balance, credited, games, units, unpaid, complete_uncharged, fun length price time tab unit pos _ =>
      complete_partUnit time tab unit pos, ?_⟩
    rw [Meter.summary, kind, mode, credited, balance, games, units, unpaid]

end Sys2Proof.Machine
end

section
/-! SUPPORT. The session and the meter of a lane that wakes, or whose owed charge is paid (R15, R74, R166). -/

namespace Sys2Proof.Machine

variable {s t u : State} {l : Fin 16} {i : Fin 12} {m paid : Meter} {d : Declined}

/-! ## A head that asks for no charge, or for one that a TIME session grants -/

/-- A meter apart from its count of games. -/
def Meter.ungamed (m : Meter) : Meter := { m with games := 0 }

/-- The session record of a lane, and its meter apart from the count of games. -/
def Lane.standing (a : Lane) : Session × Option Meter := (a.session, a.meter.map Meter.ungamed)

theorem standing_launch (s : State) (l : Fin 16) (i : Fin 12) :
    (((s.becomeUp l i).startGame l i).lane l).standing = (s.lane l).standing := by
  simp [Lane.standing]

/-- A head asks for no charge: the lane is not OPEN, or its paid start mark is set; or its meter counts time. -/
def State.chargeless (s : State) (l : Fin 16) : Prop :=
  s.session l ≠ .opened ∨ (s.turn (pairOf l)).paid (sideOf l) = true ∨ ∀ m, (s.lane l).meter = some m → m.kind = .time

theorem askGame_time (time : m.kind = .time) (price : Nat) :
    m.askGame price = some { m with games := bump16 m.games } := by
  unfold Meter.askGame
  split
  · rfl
  next games => exact nomatch games.symm.trans time

theorem standing_askGame (time : ∀ m, (s.lane l).meter = some m → m.kind = .time) (i : Fin 12) :
    ((s.askGame l i).lane l).standing = (s.lane l).standing := by
  unfold State.askGame
  split
  · rfl
  next m there =>
    rw [askGame_time (time m there)]
    dsimp only
    rw [standing_launch, lane_setMeter, Lane.standing, Lane.standing, there]
    rfl

theorem standing_raiseHead (h : s.chargeless l) (i : Fin 12) : ((s.raiseHead l i).lane l).standing = (s.lane l).standing := by
  unfold State.raiseHead
  split
  · simp [Lane.standing]
  · simp [Lane.standing]
  · split
    next isOpen =>
      split
      · rw [standing_launch, lane_updTurn]
      next unpaid =>
        rcases h with other | paid | time
        · exact absurd isOpen other
        · exact absurd paid unpaid
        · exact standing_askGame time i
    next => rfl

theorem chargeless_setQueue (h : s.chargeless l) (q : List (Fin 12)) :
    (s.updTurn (pairOf l) fun t => t.setQueue (sideOf l) q).chargeless l := by
  unfold State.chargeless
  rw [State.session, lane_updTurn, turn_updTurn_same]
  have paid : ((s.turn (pairOf l)).setQueue (sideOf l) q).paid (sideOf l) = (s.turn (pairOf l)).paid (sideOf l) := by
    cases sideOf l <;> rfl
  rw [paid]
  exact h

theorem standing_headRules (h : s.chargeless l) : ((s.headRules l).lane l).standing = (s.lane l).standing := by
  simp only [State.headRules]
  split
  · rfl
  · split
    · rfl
    · split
      · rw [lane_updTurn]
      · split
        · rw [lane_updTurn]
        · rw [standing_raiseHead (chargeless_setQueue h _), lane_updTurn]

/-- A meter that is not charged: neither is its count of games, where the lane does not open. -/
theorem meter_headRules_stopped (h : s.session l ≠ .opened) : ((s.headRules l).lane l).meter = (s.lane l).meter := by
  have raised (t : State) (stopped : t.session l ≠ .opened) (i : Fin 12) :
      ((t.raiseHead l i).lane l).meter = (t.lane l).meter := by
    unfold State.raiseHead
    split
    · simp
    · simp
    · rw [if_neg stopped]
  simp only [State.headRules]
  split
  · rfl
  · split
    · rfl
    · split
      · rw [lane_updTurn]
      · split
        · rw [lane_updTurn]
        · rw [raised _ (by simpa using h), lane_updTurn]

theorem standing_takePaid (s : State) (l : Fin 16) : ((s.takePaid l).lane l).standing = (s.lane l).standing := by
  have kept : (((s.updTurn (pairOf l) fun t => t.setPaid (sideOf l) true).headRules l).lane l).standing =
      (s.lane l).standing := by
    rw [standing_headRules (.inr (.inl ?_)), lane_updTurn]
    rw [turn_updTurn_same, paid_setPaid_same]
  simp only [State.takePaid]
  split
  · exact kept
  · split
    · exact standing_launch ..
    · exact kept

theorem standing_turnPaid (there : (s.lane l).meter = some m) : ((s.turnPaid l m).lane l).standing = (s.lane l).standing := by
  unfold State.turnPaid
  split
  · exact standing_takePaid ..
  next time =>
    refine standing_headRules (.inr (.inr fun n there' => ?_))
    rw [there, Option.some.injEq] at there'
    rwa [← there']

/-! ## A retry that pays (R166) -/

/-- What a paid retry makes of the meter. -/
structure Meter.settled (m paid : Meter) (d : Declined) (pr : Price) (length : Nat) : Prop where
  declined : paid.declined = none
  phase : paid.phase = .metered
  balance : paid.balance = m.balance - Declined.price d pr
  credited : paid.credited = m.credited
  unit : m.kind = .time → paid.unit = some ⟨length, none⟩ ∧ paid.left = length

theorem settled_ungamed {pr : Price} {length : Nat} (h : m.settled paid d pr length) {n : Meter}
    (same : n.ungamed = paid.ungamed) : m.settled n d pr length := by
  have whole (a : Meter) : a = { a.ungamed with games := a.games } := rfl
  rw [whole n, same]
  exact ⟨h.declined, h.phase, h.balance, h.credited, h.unit⟩

theorem kind_addCharge (m : Meter) (price : Nat) : (m.addCharge price).kind = m.kind :=
  congrArg Prod.fst (account_addCharge m price)

theorem credited_addCharge (m : Meter) (price : Nat) : (m.addCharge price).credited = m.credited :=
  congrArg (fun x => x.2.2) (account_addCharge m price)

theorem balance_addCharge (m : Meter) (price : Nat) : (m.addCharge price).balance = m.balance := by
  unfold Meter.addCharge
  split <;> rfl

theorem charge_paid (prepaid : m.mode = .prepaid) {price : Nat} (afford : price ≤ m.balance) :
    m.charge price = some ({ m with balance := m.balance - price }.addCharge price) := by
  unfold Meter.charge
  split
  · exact if_neg (Nat.not_lt.mpr afford)
  next tab => exact nomatch tab.symm.trans prepaid

theorem charge_unpaid (prepaid : m.mode = .prepaid) {price : Nat} (lacks : m.balance < price) : m.charge price = none := by
  unfold Meter.charge
  split
  · exact if_pos lacks
  next tab => exact nomatch tab.symm.trans prepaid

theorem retry_paid (owed : m.declined = some d) (prepaid : m.mode = .prepaid) {pr : Price}
    (afford : Declined.price d pr ≤ m.balance) (length : Nat) :
    ∃ paid, m.retry pr length = some paid ∧ m.settled paid d pr length := by
  have kind := kind_addCharge { m with balance := m.balance - Declined.price d pr } (Declined.price d pr)
  have balance := balance_addCharge { m with balance := m.balance - Declined.price d pr } (Declined.price d pr)
  have credited := credited_addCharge { m with balance := m.balance - Declined.price d pr } (Declined.price d pr)
  rw [Meter.retry, owed]
  dsimp only
  rw [charge_paid prepaid afford, Option.map_some]
  generalize Meter.addCharge _ _ = c at *
  refine ⟨_, rfl, ?_⟩
  dsimp only at kind
  cases held : m.kind with
  | games =>
    rw [kind, held]
    exact ⟨rfl, rfl, balance, credited, fun time => nomatch held.symm.trans time⟩
  | time =>
    rw [kind, held]
    exact ⟨rfl, rfl, balance, credited, fun _ => ⟨rfl, rfl⟩⟩

theorem retry_unpaid (owed : m.declined = some d) (prepaid : m.mode = .prepaid) {pr : Price}
    (lacks : m.balance < Declined.price d pr) (length : Nat) : m.retry pr length = none := by
  rw [Meter.retry, owed]
  dsimp only
  rw [charge_unpaid prepaid lacks]
  rfl

theorem retried_eq (there : (s.lane l).meter = some m) : s.retried l = m.retry (s.priceOf l) s.billing.unit := by
  rw [State.retried, there]
  rfl

/-! ## The session of a lane that wakes -/

theorem lane_resumeSession (s : State) (l : Fin 16) (st : SessionState) :
    (s.resumeSession l st).lane l =
      { s.lane l with session := { (s.lane l).session.enter st with wakeMask := .empty, parkCause := .none } } := by
  rw [State.resumeSession, State.updSession, lane_updLane_same]

theorem standing_resumeMachines (s : State) (l : Fin 16) : ((s.resumeMachines l).lane l).standing = (s.lane l).standing := by
  simp [Lane.standing]

/-- A lane whose session and meter, apart from the games, are known. -/
theorem of_standing {n : Session} (h : (t.lane l).standing = (n, some paid.ungamed)) :
    (t.lane l).session = n ∧ ∃ m, (t.lane l).meter = some m ∧ m.ungamed = paid.ungamed :=
  ⟨congrArg Prod.fst h, Option.map_eq_some_iff.mp (congrArg Prod.snd h)⟩

theorem session_of_standing {a b : Lane} (h : a.standing = b.standing) : a.session = b.session := congrArg Prod.fst h

theorem left_resumeBack {back : Nat} (some : back ≠ 0) : (m.resumeBack back).left ≠ 0 := by
  rw [Meter.resumeBack]
  dsimp only
  split
  · exact some
  next left => exact left

/-- A lane that wakes with its owed charge paid. -/
theorem wake_paid (there : (s.lane l).meter = some m) (owed : m.declined = some d) (prepaid : m.mode = .prepaid)
    (afford : Declined.price d (s.priceOf l) ≤ m.balance) :
    ((s.wake l).lane l).session = (s.lane l).session.asOpen ∧
      ∃ m', ((s.wake l).lane l).meter = some m' ∧ m.settled m' d (s.priceOf l) s.billing.unit := by
  obtain ⟨paid, retry, settled⟩ := retry_paid owed prepaid afford s.billing.unit
  have woke : s.wake l = (((s.setMeter l paid).resumeSession l .opened).resumeMachines l).turnPaid l paid := by
    rw [State.wake, there]
    dsimp only
    rw [owed, retried_eq there, retry]
  have meter : ((((s.setMeter l paid).resumeSession l .opened).resumeMachines l).lane l).meter = some paid := by
    rw [meter_resumeMachines, lane_resumeSession]
    exact meter_setMeter there paid
  have standing : ((s.wake l).lane l).standing = ((s.lane l).session.asOpen, some paid.ungamed) := by
    rw [woke, standing_turnPaid meter, standing_resumeMachines, lane_resumeSession, lane_setMeter, there]
    rfl
  obtain ⟨session, m', meter', same⟩ := of_standing standing
  exact ⟨session, m', meter', settled_ungamed settled same⟩

/-- A lane that wakes with its owed charge declined again. -/
theorem wake_declined (there : (s.lane l).meter = some m) (owed : m.declined = some d) (prepaid : m.mode = .prepaid)
    (lacks : m.balance < Declined.price d (s.priceOf l)) (back : s.billing.back ≠ 0) :
    ((s.wake l).lane l).session = { (s.lane l).session.asOpen with state := .closing, closingReason := .noCredit } ∧
      ((s.wake l).lane l).meter = some { m with left := if m.left = 0 then s.billing.back else m.left } ∧
      (s.wake l).flagged .dk 3 := by
  have woke : s.wake l =
      ((((((s.setMeter l (m.resumeBack s.billing.back)).resumeSession l .closing).flagDk .laneClosing).resumeMachines
        l).headRules l).zeroBackGrace l) := by
    rw [State.wake, there]
    dsimp only
    rw [owed, retried_eq there, retry_unpaid owed prepaid lacks]
  have lane : ((((s.setMeter l (m.resumeBack s.billing.back)).resumeSession l .closing).flagDk .laneClosing).lane l) =
      { s.lane l with
        session := { (s.lane l).session.asOpen with state := .closing, closingReason := .noCredit }
        meter := some (m.resumeBack s.billing.back) } := by
    rw [lane_flagDk, lane_resumeSession, lane_setMeter, there]
    rfl
  have told : (((s.setMeter l (m.resumeBack s.billing.back)).resumeSession l .closing).flagDk .laneClosing).flagged .dk 3 :=
    flagged_setEvent_same _ .dk 3
  rw [woke]
  generalize ((s.setMeter l (m.resumeBack s.billing.back)).resumeSession l .closing).flagDk .laneClosing = t at *
  have stopped : (t.resumeMachines l).session l ≠ .opened := by
    rw [session_resumeMachines, State.session, lane]
    nofun
  have session : (((t.resumeMachines l).headRules l).lane l).session =
      { (s.lane l).session.asOpen with state := .closing, closingReason := .noCredit } := by
    have same : (((t.resumeMachines l).headRules l).lane l).session = ((t.resumeMachines l).lane l).session :=
      session_of_standing (standing_headRules (.inl stopped))
    rw [same, record_resumeMachines, lane]
  have meter : (((t.resumeMachines l).headRules l).lane l).meter = some (m.resumeBack s.billing.back) := by
    rw [meter_headRules_stopped stopped, meter_resumeMachines, lane]
  have stays : ((t.resumeMachines l).headRules l).zeroBackGrace l = (t.resumeMachines l).headRules l := by
    exact zeroBackGrace_counting meter fun _ => left_resumeBack back
  rw [stays]
  exact ⟨session, meter, flagged_headRules (flagged_resumeMachines told l) l⟩

/-- A lane that wakes with nothing owed, and no unit that ends, where nobody is queued. -/
theorem wake_nobody (there : (s.lane l).meter = some m) (clear : m.declined = none) (runs : m.kind = .games ∨ 0 < m.left)
    (nobody : s.nobodyQueued l) :
    ((s.wake l).lane l).session = (s.lane l).session.asOpen ∧ ((s.wake l).lane l).meter = some m ∧
      ((s.wake l).lane l).sup =
        { ((s.lane l).sup.granted s.timers.warmUp) with horn := ((s.wake l).lane l).sup.horn } ∧
      (s.wake l).turn (pairOf l) = s.turn (pairOf l) := by
  have woke : s.wake l =
      (((((s.resumeSession l .opened).endFrozen l).resumeMachines l).headRules l).zeroBackGrace l) := by
    rw [State.wake, there]
    dsimp only
    rw [clear]
  have lane := lane_resumeSession s l .opened
  have frozen : (s.resumeSession l .opened).endFrozen l = s.resumeSession l .opened := by
    rw [State.endFrozen, State.endPeriod, lane]
    dsimp only
    rw [there]
    dsimp only
    split
    next ended =>
      rcases runs with games | left
      · rw [games]
      · exact absurd ended (Nat.ne_of_gt left)
    next => rfl
  rw [frozen] at woke
  have chip : (s.resumeSession l .opened).chip = s.chip := chip_resumeSession ..
  have turn : (s.resumeSession l .opened).turn (pairOf l) = s.turn (pairOf l) := turn_resumeSession ..
  rw [woke]
  generalize s.resumeSession l .opened = b at *
  have nobody : (b.resumeMachines l).nobodyQueued l := by
    rw [State.nobodyQueued, turn_resumeMachines, turn]
    exact nobody
  obtain ⟨lanes, turns, -⟩ := headRules_nobody nobody
  have own := lane_resumeMachines b l
  have stays : ((b.resumeMachines l).headRules l).session l = .opened := by
    rw [State.session, lanes, record_resumeMachines, lane]
    rfl
  rw [zeroBackGrace_open stays, lanes, turns, turn_resumeMachines]
  rw [timers_of_chip chip, lane] at own
  exact ⟨by rw [own]; rfl, by rw [own]; exact there, (congrArg (fun a : Lane => a.sup) own :), turn⟩

end Sys2Proof.Machine
end

section
/-! PROOFS. PARK LANE (R8, R9, R10, R60). -/

namespace Sys2Proof.Machine

variable {s t : State} {l k : Fin 16} {i : Fin 12} {m : Meter} {q : Port} {mask : Nat}

/-! ## The wake mask and the park cause go with the park (R15) -/

/-- A lane that is PARKED, or waits for nothing. -/
def Lane.unmasked (a : Lane) : Prop :=
  a.session.state = .parked ∨ a.session.wakeMask = .empty ∧ a.session.parkCause = .none

theorem unmasked_of_session (h : (s.lane l).unmasked) (session : (t.lane l).session = (s.lane l).session) :
    (t.lane l).unmasked := by
  rwa [Lane.unmasked, session]

theorem unmasked_enterClosing (h : (s.lane l).unmasked) (runs : s.running l = true) :
    ((s.enterClosing l).lane l).unmasked := by
  rw [lane_enterClosing]
  rcases h with parked | clear
  · have parked : s.session l = .parked := parked
    rw [State.running, parked] at runs
    cases runs
  · exact .inr clear

theorem unmasked_zeroBackGrace (h : (s.lane l).unmasked) : ((s.zeroBackGrace l).lane l).unmasked := by
  unfold State.zeroBackGrace State.parkExhausted State.park
  split
  · split
    · split
      · rw [State.updSession, lane_updLane_same]
        exact h
      · rw [lane_enterParked]
        exact .inl rfl
    · exact h
  · exact h

theorem unmasked_askGame (h : (s.lane l).unmasked) (isOpen : s.session l = .opened) (i : Fin 12) :
    ((s.askGame l i).lane l).unmasked := by
  have metered (m : Meter) : ((s.setMeter l m).lane l).unmasked := unmasked_of_session h (by simp)
  unfold State.askGame
  split
  · exact h
  · split
    next paid _ => exact unmasked_of_session (metered paid) (by simp)
    · refine unmasked_zeroBackGrace (unmasked_enterClosing (metered _) ?_)
      rw [State.running, session_setMeter, isOpen]
      rfl

theorem unmasked_raiseHead (h : (s.lane l).unmasked) (i : Fin 12) : ((s.raiseHead l i).lane l).unmasked := by
  unfold State.raiseHead
  split
  · exact unmasked_of_session h (by simp)
  · exact unmasked_of_session h (by simp)
  · split
    next isOpen =>
      split
      · exact unmasked_of_session h (by simp)
      · exact unmasked_askGame h isOpen i
    · exact h

theorem unmasked_headRules (h : (s.lane l).unmasked) : ((s.headRules l).lane l).unmasked := by
  have queued (list : List (Fin 12)) : ((s.updTurn (pairOf l) fun v => v.setQueue (sideOf l) list).lane l).unmasked := by
    rwa [lane_updTurn]
  simp only [State.headRules]
  split
  · exact h
  · split
    · exact h
    · split
      · exact queued _
      · split
        · exact queued _
        · exact unmasked_raiseHead (queued _) _

theorem unmasked_turnPaid (h : (s.lane l).unmasked) (m : Meter) : ((s.turnPaid l m).lane l).unmasked := by
  have kept : (((s.updTurn (pairOf l) fun v => v.setPaid (sideOf l) true).headRules l).lane l).unmasked :=
    unmasked_headRules (by rwa [lane_updTurn])
  unfold State.turnPaid
  split
  · simp only [State.takePaid]
    split
    · exact kept
    · split
      · exact unmasked_of_session h (by simp)
      · exact kept
  · exact unmasked_headRules h

theorem unmasked_startUnit (h : (s.lane l).unmasked) (runs : s.running l = true) : ((s.startUnit l).lane l).unmasked := by
  have metered (m : Meter) : ((s.setMeter l m).lane l).unmasked := unmasked_of_session h (by simp)
  simp only [State.startUnit]
  split
  · exact h
  · split
    · exact unmasked_enterClosing (metered _) (by rwa [State.running, session_setMeter])
    · exact metered _

theorem unmasked_endFrozen (h : (s.lane l).unmasked) (runs : s.running l = true) : ((s.endFrozen l).lane l).unmasked := by
  have metered (m : Meter) : ((s.setMeter l m).lane l).unmasked := unmasked_of_session h (by simp)
  unfold State.endFrozen State.endPeriod
  split
  · exact h
  · split
    · split
      · exact h
      · split
        · exact unmasked_startUnit h runs
        · exact unmasked_startUnit (metered _) (by rwa [State.running, session_setMeter])
        · exact h
    · exact h

/-- A lane that wakes waits for nothing, unless it parks again. -/
theorem unmasked_wake (s : State) (l : Fin 16) : ((s.wake l).lane l).unmasked := by
  have woken (t : State) (st : SessionState) : ((t.resumeSession l st).lane l).unmasked := by
    rw [lane_resumeSession]
    exact .inr ⟨rfl, rfl⟩
  have machines {t : State} (h : (t.lane l).unmasked) : ((t.resumeMachines l).lane l).unmasked :=
    unmasked_of_session h (by simp)
  unfold State.wake
  split
  · exact unmasked_headRules (machines (woken _ _))
  · split
    · exact unmasked_zeroBackGrace (unmasked_headRules (machines (unmasked_endFrozen (woken _ _)
        (running_resumeSession _ l .opened))))
    · exact unmasked_turnPaid (machines (woken _ _)) _
    · exact unmasked_zeroBackGrace (unmasked_headRules (machines (by rw [lane_flagDk]; exact woken _ _)))

/-- A lane that wakes where a back grace is set: it is OPEN or CLOSING, and waits for nothing. -/
theorem wake_running (back : s.billing.back ≠ 0) :
    ((s.wake l).session l = .opened ∨ (s.wake l).session l = .closing) ∧
      ((s.wake l).lane l).session.wakeMask = .empty ∧ ((s.wake l).lane l).session.parkCause = .none := by
  obtain ⟨⟨-, runs, -⟩, -⟩ := wake_graced (l := l) back
  refine ⟨running_iff.mp runs, ?_⟩
  rcases unmasked_wake s l with parked | clear
  · have parked : (s.wake l).session l = .parked := parked
    rw [State.running, parked] at runs
    cases runs
  · exact clear

/-! ## The request -/

theorem exec_parkLane (able : s.canServe q) (notMechanic : q ≠ .mc) (owns : ownsPair q (pairOf l)) (fits : mask ≤ 15)
    (allowed : maskBarred q mask = false) (inPlay : s.session l ≠ .closed) :
    exec (.parkLane q (laneNo l) mask) s =
      .next (if (WakeMask.ofNat mask).credit && s.creditHolds l then (s.parkWoke l).replying q 0x12 .woke []
        else (s.parkTaken l (WakeMask.ofNat mask) (parkCauseOf q)).replying q 0x12 .ok []) := by
  have range : decide (15 < mask) = false := decide_eq_false (Nat.not_lt.mpr fits)
  have taken := exec_accepted (i := .parkLane q (laneNo l) mask) (s := s) rfl able.1 rfl (by
    rw [inLanes_laneNo, outsideLane_of_owns owns, allowed, beq_eq_false_iff_ne.mpr notMechanic, range, able.2, laneIx_laneNo,
      beq_eq_false_iff_ne.mpr inPlay]; rfl) (by split <;> nofun)
  rw [laneIx_laneNo] at taken
  rw [taken]
  split <;> rfl

/-- A lane that parks, or whose park is removed: all else stays. -/
structure State.parksOnly (s t : State) (l : Fin 16) : Prop where
  chip : t.chip = s.chip
  line : ∀ q, (t.port q).line = (s.port q).line
  lanes : ∀ k, k ≠ l → t.lane k = s.lane k
  pairs : ∀ p, p ≠ pairOf l → t.pair p = s.pair p
  turn : t.turn (pairOf l) = s.turn (pairOf l)
  pool : t.pool = s.pool
  directory : t.directory = s.directory

theorem parksOnly_parkTaken (s : State) (l : Fin 16) (mask : WakeMask) (cause : ParkCause) :
    s.parksOnly (s.parkTaken l mask cause) l :=
  ⟨chip_parkTaken .., line_parkTaken s l mask cause, laneOther_parkTaken s l mask cause, pairOther_parkTaken s l mask cause, turn_parkTaken .., pool_parkTaken ..,
    directory_parkTaken ..⟩

theorem parksOnly_dropPending (s : State) (l : Fin 16) : s.parksOnly (s.dropPending l) l :=
  ⟨chip_dropPending .., line_dropPending s l, laneOther_dropPending s l, fun _ _ => pair_dropPending .., turn_dropPending ..,
    pool_dropPending .., directory_dropPending ..⟩

/-- What the last clause of PARK LANE says, of the state as it is answered. -/
theorem parksOnly_replying (h : s.parksOnly t l) (q : Port) (code : Byte) (o : ReplyOutcome) (results : List Byte) :
    s.sameLanesBut (t.replying q code o results) [l] ∧ s.samePairsBut (t.replying q code o results) [pairOf l] ∧
      (t.replying q code o results).turn (pairOf l) = s.turn (pairOf l) ∧
      (t.replying q code o results).pool = s.pool ∧ (t.replying q code o results).directory = s.directory := by
  refine ⟨fun k other => ?_, fun p other => ?_, (turn_replying ..).trans h.turn, (pool_replying ..).trans h.pool,
    (directory_replying ..).trans h.directory⟩
  · rw [lane_replying, h.lanes k (by simpa using other)]
  · rw [pair_replying, h.pairs p (by simpa using other)]

/-! ## A park taken (R8, R9, R10) -/

theorem parkTaken_parked (parked : s.session l = .parked) (mask : WakeMask) (cause : ParkCause) :
    (s.parkTaken l mask cause).lane l =
        { s.lane l with session := { (s.lane l).session with wakeMask := mask, parkCause := cause } } ∧
      (s.parkTaken l mask cause).ret (pairOf l) = s.ret (pairOf l) := by
  rw [State.parkTaken, if_pos parked]
  exact ⟨by rw [State.updSession, lane_updLane_same], ret_updSession ..⟩

theorem parkTaken_cycling (inPlay : s.session l ≠ .parked) (cycles : (s.lane l).sup.state = .cycling) (mask : WakeMask)
    (cause : ParkCause) :
    (s.parkTaken l mask cause).lane l =
        { s.lane l with session := { (s.lane l).session with pendingPark := some ⟨mask, cause⟩ } } ∧
      (s.parkTaken l mask cause).ret (pairOf l) = s.ret (pairOf l) := by
  rw [State.parkTaken, if_neg inPlay, State.park, if_pos cycles]
  exact ⟨by rw [State.updSession, lane_updLane_same], ret_updSession ..⟩

theorem parkTaken_enters (inPlay : s.session l ≠ .parked) (rests : (s.lane l).sup.state ≠ .cycling) (mask : WakeMask)
    (cause : ParkCause) : s.parkTaken l mask cause = s.enterParked l mask cause := by
  rw [State.parkTaken, if_neg inPlay, State.park, if_neg rests]

/-- Settles O17, by the CREDIT test and the state of the lane that the park finds. -/
theorem parkLaneParks : Obligations.ParkLaneParks := by
  unfold Obligations.ParkLaneParks
  intro l q mask s able notMechanic owns fits allowed inPlay
  refine ⟨_, exec_parkLane able notMechanic owns fits allowed inPlay, ?_⟩
  by_cases held : (WakeMask.ofNat mask).credit = true ∧ s.creditHolds l = true
  · rw [if_pos (by rw [held.1, held.2]; rfl)]
    by_cases parked : s.session l = .parked
    · have woke : s.parkWoke l = s.wake l := if_pos parked
      have rests := rests_wake s l
      have running := wake_running (s := s) (l := l)
      rw [woke, chip_replying, chip_wake]
      refine ⟨rfl, fun _ _ => ⟨answers_replying (line_wake s l) _ _ _ _, rests_replying rests _ _ _ _, fun back => ?_⟩,
        fun _ other => absurd parked other, fun free => absurd held free, fun free => ?_⟩
      · rw [session_replying, lane_replying]
        exact running back
      · exact absurd held (free.resolve_right (not_not_intro parked))
    · have woke : s.parkWoke l = s.dropPending l := if_neg parked
      have only := parksOnly_dropPending s l
      rw [woke, chip_replying, chip_dropPending]
      refine ⟨rfl, fun _ other => absurd other parked, fun _ _ => ⟨answers_replying only.line _ _ _ _, ?_, ?_⟩,
        fun free => absurd held free, fun _ => parksOnly_replying only _ _ _ _⟩
      · rw [ret_replying, State.dropPending, ret_updSession]
      · rw [lane_replying, lane_dropPending]
  · rw [if_neg (by simpa using held)]
    have only := parksOnly_parkTaken s l (WakeMask.ofNat mask) (parkCauseOf q)
    rw [chip_replying, chip_parkTaken]
    refine ⟨rfl, fun credit => absurd credit held, fun credit => absurd credit held,
      fun _ => ⟨answers_replying only.line _ _ _ _, fun kept => ?_, fun parked => ?_, fun inPlay cycles => ?_,
        fun inPlay rests => ?_⟩, fun _ => parksOnly_replying only _ _ _ _⟩
    · rw [ret_replying]
      by_cases parked : s.session l = .parked
      · exact (parkTaken_parked parked _ _).2
      · exact (parkTaken_cycling parked (kept.resolve_left parked) _ _).2
    · rw [lane_replying, (parkTaken_parked parked _ _).1]
    · rw [lane_replying, (parkTaken_cycling inPlay cycles _ _).1]
    · rw [parkTaken_enters inPlay rests, lane_replying, lane_enterParked]
      exact ⟨rfl, returnStopped_replying (returnStopped_enterParked ..) _ _ _ _,
        flagged_replying (laneParked_enterParked ..) _ _ _ _, flagged_replying (laneStateChanged_enterParked inPlay _ _) _ _ _ _⟩

end Sys2Proof.Machine
end

section
/-! PROOFS. RESUME LANE and the wake (R14, R15, R56, R60). -/

namespace Sys2Proof.Machine

variable {s t : State} {l k : Fin 16} {m : Meter} {q : Port}

/-! ## What the wake keeps and tells -/

theorem settings_turnPaid (s : State) (l : Fin 16) (m : Meter) :
    ((s.turnPaid l m).lane l).session.settings = (s.lane l).session.settings := by
  have kept : (((s.updTurn (pairOf l) fun v => v.setPaid (sideOf l) true).headRules l).lane l).session.settings =
      (s.lane l).session.settings := by
    rw [(playsOn_headRules _ l).settings, lane_updTurn]
  unfold State.turnPaid
  split
  · simp only [State.takePaid]
    split
    · exact kept
    · split
      · exact (playsOn_launch ..).settings
      · exact kept
  · exact (playsOn_headRules s l).settings

theorem settings_endFrozen (s : State) (l : Fin 16) :
    ((s.endFrozen l).lane l).session.settings = (s.lane l).session.settings := by
  have metered (m : Meter) : ((s.setMeter l m).lane l).session.settings = (s.lane l).session.settings := by simp
  unfold State.endFrozen State.endPeriod
  split
  · rfl
  · split
    · split
      · rfl
      · split
        · exact (playsOn_startUnit s l).settings
        · exact (playsOn_startUnit _ l).settings.trans (metered _)
        · rfl
    · rfl

theorem settings_wake (s : State) (l : Fin 16) : ((s.wake l).lane l).session.settings = (s.lane l).session.settings := by
  have woken (t : State) (st : SessionState) :
      ((t.resumeSession l st).lane l).session.settings = (t.lane l).session.settings := by rw [lane_resumeSession]; rfl
  have machines (t : State) : ((t.resumeMachines l).lane l).session.settings = (t.lane l).session.settings := by simp
  have metered (t : State) (m : Meter) : ((t.setMeter l m).lane l).session.settings = (t.lane l).session.settings := by simp
  unfold State.wake
  split
  · rw [(playsOn_headRules _ l).settings, machines, woken]
  · split
    · rw [(playsOn_zeroBackGrace _ l).settings, (playsOn_headRules _ l).settings, machines, settings_endFrozen, woken]
    · rw [settings_turnPaid, machines, woken, metered]
    · rw [(playsOn_zeroBackGrace _ l).settings, (playsOn_headRules _ l).settings, machines, lane_flagDk, woken, metered]

/-- A lane that wakes has left PARKED, and its console is told. -/
theorem laneStateChanged_wake (parked : s.session l = .parked) : (s.wake l).flagged (.console (pairOf l)) 3 := by
  have told (t : State) (st : SessionState) (leaves : st ≠ .parked) (session : t.session l = .parked) :
      (t.resumeSession l st).flagged (.console (pairOf l)) 3 :=
    flagged_updSession_changed (f := fun n => { n.enter st with wakeMask := .empty, parkCause := .none })
      fun same => leaves (same.trans session)
  have metered (m : Meter) : (s.setMeter l m).session l = .parked := by simpa using parked
  unfold State.wake
  split
  · exact flagged_headRules (flagged_resumeMachines (told _ .opened nofun parked) l) l
  · split
    · exact flagged_zeroBackGrace (flagged_headRules (flagged_resumeMachines
        (flagged_endFrozen (told _ .opened nofun parked) l) l) l) l
    · exact flagged_turnPaid (flagged_resumeMachines (told _ .opened nofun (metered _)) l) l _
    · exact flagged_zeroBackGrace (flagged_headRules (flagged_resumeMachines
        (flagged_flagDk (told _ .closing nofun (metered _)) _) l) l) l

/-! ## The request -/

theorem exec_resumeRefused (able : s.canServe q) (notMechanic : q ≠ .mc) (owns : ownsPair q (pairOf l))
    (refused : s.resumeRefused q l = true) :
    exec (.resumeLane q (laneNo l)) s = .next (s.replying q 0x13 .state []) :=
  exec_refused (i := .resumeLane q (laneNo l)) rfl able.1 rfl (by
    rw [inLanes_laneNo, outsideLane_of_owns owns, beq_eq_false_iff_ne.mpr notMechanic, able.2, laneIx_laneNo, refused]; rfl)
    nofun

theorem exec_resumeTaken (able : s.canServe q) (notMechanic : q ≠ .mc) (owns : ownsPair q (pairOf l))
    (taken : s.resumeRefused q l = false) :
    exec (.resumeLane q (laneNo l)) s = .next ((s.parkWoke l).replying q 0x13 .ok []) := by
  have served := exec_ok (i := .resumeLane q (laneNo l)) (s := s) rfl able.1 rfl (by
    rw [inLanes_laneNo, outsideLane_of_owns owns, beq_eq_false_iff_ne.mpr notMechanic, able.2, laneIx_laneNo, taken]; rfl)
  rwa [laneIx_laneNo] at served

/-- A park that waits is removed, and the console is told. -/
theorem dropPending_eq (waits : (s.lane l).session.pendingPark ≠ none) :
    s.dropPending l =
      (s.modLane l fun a => { a with session := { a.session with pendingPark := none } }).flagConsole (pairOf l)
        .laneStateChanged := by
  rw [State.dropPending, State.updSession, State.updLane,
    if_neg fun same => waits (congrArg (fun w => w.2.2.1) same).symm]

/-- Settles O18, by the state in which RESUME LANE finds the lane, and the rules of the wake. -/
theorem resumeLaneWakes : Obligations.ResumeLaneWakes := by
  unfold Obligations.ResumeLaneWakes
  intro l q s able notMechanic owns
  refine ⟨fun parked console barred => ?_, fun inPlay cause => ?_, fun runs desk waits => ?_, fun parked allowed => ?_⟩
  · refine exec_resumeRefused able notMechanic owns ?_
    simp [State.resumeRefused, console, barred]
  · refine exec_resumeRefused able notMechanic owns ?_
    have parked : ((s.lane l).session.state == .parked) = false := beq_eq_false_iff_ne.mpr inPlay
    rw [State.resumeRefused, parked]
    split
    · rfl
    next desk =>
      rcases cause with console | closed | none
      · exact absurd console desk
      · rw [show (s.lane l).session.state = .closed from closed]
        rfl
      · rw [none]
        cases (s.lane l).session.state.grants <;> rfl
  · have inPlay : s.session l ≠ .parked := by
      rcases running_iff.mp runs with state | state <;> rw [state] <;> nofun
    have grants : (s.lane l).session.state.grants = true := runs
    have some : (s.lane l).session.pendingPark.isSome = true := Option.isSome_iff_ne_none.mpr waits
    have taken : s.resumeRefused q l = false := by
      rw [State.resumeRefused, grants, some, desk]
      simp [Port.isConsole]
    rw [exec_resumeTaken able notMechanic owns taken, State.parkWoke, if_neg inPlay, dropPending_eq waits]
  · have state : (s.lane l).session.state = .parked := parked
    have taken : s.resumeRefused q l = false := by
      rw [State.resumeRefused, state]
      rcases allowed with desk | console
      · rw [desk]; rfl
      · rw [console]; cases q.isConsole <;> rfl
    refine ⟨_, exec_resumeTaken able notMechanic owns taken, ?_⟩
    rw [State.parkWoke, if_pos parked]
    have line := line_wake s l
    have rests := rests_wake s l
    have told := laneStateChanged_wake parked
    have records := records_wake s l
    have far (k : Fin 16) (h : pairOf k ≠ pairOf l) := far_wake s h
    have beside := silent_lane_wake s (otherLane_ne l)
    have pair (w : Fin 8) (h : w ≠ pairOf l) := pairOther_wake s l w h
    have settings := settings_wake s l
    have nobody (m : Meter) := wake_nobody (s := s) (l := l) (m := m)
    have paid (m : Meter) (d : Declined) := wake_paid (s := s) (l := l) (m := m) (d := d)
    have declined (m : Meter) (d : Declined) := wake_declined (s := s) (l := l) (m := m) (d := d)
    have chip := chip_wake s l
    generalize s.wake l = t at *
    simp only [chip_replying, lane_replying, turn_replying]
    refine ⟨answers_replying line _ _ _ _, chip, flagged_replying told _ _ _ _,
      sameRecords_iff.mpr ((records_of_directory (directory_replying ..)).trans records), rests_replying rests _ _ _ _,
      fun w other => ?_, fun k other => ?_, sameLaneButHorn_replying beside _ _ _ _, settings,
      fun m there clear runs queue => nobody m there clear runs queue, fun m d there owed prepaid afford => ?_,
      fun m d there owed prepaid lacks back _ => ?_⟩
    · rw [pair_replying, pair w (by simpa using other)]
    · rw [lane_replying, far k fun beside => other (by simpa using (lane_of_pair l k).mp beside)]
    · obtain ⟨session, m', there', settled⟩ := paid m d there owed prepaid afford
      exact ⟨session, m', there', settled.declined, settled.phase, settled.balance, settled.credited, settled.unit⟩
    · obtain ⟨session, meter, flag⟩ := declined m d there owed prepaid lacks back
      exact ⟨session, meter, flagged_replying flag _ _ _ _⟩

end Sys2Proof.Machine
end

section
/-! PROOFS. SET LANE SETTINGS (R17, R42). -/

namespace Sys2Proof.Machine

variable {s t : State} {l k : Fin 16} {q : Port} {scope : Nat} {cls foul mask lamps : Option Nat}

/-! ## What a re-test of CREDIT keeps -/

theorem silent_lane_retest (s : State) {l k : Fin 16} (other : k ≠ l) :
    ((s.retest l).lane k).silent = (s.lane k).silent := by
  have dropped : (s.dropPending l).lane k = s.lane k := laneOther_dropPending _ _ _ other
  simp only [State.retest]
  split
  · split
    · split
      · exact silent_lane_wake s other
      · rfl
    · split
      · rw [dropped]
      · rfl
    · split
      · rw [dropped]
      · rfl
    · rfl
  · rfl

/-- The settings and the waiting foul of a lane. -/
def Lane.foulRule (a : Lane) : LaneSettings × Option Nat := (a.session.settings, a.sup.waitingFoul)

theorem foulRule_wake (s : State) (l : Fin 16) : ((s.wake l).lane l).foulRule = (s.lane l).foulRule := by
  have foul : ((s.wake l).lane l).sup.waitingFoul = (s.lane l).sup.waitingFoul :=
    congrArg (fun x => x.2.2.2) (play_wake s l)
  rw [Lane.foulRule, settings_wake, foul]
  rfl

theorem foulRule_retest (s : State) (l k : Fin 16) : ((s.retest l).lane k).foulRule = (s.lane k).foulRule := by
  by_cases own : k = l
  · subst own
    have dropped : ((s.dropPending k).lane k).foulRule = (s.lane k).foulRule := by
      rw [lane_dropPending]
      rfl
    simp only [State.retest]
    split
    · split
      · split
        · exact foulRule_wake s k
        · rfl
      · split
        · exact dropped
        · rfl
      · split
        · exact dropped
        · rfl
      · rfl
    · rfl
  · have same := congrArg Lane.foulRule (silent_lane_retest s own)
    exact same

/-! ## The lanes in scope -/

/-- A lane that has taken its settings. -/
def Lane.written (a : Lane) (cls foul mask lamps : Option Nat) : Lane :=
  { a with
    session := { a.session with settings := a.session.settings.write cls foul mask lamps }
    sup := { a.sup with waitingFoul := if foul = some 0 then none else a.sup.waitingFoul } }

theorem lane_writeLane (s : State) (l k : Fin 16) (cls foul mask lamps : Option Nat) :
    (s.writeLane l cls foul mask lamps).lane k =
      if k = l then (s.lane k).written cls foul mask lamps else s.lane k := by
  by_cases own : k = l
  · subst own
    rw [if_pos rfl]
    unfold State.writeLane
    dsimp only
    split
    next off =>
      rw [State.modSup, lane_modLane, if_pos rfl, lane_modLane, if_pos rfl, Lane.written, if_pos off]
    next on => rw [lane_modLane, if_pos rfl, Lane.written, if_neg on]
  · rw [if_neg own, laneOther_writeLane _ _ _ _ _ _ _ own]

theorem written_written (a : Lane) : (a.written cls foul mask lamps).written cls foul mask lamps = a.written cls foul mask lamps := by
  have again (x : LaneSettings) : (x.write cls foul mask lamps).write cls foul mask lamps = x.write cls foul mask lamps := by
    cases cls <;> cases foul <;> cases mask <;> cases lamps <;> rfl
  unfold Lane.written
  dsimp only
  rw [again]
  split <;> rfl

theorem lane_writeAll (list : List (Fin 16)) (s : State) (k : Fin 16) :
    (list.foldl (fun s l => s.writeLane l cls foul mask lamps) s).lane k =
      if k ∈ list then (s.lane k).written cls foul mask lamps else s.lane k := by
  induction list generalizing s with
  | nil => rfl
  | cons l list ih =>
    rw [List.foldl_cons, ih, lane_writeLane]
    by_cases head : k = l
    · simp [head, written_written]
    · simp [head]

/-- The state in which every lane in scope has taken its settings. -/
def State.settingsTaken (s : State) (scope : Nat) (l : Fin 16) (cls foul mask lamps : Option Nat) : State :=
  (scopeLanes scope l).foldl (fun s l => s.writeLane l cls foul mask lamps) s

/-- The state in which the lanes whose class was written have taken their re-test. -/
def State.classTaken (s : State) (scope : Nat) (l : Fin 16) (cls foul mask lamps : Option Nat) : State :=
  if cls.isSome then (scopeLanes scope l).foldl State.retest (s.settingsTaken scope l cls foul mask lamps)
  else s.settingsTaken scope l cls foul mask lamps

theorem writeLanes_eq (s : State) (scope : Nat) (l : Fin 16) (cls foul mask lamps : Option Nat) :
    s.writeLanes scope l cls foul mask lamps =
      (scopePairs scope l).foldl (fun s p => s.flagConsole p .laneStateChanged)
        (s.classTaken scope l cls foul mask lamps) := rfl

theorem lane_writeLanes (s : State) (k : Fin 16) :
    (s.writeLanes scope l cls foul mask lamps).lane k = (s.classTaken scope l cls foul mask lamps).lane k := by
  rw [writeLanes_eq]
  exact foldl_keeps (g := fun t : State => t.lane k) (fun t p => lane_flagConsole ..) _ _

theorem foulRule_writeLanes (s : State) (here : k ∈ scopeLanes scope l) :
    ((s.writeLanes scope l cls foul mask lamps).lane k).foulRule = ((s.lane k).written cls foul mask lamps).foulRule := by
  have taken : (s.settingsTaken scope l cls foul mask lamps).lane k = (s.lane k).written cls foul mask lamps := by
    rw [State.settingsTaken, lane_writeAll, if_pos here]
  rw [lane_writeLanes, ← taken, State.classTaken]
  split
  · exact foldl_keeps (g := fun t : State => (t.lane k).foulRule) (fun t j => foulRule_retest ..) _ _
  · rfl

theorem silent_foldl_retest (list : List (Fin 16)) (s : State) (away : k ∉ list) :
    ((list.foldl State.retest s).lane k).silent = (s.lane k).silent := by
  induction list generalizing s with
  | nil => rfl
  | cons l list ih =>
    obtain ⟨head, tail⟩ := List.ne_and_not_mem_of_not_mem_cons away
    rw [List.foldl_cons, ih _ tail, silent_lane_retest s head]

theorem silent_writeLanes (s : State) (away : k ∉ scopeLanes scope l) :
    ((s.writeLanes scope l cls foul mask lamps).lane k).silent = (s.lane k).silent := by
  have taken : (s.settingsTaken scope l cls foul mask lamps).lane k = s.lane k := by
    rw [State.settingsTaken, lane_writeAll, if_neg away]
  rw [lane_writeLanes, ← taken, State.classTaken]
  split
  · exact silent_foldl_retest _ _ away
  · rfl

theorem pairOf_mem_scopePairs (here : k ∈ scopeLanes scope l) : pairOf k ∈ scopePairs scope l := by
  unfold scopeLanes at here
  unfold scopePairs
  split at here
  · rw [List.mem_singleton] at here
    simp [here]
  · rw [List.mem_cons, List.mem_singleton] at here
    rcases here with rfl | rfl <;> simp [pairOf_laneAt]
  · exact mem_allPairs _

theorem flagged_writeLanes (s : State) (here : k ∈ scopeLanes scope l) :
    (s.writeLanes scope l cls foul mask lamps).flagged (.console (pairOf k)) 3 := by
  have told (list : List (Fin 8)) (t : State) (due : t.flagged (.console (pairOf k)) 3 ∨ pairOf k ∈ list) :
      (list.foldl (fun s p => s.flagConsole p .laneStateChanged) t).flagged (.console (pairOf k)) 3 := by
    induction list generalizing t with
    | nil => exact due.resolve_right List.not_mem_nil
    | cons p list ih =>
      rw [List.foldl_cons]
      refine ih _ ?_
      rcases due with set | listed
      · exact .inl (flagged_flagConsole set p _)
      · rcases List.mem_cons.mp listed with rfl | later
        · exact .inl (flagged_setEvent_same t _ 3)
        · exact .inr later
  rw [writeLanes_eq]
  exact told _ _ (.inr (pairOf_mem_scopePairs here))

/-- Settings written without a class change nothing but the lanes in scope. -/
theorem writeLanes_classless (s : State) (scope : Nat) (l : Fin 16) (foul mask lamps : Option Nat) :
    (s.writeLanes scope l none foul mask lamps).pairs = s.pairs ∧
      (s.writeLanes scope l none foul mask lamps).pool = s.pool ∧
      (s.writeLanes scope l none foul mask lamps).directory = s.directory ∧
      ∀ k, k ∈ scopeLanes scope l →
        (s.writeLanes scope l none foul mask lamps).lane k = (s.lane k).written none foul mask lamps := by
  have classless : s.classTaken scope l none foul mask lamps = s.settingsTaken scope l none foul mask lamps := rfl
  refine ⟨pairs_ext fun p => ?_, ?_, ?_, fun k here => ?_⟩
  · rw [writeLanes_eq, classless, foldl_keeps (g := fun t : State => t.pair p) fun t w => pair_flagConsole ..,
      State.settingsTaken, foldl_keeps (g := fun t : State => t.pair p) fun t j => pair_writeLane ..]
  · rw [writeLanes_eq, classless, foldl_keeps (g := fun t : State => t.pool) fun t w => pool_flagConsole ..,
      State.settingsTaken, foldl_keeps (g := fun t : State => t.pool) fun t j => pool_writeLane ..]
  · rw [writeLanes_eq, classless, foldl_keeps (g := fun t : State => t.directory) fun t w => directory_flagConsole ..,
      State.settingsTaken, foldl_keeps (g := fun t : State => t.directory) fun t j => directory_writeLane ..]
  · rw [lane_writeLanes, classless, State.settingsTaken, lane_writeAll, if_pos here]

/-! ## The request -/

theorem exec_setLaneSettings (able : s.canServe q) (notMechanic : q ≠ .mc) (scopes : scope ≤ 2)
    (console : q.isConsole = true → ownsPair q (pairOf l) ∧ scope ≤ 1 ∧ cls = none)
    (classes : ∀ n, cls = some n → n ≤ 3) (fouls : ∀ n, foul = some n → n ≤ 1) (masks : ∀ n, mask = some n → n ≤ 15)
    (lights : ∀ n, lamps = some n → n ≤ 1) :
    exec (.setLaneSettings q scope (laneNo l) cls foul mask lamps) s =
      .next ((s.writeLanes scope l cls foul mask lamps).replying q 0x14 .ok []) := by
  have allowed : settingsBarred q scope (laneNo l) cls = false := by
    unfold settingsBarred
    by_cases isConsole : q.isConsole = true
    · obtain ⟨owns, narrow, classless⟩ := console isConsole
      have section2 : (scope == 2) = false := beq_eq_false_iff_ne.mpr (by omega)
      rw [outsideLane_of_owns owns, section2, classless]
      simp
    · simp [isConsole]
  have within (x : Option Nat) (top : Nat) (fits : ∀ n, x = some n → n ≤ top) : optOut (· ≤ top) x = false :=
    optOut_eq_false.mpr fun n there => decide_eq_true (fits n there)
  have served := exec_ok (i := .setLaneSettings q scope (laneNo l) cls foul mask lamps) (s := s) rfl able.1 rfl (by
    rw [inLanes_laneNo, allowed, beq_eq_false_iff_ne.mpr notMechanic, decide_eq_false (Nat.not_lt.mpr scopes),
      within cls 3 classes, within foul 1 fouls, within mask 15 masks, within lamps 1 lights, able.2]
    simp [firstRefusal_cons, firstRefusal])
  rwa [laneIx_laneNo] at served

/-- Settles O19, by the settings that a re-test of CREDIT keeps. -/
theorem setLaneSettingsWrites : Obligations.SetLaneSettingsWrites := by
  unfold Obligations.SetLaneSettingsWrites
  intro l q scope cls foul mask lamps s able notMechanic scopes console classes fouls masks lights
  refine ⟨_, exec_setLaneSettings able notMechanic scopes console classes fouls masks lights,
    answers_replying (line_writeLanes s scope l cls foul mask lamps) _ _ _ _, (chip_replying ..).trans (chip_writeLanes ..), fun k here => ?_,
    fun k away => sameLaneButHorn_replying (silent_writeLanes s away) _ _ _ _, fun classless => ?_⟩
  · have rule := foulRule_writeLanes (cls := cls) (foul := foul) (mask := mask) (lamps := lamps) s here
    rw [lane_replying]
    refine ⟨congrArg Prod.fst rule, fun off => ?_, flagged_replying (flagged_writeLanes s here) _ _ _ _⟩
    have waiting := congrArg Prod.snd rule
    rw [off] at waiting ⊢
    exact waiting
  · subst classless
    obtain ⟨pairs, pool, directory, lanes⟩ := writeLanes_classless s scope l foul mask lamps
    refine ⟨pairs_ext fun p => ?_, (pool_replying ..).trans pool, (directory_replying ..).trans directory, fun k here => ?_⟩
    · rw [pair_replying, State.pair, pairs]
      rfl
    · rw [lane_replying, lanes k here]
      rfl

end Sys2Proof.Machine
end

section
/-! PROOFS. SET CLOCK, SET TARIFF LAYOUT, SET PRICES and BAND EDGE (R12, R13, R149, R151 to R153). -/

namespace Sys2Proof.Machine

variable {s t u : State} {l k : Fin 16} {band : Nat}

/-! ## Every lane in turn -/

/-- Lane `l` of a state in which a step has been taken by every lane of a list: it is as its own step left it, apart
from its horn. -/
theorem foldl_own {f : State → Fin 16 → State} (chip : ∀ s k, (f s k).chip = s.chip)
    (others : ∀ s {j k}, k ≠ j → ((f s j).lane k).silent = (s.lane k).silent) (list : List (Fin 16)) (once : list.Nodup)
    (listed : l ∈ list) (s : State) :
    ∃ u, u.chip = s.chip ∧ (u.lane l).silent = (s.lane l).silent ∧
      ((list.foldl f s).lane l).silent = ((f u l).lane l).silent := by
  have rest (list : List (Fin 16)) (away : l ∉ list) (s : State) :
      ((list.foldl f s).lane l).silent = (s.lane l).silent := by
    induction list generalizing s with
    | nil => rfl
    | cons j list ih =>
      obtain ⟨head, tail⟩ := List.ne_and_not_mem_of_not_mem_cons away
      rw [List.foldl_cons, ih tail, others s head]
  induction list generalizing s with
  | nil => exact absurd listed List.not_mem_nil
  | cons j list ih =>
    obtain ⟨fresh, once⟩ := List.nodup_cons.mp once
    rw [List.foldl_cons]
    by_cases head : l = j
    · subst head
      exact ⟨s, rfl, rfl, rest list fresh _⟩
    · obtain ⟨u, same, before, after⟩ := ih once ((List.mem_cons.mp listed).resolve_left head) (f s j)
      exact ⟨u, same.trans (chip s j), before.trans (others s head), after⟩

/-- A step that no lane takes. -/
theorem foldl_idle {f : State → Fin 16 → State} (idle : ∀ k, f s k = s) (list : List (Fin 16)) : list.foldl f s = s := by
  induction list with
  | nil => rfl
  | cons k list ih => rw [List.foldl_cons, idle, ih]

theorem session_of_silent (h : (t.lane l).silent = (s.lane l).silent) : (t.lane l).session = (s.lane l).session := by
  have same := congrArg Lane.session h
  exact same

theorem meter_of_silent (h : (t.lane l).silent = (s.lane l).silent) : (t.lane l).meter = (s.lane l).meter := by
  have same := congrArg Lane.meter h
  exact same

theorem state_of_silent_lane (h : (t.lane l).silent = (s.lane l).silent) : t.session l = s.session l := by
  rw [State.session, session_of_silent h]
  rfl

/-! ## The re-test of CREDIT (R12) -/

theorem retest_free (free : s.creditHolds l = false) : s.retest l = s := by
  rw [State.retest, free]
  rfl

theorem retest_parked (parked : s.session l = .parked) :
    s.retest l = if (s.lane l).session.wakeMask.credit && s.creditHolds l then s.wake l else s := by
  have parked : (s.lane l).session.state = .parked := parked
  rw [State.retest, parked]
  cases s.creditHolds l <;> cases (s.lane l).session.wakeMask.credit <;> rfl

/-- The re-test of a lane that runs, where a park waits and where none does. -/
theorem retest_running (runs : s.running l = true) :
    s.retest l =
      match (s.lane l).session.pendingPark with
      | none => s
      | some x => if x.mask.credit && s.creditHolds l then s.dropPending l else s := by
  rw [State.retest]
  rcases running_iff.mp runs with state | state
  · rw [show (s.lane l).session.state = .opened from state]
    cases (s.lane l).session.pendingPark with
    | none => cases s.creditHolds l <;> rfl
    | some x => cases s.creditHolds l <;> cases held : x.mask.credit <;> simp [held]
  · rw [show (s.lane l).session.state = .closing from state]
    cases (s.lane l).session.pendingPark with
    | none => cases s.creditHolds l <;> rfl
    | some x => cases s.creditHolds l <;> cases held : x.mask.credit <;> simp [held]

theorem session_retest_running (runs : s.running l = true) : (s.retest l).session l = s.session l := by
  rw [retest_running runs]
  split
  · rfl
  · split
    · exact session_dropPending ..
    · rfl

/-- No lane waits for CREDIT: the re-test changes nothing. -/
theorem retest_noneAwaits (awaits : s.noneAwaitsCredit) (l : Fin 16) : s.retest l = s := by
  obtain ⟨parked, pending⟩ := awaits l
  rcases session_cases s l with runs | closed | stopped
  · rw [retest_running runs]
    split
    · rfl
    next x waits => rw [pending x runs waits]; rfl
  · have closed : (s.lane l).session.state = .closed := closed
    rw [State.retest, closed]
    cases s.creditHolds l <;> rfl
  · rw [retest_parked stopped, parked stopped]
    rfl

theorem retestAll_noneAwaits (awaits : s.noneAwaitsCredit) : s.retestAll = s :=
  foldl_idle (retest_noneAwaits awaits) _

/-- A PARKED lane that waits for CREDIT, after every lane's re-test. -/
theorem retestAll_parked (parked : s.session l = .parked) (waits : (s.lane l).session.wakeMask.credit = true) :
    (s.creditHolds l = false → s.retestAll.session l = .parked) ∧
      (s.creditHolds l = true → s.billing.back ≠ 0 →
        s.retestAll.session l = .opened ∨ s.retestAll.session l = .closing) := by
  obtain ⟨u, chip, before, after⟩ := foldl_own (f := State.retest) (l := l) chip_retest (fun s _ _ => silent_lane_retest s)
    allLanes (List.nodup_finRange 16) (List.mem_finRange l) s
  have record := session_of_silent before
  have credit : u.creditHolds l = s.creditHolds l :=
    creditHolds_congr chip (meter_of_silent before) (by rw [record])
  have own : u.session l = .parked := by rwa [State.session, record]
  have session : s.retestAll.session l = (u.retest l).session l := by
    rw [State.retestAll]
    exact state_of_silent_lane after
  rw [session, retest_parked own, record, waits, credit]
  refine ⟨fun lacks => ?_, fun holds back => ?_⟩
  · rw [lacks]
    exact own
  · rw [holds]
    exact (wake_running (by rwa [billing_of_chip chip])).1

/-! ## A band edge (R13, R151) -/

/-- A lane that a band edge wakes. -/
def State.bandWoken (s : State) (l : Fin 16) : State :=
  if s.session l = .parked ∧ (s.lane l).session.wakeMask.band = true then s.wake l else s

theorem bandEdge_lane_eq (s : State) (l : Fin 16) : s.bandEdge l = (s.bandWoken l).retest l := rfl

theorem silent_lane_bandEdge (s : State) (other : k ≠ l) : ((s.bandEdge l).lane k).silent = (s.lane k).silent := by
  rw [bandEdge_lane_eq, silent_lane_retest _ other, State.bandWoken]
  split
  · exact silent_lane_wake s other
  · rfl

/-- A PARKED lane that waits for a band edge, after it. -/
theorem bandEdges_parked (parked : s.session l = .parked) (waits : (s.lane l).session.wakeMask.band = true)
    (back : s.billing.back ≠ 0) :
    (allLanes.foldl State.bandEdge s).session l = .opened ∨ (allLanes.foldl State.bandEdge s).session l = .closing := by
  obtain ⟨u, chip, before, after⟩ := foldl_own (f := State.bandEdge) (l := l) chip_bandEdge
    (fun s _ _ => silent_lane_bandEdge s) allLanes (List.nodup_finRange 16) (List.mem_finRange l) s
  have record := session_of_silent before
  have own : u.session l = .parked := by rwa [State.session, record]
  have session : (allLanes.foldl State.bandEdge s).session l = (u.bandEdge l).session l := state_of_silent_lane after
  have woken : u.bandWoken l = u.wake l := by
    rw [State.bandWoken, if_pos ⟨own, (congrArg (fun n => n.wakeMask.band) record).trans waits⟩]
  have runs := (wake_running (s := u) (l := l) (by rwa [billing_of_chip chip])).1
  rw [session, bandEdge_lane_eq, woken, session_retest_running (running_iff.mpr runs)]
  exact runs

theorem bandEdges_idle (awaits : s.noneAwaitsCredit)
    (deaf : ∀ l, s.session l = .parked → (s.lane l).session.wakeMask.band = false) :
    allLanes.foldl State.bandEdge s = s := by
  refine foldl_idle (fun l => ?_) _
  have asleep : s.bandWoken l = s := if_neg fun both => by
    have off := deaf l both.1
    rw [both.2] at off
    cases off
  rw [bandEdge_lane_eq, asleep, retest_noneAwaits awaits]

/-- The state with the clock at a minute's first second. -/
def State.clockAt (s : State) (minute : Nat) : State :=
  { s with clock := { s.clock with hour := minute / 60, minute := minute % 60, second := 0 } }

theorem bandEdge_eq (lawful : 1 ≤ band ∧ band ≤ s.tariff.bands) :
    bandEdge band s =
      allLanes.foldl State.bandEdge
        (if s.clock.minuteOfDay = s.tariff.bandStart band ∧ s.clock.second = 0 then s
         else s.clockAt (s.tariff.bandStart band)) := if_pos lawful

/-- A clock that stands at the minute's first second. -/
theorem clockAt_now {n : Nat} (minutes : s.clock.minute < 60) (now : s.clock.minuteOfDay = n ∧ s.clock.second = 0) :
    s.clockAt n = s := by
  obtain ⟨minute, second⟩ := now
  have hours : n / 60 = s.clock.hour ∧ n % 60 = s.clock.minute := by
    rw [← minute, Clock.minuteOfDay]
    omega
  rw [State.clockAt, hours.1, hours.2, ← second]

theorem exec_bandEdge (free : s.resetHeld = false) : exec (.bandEdge band) s = .next (bandEdge band s) := by
  have unheld : exec (.bandEdge band) s = .next (s.unlessHeld (bandEdge band)) := rfl
  rw [unheld, State.unlessHeld, free]
  rfl

/-! ## The requests -/

theorem exec_setClock_range (able : s.canServe .dk) {hour minute second : Nat} (out : 23 < hour ∨ 59 < minute ∨ 59 < second) :
    exec (.setClock .dk hour minute second) s = .next (s.replying .dk 0x32 .range []) := by
  refine exec_refused (i := .setClock .dk hour minute second) rfl able.1 rfl ?_ nofun
  rw [firstRefusal_cons, if_neg (by decide), firstRefusal_cons, if_pos]
  simpa [or_assoc] using out

theorem exec_setClock (able : s.canServe .dk) {hour minute second : Nat} (hours : hour ≤ 23) (minutes : minute ≤ 59)
    (seconds : second ≤ 59) :
    exec (.setClock .dk hour minute second) s = .next ((s.setClock hour minute second).replying .dk 0x32 .ok []) :=
  exec_ok (i := .setClock .dk hour minute second) rfl able.1 rfl (by
    rw [decide_eq_false (Nat.not_lt.mpr hours), decide_eq_false (Nat.not_lt.mpr minutes),
      decide_eq_false (Nat.not_lt.mpr seconds), able.2]; rfl)

theorem exec_setLayout_range (able : s.canServe .dk) {dayStart bands length : Nat}
    (out : layoutIn dayStart bands length = false) :
    exec (.setTariffLayout .dk dayStart bands length) s = .next (s.replying .dk 0x33 .range []) :=
  exec_refused (i := .setTariffLayout .dk dayStart bands length) rfl able.1 rfl (by rw [out]; rfl) nofun

theorem exec_setLayout (able : s.canServe .dk) {dayStart bands length : Nat}
    (fits : layoutIn dayStart bands length = true) :
    exec (.setTariffLayout .dk dayStart bands length) s =
      .next ((s.setLayout dayStart bands length).replying .dk 0x33 .ok []) :=
  exec_ok (i := .setTariffLayout .dk dayStart bands length) rfl able.1 rfl (by rw [fits, able.2]; rfl)

theorem exec_setPrices_range (able : s.canServe .dk) {cls : Nat} (out : 3 < cls ∨ band = 0 ∨ 8 < band)
    (game unit : Option Nat) :
    exec (.setPrices .dk cls band game unit) s = .next (s.replying .dk 0x34 .range []) := by
  refine exec_refused (i := .setPrices .dk cls band game unit) rfl able.1 rfl ?_ nofun
  rw [firstRefusal_cons, if_neg (by decide), firstRefusal_cons, if_pos]
  have far : 3 < cls ∨ within 1 8 band = false :=
    out.imp_right fun far => within_eq_false.mpr (far.imp_left Nat.lt_one_iff.mpr)
  rcases far with high | low
  · simp [high]
  · simp [low]

theorem exec_setPrices (able : s.canServe .dk) {cls : Nat} {game unit : Option Nat} (classes : cls ≤ 3) (low : 1 ≤ band)
    (high : band ≤ 8) (games : ∀ n, game = some n → n ≤ 65535) (units : ∀ n, unit = some n → n ≤ 65535) :
    exec (.setPrices .dk cls band game unit) s = .next ((s.setPrices cls band game unit).replying .dk 0x34 .ok []) := by
  have fits (x : Option Nat) (small : ∀ n, x = some n → n ≤ 65535) : optOut (· ≤ 65535) x = false :=
    optOut_eq_false.mpr fun n there => decide_eq_true (small n there)
  refine exec_ok (i := .setPrices .dk cls band game unit) rfl able.1 rfl ?_
  rw [decide_eq_false (Nat.not_lt.mpr classes), within_eq_true.mpr ⟨low, high⟩, fits game games, fits unit units, able.2]
  rfl

/-- What is said of a change to the clock or to the tariff, once it has been written. -/
theorem retested (base : State) (code : Byte) (lines : s.sameLines base) (lanes : ∀ k, base.lane k = s.lane k)
    (billing : base.billing = s.billing) :
    s.answers (base.retestAll.replying .dk code .ok []) .dk code .ok [] ∧
      (base.retestAll.replying .dk code .ok []).chip = base.chip ∧
      (s.noneAwaitsCredit → base.retestAll.replying .dk code .ok [] = base.replying .dk code .ok []) ∧
      ∀ l, s.session l = .parked → (s.lane l).session.wakeMask.credit = true →
        (base.creditHolds l = false → (base.retestAll.replying .dk code .ok []).session l = .parked) ∧
        (base.creditHolds l = true → s.billing.back ≠ 0 →
          (base.retestAll.replying .dk code .ok []).session l = .opened ∨
            (base.retestAll.replying .dk code .ok []).session l = .closing) := by
  have sessions (k : Fin 16) : base.session k = s.session k := by rw [State.session, lanes, State.session]
  refine ⟨answers_replying (fun q => (line_retestAll base q).trans (lines q)) _ _ _ _,
    (chip_replying ..).trans (chip_retestAll ..), fun awaits => ?_, fun l parked waits => ?_⟩
  · rw [retestAll_noneAwaits]
    intro k
    unfold State.running
    rw [sessions, lanes]
    exact awaits k
  · rw [session_replying, ← billing]
    exact retestAll_parked (by rwa [sessions]) (by rwa [lanes])

/-- Settles O52, by the re-test of CREDIT and the band edge that every lane takes in turn. -/
theorem clockAndTariffChange : Obligations.ClockAndTariffChange := by
  unfold Obligations.ClockAndTariffChange
  refine ⟨fun hour minute second dayStart bands length cls band game unit s able =>
    ⟨exec_setClock_range able, exec_setLayout_range able, fun out => exec_setPrices_range able out game unit,
      fun i code base written => ?_⟩, fun band s free => ⟨fun out => ?_, fun low high => ?_⟩⟩
  · rcases written with ⟨hours, minutes, seconds, rfl, rfl, rfl⟩ | ⟨fits, rfl, rfl, rfl⟩ |
      ⟨classes, low, high, games, units, rfl, rfl, rfl⟩
    · exact ⟨_, exec_setClock able hours minutes seconds, retested _ _ (fun _ => rfl) (fun _ => rfl) rfl⟩
    · exact ⟨_, exec_setLayout able fits, retested _ _ (fun _ => rfl) (fun _ => rfl) rfl⟩
    · exact ⟨_, exec_setPrices able classes low high games units, retested _ _ (fun _ => rfl) (fun _ => rfl) rfl⟩
  · rw [exec_bandEdge free, bandEdge, if_neg]
    omega
  · refine ⟨_, exec_bandEdge free, ?_⟩
    rw [bandEdge_eq ⟨low, high⟩]
    have start : (s.tariff.dayStart + (band - 1) * s.tariff.length) % 1440 = s.tariff.bandStart band := rfl
    rw [start]
    generalize s.tariff.bandStart band = minute
    have base : (if s.clock.minuteOfDay = minute ∧ s.clock.second = 0 then s else s.clockAt minute) = s ∨
        (if s.clock.minuteOfDay = minute ∧ s.clock.second = 0 then s else s.clockAt minute) = s.clockAt minute := by
      split
      · exact .inl rfl
      · exact .inr rfl
    have lawful (minutes : s.clock.minute < 60) :
        (if s.clock.minuteOfDay = minute ∧ s.clock.second = 0 then s else s.clockAt minute) = s.clockAt minute := by
      split
      next now => exact (clockAt_now minutes now).symm
      next => rfl
    refine ⟨fun q => ?_, ⟨fun _ minutes => ?_, fun _ minutes awaits deaf => ?_⟩, fun l parked waits back => ?_⟩
    · rw [foldl_keeps (g := fun t : State => (t.port q).line) fun t k => line_bandEdge ..]
      rcases base with same | clock
      · rw [same]
      · rw [clock]
        rfl
    · rw [foldl_keeps (g := fun t : State => t.chip) fun t k => chip_bandEdge .., lawful minutes]
      rfl
    · rw [lawful minutes]
      exact bandEdges_idle (s := s.clockAt minute) awaits deaf
    · rcases base with same | clock
      · rw [same]
        exact bandEdges_parked parked waits back
      · rw [clock]
        exact bandEdges_parked (s := s.clockAt minute) parked waits back

end Sys2Proof.Machine
end

section
/-! SUPPORT. The rules that run on lanes in play may stop a lane, and start none: the Return Monitor of the pair keeps all
but its idle timer, which follows R60. -/

namespace Sys2Proof.Machine

variable {s t u : State} {l k : Fin 16} {p : Fin 8}

/-- Between `s` and `t` the lanes of pair `p` may have stopped, and its idle timer follows R60. -/
structure State.slows (s t : State) (p : Fin 8) : Prop where
  chip : t.chip = s.chip
  stops : ∀ l, pairOf l = p → t.running l = true → s.running l = true
  whole : t.ret p = { s.ret p with idle := (t.ret p).idle }
  still : (∀ l, pairOf l = p → t.running l = s.running l) → t.ret p = s.ret p
  timer : ∀ l, pairOf l = p → s.running l = true → t.running l = false → (s.ret p).idle = none → s.returnStopped t p

theorem sameReturnButIdle_of_slows (h : s.slows t p) : s.sameReturnButIdle t p := ⟨h.whole, h.still, h.timer⟩

theorem slows_of_same (chip : t.chip = s.chip) (ret : t.ret p = s.ret p)
    (running : ∀ l, pairOf l = p → t.running l = s.running l) : s.slows t p where
  chip := chip
  stops l here runs := (running l here).symm.trans runs
  whole := by rw [ret]
  still _ := ret
  timer l here runs stopped := by
    rw [running l here, runs] at stopped
    cases stopped

theorem slows_refl (s : State) (p : Fin 8) : s.slows s p := slows_of_same rfl rfl fun _ _ => rfl

/-- An operation that leaves the sessions and the Return Monitor. -/
theorem slows_of_session (chip : t.chip = s.chip) (ret : t.ret p = s.ret p) (session : ∀ l, t.session l = s.session l) :
    s.slows t p :=
  slows_of_same chip ret fun l _ => by rw [State.running, session, State.running]

/-- A pair of which a lane runs has no idle timer. -/
theorem idleAfter_running (here : pairOf l = p) (runs : t.running l = true) (r : ReturnMonitor) : t.idleAfter p r = none := by
  unfold State.idleAfter
  refine if_neg fun holds => ?_
  obtain ⟨-, -, odd, even⟩ := holds
  rcases (pairOf_eq_iff l p).mp here with rfl | rfl
  · rw [runs] at odd
    cases odd
  · rw [runs] at even
    cases even

theorem idleAfter_running_congr (chip : t.chip = s.chip) (running : ∀ l, pairOf l = p → t.running l = s.running l)
    (r : ReturnMonitor) : t.idleAfter p r = s.idleAfter p r := by
  unfold State.idleAfter
  rw [running _ (pairOf_laneAt ..), running _ (pairOf_laneAt ..), retSettings_of_chip chip]

theorem slows_trans (h : s.slows t p) (g : t.slows u p) : s.slows u p where
  chip := g.chip.trans h.chip
  stops l here runs := h.stops l here (g.stops l here runs)
  whole := by rw [g.whole, h.whole]
  still same := by
    have first (l : Fin 16) (here : pairOf l = p) : t.running l = s.running l := by
      rw [Bool.eq_iff_iff]
      exact ⟨h.stops l here, fun runs => g.stops l here ((same l here).trans runs)⟩
    have second (l : Fin 16) (here : pairOf l = p) : u.running l = t.running l :=
      (same l here).trans (first l here).symm
    exact (g.still second).trans (h.still first)
  timer l here runs stopped idle := by
    unfold State.returnStopped
    by_cases first : ∀ l, pairOf l = p → t.running l = s.running l
    · have ret := h.still first
      have late := g.timer l here ((first l here).trans runs) stopped (by rw [ret, idle])
      unfold State.returnStopped at late
      rwa [ret] at late
    · push Not at first
      obtain ⟨j, beside, moved⟩ := first
      have ran : s.running j = true := by
        by_contra off
        rw [Bool.not_eq_true] at off
        rw [off, ne_eq, Bool.not_eq_false] at moved
        rw [h.stops j beside moved] at off
        cases off
      have halted : t.running j = false := by
        rw [ran, ne_eq, Bool.not_eq_true] at moved
        exact moved
      have early := h.timer j beside ran halted idle
      unfold State.returnStopped at early
      by_cases second : ∀ l, pairOf l = p → u.running l = t.running l
      · rw [g.still second, early, idleAfter_running_congr g.chip second]
      · push Not at second
        obtain ⟨i, close, slowed⟩ := second
        have goes : t.running i = true := by
          by_contra off
          rw [Bool.not_eq_true] at off
          rw [off, ne_eq, Bool.not_eq_false] at slowed
          rw [g.stops i close slowed] at off
          cases off
        have ends : u.running i = false := by
          rw [goes, ne_eq, Bool.not_eq_true] at slowed
          exact slowed
        have kept : t.ret p = s.ret p := by
          rw [early, idleAfter_running close goes, ← idle]
        have late := g.timer i close goes ends (by rw [kept, idle])
        unfold State.returnStopped at late
        rwa [kept] at late

/-! ## Parks -/

theorem slows_enterParked (s : State) (here : pairOf l = p) (runs : s.running l = true) (mask : WakeMask) (cause : ParkCause) :
    s.slows (s.enterParked l mask cause) p := by
  subst here
  have stopped := returnStopped_enterParked s l mask cause
  have parked : (s.enterParked l mask cause).session l = .parked := by
    rw [State.session, lane_enterParked]
    rfl
  have halted : (s.enterParked l mask cause).running l = false := by
    rw [State.running, parked]
    rfl
  unfold State.returnStopped at stopped
  refine ⟨chip_enterParked .., fun j _ goes => ?_, ?_, fun same => ?_, fun _ _ _ _ _ => stopped⟩
  · by_cases own : j = l
    · subst own
      exact runs
    · rwa [State.running, State.session, laneOther_enterParked _ _ _ _ _ own] at goes
  · rw [stopped]
  · have off := same l rfl
    rw [halted, runs] at off
    cases off

theorem slows_updSession {f : Session → Session} (s : State) (l : Fin 16) (p : Fin 8)
    (grants : (f (s.lane l).session).state.grants = (s.lane l).session.state.grants) : s.slows (s.updSession l f) p := by
  refine slows_of_same (chip_updSession ..) (ret_updSession ..) fun j _ => ?_
  rw [State.running, State.session, record_updSession]
  split
  next own =>
    subst own
    exact grants
  next => rfl

theorem slows_dropPending (s : State) (l : Fin 16) (p : Fin 8) : s.slows (s.dropPending l) p := slows_updSession s l p rfl

theorem slows_park (s : State) (here : pairOf l = p) (runs : s.running l = true) (mask : WakeMask) (cause : ParkCause) :
    s.slows (s.park l mask cause) p := by
  unfold State.park
  split
  · exact slows_updSession s l p rfl
  · exact slows_enterParked s here runs mask cause

theorem slows_zeroBackGrace (s : State) (here : pairOf l = p) : s.slows (s.zeroBackGrace l) p := by
  unfold State.zeroBackGrace State.parkExhausted
  split
  · split
    next ended => exact slows_park s here (by rw [State.running, ended.1]; rfl) _ _
    next => exact slows_refl s p
  · exact slows_refl s p

theorem slows_enterClosing (s : State) (l : Fin 16) (p : Fin 8) (runs : s.running l = true) : s.slows (s.enterClosing l) p := by
  unfold State.enterClosing
  refine slows_trans (t := s.updSession l fun n => n.enter .closing) (slows_updSession s l p ?_)
    (slows_of_session rfl rfl fun _ => rfl)
  exact runs.symm

/-! ## Heads -/

theorem slows_askGame (s : State) (here : pairOf l = p) (runs : s.running l = true) (i : Fin 12) :
    s.slows (s.askGame l i) p := by
  have metered (m : Meter) : s.slows (s.setMeter l m) p := slows_of_session (by simp) (by simp) (by simp)
  unfold State.askGame
  split
  · exact slows_refl s p
  · split
    next paid _ => exact slows_trans (metered paid) (slows_of_session (by simp) (by simp) (by simp))
    next =>
      refine slows_trans (metered _) (slows_trans (slows_enterClosing _ l p ?_) (slows_zeroBackGrace _ here))
      rwa [State.running, session_setMeter]

theorem slows_raiseHead (s : State) (here : pairOf l = p) (runs : s.running l = true) (i : Fin 12) :
    s.slows (s.raiseHead l i) p := by
  unfold State.raiseHead
  split
  · exact slows_of_session (by simp) (by simp) (by simp)
  · exact slows_of_session (by simp) (by simp) (by simp)
  · split
    · split
      · exact slows_of_session (by simp) (by simp) (by simp)
      · exact slows_askGame s here runs i
    · exact slows_refl s p

theorem slows_updTurn (s : State) (q p : Fin 8) (f : TurnUnit → TurnUnit) : s.slows (s.updTurn q f) p :=
  slows_of_session (by simp) (by simp) (by simp)

theorem slows_headRules (s : State) (here : pairOf l = p) : s.slows (s.headRules l) p := by
  simp only [State.headRules]
  split
  · exact slows_refl s p
  next runs =>
    have runs : s.running l = true := by simpa using runs
    split
    · exact slows_refl s p
    · split
      · exact slows_updTurn ..
      · split
        · exact slows_updTurn ..
        · exact slows_trans (slows_updTurn ..) (slows_raiseHead _ here (by rwa [State.running, session_updTurn]) _)

theorem slows_turnPaid (s : State) (here : pairOf l = p) (m : Meter) : s.slows (s.turnPaid l m) p := by
  have kept : s.slows ((s.updTurn (pairOf l) fun v => v.setPaid (sideOf l) true).headRules l) p :=
    slows_trans (slows_updTurn ..) (slows_headRules _ here)
  unfold State.turnPaid
  split
  · simp only [State.takePaid]
    split
    · exact kept
    · split
      · exact slows_of_session (by simp) (by simp) (by simp)
      · exact kept
  · exact slows_headRules s here

theorem sameReturnButIdle_replying (h : s.slows t p) (q : Port) (code : Byte) (o : ReplyOutcome) (results : List Byte) :
    s.sameReturnButIdle (t.replying q code o results) p :=
  sameReturnButIdle_of_slows (slows_trans h (slows_of_session (by simp) (by simp) (by simp)))

end Sys2Proof.Machine
end

section
/-! PROOFS. ADD CREDIT and BACK GRACE EXPIRY (R11, R12, R164 to R166). -/

namespace Sys2Proof.Machine

variable {s t b : State} {l k : Fin 16} {m paid : Meter} {d : Declined} {amount : Nat}

/-! ## What a re-test and a paid retry leave -/

theorem records_retest (s : State) (l : Fin 16) : (s.retest l).records = s.records := by
  have dropped : (s.dropPending l).records = s.records := records_of_directory (directory_dropPending ..)
  simp only [State.retest]
  split
  · split
    · split
      · exact records_wake s l
      · rfl
    · split
      · exact dropped
      · rfl
    · split
      · exact dropped
      · rfl
    · rfl
  · rfl

theorem far_retest (s : State) (far : pairOf k ≠ pairOf l) : (s.retest l).lane k = s.lane k := by
  have other : k ≠ l := fun e => far (congrArg pairOf e)
  have dropped : (s.dropPending l).lane k = s.lane k := laneOther_dropPending _ _ _ other
  simp only [State.retest]
  split
  · split
    · split
      · exact far_wake s far
      · rfl
    · split
      · exact dropped
      · rfl
    · split
      · exact dropped
      · rfl
    · rfl
  · rfl

/-- The re-test of a lane that runs: at most the park that waits is removed. -/
theorem retest_running_cases (runs : s.running l = true) : s.retest l = s ∨ s.retest l = s.dropPending l := by
  rw [retest_running runs]
  split
  · exact .inl rfl
  · split
    · exact .inr rfl
    · exact .inl rfl

theorem records_paidRetry (s : State) (l : Fin 16) (m : Meter) : (s.paidRetry l m).records = s.records := by
  rw [State.paidRetry, records_turnPaid]
  exact records_of_directory (by simp)

theorem slows_paidRetry (runs : s.running l = true) (m : Meter) : s.slows (s.paidRetry l m) (pairOf l) := by
  refine slows_trans (t := s.setMeter l m) (slows_of_session (by simp) (by simp) (by simp)) ?_
  refine slows_trans (slows_updSession (f := fun n => n.enter .opened) _ l _ ?_) (slows_turnPaid _ rfl m)
  have grants : (s.lane l).session.state.grants = true := runs
  rw [record_setMeter, grants]
  rfl

/-- A lane whose owed charge a retry pays: it is OPEN, with its meter settled. -/
theorem paidRetry_settles (there : (s.lane l).meter = some m) {pr : Price} {length : Nat} (settled : m.settled paid d pr length) :
    ((s.paidRetry l paid).lane l).session = (s.lane l).session.enter .opened ∧
      ∃ m', ((s.paidRetry l paid).lane l).meter = some m' ∧ m.settled m' d pr length := by
  have lane : (((s.setMeter l paid).updSession l fun n => n.enter .opened).lane l) =
      { s.lane l with session := (s.lane l).session.enter .opened, meter := some paid } := by
    rw [State.updSession, lane_updLane_same, lane_setMeter, there]
    rfl
  have standing : ((s.paidRetry l paid).lane l).standing = ((s.lane l).session.enter .opened, some paid.ungamed) := by
    rw [State.paidRetry, standing_turnPaid (by rw [lane]), lane]
    rfl
  obtain ⟨session, m', meter, same⟩ := of_standing standing
  exact ⟨session, m', meter, settled_ungamed settled same⟩

/-- A retry that pays, and the re-test after it. -/
theorem retryThenRetest (closing : s.session l = .closing) (there : (s.lane l).meter = some m) {pr : Price} {length : Nat}
    (settled : m.settled paid d pr length) :
    ((s.paidRetry l paid).retest l).session l = .opened ∧
      (((s.paidRetry l paid).retest l).lane l).session.closingReason = .none ∧
      s.slows ((s.paidRetry l paid).retest l) (pairOf l) ∧
      ∃ m', (((s.paidRetry l paid).retest l).lane l).meter = some m' ∧ m.settled m' d pr length := by
  obtain ⟨session, m', meter, done⟩ := paidRetry_settles (l := l) there settled
  have slows := slows_paidRetry (running_iff.mpr (.inr closing)) paid
  generalize s.paidRetry l paid = b at *
  have opened : b.session l = .opened := by
    rw [State.session, session]
    rfl
  rcases retest_running_cases (running_iff.mpr (.inl opened)) with same | dropped
  · rw [same]
    exact ⟨opened, by rw [session]; rfl, slows, m', meter, done⟩
  · rw [dropped, session_dropPending, lane_dropPending]
    exact ⟨opened, by rw [session]; rfl, slows_trans slows (slows_dropPending ..), m', meter, done⟩

/-! ## A credit (R165) -/

theorem accepts_eq (m : Meter) (amount : Nat) :
    m.accepts amount = min amount (min (999999 - m.balance) (9999999 - m.credited)) := rfl

theorem addCredit_eq (there : (s.lane l).meter = some m) (amount : Nat) :
    s.addCredit l amount =
      (s.modLane l fun a => { a with meter := some (m.addCredit (m.accepts amount)) }).afterCredit l := by
  rw [State.addCredit, State.modMeter]
  refine congrArg (fun s : State => s.afterCredit l) (modLane_congr ?_)
  rw [there]
  rfl

/-- CREDIT holds on a lane whose session is prepaid (R12). -/
theorem creditHolds_prepaid (there : (s.lane l).meter = some m) (prepaid : m.mode = .prepaid) :
    s.creditHolds l =
      match m.declined with
      | some d => decide (Declined.price d (s.priceOf l) ≤ m.balance)
      | none => decide (0 < m.balance) := by
  rw [State.creditHolds, there]
  dsimp only
  rw [Meter.credit, prepaid]
  cases m.declined <;> rfl

theorem afterCredit_opened (isOpen : s.session l = .opened) : s.afterCredit l = s.retest l := by rw [State.afterCredit, isOpen]

theorem afterCredit_parked (parked : s.session l = .parked) : s.afterCredit l = s.retest l := by rw [State.afterCredit, parked]

theorem afterCredit_paid (closing : s.session l = .closing) (retry : s.retried l = some paid) :
    s.afterCredit l = (s.paidRetry l paid).retest l := by
  rw [State.afterCredit, closing, retry]

theorem afterCredit_unpaid (closing : s.session l = .closing) (retry : s.retried l = none) :
    s.afterCredit l = s.retest l := by
  rw [State.afterCredit, closing, retry]

/-- What a credit leaves of the records, of the pair's other lane, and of the other pairs' lanes. -/
theorem frame_afterCredit (s : State) (l : Fin 16) :
    (s.afterCredit l).records = s.records ∧
      (∀ k, k ≠ l → ((s.afterCredit l).lane k).silent = (s.lane k).silent) ∧
      ∀ k, pairOf k ≠ pairOf l → (s.afterCredit l).lane k = s.lane k := by
  have tested (b : State) (records : b.records = s.records) (others : ∀ k, k ≠ l → b.lane k = s.lane k) :
      (b.retest l).records = s.records ∧ (∀ k, k ≠ l → ((b.retest l).lane k).silent = (s.lane k).silent) ∧
        ∀ k, pairOf k ≠ pairOf l → (b.retest l).lane k = s.lane k := by
    refine ⟨(records_retest b l).trans records, fun k other => ?_, fun k far => ?_⟩
    · rw [silent_lane_retest b other, others k other]
    · rw [far_retest b far, others k fun e => far (congrArg pairOf e)]
  unfold State.afterCredit
  split
  · exact tested s rfl fun _ _ => rfl
  · exact tested s rfl fun _ _ => rfl
  · exact ⟨rfl, fun _ _ => rfl, fun _ _ => rfl⟩
  · split
    · exact tested _ (records_paidRetry ..) fun k other => laneOther_paidRetry _ _ _ _ other
    · exact tested s rfl fun _ _ => rfl

/-! ## The request -/

theorem inRange_amount (low : 1 ≤ amount) (high : amount ≤ 9999999) : within 1 chargedCeiling amount = true :=
  within_eq_true.mpr ⟨low, high⟩

theorem exec_addCredit_refused (able : s.canServe .dk) (low : 1 ≤ amount) (high : amount ≤ 9999999)
    (refused : s.session l = .closed ∨ s.tabSession l = true) :
    exec (.addCredit .dk (laneNo l) amount) s = .next (s.replying .dk 0x37 .state []) := by
  refine exec_refused (i := .addCredit .dk (laneNo l) amount) rfl able.1 rfl ?_ nofun
  rw [inLanes_laneNo, inRange_amount low high, able.2, laneIx_laneNo]
  rcases refused with closed | tab
  · rw [closed]
    rfl
  · rw [tab]
    cases s.session l <;> rfl

theorem exec_addCredit (able : s.canServe .dk) (low : 1 ≤ amount) (high : amount ≤ 9999999) (inPlay : s.session l ≠ .closed)
    (there : (s.lane l).meter = some m) (prepaid : m.mode = .prepaid) :
    exec (.addCredit .dk (laneNo l) amount) s =
      .next ((s.addCredit l amount).replying .dk 0x37 .ok
        (byte4 (m.accepts amount) ++ byte4 (m.balance + m.accepts amount))) := by
  have bought : s.tabSession l = false := by
    rw [State.tabSession, there]
    simp [prepaid]
  have taken := exec_accepted (i := .addCredit .dk (laneNo l) amount) rfl able.1 rfl (by
    rw [inLanes_laneNo, inRange_amount low high, able.2, laneIx_laneNo, beq_eq_false_iff_ne.mpr inPlay, bought]; rfl) nofun
  rw [laneIx_laneNo, State.accepted, State.creditedBalance, there] at taken
  exact taken

/-! ## The back grace expires (R11, R164) -/

/-- The state in which the back grace has no time left. -/
def State.graceSpent (s : State) (l : Fin 16) : State := s.modMeter l fun m => { m with left := 0 }

theorem backGraceEnds_eq (s : State) (l : Fin 16) :
    s.backGraceEnds l =
      if (s.lane l).session.settings.parkMask.credit && (s.graceSpent l).creditHolds l then
        match (s.graceSpent l).retried l with
        | some m => (s.graceSpent l).paidRetry l m
        | none => s.graceSpent l
      else (s.graceSpent l).parkExhausted l := by
  have session : ((s.graceSpent l).lane l).session = (s.lane l).session := by rw [State.graceSpent, record_modMeter]
  unfold State.backGraceEnds
  rw [← session]
  rfl

theorem lane_graceSpent (there : (s.lane l).meter = some m) :
    (s.graceSpent l).lane l = { s.lane l with meter := some { m with left := 0 } } := by
  rw [State.graceSpent, State.modMeter, lane_modLane, if_pos rfl, there]
  rfl

theorem credit_graceSpent (there : (s.lane l).meter = some m) : (s.graceSpent l).creditHolds l = s.creditHolds l := by
  have price : (s.graceSpent l).priceOf l = s.priceOf l := priceOf_congr (chip_modMeter ..) (by rw [lane_graceSpent there])
  rw [State.creditHolds, State.creditHolds, lane_graceSpent there, price, there]
  rfl

theorem records_backGraceEnds (s : State) (l : Fin 16) : (s.backGraceEnds l).records = s.records := by
  rw [backGraceEnds_eq]
  split
  · split
    · rw [records_paidRetry]
      rfl
    · rfl
  · exact records_of_directory (directory_parkExhausted ..)

theorem exec_backGrace (free : s.resetHeld = false) (there : (s.lane l).meter = some m) :
    exec (.backGraceExpiry l) s =
      .next (if s.session l = .closing ∧ m.phase = .back then s.backGraceEnds l else s) := by
  have unheld : exec (.backGraceExpiry l) s = .next (s.unlessHeld (backGraceExpiry l)) := rfl
  rw [unheld, State.unlessHeld, free, backGraceExpiry, State.meterRuns, there]
  by_cases closing : s.session l = .closing
  · have runs : s.running l = true := running_iff.mpr (.inr closing)
    simp [closing, runs]
  · simp [closing]

end Sys2Proof.Machine
end

section
/-! PROOFS. ADD CREDIT and BACK GRACE EXPIRY as they are served (R165, R166). -/

namespace Sys2Proof.Machine

variable {s t b : State} {l k : Fin 16} {m : Meter} {d : Declined} {amount : Nat}

/-! ## The lane that has taken its credit -/

/-- An OPEN lane: at most the park that waits with CREDIT is removed. -/
theorem credit_opened (isOpen : b.session l = .opened) :
    ((b.lane l).session.pendingPark = none → b.afterCredit l = b) ∧
      ∀ x, (b.lane l).session.pendingPark = some x →
        (x.mask.credit = true → b.creditHolds l = true → b.afterCredit l = b.dropPending l) ∧
        (x.mask.credit = false ∨ b.creditHolds l = false → b.afterCredit l = b) := by
  rw [afterCredit_opened isOpen, retest_running (running_iff.mpr (.inl isOpen))]
  refine ⟨fun none => by rw [none], fun x waits => ?_⟩
  rw [waits]
  dsimp only
  refine ⟨fun masked holds => by rw [masked, holds]; rfl, fun free => ?_⟩
  rcases free with unmasked | lacks
  · rw [unmasked]
    rfl
  · rw [lacks, Bool.and_false]
    rfl

section
variable (there : (b.lane l).meter = some m) (prepaid : m.mode = .prepaid)
include there prepaid

/-- A CLOSING lane whose owed charge the credit does not pay. -/
theorem credit_closing_declined (closing : b.session l = .closing) (owed : m.declined = some d)
    (lacks : m.balance < Declined.price d (b.priceOf l)) : b.afterCredit l = b := by
  have free : b.creditHolds l = false := by
    rw [creditHolds_prepaid there prepaid, owed]
    exact decide_eq_false (Nat.not_le.mpr lacks)
  rw [afterCredit_unpaid closing (by rw [retried_eq there, retry_unpaid owed prepaid lacks])]
  exact retest_free free

/-- A CLOSING lane whose owed charge the credit pays. -/
theorem credit_closing_paid (closing : b.session l = .closing) (owed : m.declined = some d)
    (afford : Declined.price d (b.priceOf l) ≤ m.balance) :
    (b.afterCredit l).session l = .opened ∧ ((b.afterCredit l).lane l).session.closingReason = .none ∧
      b.slows (b.afterCredit l) (pairOf l) ∧
      ∃ m', ((b.afterCredit l).lane l).meter = some m' ∧ m.settled m' d (b.priceOf l) b.billing.unit := by
  obtain ⟨paid, retry, settled⟩ := retry_paid owed prepaid afford b.billing.unit
  rw [afterCredit_paid closing (by rw [retried_eq there, retry])]
  exact retryThenRetest closing there settled

/-- A PARKED lane that waits for CREDIT, where CREDIT now holds. -/
theorem credit_parked_wakes (parked : b.session l = .parked) (waits : (b.lane l).session.wakeMask.credit = true)
    (holds : b.creditHolds l = true) :
    (b.afterCredit l).flagged (.console (pairOf l)) 3 ∧
      (b.afterCredit l).rests (pairOf l) (b.ret (pairOf l)).awake ∧
      (m.declined = none → (m.kind = .games ∨ 0 < m.left) → b.nobodyQueued l →
        ((b.afterCredit l).lane l).session = (b.lane l).session.asOpen ∧ ((b.afterCredit l).lane l).meter = some m ∧
          ((b.afterCredit l).lane l).sup =
            { ((b.lane l).sup.granted b.timers.warmUp) with horn := ((b.afterCredit l).lane l).sup.horn } ∧
          (b.afterCredit l).turn (pairOf l) = b.turn (pairOf l)) ∧
      ∀ d, m.declined = some d →
        ((b.afterCredit l).lane l).session = (b.lane l).session.asOpen ∧
          ∃ m', ((b.afterCredit l).lane l).meter = some m' ∧ m.settled m' d (b.priceOf l) b.billing.unit := by
  have woke : b.afterCredit l = b.wake l := by
    rw [afterCredit_parked parked, retest_parked parked, waits, holds]
    rfl
  rw [woke]
  refine ⟨laneStateChanged_wake parked, rests_wake b l, fun clear runs nobody => wake_nobody there clear runs nobody,
    fun d owed => wake_paid there owed prepaid ?_⟩
  rw [creditHolds_prepaid there prepaid, owed] at holds
  exact of_decide_eq_true holds

end

theorem credit_parked_stays (parked : b.session l = .parked)
    (stays : (b.lane l).session.wakeMask.credit = false ∨ b.creditHolds l = false) : b.afterCredit l = b := by
  rw [afterCredit_parked parked, retest_parked parked]
  rcases stays with unmasked | lacks
  · rw [unmasked]
    rfl
  · rw [lacks, Bool.and_false]
    rfl

/-! ## The back grace -/

/-- The back grace expires while the owed charge is not paid: the lane parks, or waits for its cycle (R11). -/
theorem backGraceEnds_parks (there : (s.lane l).meter = some m)
    (lacks : (s.lane l).session.settings.parkMask.credit = false ∨ s.creditHolds l = false) :
    s.backGraceEnds l = (s.graceSpent l).park l (s.lane l).session.settings.parkMask .noCredit := by
  have settings : ((s.graceSpent l).lane l).session.settings = (s.lane l).session.settings := by rw [lane_graceSpent there]
  rw [backGraceEnds_eq, credit_graceSpent there, if_neg, State.parkExhausted, settings]
  rcases lacks with unmasked | free
  · rw [unmasked]
    nofun
  · rw [free, Bool.and_false]
    nofun

/-- The back grace expires while credit pays the owed charge (R164, R166). -/
theorem backGraceEnds_pays (closing : s.session l = .closing) (there : (s.lane l).meter = some m) (owed : m.declined = some d)
    (prepaid : m.mode = .prepaid) (masked : (s.lane l).session.settings.parkMask.credit = true)
    (afford : Declined.price d (s.priceOf l) ≤ m.balance) :
    (s.backGraceEnds l).session l = .opened ∧ s.slows (s.backGraceEnds l) (pairOf l) ∧
      ∃ m', ((s.backGraceEnds l).lane l).meter = some m' ∧ m'.declined = none ∧
        m'.balance = m.balance - Declined.price d (s.priceOf l) := by
  have spent : ((s.graceSpent l).lane l).meter = some { m with left := 0 } := by rw [lane_graceSpent there]
  have price : (s.graceSpent l).priceOf l = s.priceOf l := priceOf_congr (chip_modMeter ..) (by rw [lane_graceSpent there])
  have session : (s.graceSpent l).session l = .closing := by rwa [State.session, lane_graceSpent there]
  obtain ⟨paid, retry, settled⟩ :=
    retry_paid (m := { m with left := 0 }) (pr := s.priceOf l) owed prepaid afford (s.graceSpent l).billing.unit
  have holds : s.creditHolds l = true := by
    rw [creditHolds_prepaid there prepaid, owed]
    exact decide_eq_true afford
  have pays : s.backGraceEnds l = (s.graceSpent l).paidRetry l paid := by
    rw [backGraceEnds_eq, credit_graceSpent there, masked, holds, if_pos (by rfl), retried_eq spent, price, retry]
  have slows := slows_paidRetry (running_iff.mpr (.inr session)) paid
  obtain ⟨opened, m', meter, done⟩ := paidRetry_settles spent settled
  rw [pays]
  have start : s.slows (s.graceSpent l) (pairOf l) :=
    slows_of_session (chip_modMeter ..) (ret_modMeter ..) fun k => session_modMeter ..
  generalize (s.graceSpent l).paidRetry l paid = t at *
  exact ⟨by rw [State.session, opened]; rfl, slows_trans start slows, m', meter, done.declined, done.balance⟩

/-- The clauses about a CLOSING lane whose back grace expires. -/
theorem backGraceClauses (closing : s.session l = .closing) (there : (s.lane l).meter = some m) :
    (s.backGraceEnds l).chip = s.chip ∧ s.sameLines (s.backGraceEnds l) ∧ (s.backGraceEnds l).pool = s.pool ∧
      s.sameLanesBut (s.backGraceEnds l) [l] ∧ s.samePairsBut (s.backGraceEnds l) [pairOf l] ∧
      s.sameRecords (s.backGraceEnds l) ∧
      (let mask := (s.lane l).session.settings.parkMask
       (∀ d, m.declined = some d → m.mode = .prepaid → mask.credit = true → Declined.price d (s.priceOf l) ≤ m.balance →
          (s.backGraceEnds l).session l = .opened ∧ s.sameReturnButIdle (s.backGraceEnds l) (pairOf l) ∧
          ∃ m', ((s.backGraceEnds l).lane l).meter = some m' ∧ m'.declined = none ∧
            m'.balance = m.balance - Declined.price d (s.priceOf l)) ∧
       ((mask.credit = false ∨ s.creditHolds l = false) → (s.lane l).sup.state = .cycling →
          (s.backGraceEnds l).lane l =
            { s.lane l with
              session := { (s.lane l).session with pendingPark := some ⟨mask, .noCredit⟩ }
              meter := some { m with left := 0 } } ∧
          (s.backGraceEnds l).pairs = s.pairs) ∧
       ((mask.credit = false ∨ s.creditHolds l = false) → (s.lane l).sup.state ≠ .cycling →
          (s.backGraceEnds l).lane l =
            { s.lane l with
              session := (s.lane l).session.asParked mask .noCredit
              sup := { (s.lane l).sup with servicePower := false }.withdrawn
              meter := some { m with left := 0 } } ∧
          (s.backGraceEnds l).flagged .dk 4 ∧ (s.backGraceEnds l).turn (pairOf l) = s.turn (pairOf l) ∧
          s.returnStopped (s.backGraceEnds l) (pairOf l))) := by
  have lane := lane_graceSpent there
  refine ⟨chip_backGraceEnds .., line_backGraceEnds s l, pool_backGraceEnds .., fun k other => ?_, fun w other => ?_,
    sameRecords_iff.mpr (records_backGraceEnds ..), fun d owed prepaid masked afford => ?_, fun lacks cycles => ?_,
    fun lacks rests => ?_⟩
  · exact laneOther_backGraceEnds _ _ _ (by simpa using other)
  · exact pairOther_backGraceEnds _ _ _ (by simpa using other)
  · obtain ⟨opened, slows, meter⟩ := backGraceEnds_pays closing there owed prepaid masked afford
    exact ⟨opened, sameReturnButIdle_of_slows slows, meter⟩
  · have parks : s.backGraceEnds l = (s.graceSpent l).updSession l fun n =>
        { n with pendingPark := some ⟨(s.lane l).session.settings.parkMask, .noCredit⟩ } := by
      rw [backGraceEnds_parks there lacks, State.park, lane, if_pos cycles]
    rw [parks]
    refine ⟨by rw [State.updSession, lane_updLane_same, lane], pairs_ext fun w => ?_⟩
    rw [pair_updSession, State.graceSpent, pair_modMeter]
  · have parks : s.backGraceEnds l = (s.graceSpent l).enterParked l (s.lane l).session.settings.parkMask .noCredit := by
      rw [backGraceEnds_parks there lacks, State.park, lane, if_neg rests]
    rw [parks]
    refine ⟨by rw [lane_enterParked, lane], laneParked_enterParked .., ?_, ?_⟩
    · rw [turn_enterParked, State.graceSpent, turn_modMeter]
    · exact returnStopped_congr (returnStopped_enterParked (s.graceSpent l) l _ _) (ret_modMeter ..).symm rfl fun _ => rfl

/-! ## The request, clause by clause -/

/-- The clauses about ADD CREDIT to a lane of a prepaid session: `b` is the state once the credit is added. -/
theorem creditClauses {m₀ : Meter} {accepted : Nat} (results : List Byte)
    (written : b = s.modLane l fun a =>
      { a with meter := some { m₀ with balance := m₀.balance + accepted, credited := m₀.credited + accepted } }) :
    s.answers ((b.afterCredit l).replying .dk 0x37 .ok results) .dk 0x37 .ok results ∧
      ((b.afterCredit l).replying .dk 0x37 .ok results).chip = s.chip ∧
      s.sameRecords ((b.afterCredit l).replying .dk 0x37 .ok results) ∧
      s.samePairsBut ((b.afterCredit l).replying .dk 0x37 .ok results) [pairOf l] ∧
      s.sameLanesBut ((b.afterCredit l).replying .dk 0x37 .ok results) [l, otherLane l] ∧
      s.sameLaneButHorn ((b.afterCredit l).replying .dk 0x37 .ok results) (otherLane l) := by
  have others (k : Fin 16) (other : k ≠ l) : b.lane k = s.lane k := by rw [written, lane_modLane, if_neg other]
  obtain ⟨records, silent, far⟩ := frame_afterCredit b l
  have start : b.records = s.records := by rw [written]; rfl
  have lines (q : Port) : (b.port q).line = (s.port q).line := by rw [written]; rfl
  have chip : b.chip = s.chip := by rw [written]; rfl
  have pair (w : Fin 8) : b.pair w = s.pair w := by rw [written, pair_modLane]
  refine ⟨answers_replying (fun q => (line_afterCredit b l q).trans (lines q)) _ _ _ _,
    (chip_replying ..).trans ((chip_afterCredit ..).trans chip),
    sameRecords_iff.mpr ((records_of_directory (directory_replying ..)).trans (records.trans start)), fun w other => ?_,
    fun k other => ?_, sameLaneButHorn_replying ?_ _ _ _ _⟩
  · rw [pair_replying, pairOther_afterCredit _ _ _ (by simpa using other), pair]
  · simp only [List.mem_cons, List.not_mem_nil, or_false, not_or] at other
    rw [lane_replying, far k fun beside => not_or.mpr other ((lane_of_pair l k).mp beside), others k other.1]
  · rw [silent _ (otherLane_ne l), others _ (otherLane_ne l)]

/-- Settles O53, by what follows a credit in each session state, and by the retry or the park that ends a back grace. -/
theorem creditAndBackGrace : Obligations.CreditAndBackGrace := by
  unfold Obligations.CreditAndBackGrace
  refine ⟨fun l amount s able low high closed => exec_addCredit_refused able low high (.inl closed),
    fun l amount m s able low high there => ⟨fun tab => exec_addCredit_refused able low high (.inr ?_),
      fun inPlay prepaid => ?_⟩, fun l m s free there => ⟨fun cause => ?_, fun closing back => ?_⟩⟩
  · rw [State.tabSession, there]
    simp [tab]
  · have served := exec_addCredit able low high inPlay there prepaid
    rw [addCredit_eq there, accepts_eq] at served
    dsimp only
    generalize min amount (min (999999 - m.balance) (9999999 - m.credited)) = accepted at *
    have credited : m.addCredit accepted =
        { m with balance := m.balance + accepted, credited := m.credited + accepted } := rfl
    rw [credited] at served
    refine ⟨_, served, ?_⟩
    generalize written : (s.modLane l fun a =>
      { a with meter := some { m with balance := m.balance + accepted, credited := m.credited + accepted } }) = b
    obtain ⟨answered, chip, records, pairs, lanes, beside⟩ :=
      creditClauses (l := l) (byte4 accepted ++ byte4 (m.balance + accepted)) written.symm
    have own : b.lane l =
        { s.lane l with meter := some { m with balance := m.balance + accepted, credited := m.credited + accepted } } := by
      rw [← written, lane_modLane, if_pos rfl]
    have meter : (b.lane l).meter =
        some { m with balance := m.balance + accepted, credited := m.credited + accepted } := by rw [own]
    have record : (b.lane l).session = (s.lane l).session := by rw [own]
    have sup : (b.lane l).sup = (s.lane l).sup := by rw [own]
    have session : b.session l = s.session l := by rw [State.session, record]; rfl
    have same : b.chip = s.chip := by rw [← written]; rfl
    have price : b.priceOf l = s.priceOf l := priceOf_congr same (by rw [record])
    have billing : b.billing = s.billing := billing_of_chip same
    have timers : b.timers = s.timers := timers_of_chip same
    have turn : b.turn (pairOf l) = s.turn (pairOf l) := by rw [← written]; rfl
    have ret : b.ret (pairOf l) = s.ret (pairOf l) := by rw [← written]; rfl
    have start : s.slows b (pairOf l) := by
      rw [← written]
      exact slows_of_session rfl rfl fun k => by rw [State.session, lane_modLane]; split <;> rfl
    have holds := creditHolds_prepaid meter prepaid
    rw [price] at holds
    refine ⟨answered, chip, records, pairs, lanes, beside, fun isOpen none => ?_, fun k isOpen waits => ?_, holds,
      fun parked lacks => ?_, fun parked waits held => ?_, fun parked unmasked => ?_, fun d owed closing lacks => ?_,
      fun d owed closing afford => ?_⟩
    · rw [(credit_opened (session.trans isOpen)).1 (by rw [record, none])]
    · obtain ⟨drops, stays⟩ := (credit_opened (session.trans isOpen)).2 k (by rw [record, waits])
      refine ⟨fun masked held => ?_, fun free => by rw [stays free]⟩
      rw [drops masked held, dropPending_eq (by rw [record, waits]; nofun)]
    · rw [credit_parked_stays (session.trans parked) (.inr lacks)]
    · obtain ⟨told, rests, nobody, paid⟩ :=
        credit_parked_wakes meter prepaid (session.trans parked) (by rw [record, waits]) held
      rw [ret] at rests
      refine ⟨flagged_replying told _ _ _ _, rests_replying rests _ _ _ _, fun clear runs queue => ?_, fun d owed => ?_⟩
      · have quiet := nobody clear runs (by rw [State.nobodyQueued, turn]; exact queue)
        rw [record, sup, timers, turn] at quiet
        rwa [lane_replying, turn_replying]
      · obtain ⟨asOpen, m', there', settled⟩ := paid d owed
        rw [record] at asOpen
        rw [price, billing] at settled
        rw [lane_replying]
        exact ⟨asOpen, m', there', settled.declined, settled.phase, settled.balance, settled.credited, settled.unit⟩
    · rw [credit_parked_stays (session.trans parked) (.inl (by rw [record, unmasked]))]
    · rw [credit_closing_declined meter prepaid (session.trans closing) owed (by rwa [price])]
    · obtain ⟨opened, reason, slows, m', there', settled⟩ :=
        credit_closing_paid meter prepaid (session.trans closing) owed (by rwa [price])
      rw [price, billing] at settled
      rw [session_replying, lane_replying]
      exact ⟨opened, reason, sameReturnButIdle_replying (slows_trans start slows) _ _ _ _, m', there', settled.declined,
        settled.phase, settled.balance, settled.credited, settled.unit⟩
  · rw [exec_backGrace free there, if_neg fun both => ?_]
    exact cause.elim (· both.1) (· both.2)
  · refine ⟨_, exec_backGrace free there, ?_⟩
    rw [if_pos ⟨closing, back⟩]
    exact backGraceClauses closing there

end Sys2Proof.Machine
end

section
/-! PROOFS. The slips and the calls of the part (R172, R175 to R181). -/

namespace Sys2Proof.Machine

variable {s : State} {p : Port} {n : Fin 64}

/-- Two writings of the pool that agree at it. -/
theorem modPool_congr {f g : SlipPool → SlipPool} (h : f s.pool = g s.pool) : s.modPool f = s.modPool g := by
  rw [State.modPool, State.modPool, h]

/-! ## Fetching (R177) -/

theorem exec_fetchSlip_full (able : s.canServe p) (full : s.holdsLimit p = true) :
    exec (.fetchSlip p) s = .next (s.replying p 0x3C .full []) :=
  exec_refused (i := .fetchSlip p) rfl able.1 rfl (by rw [able.2, full]; rfl) nofun

theorem exec_fetchSlip_empty (able : s.canServe p) (room : s.holdsLimit p = false) (empty : s.pool.posts[p.index] = []) :
    exec (.fetchSlip p) s = .next (s.replying p 0x3C .empty []) :=
  exec_refused (i := .fetchSlip p) rfl able.1 rfl (by rw [able.2, room, empty]; rfl) nofun

theorem exec_fetchSlip (able : s.canServe p) (room : s.holdsLimit p = false) {rest : List (Fin 64)}
    (head : s.pool.posts[p.index] = n :: rest) :
    exec (.fetchSlip p) s =
      .next ((s.modPool fun q =>
        { q with
          posts := q.posts.set p.index rest
          slips := q.slips.set n { q.slips[n] with state := .held p } }).replying p 0x3C .ok
            ({ s.slip n with state := .held p }.bytes n)) := by
  have fetched : s.fetchSlip p =
      ⟨s.modPool fun q =>
        { q with
          posts := q.posts.set p.index rest
          slips := q.slips.set n { q.slips[n] with state := .held p } }, .ok,
        { s.slip n with state := .held p }.bytes n⟩ := by
    unfold State.fetchSlip
    rw [head]
    simp [State.slip, SlipPool.modSlip]
  have taken := exec_accepted (i := .fetchSlip p) (s := s) rfl able.1 rfl (by rw [able.2, room, head]; rfl) (by
    rw [fetched]; nofun)
  rw [fetched] at taken
  exact taken

/-! ## A slip that is held -/

/-- The shared refusals pass for a slip that the port holds. -/
theorem slipChecks_held (ready : s.loading = false) (held : (s.slip n).state = .held p) :
    slipChecks p (slipNo n) true s = [(false, .range), (false, .busy), (false, .state)] := by
  rw [slipChecks, slipIx_slipNo, inSlips_slipNo, ready, held]
  simp

theorem exec_returnSlip_state (able : s.canServe p) (other : (s.slip n).state ≠ .held p) :
    exec (.returnSlip p (slipNo n)) s = .next (s.replying p 0x3E .state []) := by
  refine exec_refused (i := .returnSlip p (slipNo n)) rfl able.1 rfl ?_ nofun
  rw [slipChecks, slipIx_slipNo, inSlips_slipNo, able.2]
  simp [firstRefusal_cons, other]

section
variable (able : s.canServe p) (held : (s.slip n).state = .held p)
include able held

theorem exec_returnSlip :
    exec (.returnSlip p (slipNo n)) s = .next ((s.modPool fun q => q.returned n).replying p 0x3E .ok []) := by
  have taken := exec_ok (i := .returnSlip p (slipNo n)) (s := s) rfl able.1 rfl (by rw [slipChecks_held able.2 held]; rfl)
  rwa [slipIx_slipNo] at taken

theorem exec_writeSlip {kind lane : Nat} {body : List Byte} {b : SlipBody} (reads : slipBodyOf kind body = some b)
    (fits : lane ≤ 16) (party : ∀ reason detail, b = .mechCall reason detail → reason = .bowlerCall)
    (allowed : slipLaneBarred p lane (some b) = false) (origin : (s.slip n).origin ≠ some .part)
    (outcome : (s.slip n).outcome = .none) :
    exec (.writeSlip p (slipNo n) kind lane body) s =
      .next ((s.modPool fun q => q.modSlip n fun x => { x with body := some b, lane := lane }).replying p 0x3A .ok []) := by
  have own : partReason (some b) = false := by
    cases b with
    | mechCall reason detail =>
      rw [party reason detail rfl]
      rfl
    | _ => rfl
  have readable : ((slipBodyOf kind body).isSome && decide (lane ≤ 16)) = true := by
    rw [reads, decide_eq_true fits]
    rfl
  have taken := exec_ok (i := .writeSlip p (slipNo n) kind lane body) (s := s) rfl able.1 rfl (by
    rw [readable, slipChecks_held able.2 held, slipIx_slipNo, reads, own, allowed, outcome, beq_eq_false_iff_ne.mpr origin]
    rfl)
  rwa [slipIx_slipNo, reads] at taken

theorem exec_postSlip {dest : Port} (written : (s.slip n).body ≠ none)
    (allowed : p.isConsole = true → dest.isConsole = false) :
    exec (.postSlip p (slipNo n) dest.index.val) s =
      .next ((s.modPool fun q =>
        { q with
          slips := q.slips.set n { q.slips[n] with state := .posted dest }
          posts := q.posts.set dest.index (q.posts[dest.index] ++ [n]) }).replying p 0x3B .ok []) := by
  have fits : decide (dest.index.val ≤ 9) = true := decide_eq_true (Nat.le_of_lt_succ dest.index.isLt)
  have near : (p.isConsole && decide (1 < dest.index.val)) = false := by
    cases console : p.isConsole with
    | false => rfl
    | true =>
      have plain := allowed console
      cases dest with
      | console k => exact nomatch plain
      | dk => rfl
      | mc => rfl
  have body : (s.slip n).body.isNone = false := Option.isNone_eq_false_iff.mpr (Option.isSome_iff_ne_none.mpr written)
  have taken := exec_ok (i := .postSlip p (slipNo n) dest.index.val) (s := s) rfl able.1 rfl (by
    rw [fits, slipChecks_held able.2 held, slipIx_slipNo, near, body]
    rfl)
  rw [slipIx_slipNo, ofByte?_index] at taken
  exact taken

theorem exec_setOutcome {outcome : Nat} (party : outcome = 1 ∨ outcome = 2) (desk : p.isConsole = false)
    (written : (s.slip n).body ≠ none) (applied : (s.slip n).outcome ≠ .applied)
    (refused : ∀ why, (s.slip n).outcome ≠ .refused why) :
    exec (.setOutcome p (slipNo n) outcome) s =
      .next ((s.modPool fun q => q.modSlip n fun x =>
        { x with outcome := if outcome = 1 then .granted else .declined }).replying p 0x3D .ok []) := by
  have fits : within 1 2 outcome = true := within_eq_true.mpr (by omega)
  have body : (s.slip n).body.isNone = false := Option.isNone_eq_false_iff.mpr (Option.isSome_iff_ne_none.mpr written)
  have unsettled : settledOutcome (s.slip n).outcome = false := by
    cases there : (s.slip n).outcome with
    | applied => exact absurd there applied
    | refused why => exact absurd there (refused why)
    | _ => rfl
  have taken := exec_ok (i := .setOutcome p (slipNo n) outcome) (s := s) rfl able.1 rfl (by
    rw [fits, slipChecks_held able.2 held, slipIx_slipNo, body, unsettled, desk]
    rfl)
  rw [slipIx_slipNo] at taken
  exact taken

end

/-! ## A slip that is returned (R171, R179, R181) -/

theorem returned_general (general : isReserve n = false) (q : SlipPool) :
    q.returned n = { q with slips := q.slips.set n Slip.blank, generalFree := q.generalFree ++ [n] } := by
  simp [SlipPool.returned, SlipPool.free, SlipPool.modSlip, general]

theorem returned_reserve (reserve : isReserve n = true) (q : SlipPool) :
    q.returned n =
      { q with slips := q.slips.set n Slip.blank, reserveFree := q.reserveFree ++ [n] }.drain := by
  simp [SlipPool.returned, SlipPool.free, SlipPool.modSlip, reserve]

theorem drain_none {q : SlipPool} (none : q.backlog = []) : q.drain = q := by
  rw [SlipPool.drain, none]
  cases q.reserveFree <;> rfl

theorem drain_some {q : SlipPool} {c : Call} {calls : List Call} {rest : List (Fin 64)} (free : q.reserveFree = n :: rest)
    (waits : q.backlog = c :: calls) :
    q.drain = { q with reserveFree := rest, backlog := calls }.postCall n c := by
  rw [SlipPool.drain, free, waits]

/-- A reserve slip returned while no other is free takes the oldest call of the backlog. -/
theorem returned_drains {q : SlipPool} {c : Call} {calls : List Call} (reserve : isReserve n = true)
    (used : q.reserveFree = []) (waits : q.backlog = c :: calls) :
    q.returned n =
      { q with
        backlog := calls
        slips := q.slips.set n ⟨.posted .mc, some (.mechCall c.reason c.detail), some .part, c.lane, .none⟩
        posts := q.posts.set Port.mc.index (q.posts[Port.mc.index] ++ [n]) } := by
  have free : ({ q with slips := q.slips.set n Slip.blank, reserveFree := q.reserveFree ++ [n] } : SlipPool).reserveFree =
      [n] := by
    dsimp only
    rw [used]
    rfl
  rw [returned_reserve reserve, drain_some free waits]
  simp [SlipPool.postCall, SlipPool.modSlip, SlipPool.post, callSlip, used]

/-! ## A call of the part (R180, R181, R184) -/

theorem same_iff (c b : Call) : Call.same c b = true ↔ b.lane = c.lane ∧ b.reason = c.reason := by
  simp [Call.same, @eq_comm _ c.lane, @eq_comm _ c.reason]

theorem raiseCall_free (ready : s.loading = false) {rest : List (Fin 64)} (free : s.pool.reserveFree = n :: rest) (c : Call) :
    s.raiseCall c = s.modPool fun q =>
      { q with
        reserveFree := rest
        slips := q.slips.set n ⟨.posted .mc, some (.mechCall c.reason c.detail), some .part, c.lane, .none⟩
        posts := q.posts.set Port.mc.index (q.posts[Port.mc.index] ++ [n]) } := by
  rw [State.raiseCall, ready, free]
  rfl

theorem raiseCall_backlog (ready : s.loading = false) (none : s.pool.reserveFree = []) (c : Call) :
    s.raiseCall c = s.backlogCall c := by
  rw [State.raiseCall, ready, none]
  rfl

theorem backlogCall_known {c : Call} (known : ∃ b ∈ s.pool.backlog, b.lane = c.lane ∧ b.reason = c.reason) :
    s.backlogCall c = s.modPool fun q =>
      { q with
        backlog := q.backlog.map fun b => if b.lane = c.lane ∧ b.reason = c.reason then { b with detail := c.detail } else b } := by
  have found : s.pool.backlog.any (Call.same c) = true := by
    obtain ⟨b, there, same⟩ := known
    exact List.any_eq_true.mpr ⟨b, there, (same_iff c b).mpr same⟩
  rw [State.backlogCall, if_pos found]
  simp only [same_iff]

theorem backlogCall_new {c : Call} (new : ∀ b ∈ s.pool.backlog, ¬ (b.lane = c.lane ∧ b.reason = c.reason)) :
    s.backlogCall c =
      if s.pool.backlog.length < 32 then s.modPool fun q => { q with backlog := q.backlog ++ [c] }
      else s.flagMc .backlogFull := by
  have absent : ¬ s.pool.backlog.any (Call.same c) = true := fun found => by
    obtain ⟨b, there, same⟩ := List.any_eq_true.mp found
    exact new b there ((same_iff c b).mp same)
  rw [State.backlogCall, if_neg absent]

/-- Settles O55, by the request that moves the slip, and by the lists that a call finds. -/
theorem slipsAndCallsMove : Obligations.SlipsAndCallsMove := by
  unfold Obligations.SlipsAndCallsMove
  refine ⟨fun p s able => ⟨exec_fetchSlip_full able, exec_fetchSlip_empty able, fun n rest room head =>
    exec_fetchSlip able room head, fun n => ⟨exec_returnSlip_state able, fun held => ⟨?_, ?_, ?_, ?_, ?_, ?_⟩⟩⟩,
    fun c s => ⟨fun loading => raiseCall_loading loading c, fun n rest ready free => raiseCall_free ready free c,
      fun ready none => ⟨fun known => ?_, fun new => ⟨fun room => ?_, fun full => ?_⟩⟩⟩⟩
  · intro kind lane body b reads fits party allowed origin outcome
    exact exec_writeSlip able held reads fits party allowed origin outcome
  · intro dest written allowed
    exact exec_postSlip able held written allowed
  · intro outcome party desk written applied refused
    exact exec_setOutcome able held party desk written applied refused
  · intro general
    rw [exec_returnSlip able held]
    simp only [returned_general general]
  · intro reserve none
    rw [exec_returnSlip able held, modPool_congr]
    rw [returned_reserve reserve, drain_none]
    exact none
  · intro c calls reserve waits used
    rw [exec_returnSlip able held, modPool_congr]
    exact returned_drains reserve used waits
  · rw [raiseCall_backlog ready none, backlogCall_known known]
  · rw [raiseCall_backlog ready none, backlogCall_new new, if_pos room]
  · rw [raiseCall_backlog ready none, backlogCall_new new, if_neg (Nat.not_lt.mpr full)]

end Sys2Proof.Machine
end

section
/-! PROOFS. The power reset and the section restart (R19, R44, R63, R84, R147, R169, R184, R198, R200, R202). -/

namespace Sys2Proof.Machine

variable {s : State} {p : Fin 8}

/-! ## A power reset -/

section
variable (rate : Bool) (full raised : BitVec 8) (chain : Chain) (memory : ConfigMemory) (pending : List Instr)

theorem lane_afterReset (l : Fin 16) :
    (State.afterReset rate full raised chain memory pending).lane l = Lane.initial .factory .idle := by
  simp [State.afterReset, State.lane]

theorem pair_afterReset (p : Fin 8) :
    (State.afterReset rate full raised chain memory pending).pair p =
      Pair.initial (full.getLsbD p) (raised.getLsbD p) .factory false := by
  simp [State.afterReset, State.pair]

theorem port_afterReset (q : Port) : (State.afterReset rate full raised chain memory pending).port q = .initial := by
  simp [State.afterReset, State.port]

theorem slot_initial (full raised : Bool) (settings : PairSettings) (motor : Bool) (i : Fin 12) :
    (Pair.initial full raised settings motor).turn.slots[i] = Slot.empty := by
  simp [Pair.initial, TurnUnit.initial]

theorem slot_afterReset (i : Fin 12) :
    (State.afterReset rate full raised chain memory pending).slot p i = Slot.empty := by
  rw [State.slot, State.turn, pair_afterReset, slot_initial]

/-- Every lane of a part that was reset is CLOSED, without a meter. -/
theorem laneLaws_afterReset :
    (State.afterReset rate full raised chain memory pending).meterLaw ∧
      (State.afterReset rate full raised chain memory pending).lightLaw ∧
      (State.afterReset rate full raised chain memory pending).supervisorLaw := by
  refine ⟨fun l m there => ?_, fun l => ?_, fun l => ?_⟩
  · rw [lane_afterReset] at there
    cases there
  · rw [State.session, lane_afterReset]
    exact ⟨rfl, rfl⟩
  · rw [lane_afterReset]
    simp [Lane.initial, Supervisor.initial, Supervisor.lawful]

theorem listLaw_afterReset : (State.afterReset rate full raised chain memory pending).listLaw := by
  refine ⟨fun q => ?_, Nat.zero_le _, Nat.zero_le _, fun q i => ?_⟩
  · rw [port_afterReset]
    exact Nat.zero_le _
  · rw [slot_afterReset]
    exact Nat.zero_le _

end

theorem generalSlips_eq : generalSlips.map Fin.val = List.range 56 := by decide

theorem reserveSlips_eq : reserveSlips.map Fin.val = [56, 57, 58, 59, 60, 61, 62, 63] := by decide

/-! ## A section restart -/

theorem lane_restarted (s : State) (l : Fin 16) :
    s.restarted.lane l = Lane.initial (s.lane l).session.settings (s.lane l).out := by
  simp [State.restarted, State.lane, Lane.restarted]

theorem pair_restarted (s : State) (p : Fin 8) :
    s.restarted.pair p = Pair.initial (s.ret p).rackFull (s.ret p).overload (s.turn p).settings (s.pair p).motor := by
  simp [State.restarted, State.pair, State.ret, State.turn, Pair.restarted]

theorem port_restarted (s : State) (q : Port) : s.restarted.port q = (s.port q).restarted := by
  simp [State.restarted, State.port]

theorem entry_restarted (s : State) (k : Fin 112) :
    s.restarted.directory.entries[k] = { s.directory.entries[k] with used := false, locked := false } := by
  simp [State.restarted, Directory.restarted]

/-- The reserve slips that a restart keeps: the part's calls on the mechanic's post list. -/
def SlipPool.keptCalls (q : SlipPool) : List (Fin 64) :=
  (q.posts[Port.mc.index]).filter fun n => q.slips[n].origin == some .part && isReserve n

theorem restarted_eq (q : SlipPool) :
    q.restarted =
      { slips := Vector.ofFn fun n => if n ∈ q.keptCalls then q.slips[n] else Slip.blank
        generalFree := generalSlips
        reserveFree := reserveSlips.filter (· ∉ q.keptCalls)
        posts := (Vector.replicate 10 []).set Port.mc.index q.keptCalls
        backlog := [] } := rfl

theorem mem_keptCalls (q : SlipPool) (n : Fin 64) :
    n ∈ q.keptCalls ↔ (n ∈ q.posts[Port.mc.index] ∧ q.slips[n].origin = some .part) ∧ 56 ≤ n.val := by
  simp [SlipPool.keptCalls, isReserve, and_assoc]

theorem slip_restarted (s : State) (n : Fin 64) :
    s.restarted.slip n = if n ∈ s.pool.keptCalls then s.slip n else Slip.blank := by
  have slips : s.restarted.slip n = s.pool.restarted.slips[n] := rfl
  rw [slips, restarted_eq]
  simp [State.slip]

theorem posts_restarted (s : State) (q : Port) :
    s.restarted.pool.posts[q.index] = if q = .mc then s.pool.keptCalls else [] := by
  have pool : s.restarted.pool = s.pool.restarted := rfl
  rw [pool, restarted_eq]
  dsimp only
  rw [getElem_setPost]
  split
  · rfl
  · simp

theorem exec_sectionRestart (able : s.canServe .dk) :
    exec (.sectionRestart .dk) s = .next (s.restarted.replying .dk 0x44 .ok []) :=
  exec_ok (i := .sectionRestart .dk) rfl able.1 rfl (by rw [able.2]; rfl)

/-- A Port Interface after a section restart has been answered. -/
theorem port_restartAnswered (s : State) (q : Port) :
    (s.restarted.replying .dk 0x44 .ok []).port q =
      { s.port q with
        rx := .hunt, queue := [], lastError := .none, truncated := 0, overrun := 0, framed := 0, events := 0
        reply := if q = .dk then some ⟨0x44, .ok, []⟩ else (s.port q).reply } := by
  rw [State.replying, port_modPort]
  split
  · rw [port_restarted]
    rfl
  · rw [port_restarted]
    rfl

/-- Settles O56, by the fields of each block at its reset values, and by the calls that a restart keeps. -/
theorem resetAndRestartValues : Obligations.ResetAndRestartValues := by
  unfold Obligations.ResetAndRestartValues
  refine ⟨fun _ _ => rfl, fun _ _ _ _ => rfl, fun rate full raised chain memory pending => ?_, fun s able => ?_⟩
  · obtain ⟨meters, lights, supervisors⟩ := laneLaws_afterReset rate full raised chain memory pending
    refine ⟨rfl, rfl, rfl, rfl, rfl, fun l => ?_, fun p => ⟨?_, fun i => slot_afterReset ..⟩, fun k => ?_, rfl, fun n => ?_,
      generalSlips_eq, reserveSlips_eq, rfl, fun q => ?_, fun q => port_afterReset .., transitLaw_afterReset rate full raised chain memory pending, meters, lights,
      supervisors, lawful_initialPool, listLaw_afterReset ..⟩
    · rw [lane_afterReset]
      rfl
    · rw [State.turn, pair_afterReset]
      rfl
    · simp [State.afterReset, Directory.initial, Entry.invalid]
    · simp [State.afterReset, SlipPool.initial, State.slip]
    · simp [State.afterReset, SlipPool.initial]
  · refine ⟨_, exec_sectionRestart able, (chip_replying ..).trans rfl, fun l => (lane_replying ..).trans (lane_restarted s l),
      fun p => (pair_replying ..).trans (pair_restarted s p), entry_restarted s, rfl, rfl, port_restartAnswered s, rfl, rfl,
      fun n general => ?_, fun n reserve => ⟨fun kept => ?_, fun lost => ?_⟩, fun q other => ?_⟩
    · have away : n ∉ s.pool.keptCalls := fun kept =>
        absurd ((mem_keptCalls ..).mp kept).2 (Nat.not_le.mpr general)
      exact (slip_restarted s n).trans (if_neg away)
    · have kept : n ∈ s.pool.keptCalls := (mem_keptCalls ..).mpr ⟨kept, reserve⟩
      refine ⟨(slip_restarted s n).trans (if_pos kept), ?_⟩
      have posts := posts_restarted s .mc
      rw [if_pos rfl] at posts
      exact posts ▸ kept
    · have away : n ∉ s.pool.keptCalls := fun kept => lost ((mem_keptCalls ..).mp kept).1
      refine ⟨(slip_restarted s n).trans (if_neg away), ?_⟩
      have listed : n ∈ reserveSlips.filter (· ∉ s.pool.keptCalls) := by
        simp [reserveSlips, away, reserve]
      exact listed
    · exact (posts_restarted s q).trans (if_neg other)

end Sys2Proof.Machine
end

section
/-! PROOFS. The settings memory, the load and the resets (R199 to R201). -/

namespace Sys2Proof.Machine

variable {s : State}

/-! ## The image and its check (R199) -/

/-- Values of a layout are as long as their widths call for. -/
theorem length_writeFields_of_length {ws ns : List Nat} (h : ws.length = ns.length) : (writeFields ws ns).length = ws.sum := by
  induction ws generalizing ns with
  | nil => rfl
  | cons w ws ih =>
    cases ns with
    | nil => simp at h
    | cons n ns => rw [writeFields, List.length_append, length_writeNat, ih (Nat.succ.inj h), List.sum_cons]

theorem length_image (c : SettingsCopy) : c.image.length = 442 := by
  have values : c.fields.length = 268 := by
    simp [SettingsCopy.fields, SettingsCopy.sectionFields, Price.fields, LaneSettings.fields, PairSettings.fields,
      RangeEntry.fields]
  have layout : imageLayout.length = 268 ∧ imageLayout.sum = 442 := by decide +kernel
  rw [SettingsCopy.image, length_writeFields_of_length (layout.1.trans values.symm), layout.2]

theorem imageSum_toNat (data : List Byte) : (imageSum data).toNat = (data.map BitVec.toNat).sum % 65536 := by
  have summed (start : BitVec 16) : (data.foldl (fun n b => n + b.setWidth 16) start).toNat =
      (start.toNat + (data.map BitVec.toNat).sum) % 65536 := by
    induction data generalizing start with
    | nil => simp [Nat.mod_eq_of_lt start.isLt]
    | cons b data ih =>
      have small : b.toNat < 256 := b.isLt
      rw [List.foldl_cons, ih, BitVec.toNat_add, BitVec.toNat_setWidth, List.map_cons, List.sum_cons]
      omega
  rw [imageSum, summed]
  simp

theorem good_iff (m : ConfigMemory) : m.good = true ↔ (m.data.map BitVec.toNat).sum % 65536 = m.check.toNat := by
  rw [ConfigMemory.good, beq_iff_eq, ← imageSum_toNat, BitVec.toNat_inj]

/-! ## Storing (R201) -/

theorem exec_storeSettings (able : s.canServe .dk) (free : s.storing = none) :
    exec (.storeSettings .dk) s = .next ({ s with storing := some s.settings }.replying .dk 0x45 .ok []) :=
  exec_ok (i := .storeSettings .dk) rfl able.1 rfl (by rw [able.2, free]; rfl)

theorem exec_storeSettings_busy (able : s.canServe .dk) (busy : s.storing ≠ none) :
    exec (.storeSettings .dk) s = .next (s.replying .dk 0x45 .busy []) :=
  exec_refused (i := .storeSettings .dk) rfl able.1 rfl (by
    rw [able.2, Option.isSome_iff_ne_none.mpr busy]; rfl) nofun

theorem exec_storeEnd (free : s.resetHeld = false) (r : StoreResult) : exec (.storeEnd r) s = .next (storeEnd r s) := by
  have unheld : exec (.storeEnd r) s = .next (s.unlessHeld (storeEnd r)) := rfl
  rw [unheld, State.unlessHeld, free]
  rfl

theorem storeEnd_idle (idle : s.storing = none) (r : StoreResult) : storeEnd r s = s := by rw [storeEnd, idle]

theorem storeEnd_storing {copy : SettingsCopy} (storing : s.storing = some copy) (r : StoreResult) :
    storeEnd r s = { s with storing := none, memory := s.memory.store copy r }.flagDk .storeDone := by
  rw [storeEnd, storing]

theorem memoryStopped_eq (s : State) : s.memoryStopped = if s.storing = none then s.memory else s.memory.spoiled := by
  rw [State.memoryStopped]
  cases s.storing <;> rfl

/-! ## The load (R200) -/

theorem exec_loadEnd (free : s.resetHeld = false) (answers : Bool) :
    exec (.settingsLoadEnd answers) s = .next (settingsLoadEnd answers s) := by
  have unheld : exec (.settingsLoadEnd answers) s = .next (s.unlessHeld (settingsLoadEnd answers)) := rfl
  rw [unheld, State.unlessHeld, free]
  rfl

/-- The settings taken are the settings that stand. -/
theorem settings_takeSettings (s : State) (c : SettingsCopy) : (s.takeSettings c).settings = c := by
  have lanes : (Vector.zipWith Lane.withSettings s.lanes c.lanes).map (fun a => a.session.settings) = c.lanes :=
    Vector.ext fun i bound => by simp [Lane.withSettings]
  have pairs : (Vector.zipWith Pair.withSettings s.pairs c.pairs).map (fun a => a.turn.settings) = c.pairs :=
    Vector.ext fun i bound => by simp [Pair.withSettings]
  rw [State.settings, State.takeSettings, lanes, pairs]

theorem sup_takeSettings (s : State) (c : SettingsCopy) (l : Fin 16) : ((s.takeSettings c).lane l).sup = (s.lane l).sup := by
  simp [State.takeSettings, State.lane, Lane.withSettings]

theorem settingsLoadEnd_taken (loading : s.loading = true) {c : SettingsCopy} (sound : s.memory.good = true)
    (data : s.memory.data = c.image) (good : c.good = true) :
    settingsLoadEnd true s = { s.takeSettings c with loading := false } := by
  rw [settingsLoadEnd, if_pos loading, (load_eq_some ..).mpr ⟨rfl, sound, good, data⟩]

theorem settingsLoadEnd_defaulted (loading : s.loading = true) {answers : Bool}
    (lost : answers = false ∨ s.memory.good = false ∨ ∀ c : SettingsCopy, c.good = true → s.memory.data ≠ c.image) :
    settingsLoadEnd answers s = { s.takeSettings .factory with loading := false }.flagDk .settingsDefaulted := by
  have none : s.memory.load answers = none := by
    rw [Option.eq_none_iff_forall_ne_some]
    intro c found
    obtain ⟨replies, sound, good, data⟩ := (load_eq_some ..).mp found
    rcases lost with silent | bad | other
    · exact nomatch silent.symm.trans replies
    · exact nomatch bad.symm.trans sound
    · exact other c good data
  rw [settingsLoadEnd, if_pos loading, none]

/-- Settles O57, by the check of the image, the end of a store or load, and the settings that are taken. -/
theorem settingsAreStoredAndLoaded : Obligations.SettingsAreStoredAndLoaded := by
  unfold Obligations.SettingsAreStoredAndLoaded
  intro s
  refine ⟨fun able => ⟨exec_storeSettings able, exec_storeSettings_busy able⟩, fun free => ⟨fun idle r => ?_, fun copy storing =>
    ⟨?_, ?_, ?_⟩, fun ready answers => ?_, fun c loading sound data good => ?_, fun answers loading lost => ?_⟩, ?_,
    fun m => ⟨good_iff m, good_spoiled m⟩,
    fun c => ⟨good_written c, rfl, length_image c, Tariff.length_allPrices _, image_prices c⟩, fun rate full raised => ?_⟩
  · rw [exec_storeEnd free, storeEnd_idle idle]
  · rw [exec_storeEnd free, storeEnd_storing storing]
    rfl
  · rw [exec_storeEnd free, storeEnd_storing storing]
    rfl
  · rw [exec_storeEnd free, storeEnd_storing storing]
    rfl
  · rw [exec_loadEnd free, settingsLoadEnd, ready]
    rfl
  · refine ⟨_, exec_loadEnd free true, ?_⟩
    rw [settingsLoadEnd_taken loading sound data good]
    exact ⟨rfl, settings_takeSettings s c, rfl, rfl, rfl, rfl, fun l => sup_takeSettings s c l⟩
  · refine ⟨_, exec_loadEnd free answers, ?_⟩
    rw [settingsLoadEnd_defaulted loading lost]
    refine ⟨rfl, settings_takeSettings s .factory, flagged_setEvent_same _ .dk 6, fun q => ?_, rfl, rfl, rfl,
      fun l => sup_takeSettings s .factory l⟩
    rw [line_flagDk]
    rfl
  · rw [← memoryStopped_eq]
    rfl
  · rw [← memoryStopped_eq]
    rfl

end Sys2Proof.Machine
end

section
/-! SUPPORT. The requests to a pair's roster: what each does before its own change, and what the head rules that it runs
leave (section 4.3). -/

namespace Sys2Proof.Machine

variable {s t : State} {l k : Fin 16} {p : Fin 8} {i j : Fin 12} {q : Port}

/-! ## A roster request taken -/

/-- Between `s` and `t` a roster request of pair `p` has been taken: its console is told, both snapshots are invalid, and
of the lanes those of the pair alone may have moved. -/
structure State.rosters (s t : State) (p : Fin 8) : Prop where
  line : ∀ q, (t.port q).line = (s.port q).line
  pool : t.pool = s.pool
  told : t.flagged (.console p) 2
  cleared : ∀ l, pairOf l = p → (t.lane l).snapshot = none
  far : ∀ l, pairOf l ≠ p → t.lane l = s.lane l
  slows : s.slows t p

theorem lane_dropSnapshots (s : State) (p : Fin 8) (k : Fin 16) :
    (s.dropSnapshots p).lane k = if pairOf k = p then { s.lane k with snapshot := none } else s.lane k := by
  rw [State.dropSnapshots, State.dropSnapshot, State.dropSnapshot, lane_modLane, lane_modLane]
  by_cases here : pairOf k = p
  · rw [if_pos here]
    rcases (pairOf_eq_iff k p).mp here with rfl | rfl
    · rw [if_neg (odd_ne_even p), if_pos rfl]
    · rw [if_pos rfl, if_neg (odd_ne_even p).symm]
  · have apart (sd : Side) : k ≠ laneAt p sd := fun e => here (by rw [e, pairOf_laneAt])
    rw [if_neg here, if_neg (apart _), if_neg (apart _)]

theorem lane_rosterTaken (s : State) (p : Fin 8) (k : Fin 16) :
    (s.rosterTaken p).lane k = if pairOf k = p then { s.lane k with snapshot := none } else s.lane k := by
  rw [State.rosterTaken, lane_dropSnapshots, lane_flagConsole]

theorem sameLaneButSnapshot_rosterTaken (s : State) (p : Fin 8) (k : Fin 16) : s.sameLaneButSnapshot (s.rosterTaken p) k := by
  unfold State.sameLaneButSnapshot
  rw [lane_rosterTaken]
  split <;> rfl

theorem rosters_rosterTaken (s : State) (p : Fin 8) : s.rosters (s.rosterTaken p) p where
  line := line_rosterTaken s p
  pool := pool_rosterTaken ..
  told := flagged_setEvent_same s (.console p) 2
  cleared l here := by rw [lane_rosterTaken, if_pos here]
  far l far := by rw [lane_rosterTaken, if_neg far]
  slows := slows_of_session (chip_rosterTaken ..) (ret_rosterTaken ..) (session_rosterTaken s p)

theorem rosters_updTurn (h : s.rosters t p) (o : Fin 8) (f : TurnUnit → TurnUnit) : s.rosters (t.updTurn o f) p where
  line q := (line_updTurn ..).trans (h.line q)
  pool := (pool_updTurn ..).trans h.pool
  told := flagged_updTurn h.told o f
  cleared l here := by rw [lane_updTurn, h.cleared l here]
  far l far := by rw [lane_updTurn, h.far l far]
  slows := slows_trans h.slows (slows_updTurn ..)

theorem rosters_updSlot (h : s.rosters t p) (o : Fin 8) (i : Fin 12) (f : Slot → Slot) : s.rosters (t.updSlot o i f) p :=
  rosters_updTurn h o _

theorem rosters_headRules (h : s.rosters t p) (here : pairOf l = p) : s.rosters (t.headRules l) p where
  line q := (line_headRules ..).trans (h.line q)
  pool := (pool_headRules ..).trans h.pool
  told := flagged_headRules h.told l
  cleared k beside := by
    by_cases own : k = l
    · subst own
      rcases snapshot_headRules t k with kept | told
      · rw [kept, h.cleared k here]
      · rw [told, h.cleared k here]
        rfl
    · rw [laneOther_headRules _ _ _ own, h.cleared k beside]
  far k far := by
    rw [laneOther_headRules _ _ _ fun e => far (by rw [e, here]), h.far k far]
  slows := slows_trans h.slows (slows_headRules t here)

theorem rosters_headRulesAt (h : s.rosters t p) (sd : Option Side) : s.rosters (t.headRulesAt p sd) p := by
  cases sd with
  | none => exact h
  | some sd => exact rosters_headRules h (pairOf_laneAt ..)

/-- The clauses that every roster request shares. -/
theorem rosters_replying (h : s.rosters t p) (q : Port) (code : Byte) :
    s.answers (t.replying q code .ok []) q code .ok [] ∧ (t.replying q code .ok []).chip = s.chip ∧
      (t.replying q code .ok []).pool = s.pool ∧ (t.replying q code .ok []).flagged (.console p) 2 ∧
      (∀ l, pairOf l = p → ((t.replying q code .ok []).lane l).snapshot = none) ∧
      (∀ l, pairOf l ≠ p → (t.replying q code .ok []).lane l = s.lane l) ∧
      s.sameReturnButIdle (t.replying q code .ok []) p := by
  refine ⟨answers_replying h.line _ _ _ _, (chip_replying ..).trans h.slows.chip, (pool_replying ..).trans h.pool,
    flagged_replying h.told _ _ _ _, fun l here => ?_, fun l far => ?_, sameReturnButIdle_replying h.slows _ _ _ _⟩
  · rw [lane_replying, h.cleared l here]
  · rw [lane_replying, h.far l far]

/-! ## The head rules of a side -/

theorem pairOther_headRulesAt (s : State) {p w : Fin 8} (sd : Option Side) (other : w ≠ p) :
    (s.headRulesAt p sd).pair w = s.pair w := by
  cases sd with
  | none => rfl
  | some sd => exact pairOther_headRules _ _ _ (by rwa [pairOf_laneAt])

theorem records_headRulesAt (s : State) (p : Fin 8) (sd : Option Side) : (s.headRulesAt p sd).records = s.records := by
  cases sd with
  | none => rfl
  | some sd => exact records_headRules ..

theorem settlesTo_headRulesAt (s : State) (p : Fin 8) (sd : Option Side) :
    (s.turn p).settlesTo ((s.headRulesAt p sd).turn p) := by
  cases sd with
  | none => exact settlesTo_refl _
  | some sd =>
    have settles := settlesTo_headRules (t := s) (l := laneAt p sd) (settlesTo_refl _) rfl
    rwa [pairOf_laneAt] at settles

/-- A slot that rises keeps its bowler and its count of games. -/
theorem lasting_of_settlesTo {v w : TurnUnit} (h : v.settlesTo w) (j : Fin 12) : w.slots[j].lasting = v.slots[j].lasting := by
  rcases h.slots j with same | ⟨-, -, -, kept, -⟩
  · rw [same]
  · exact kept

/-- A slot that is away rises in no head rules. -/
theorem slot_of_settlesTo_away {v w : TurnUnit} (h : v.settlesTo w) {j : Fin 12} (away : v.slots[j].away = true) :
    w.slots[j] = v.slots[j] := by
  rcases h.slots j with same | ⟨present, -⟩
  · exact same
  · rw [away] at present
    cases present

theorem headSide_none {v : TurnUnit} (odd : v.queueOdd.head? ≠ some i) (even : v.queueEven.head? ≠ some i) :
    v.headSide i = none := by
  rw [TurnUnit.headSide, if_neg odd, if_neg even]

/-! ## The first checks -/

/-- The first checks of a roster request pass, and what follows decides. -/
theorem rosterChecks_pass (able : s.canServe q) (notMechanic : q ≠ .mc) (owns : ownsPair q p)
    (rest : List (Bool × ReplyOutcome)) :
    firstRefusal (rosterChecks q (pairNo p) true s ++ rest) = firstRefusal rest := by
  rw [rosterChecks, outsidePair_of_owns owns, beq_eq_false_iff_ne.mpr notMechanic, inPairs_pairNo, able.2]
  rfl

end Sys2Proof.Machine
end

section
/-! PROOFS. AWAY and BACK (R69, R70). -/

namespace Sys2Proof.Machine

variable {s t : State} {p : Fin 8} {i j : Fin 12} {q : Port}

theorem exec_away_refused (able : s.canServe q) (notMechanic : q ≠ .mc) (owns : ownsPair q p)
    (stays : (s.slot p i).mayNotLeave = true) :
    exec (.away q (pairNo p) (slotNo i)) s = .next (s.replying q 0x23 .state []) :=
  exec_refused (i := .away q (pairNo p) (slotNo i)) rfl able.1 rfl (by
    rw [inSlots_slotNo, rosterChecks_pass able notMechanic owns, pairIx_pairNo, slotIx_slotNo, stays]; rfl) nofun

theorem exec_away (able : s.canServe q) (notMechanic : q ≠ .mc) (owns : ownsPair q p)
    (leaves : (s.slot p i).mayNotLeave = false) :
    exec (.away q (pairNo p) (slotNo i)) s = .next (((s.rosterTaken p).sendAway p i).replying q 0x23 .ok []) := by
  have taken := exec_ok (i := .away q (pairNo p) (slotNo i)) (s := s) rfl able.1 rfl (by
    rw [inSlots_slotNo, rosterChecks_pass able notMechanic owns, pairIx_pairNo, slotIx_slotNo, leaves]; rfl)
  rwa [pairIx_pairNo, slotIx_slotNo] at taken

theorem exec_back_refused (able : s.canServe q) (notMechanic : q ≠ .mc) (owns : ownsPair q p)
    (empty : (s.slot p i).state = .empty) :
    exec (.back q (pairNo p) (slotNo i)) s = .next (s.replying q 0x24 .state []) :=
  exec_refused (i := .back q (pairNo p) (slotNo i)) rfl able.1 rfl (by
    rw [inSlots_slotNo, rosterChecks_pass able notMechanic owns, pairIx_pairNo, slotIx_slotNo, empty]; rfl) nofun

theorem exec_back (able : s.canServe q) (notMechanic : q ≠ .mc) (owns : ownsPair q p)
    (stands : (s.slot p i).state ≠ .empty) :
    exec (.back q (pairNo p) (slotNo i)) s = .next (((s.rosterTaken p).comeBack p i).replying q 0x24 .ok []) := by
  have taken := exec_ok (i := .back q (pairNo p) (slotNo i)) (s := s) rfl able.1 rfl (by
    rw [inSlots_slotNo, rosterChecks_pass able notMechanic owns, pairIx_pairNo, slotIx_slotNo,
      beq_eq_false_iff_ne.mpr stands]; rfl)
  rwa [pairIx_pairNo, slotIx_slotNo] at taken

theorem mayNotLeave_iff (x : Slot) :
    x.mayNotLeave = true ↔ x.state = .empty ∨ x.state = .done ∨ x.state = .up ∧ (x.ball ≠ 1 ∨ x.inFlight = true) := by
  unfold Slot.mayNotLeave
  cases x.state <;> simp

theorem mayLeave_iff (x : Slot) :
    x.mayNotLeave = false ↔ x.state = .queued ∨ x.state = .up ∧ x.ball = 1 ∧ x.inFlight = false := by
  unfold Slot.mayNotLeave
  cases x.state <;> simp

/-! ## The mark of a slot that moves in its queue -/

/-- A mark written in a slot, and the head rules of a side. -/
def State.marked (s : State) (p : Fin 8) (i : Fin 12) (f : Slot → Slot) (sd : Option Side) : State :=
  ((s.rosterTaken p).updSlot p i f).headRulesAt p sd

section
variable (s p i) (f : Slot → Slot) (sd : Option Side)

theorem rosters_marked : s.rosters (s.marked p i f sd) p :=
  rosters_headRulesAt (rosters_updSlot (rosters_rosterTaken s p) p i f) sd

theorem settlesTo_marked : ((s.turn p).modSlot i f).settlesTo ((s.marked p i f sd).turn p) := by
  have settles := settlesTo_headRulesAt ((s.rosterTaken p).updSlot p i f) p sd
  rwa [turn_updSlot, turn_rosterTaken] at settles

theorem pairOther_marked {w : Fin 8} (other : w ≠ p) : (s.marked p i f sd).pair w = s.pair w := by
  rw [State.marked, pairOther_headRulesAt _ _ other, State.updSlot, pairOther_updTurn _ _ _ _ other, pair_rosterTaken]

theorem records_marked : (s.marked p i f sd).records = s.records := by
  rw [State.marked, records_headRulesAt, records_updSlot, records_of_directory (directory_rosterTaken ..)]

/-- The clauses that both requests share. -/
theorem marked_replying (q : Port) (code : Byte) (sd' : Side) (j : Fin 12) :
    (j ∈ (((s.marked p i f sd).replying q code .ok []).turn p).queue sd' ↔ j ∈ (s.turn p).queue sd') ∧
      s.sameRecords ((s.marked p i f sd).replying q code .ok []) ∧
      s.samePairsBut ((s.marked p i f sd).replying q code .ok []) [p] := by
  refine ⟨?_, sameRecords_iff.mpr ((records_of_directory (directory_replying ..)).trans (records_marked ..)),
    fun w other => ?_⟩
  · rw [turn_replying, mem_queue_settlesTo (settlesTo_marked ..), queue_modSlot]
  · rw [pair_replying, pairOther_marked s p i f sd (by simpa using other)]

/-- A mark without head rules: no other slot and no lane moves. -/
theorem marked_none :
    (∀ j, j ≠ i → (s.marked p i f none).slot p j = s.slot p j) ∧ (∀ l, s.sameLaneButSnapshot (s.marked p i f none) l) ∧
      (s.marked p i f none).directory = s.directory := by
  have unruled : s.marked p i f none = (s.rosterTaken p).updSlot p i f := rfl
  rw [unruled]
  refine ⟨fun j other => ?_, fun l => ?_, by rw [State.updSlot, directory_updTurn, directory_rosterTaken]⟩
  · rw [State.slot, turn_updSlot, turn_rosterTaken, slots_modSlot, if_neg other]
    rfl
  · have same := sameLaneButSnapshot_rosterTaken s p l
    unfold State.sameLaneButSnapshot at *
    rwa [State.updSlot, lane_updTurn]

end

/-- Settles O41, by the mark, and by the head rules that move no slot that is away. -/
theorem awayAndBackMarkTheSlot : Obligations.AwayAndBackMarkTheSlot := by
  unfold Obligations.AwayAndBackMarkTheSlot
  intro p i q s able notMechanic owns
  refine ⟨fun stays => exec_away_refused able notMechanic owns ((mayNotLeave_iff _).mpr stays),
    exec_back_refused able notMechanic owns, fun leaves => ?_, fun stands => ?_⟩
  · refine ⟨_, exec_away able notMechanic owns ((mayLeave_iff _).mpr leaves), ?_⟩
    have sent : (s.rosterTaken p).sendAway p i = s.marked p i Slot.goAway ((s.turn p).headSide i) := by
      rw [State.sendAway, turn_rosterTaken]
      rfl
    have away : (s.slot p i).goAway = { s.slot p i with away := true, state := .queued } := by
      unfold Slot.goAway
      rcases leaves with queued | ⟨up, -⟩
      · rw [queued]
        rfl
      · rw [up]
        rfl
    obtain ⟨answered, chip, pool, told, cleared, far, idle⟩ :=
      rosters_replying (rosters_marked s p i Slot.goAway ((s.turn p).headSide i)) q 0x23
    have shared := marked_replying s p i Slot.goAway ((s.turn p).headSide i) q 0x23
    have settles := settlesTo_marked s p i Slot.goAway ((s.turn p).headSide i)
    rw [sent]
    refine ⟨answered, chip, pool, told, ?_, fun sd j => (shared sd j).1, (shared .odd i).2.1, cleared, far,
      (shared .odd i).2.2, idle, fun odd even => ?_⟩
    · have own : ((s.turn p).modSlot i Slot.goAway).slots[i] = (s.slot p i).goAway := by
        rw [slots_modSlot, if_pos rfl]
        rfl
      have kept := slot_of_settlesTo_away settles (by rw [own]; rfl)
      rw [own, away] at kept
      rw [State.slot, turn_replying]
      exact kept
    · rw [headSide_none odd even]
      obtain ⟨slots, lanes, directory⟩ := marked_none s p i Slot.goAway
      refine ⟨fun j other => ?_, fun l => ?_, (directory_replying ..).trans directory⟩
      · rw [← slots j other, State.slot, turn_replying]
        rfl
      · have same := lanes l
        unfold State.sameLaneButSnapshot at *
        rwa [lane_replying]
  · refine ⟨_, exec_back able notMechanic owns stands, ?_⟩
    by_cases away : (s.slot p i).away = true
    · have back : (s.rosterTaken p).comeBack p i =
          s.marked p i (fun x => { x with away := false }) ((s.turn p).turnSide i) := by
        have marked : ((s.rosterTaken p).slot p i).away = true := by rwa [slot_of_turn (turn_rosterTaken ..)]
        rw [State.comeBack, if_pos marked, turn_rosterTaken]
        rfl
      obtain ⟨answered, chip, pool, told, cleared, far, idle⟩ :=
        rosters_replying (rosters_marked s p i (fun x => { x with away := false }) ((s.turn p).turnSide i)) q 0x24
      have shared := marked_replying s p i (fun x => { x with away := false }) ((s.turn p).turnSide i) q 0x24
      have kept := lasting_of_settlesTo
        (settlesTo_marked s p i (fun x => { x with away := false }) ((s.turn p).turnSide i)) i
      rw [slots_modSlot, if_pos rfl] at kept
      simp only [Slot.lasting, Prod.mk.injEq] at kept
      obtain ⟨bowler, present, -, finished, -⟩ := kept
      rw [back]
      have slot : ((s.marked p i (fun x => { x with away := false }) ((s.turn p).turnSide i)).replying q 0x24 .ok []).slot p i =
          ((s.marked p i (fun x => { x with away := false }) ((s.turn p).turnSide i)).turn p).slots[i] := by
        rw [State.slot, turn_replying]
      rw [slot]
      exact ⟨answered, chip, pool, told, present, bowler, finished, fun sd j => (shared sd j).1, (shared .odd i).2.1,
        cleared, far, (shared .odd i).2.2, idle, fun here => absurd away (by rw [here]; nofun)⟩
    · have here : (s.slot p i).away = false := by simpa using away
      have back : (s.rosterTaken p).comeBack p i = s.rosterTaken p := by
        rw [State.comeBack, slot_of_turn (turn_rosterTaken ..), here]
        rfl
      obtain ⟨answered, chip, pool, told, cleared, far, idle⟩ := rosters_replying (rosters_rosterTaken s p) q 0x24
      have turn : ((s.rosterTaken p).replying q 0x24 .ok []).turn p = s.turn p := by
        rw [turn_replying, turn_rosterTaken]
      rw [back]
      have slot : ((s.rosterTaken p).replying q 0x24 .ok []).slot p i = s.slot p i := slot_of_turn turn i
      rw [slot]
      refine ⟨answered, chip, pool, told, here, rfl, rfl, fun sd j => by rw [turn], ?_, cleared, far, fun w _ => ?_, idle,
        fun _ => ⟨turn, fun l => ?_, (directory_replying ..).trans (directory_rosterTaken ..)⟩⟩
      · exact sameRecords_of_directory ((directory_replying ..).trans (directory_rosterTaken ..))
      · rw [pair_replying, pair_rosterTaken]
      · have same := sameLaneButSnapshot_rosterTaken s p l
        unfold State.sameLaneButSnapshot at *
        rwa [lane_replying]

end Sys2Proof.Machine
end

section
/-! PROOFS. ADD BOWLER (R67, R132, R134). -/

namespace Sys2Proof.Machine

variable {s t : State} {p : Fin 8} {i j : Fin 12} {q : Port} {number : Nat}

/-! ## The lookup of a number (R132) -/

/-- The average source and the fetch state that the lookup of a number gives its slot. -/
def Directory.lookedUp (d : Directory) (number : Nat) (x : Slot) : Slot :=
  match d.find number with
  | some _ => { x with source := .entry, fetch := .none }
  | none =>
    if (d.cover number).isSome then { x with source := .range, fetch := .none }
    else { x with source := .pending, fetch := if d.fetch.length < 16 then .requested else .deferred }

theorem missFetch_turn (s : State) (p : Fin 8) (i : Fin 12) (number : Nat) :
    (s.missFetch p i number).turn p =
      (s.turn p).modSlot i fun x =>
        { x with source := .pending, fetch := if s.directory.fetch.length < 16 then .requested else .deferred } := by
  unfold State.missFetch
  split
  · exact turn_updSlot (s.joinFetch number) p i _
  · exact turn_updSlot ..

theorem turn_lookup (s : State) (p : Fin 8) (i : Fin 12) (number : Nat) :
    (s.lookup p i number).turn p = (s.turn p).modSlot i (s.directory.lookedUp number) := by
  unfold State.lookup
  cases found : s.directory.find number with
  | some k =>
    have looked : s.directory.lookedUp number = fun x => { x with source := .entry, fetch := .none } := by
      funext x
      rw [Directory.lookedUp, found]
    rw [looked]
    exact turn_updSlot (s.modDirectory _) p i _
  | none =>
    dsimp only
    split
    next covered =>
      have looked : s.directory.lookedUp number = fun x => { x with source := .range, fetch := .none } := by
        funext x
        rw [Directory.lookedUp, found]
        exact if_pos covered
      rw [looked]
      exact turn_updSlot ..
    next missed =>
      have looked : s.directory.lookedUp number = fun x =>
          { x with source := .pending, fetch := if s.directory.fetch.length < 16 then .requested else .deferred } := by
        funext x
        rw [Directory.lookedUp, found]
        exact if_neg missed
      rw [looked]
      exact missFetch_turn ..

/-- What the lookup writes in the Directory. -/
theorem directory_lookup (s : State) (p : Fin 8) (i : Fin 12) (number : Nat) :
    (∀ k, s.directory.find number = some k →
      (s.lookup p i number).directory = s.directory.modEntry k fun e => { e with used := true, locked := true }) ∧
    (s.directory.find number = none → s.directory.cover number ≠ none → (s.lookup p i number).directory = s.directory) ∧
    (s.directory.find number = none → s.directory.cover number = none → s.directory.fetch.length < 16 →
      (s.lookup p i number).directory = { s.directory with fetch := s.directory.fetch ++ [number] }) ∧
    (s.directory.find number = none → s.directory.cover number = none → 16 ≤ s.directory.fetch.length →
      (s.lookup p i number).directory = s.directory) := by
  unfold State.lookup State.missFetch
  refine ⟨fun k found => ?_, fun lost covered => ?_, fun lost missed room => ?_, fun lost missed full => ?_⟩
  · rw [found]
    exact directory_updSlot ..
  · rw [lost]
    dsimp only
    rw [if_pos (Option.isSome_iff_ne_none.mpr covered), directory_updSlot]
  · rw [lost, missed]
    dsimp only
    rw [if_neg nofun, if_pos room]
    exact directory_updSlot ..
  · rw [lost, missed]
    dsimp only
    rw [if_neg nofun, if_neg (Nat.not_lt.mpr full), directory_updSlot]

theorem flagged_lookup {n : Nat} (h : s.flagged q n) (p : Fin 8) (i : Fin 12) (number : Nat) :
    (s.lookup p i number).flagged q n := by
  unfold State.lookup
  split
  next k _ => exact flagged_updSlot (s := s.modDirectory _) h p i _
  · split
    · exact flagged_updSlot h p i _
    · exact flagged_missFetch h p i _

theorem rosters_lookup (h : s.rosters t p) (i : Fin 12) (number : Nat) : s.rosters (t.lookup p i number) p where
  line q := (line_lookup ..).trans (h.line q)
  pool := (pool_lookup ..).trans h.pool
  told := flagged_lookup h.told p i number
  cleared l here := by rw [lane_lookup, h.cleared l here]
  far l far := by rw [lane_lookup, h.far l far]
  slows := slows_trans h.slows (slows_of_session (chip_lookup ..) (ret_lookup ..) fun l => session_lookup ..)

/-! ## The turn that joins the tail -/

theorem startSide_first (mode : PairMode) (i : Fin 12) : startSide mode i (nextGame none) = homeSide i := by
  cases mode <;> rfl

/-- The slot as ADD BOWLER fills it, before the head rules. -/
def Directory.added (d : Directory) (number : Nat) : Slot := { d.lookedUp number (Slot.filled number) with state := .queued }

/-- The state of ADD BOWLER before the head rules. -/
def State.joined (s : State) (p : Fin 8) (i : Fin 12) (number : Nat) : State :=
  (((s.rosterTaken p).updSlot p i fun _ => Slot.filled number).lookup p i number).updTurn p fun v =>
    v.moveTurn i (some (homeSide i)) .queued

section
variable (s p i number)

theorem addBowler_eq : (s.rosterTaken p).addBowler p i number = (s.joined p i number).headRules (laneAt p (homeSide i)) := by
  rw [State.addBowler, startSide_first]
  rfl

theorem rosters_joined : s.rosters (s.joined p i number) p :=
  rosters_updTurn (rosters_lookup (rosters_updSlot (rosters_rosterTaken s p) p i _) i number) p _

theorem turn_joined :
    (s.joined p i number).turn p =
      ((s.turn p).modSlot i fun _ => s.directory.lookedUp number (Slot.filled number)).moveTurn i (some (homeSide i))
        .queued := by
  have directory : ((s.rosterTaken p).updSlot p i fun _ => Slot.filled number).directory = s.directory := by simp
  rw [State.joined, turn_updTurn_same, turn_lookup, directory, turn_updSlot, turn_rosterTaken, modSlot_modSlot]

theorem slot_joined (j : Fin 12) :
    ((s.joined p i number).turn p).slots[j] = if j = i then s.directory.added number else s.slot p j := by
  rw [turn_joined, slots_moveTurn, slots_modSlot]
  split
  · rfl
  · rfl

theorem queue_joined (sd : Side) :
    ((s.joined p i number).turn p).queue sd =
      ((s.turn p).queue sd).filter (· != i) ++ if homeSide i = sd then [i] else [] := by
  rw [turn_joined, queue_moveTurn, queue_modSlot]
  simp only [Option.some.injEq]

theorem pairOther_joined {w : Fin 8} (other : w ≠ p) : (s.joined p i number).pair w = s.pair w := by
  rw [State.joined, pairOther_updTurn _ _ _ _ other, pairOther_lookup _ _ _ _ _ other, State.updSlot,
    pairOther_updTurn _ _ _ _ other, pair_rosterTaken]

theorem sameLaneButSnapshot_joined (k : Fin 16) : s.sameLaneButSnapshot (s.joined p i number) k := by
  have same := sameLaneButSnapshot_rosterTaken s p k
  unfold State.sameLaneButSnapshot at *
  rwa [State.joined, lane_updTurn, lane_lookup, lane_updSlot]

theorem directory_joined :
    (s.joined p i number).directory =
      (((s.rosterTaken p).updSlot p i fun _ => Slot.filled number).lookup p i number).directory := directory_updTurn ..

end

theorem lasting_added (d : Directory) (number : Nat) : (d.added number).lasting = (some number, false, false, 0, []) := by
  unfold Directory.added Directory.lookedUp
  split
  · rfl
  · split <;> rfl

theorem exec_addBowler (able : s.canServe q) (notMechanic : q ≠ .mc) (owns : ownsPair q p) (low : 1 ≤ number)
    (high : number ≤ 65534) (empty : (s.slot p i).state = .empty) (new : s.findSlot number = none) :
    exec (.addBowler q (pairNo p) (slotNo i) number) s =
      .next (((s.rosterTaken p).addBowler p i number).replying q 0x21 .ok []) := by
  have fits : inBowlers number = true := by simp [inBowlers, low, high]
  have taken := exec_ok (i := .addBowler q (pairNo p) (slotNo i) number) (s := s) rfl able.1 rfl (by
    rw [inSlots_slotNo, fits, Bool.and_self, rosterChecks_pass able notMechanic owns, pairIx_pairNo, slotIx_slotNo, empty, new]
    rfl)
  rwa [pairIx_pairNo, slotIx_slotNo] at taken

/-- What a queue that is frozen shows of the slot and of the Directory (R132, R134). -/
theorem joined_directory (s : State) (p : Fin 8) (i : Fin 12) (number : Nat) :
    (∀ k, s.directory.find number = some k →
      (s.joined p i number).slot p i =
        { Slot.empty with bowler := some number, state := .queued, source := .entry } ∧
      (s.joined p i number).directory.entries[k].locked = true ∧ (s.joined p i number).directory.entries[k].used = true ∧
      (s.joined p i number).directory.fetch = s.directory.fetch) ∧
    (s.directory.find number = none → s.directory.cover number ≠ none →
      (s.joined p i number).slot p i = { Slot.empty with bowler := some number, state := .queued, source := .range } ∧
      (s.joined p i number).directory = s.directory) ∧
    (s.directory.find number = none → s.directory.cover number = none → s.directory.fetch.length < 16 →
      (s.joined p i number).slot p i =
        { Slot.empty with bowler := some number, state := .queued, source := .pending, fetch := .requested } ∧
      (s.joined p i number).directory = { s.directory with fetch := s.directory.fetch ++ [number] }) ∧
    (s.directory.find number = none → s.directory.cover number = none → 16 ≤ s.directory.fetch.length →
      (s.joined p i number).slot p i =
        { Slot.empty with bowler := some number, state := .queued, source := .pending, fetch := .deferred } ∧
      (s.joined p i number).directory = s.directory) := by
  have slot : (s.joined p i number).slot p i = s.directory.added number := (slot_joined s p i number i).trans (if_pos rfl)
  have before : ((s.rosterTaken p).updSlot p i fun _ => Slot.filled number).directory = s.directory := by simp
  obtain ⟨entry, range, requested, deferred⟩ :=
    directory_lookup ((s.rosterTaken p).updSlot p i fun _ => Slot.filled number) p i number
  rw [before] at entry range requested deferred
  rw [slot, directory_joined, Directory.added, Directory.lookedUp]
  refine ⟨fun k found => ?_, fun lost covered => ?_, fun lost missed room => ?_, fun lost missed full => ?_⟩
  · rw [entry k found, found]
    simp [Directory.modEntry, Slot.filled, Slot.empty]
  · rw [range lost covered, lost]
    dsimp only
    rw [if_pos (Option.isSome_iff_ne_none.mpr covered)]
    exact ⟨rfl, rfl⟩
  · rw [requested lost missed room, lost, missed]
    dsimp only
    rw [if_neg nofun, if_pos room]
    exact ⟨rfl, rfl⟩
  · rw [deferred lost missed full, lost, missed]
    dsimp only
    rw [if_neg nofun, if_neg (Nat.not_lt.mpr full)]
    exact ⟨rfl, rfl⟩

/-- Settles O39, by the slot as it joins its home queue, and by the head rules of that queue. -/
theorem addBowlerFillsASlot : Obligations.AddBowlerFillsASlot := by
  unfold Obligations.AddBowlerFillsASlot
  intro p i number q s able notMechanic owns empty low high new
  refine ⟨_, exec_addBowler able notMechanic owns low high empty new, ?_⟩
  rw [addBowler_eq]
  have here : pairOf (laneAt p (homeSide i)) = p := pairOf_laneAt ..
  have joined := rosters_joined s p i number
  have head := headed_headRules (s.joined p i number) (laneAt p (homeSide i))
  have frozen : s.running (laneAt p (homeSide i)) = false →
      (s.joined p i number).headRules (laneAt p (homeSide i)) = s.joined p i number := fun stopped => by
    have session : (s.joined p i number).running (laneAt p (homeSide i)) = false := by
      rw [State.running, State.session, State.joined, lane_updTurn, lane_lookup, lane_updSlot, record_rosterTaken]
      exact stopped
    rw [State.headRules, session]
    rfl
  have runs : (s.joined p i number).running (laneAt p (homeSide i)) = s.running (laneAt p (homeSide i)) := by
    rw [State.running, State.session, State.joined, lane_updTurn, lane_lookup, lane_updSlot, record_rosterTaken]
    rfl
  obtain ⟨answered, chip, pool, told, cleared, far, idle⟩ := rosters_replying (rosters_headRules joined here) q 0x21
  rw [here, sideOf_laneAt, runs] at head
  have settles : ((s.joined p i number).turn p).settlesTo
      (((s.joined p i number).headRules (laneAt p (homeSide i))).turn p) := settlesTo_headed (settlesTo_refl _) head rfl
  have lasting := lasting_of_settlesTo settles i
  rw [slot_joined, if_pos rfl, lasting_added] at lasting
  simp only [Slot.lasting, Prod.mk.injEq] at lasting
  obtain ⟨bowler, away, inFlight, finished, retained⟩ := lasting
  have slot (j : Fin 12) (o : Port) (code : Byte) (out : ReplyOutcome) (results : List Byte) :
      (((s.joined p i number).headRules (laneAt p (homeSide i))).replying o code out results).slot p j =
        (((s.joined p i number).headRules (laneAt p (homeSide i))).turn p).slots[j] := by
    rw [State.slot, turn_replying]
  rw [slot, turn_replying]
  refine ⟨answered, chip, pool, told, bowler, away, finished, retained, inFlight, ?_, ?_, ?_, cleared, fun l other => ?_, far,
    fun w other => ?_, idle, fun stopped => ⟨fun l => ?_, ?_, fun j other => ?_, ?_⟩⟩
  · rw [mem_queue_settlesTo settles, queue_joined, if_pos rfl]
    simp
  · have apart : homeSide i ≠ (homeSide i).other := by cases homeSide i <;> nofun
    rw [mem_queue_settlesTo settles, queue_joined, if_neg apart]
    simp
  · rcases head.slots i with same | ⟨running, -, -, rises⟩
    · rw [same, slot_joined, if_pos rfl]
      exact .inl rfl
    · exact .inr ⟨running, rises.1⟩
  · have same := sameLaneButSnapshot_joined s p i number l
    unfold State.sameLaneButSnapshot at *
    rwa [lane_replying, laneOther_headRules _ _ _ other]
  · have apart : w ≠ p := by simpa using other
    rw [pair_replying, pairOther_headRules _ _ _ (by rwa [here]), pairOther_joined s p i number apart]
  · have same := sameLaneButSnapshot_joined s p i number l
    unfold State.sameLaneButSnapshot at *
    rwa [lane_replying, frozen stopped]
  · rw [frozen stopped, queue_joined, if_pos rfl]
  · rw [slot, frozen stopped, slot_joined, if_neg other]
  · rw [directory_replying, frozen stopped]
    exact joined_directory s p i number

end Sys2Proof.Machine
end

section
/-! PROOFS. REMOVE BOWLER (R68, R133, R134): a slot whose deferred number takes the room in the fetch queue may start its
game in the same request, and its number is then deferred again. -/

namespace Sys2Proof.Machine

/-- The slot that is removed: its number waits in the fetch queue. -/
def Slot.fetched : Slot := { Slot.empty with bowler := some 1, state := .queued, source := .pending, fetch := .requested }

/-- The slot behind it: its number is deferred, though its average is that of a range entry that no longer covers it. -/
def Slot.strayed : Slot := { Slot.empty with bowler := some 2, state := .queued, source := .range, fetch := .deferred }

/-- Lane 1 is OPEN, with the two slots in its queue, a game charge that is paid, and a full fetch queue. -/
def State.fullFetch : State :=
  ((({ State.reset with loading := false }.modLane 0 fun a =>
    { a with session := { a.session with state := .opened } }).modPair 0 fun a =>
      { a with
        turn :=
          { a.turn with
            queueOdd := [0, 1], paidOdd := true
            slots := (a.turn.slots.set 0 Slot.fetched).set 1 Slot.strayed } }).modDirectory fun d =>
    { d with fetch := (List.range 16).map (· + 1) })

/-- The fetch state of slot 2 of pair 1 in the state that a step leads to. -/
def fetchOfNext : Result → Option FetchState
  | .next t => some (t.slot 0 1).fetch
  | _ => none

/-- The number of slot 2 takes the room, its game starts, and the fetch queue is full: the number is deferred. -/
theorem fetchOfNext_removeBowler :
    fetchOfNext (exec (.removeBowler .dk (pairNo 0) (slotNo 0)) State.fullFetch) = some .deferred := by
  decide +kernel

theorem canServe_fullFetch : State.fullFetch.canServe .dk := ⟨⟨⟨rfl, rfl⟩, rfl, rfl⟩, rfl⟩

/-- The deferred slot is the one that takes the room. -/
theorem mem_taken_fullFetch :
    ((0, 1) : Fin 8 × Fin 12) ∈
      ((allPairs.flatMap fun o => allSlots.map fun j => (o, j)).filter fun a =>
        (State.fullFetch.slot a.1 a.2).fetch == .deferred).take
          (16 - (State.fullFetch.directory.fetch.filter (· != 1)).length) := by
  decide +kernel

/-- Refutes O40: REMOVE BOWLER says that a slot whose number takes the room is REQUESTED, and the head rules that the
request runs defer the number again. -/
theorem not_removeBowlerClearsTheSlot : ¬ Obligations.RemoveBowlerClearsTheSlot := by
  unfold Obligations.RemoveBowlerClearsTheSlot
  intro h
  obtain ⟨t, taken, -, -, -, -, -, -, -, -, -, -, -, -, -, -, -, -, leaves, -⟩ :=
    (h 0 0 .dk State.fullFetch canServe_fullFetch nofun nofun (by decide +kernel)).2 (by decide +kernel)
  obtain ⟨-, -, fetched⟩ := leaves 1 (by decide +kernel)
  have requested := ((fetched 0 1 (.inr (by decide))).1 mem_taken_fullFetch).1
  have deferred := fetchOfNext_removeBowler
  rw [taken, fetchOfNext, requested] at deferred
  cases deferred

end Sys2Proof.Machine
end

section
/-! PROOFS. SET PAIR MODE (R71). -/

namespace Sys2Proof.Machine

variable {s t : State} {v w : TurnUnit} {p : Fin 8} {i j : Fin 12} {q : Port} {mode : Nat} {sd : Side}

/-! ## A turn that goes home -/

/-- No slot stands in both queues. -/
def TurnUnit.apart (v : TurnUnit) : Prop := ∀ i, i ∈ v.queueOdd → i ∉ v.queueEven

/-- A slot stands in one of the queues. -/
def TurnUnit.stands (v : TurnUnit) (i : Fin 12) : Prop := i ∈ v.queueOdd ∨ i ∈ v.queueEven

theorem turnSide_none : v.turnSide i = none ↔ ¬ v.stands i := by
  unfold TurnUnit.turnSide TurnUnit.stands
  split
  next odd => simp [odd]
  next odd =>
    split
    next even => simp [even]
    next even => simp [odd, even]

/-- The side of a slot that stands in one queue only. -/
theorem turnSide_some (apart : v.apart) (here : v.turnSide i = some sd) : i ∈ v.queue sd ∧ i ∉ v.queue sd.other := by
  unfold TurnUnit.turnSide at here
  split at here
  next odd =>
    obtain rfl := Option.some.inj here
    exact ⟨odd, apart i odd⟩
  next odd =>
    split at here
    next even =>
      obtain rfl := Option.some.inj here
      exact ⟨even, odd⟩
    next => cases here

theorem stands_of_mem (there : i ∈ v.queue sd) : v.stands i := by
  cases sd with
  | odd => exact .inl there
  | even => exact .inr there

/-- Where a slot stands once its turn has gone home, and where the others do. -/
theorem mem_rehome (apart : v.apart) (i j : Fin 12) (sd : Side) :
    j ∈ (v.rehome i).queue sd ↔
      if j = i then v.stands i ∧ v.slots[i].gameSide v.mode i = sd else j ∈ v.queue sd := by
  unfold TurnUnit.rehome
  split
  next none =>
    have away := turnSide_none.mp none
    split
    next same =>
      subst same
      exact ⟨fun there => absurd (stands_of_mem there) away, fun both => absurd both.1 away⟩
    next => exact Iff.rfl
  next from_ here =>
    obtain ⟨stands, only⟩ := turnSide_some apart here
    dsimp only
    split
    next home =>
      split
      next same =>
        subst same
        rw [home]
        refine ⟨fun there => ⟨stands_of_mem stands, ?_⟩, fun both => both.2 ▸ stands⟩
        by_contra other
        have beside : sd = from_.other := by cases sd <;> cases from_ <;> simp_all [Side.other]
        exact only (beside ▸ there)
      next => exact Iff.rfl
    next moves =>
      rw [queue_moveTurn, List.mem_append, List.mem_filter]
      simp only [Option.some.injEq]
      by_cases same : j = i
      · subst same
        simp [stands_of_mem stands]
      · simp [same]

/-- A turn that goes home changes no mode and no setting, and of a slot its state alone. -/
theorem rehome_keeps (v : TurnUnit) (i : Fin 12) :
    (v.rehome i).mode = v.mode ∧ (v.rehome i).settings = v.settings ∧
      ∀ j : Fin 12, ∃ state, (v.rehome i).slots[j] = { v.slots[j] with state := state } := by
  unfold TurnUnit.rehome
  split
  · exact ⟨rfl, rfl, fun j => ⟨_, rfl⟩⟩
  · dsimp only
    split
    · exact ⟨rfl, rfl, fun j => ⟨_, rfl⟩⟩
    · refine ⟨(mode_moveTurn ..).1, (mode_moveTurn ..).2, fun j => ?_⟩
      rw [slots_moveTurn]
      split
      · exact ⟨_, rfl⟩
      · exact ⟨_, rfl⟩

theorem stands_iff : v.stands i ↔ ∃ sd, i ∈ v.queue sd :=
  ⟨fun h => h.elim (fun odd => ⟨.odd, odd⟩) fun even => ⟨.even, even⟩, fun ⟨_, there⟩ => stands_of_mem there⟩

theorem apart_rehome (apart : v.apart) (i : Fin 12) : (v.rehome i).apart := by
  intro j odd even
  have odd := (mem_rehome apart i j .odd).mp odd
  have even := (mem_rehome apart i j .even).mp even
  split at odd
  next same =>
    rw [if_pos same] at even
    exact nomatch odd.2.symm.trans even.2
  next other =>
    rw [if_neg other] at even
    exact apart j odd even

theorem stands_rehome (apart : v.apart) (i j : Fin 12) : (v.rehome i).stands j ↔ v.stands j := by
  rw [stands_iff, stands_iff]
  simp only [mem_rehome apart]
  by_cases same : j = i
  · subst same
    simp [stands_iff]
  · simp [same]

theorem gameSide_state (x : Slot) (state : SlotState) (mode : PairMode) (i : Fin 12) :
    ({ x with state := state } : Slot).gameSide mode i = x.gameSide mode i := by
  unfold Slot.gameSide
  cases x.stage <;> rfl

/-- Every turn of a list gone home. -/
structure TurnUnit.rehomed (v w : TurnUnit) (list : List (Fin 12)) : Prop where
  mode : w.mode = v.mode
  settings : w.settings = v.settings
  slots : ∀ j : Fin 12, ∃ state, w.slots[j] = { v.slots[j] with state := state }
  queue : ∀ j sd, j ∈ w.queue sd ↔ if j ∈ list then v.stands j ∧ v.slots[j].gameSide v.mode j = sd else j ∈ v.queue sd

theorem rehomed_foldl (list : List (Fin 12)) {v : TurnUnit} (apart : v.apart) :
    v.rehomed (list.foldl TurnUnit.rehome v) list := by
  induction list generalizing v with
  | nil => exact ⟨rfl, rfl, fun j => ⟨_, rfl⟩, fun j sd => by simp⟩
  | cons i list ih =>
    obtain ⟨mode, settings, slots⟩ := rehome_keeps v i
    have rest := ih (apart_rehome apart i)
    refine ⟨rest.mode.trans mode, rest.settings.trans settings, fun j => ?_, fun j sd => ?_⟩
    · obtain ⟨first, moved⟩ := slots j
      obtain ⟨state, settled⟩ := rest.slots j
      exact ⟨state, by rw [List.foldl_cons, settled, moved]⟩
    · obtain ⟨state, moved⟩ := slots j
      rw [List.foldl_cons, rest.queue, stands_rehome apart, mode, moved, gameSide_state, mem_rehome apart]
      by_cases later : j ∈ list
      · simp [later]
      · by_cases same : j = i
        · subst same
          simp [later]
        · simp [later, same]

/-! ## The mode taken -/

/-- The Turn Unit of a pair that has taken a mode, before the head rules. -/
def TurnUnit.inMode (v : TurnUnit) (mode : PairMode) : TurnUnit := allSlots.foldl TurnUnit.rehome { v with mode := mode }

section
variable (s p) (m : PairMode)

theorem setMode_eq : (s.rosterTaken p).setMode p m =
    ((((s.rosterTaken p).updTurn p fun v => v.inMode m).headRules (laneAt p .odd)).headRules (laneAt p .even)) := rfl

theorem rosters_setMode : s.rosters ((s.rosterTaken p).setMode p m) p := by
  rw [setMode_eq]
  exact rosters_headRules (rosters_headRules (rosters_updTurn (rosters_rosterTaken s p) p _) (pairOf_laneAt ..))
    (pairOf_laneAt ..)

theorem records_setMode : ((s.rosterTaken p).setMode p m).records = s.records := by
  rw [setMode_eq, records_headRules, records_headRules, records_updTurn, records_of_directory (directory_rosterTaken ..)]

theorem pairOther_setMode {w : Fin 8} (other : w ≠ p) : ((s.rosterTaken p).setMode p m).pair w = s.pair w := by
  rw [setMode_eq, pairOther_headRules _ _ _ (by rwa [pairOf_laneAt]), pairOther_headRules _ _ _ (by rwa [pairOf_laneAt]),
    pairOther_updTurn _ _ _ _ other, pair_rosterTaken]

/-- The head rules of both lanes settle the turns. -/
theorem settlesTo_headRulesBoth (t : State) :
    (t.turn p).settlesTo (((t.headRules (laneAt p .odd)).headRules (laneAt p .even)).turn p) := by
  have odd := headed_headRules t (laneAt p .odd)
  rw [pairOf_laneAt, sideOf_laneAt] at odd
  have first := settlesTo_headed (settlesTo_refl _) odd rfl
  have even := headed_headRules (t.headRules (laneAt p .odd)) (laneAt p .even)
  rw [pairOf_laneAt, sideOf_laneAt] at even
  exact settlesTo_headed first even odd.other

theorem settlesTo_setMode : ((s.turn p).inMode m).settlesTo (((s.rosterTaken p).setMode p m).turn p) := by
  have settles := settlesTo_headRulesBoth p ((s.rosterTaken p).updTurn p fun v => v.inMode m)
  rw [turn_updTurn_same, turn_rosterTaken] at settles
  rw [setMode_eq]
  exact settles

end

theorem gameSide_eq (x : Slot) (m : PairMode) (i : Fin 12) :
    x.gameSide m i = startSide m i (if x.stage = .waiting then nextGame x.game else x.game.getD 1) := by
  unfold Slot.gameSide
  cases x.stage <;> rfl

theorem holdsMode_any : (v.slots.toList.any Slot.holdsMode = true) ↔
    ∃ i : Fin 12, v.slots[i].stage = .inProgress ∨ v.slots[i].inFlight = true := by
  have holds (x : Slot) : x.holdsMode = true ↔ x.stage = .inProgress ∨ x.inFlight = true := by simp [Slot.holdsMode]
  rw [List.any_eq_true]
  constructor
  · rintro ⟨x, there, blocks⟩
    obtain ⟨n, bound, rfl⟩ := List.mem_iff_getElem.mp there
    have bound : n < 12 := by simpa using bound
    exact ⟨⟨n, bound⟩, (holds _).mp blocks⟩
  · rintro ⟨i, blocks⟩
    exact ⟨v.slots[i], Vector.mem_toList_iff.mpr (Vector.getElem_mem _), (holds _).mpr blocks⟩

theorem exec_setPairMode_refused (able : s.canServe q) (notMechanic : q ≠ .mc) (owns : ownsPair q p) (modes : mode ≤ 1)
    (blocked : (s.turn p).slots.toList.any Slot.holdsMode = true) :
    exec (.setPairMode q (pairNo p) mode) s = .next (s.replying q 0x25 .state []) :=
  exec_refused (i := .setPairMode q (pairNo p) mode) rfl able.1 rfl (by
    rw [decide_eq_true modes, rosterChecks_pass able notMechanic owns, pairIx_pairNo, blocked]; rfl) nofun

theorem exec_setPairMode (able : s.canServe q) (notMechanic : q ≠ .mc) (owns : ownsPair q p) (modes : mode ≤ 1)
    (free : (s.turn p).slots.toList.any Slot.holdsMode = false) :
    exec (.setPairMode q (pairNo p) mode) s =
      .next (((s.rosterTaken p).setMode p (pairModeOf mode)).replying q 0x25 .ok []) := by
  have taken := exec_ok (i := .setPairMode q (pairNo p) mode) (s := s) rfl able.1 rfl (by
    rw [decide_eq_true modes, rosterChecks_pass able notMechanic owns, pairIx_pairNo, free]; rfl)
  rwa [pairIx_pairNo] at taken

/-- Settles O42, by the turns that go home one by one, and by the head rules of both lanes. -/
theorem pairModeMovesTurns : Obligations.PairModeMovesTurns := by
  unfold Obligations.PairModeMovesTurns
  intro p mode q s able notMechanic owns modes
  refine ⟨fun blocked => exec_setPairMode_refused able notMechanic owns modes (holdsMode_any.mpr blocked),
    fun free apart => ?_⟩
  have unblocked : (s.turn p).slots.toList.any Slot.holdsMode = false := by
    rw [← Bool.not_eq_true, holdsMode_any]
    rintro ⟨i, progress | flies⟩
    · exact (free i).1 progress
    · exact nomatch (free i).2.symm.trans flies
  refine ⟨_, exec_setPairMode able notMechanic owns modes unblocked, ?_⟩
  obtain ⟨answered, chip, pool, told, cleared, far, idle⟩ :=
    rosters_replying (rosters_setMode s p (pairModeOf mode)) q 0x25
  have settles := settlesTo_setMode s p (pairModeOf mode)
  have homed : ({ s.turn p with mode := pairModeOf mode } : TurnUnit).rehomed ((s.turn p).inMode (pairModeOf mode)) allSlots :=
    rehomed_foldl allSlots apart
  refine ⟨answered, chip, pool, told, ?_, ?_, fun i sd => ?_, fun i => ?_, cleared, far, fun w other => ?_, idle, ?_⟩
  · rw [turn_replying, settles.mode, homed.mode]
    rfl
  · rw [turn_replying, settles.settings, homed.settings]
  · have all : i ∈ allSlots := List.mem_finRange i
    rw [turn_replying, mem_queue_settlesTo settles, homed.queue, if_pos all, gameSide_eq]
    exact Iff.rfl
  · obtain ⟨state, moved⟩ := homed.slots i
    have kept := lasting_of_settlesTo settles i
    rw [moved] at kept
    simp only [Slot.lasting, Prod.mk.injEq] at kept
    obtain ⟨bowler, away, -, finished, retained⟩ := kept
    have slot : (((s.rosterTaken p).setMode p (pairModeOf mode)).replying q 0x25 .ok []).slot p i =
        (((s.rosterTaken p).setMode p (pairModeOf mode)).turn p).slots[i] := by rw [State.slot, turn_replying]
    rw [slot]
    exact ⟨bowler, away, finished, retained⟩
  · rw [pair_replying, pairOther_setMode s p _ (by simpa using other)]
  · exact sameRecords_iff.mpr ((records_of_directory (directory_replying ..)).trans (records_setMode ..))

end Sys2Proof.Machine
end

section
/-! SUPPORT. A new series limit acts on the slots of a pair one by one (R83, R80): what it does to a slot in its turn, and
what the head rules that follow do to the others. -/

namespace Sys2Proof.Machine

variable {s t u : State} {v w : TurnUnit} {p : Fin 8} {i j : Fin 12} {l : Fin 16} {sd : Side}

/-! ## What stays of the rest of the section -/

/-- Between `s` and `t` the turns of pair `p`, its lanes and its idle timer alone may have moved, and its console is
told. -/
structure State.paired (s t : State) (p : Fin 8) : Prop where
  line : ∀ q, (t.port q).line = (s.port q).line
  pool : t.pool = s.pool
  told : t.flagged (.console p) 2
  far : ∀ l, pairOf l ≠ p → t.lane l = s.lane l
  pairs : ∀ w, w ≠ p → t.pair w = s.pair w
  slows : s.slows t p

theorem paired_updTurn (h : s.paired t p) (f : TurnUnit → TurnUnit) : s.paired (t.updTurn p f) p where
  line q := (line_updTurn ..).trans (h.line q)
  pool := (pool_updTurn ..).trans h.pool
  told := flagged_updTurn h.told p f
  far l far := by rw [lane_updTurn, h.far l far]
  pairs w other := by rw [pairOther_updTurn _ _ _ _ other, h.pairs w other]
  slows := slows_trans h.slows (slows_updTurn ..)

theorem flagged_dropSnapshots {q : Port} {n : Nat} (h : s.flagged q n) (p : Fin 8) : (s.dropSnapshots p).flagged q n := h

theorem paired_dropSnapshots (h : s.paired t p) : s.paired (t.dropSnapshots p) p where
  line q := (line_dropSnapshots ..).trans (h.line q)
  pool := (pool_dropSnapshots ..).trans h.pool
  told := flagged_dropSnapshots h.told p
  far l far := by rw [lane_dropSnapshots, if_neg far, h.far l far]
  pairs w other := by rw [pair_dropSnapshots, h.pairs w other]
  slows := slows_trans h.slows (slows_of_session (chip_dropSnapshots ..) (ret_dropSnapshots ..) fun l => session_dropSnapshots ..)

theorem paired_headRulesAt (h : s.paired t p) (sd : Option Side) : s.paired (t.headRulesAt p sd) p := by
  cases sd with
  | none => exact h
  | some sd =>
    have here : pairOf (laneAt p sd) = p := pairOf_laneAt ..
    exact
      { line := fun q => (line_headRules ..).trans (h.line q)
        pool := (pool_headRules ..).trans h.pool
        told := flagged_headRules h.told _
        far := fun l far => (laneOther_headRules _ _ _ fun e => far (by rw [e, here])).trans (h.far l far)
        pairs := fun w other => (pairOther_headRules _ _ _ (by rwa [here])).trans (h.pairs w other)
        slows := slows_trans h.slows (slows_headRules t here) }

/-! ## One slot among head rules -/

/-- Slot `j` of `w` stands where that of `v` stands, and is the same, or has risen on a side that runs. -/
def TurnUnit.ruledAt (v w : TurnUnit) (j : Fin 12) (runs : Side → Bool) : Prop :=
  (∀ sd, j ∈ w.queue sd ↔ j ∈ v.queue sd) ∧
    (w.slots[j] = v.slots[j] ∨ ∃ sd, runs sd = true ∧ j ∈ v.queue sd ∧ v.slots[j].risesTo w.slots[j])

/-- The sides of a pair whose lanes run. -/
def State.runs (s : State) (p : Fin 8) (sd : Side) : Bool := s.running (laneAt p sd)

theorem ruledAt_headRulesAt (t : State) (p : Fin 8) (sd : Option Side) (j : Fin 12) :
    (t.turn p).ruledAt ((t.headRulesAt p sd).turn p) j (t.runs p) := by
  refine ⟨fun q => mem_queue_settlesTo (settlesTo_headRulesAt t p sd) q j, ?_⟩
  cases sd with
  | none => exact .inl rfl
  | some sd =>
    have head := headed_headRules t (laneAt p sd)
    rw [pairOf_laneAt, sideOf_laneAt] at head
    rcases head.slots j with same | ⟨runs, -, queued, rises⟩
    · exact .inl same
    · exact .inr ⟨sd, runs, queued, rises⟩

/-- A slot that stands in no queue does not rise. -/
theorem slot_of_ruledAt {runs : Side → Bool} (h : v.ruledAt w j runs) (out : ∀ sd, j ∉ v.queue sd) :
    w.slots[j] = v.slots[j] := by
  rcases h.2 with same | ⟨sd, -, queued, -⟩
  · exact same
  · exact absurd queued (out sd)

/-! ## A slot before and after its turn in the list -/

/-- The series limit of `v` stops slot `j`. -/
def TurnUnit.stops (v : TurnUnit) (j : Fin 12) : Prop := limitReached v.settings.games v.slots[j].finished = true

/-- The new limit has acted on slot `j`: `v` is the Turn Unit before it acted on any, `w` as it stands. -/
structure TurnUnit.limited (v w : TurnUnit) (j : Fin 12) (runs : Side → Bool) : Prop where
  lasting : w.slots[j].lasting = v.slots[j].lasting
  underWay : v.slots[j].stage ≠ .waiting → v.slots[j].state ≠ .done →
    w.slots[j].state ≠ .done ∧ w.slots[j].stage = v.slots[j].stage
  leaves : v.slots[j].state = .done → (w.slots[j].state = .done ↔ v.stops j)
  enters : v.slots[j].state ≠ .done → w.slots[j].state = .done → v.stops j
  waits : v.stops j → v.slots[j].state ≠ .empty → v.slots[j].stage = .waiting →
    w.slots[j].state = .done ∨
      w.slots[j].state = .up ∧ w.slots[j].stage = .started ∧ ∃ sd, runs sd = true ∧ j ∈ v.queue sd
  out : w.slots[j].state = .done → ∀ sd, j ∉ w.queue sd

variable {runs : Side → Bool} {x : TurnUnit}

/-- Head rules that follow do not undo it. -/
theorem limited_ruledAt (h : v.limited w j runs) {late : Side → Bool} (g : w.ruledAt x j late) : v.limited x j runs := by
  rcases g.2 with same | ⟨sd, -, queued, up, kept, how⟩
  · exact
      { lasting := by rw [same, h.lasting]
        underWay := by rw [same]; exact h.underWay
        leaves := by rw [same]; exact h.leaves
        enters := by rw [same]; exact h.enters
        waits := by rw [same]; exact h.waits
        out := fun done sd => by
          rw [same] at done
          rw [g.1]
          exact h.out done sd }
  · have playing : w.slots[j].state ≠ .done := fun done => h.out done sd queued
    have stays : x.slots[j].state ≠ .done := by rw [up]; nofun
    refine ⟨kept.trans h.lasting, fun stage state => ⟨stays, ?_⟩, fun done => ?_, fun _ done => absurd done stays,
      fun stopped stands waiting => .inr ?_, fun done => absurd done stays⟩
    · have same := (h.underWay stage state).2
      rcases how with ⟨-, rises⟩ | ⟨waits, -⟩
      · rw [rises]
        exact same
      · exact absurd (same.symm.trans waits) stage
    · exact ⟨fun d => absurd d stays, fun stopped => absurd ((h.leaves done).mpr stopped) playing⟩
    · obtain ⟨-, started, cause⟩ := (h.waits stopped stands waiting).resolve_left playing
      refine ⟨up, ?_, cause⟩
      rcases how with ⟨-, rises⟩ | ⟨waits, -⟩
      · rw [rises]
        exact started
      · exact nomatch started.symm.trans waits

theorem ruledAt_trans {late : Side → Bool} (h : v.ruledAt w j runs) (g : w.ruledAt x j late)
    (mono : ∀ sd, late sd = true → runs sd = true) : v.ruledAt x j runs := by
  refine ⟨fun sd => (g.1 sd).trans (h.1 sd), ?_⟩
  rcases g.2 with same | ⟨sd, running, queued, rises⟩
  · rw [same]
    exact h.2
  · have queued := (h.1 sd).mp queued
    rcases h.2 with same | ⟨-, -, -, rose⟩
    · rw [same] at rises
      exact .inr ⟨sd, mono sd running, queued, rises⟩
    · exact .inr ⟨sd, mono sd running, queued, risesTo_trans rose rises⟩

/-! ## The limit acts on a slot -/

/-- A slot that the limit leaves: DONE where it is stopped, or EMPTY, or not stopped, or with its game begun. -/
theorem limited_stays (h : v.ruledAt w j runs) (free : v.slots[j].state = .done → ∀ sd, j ∉ v.queue sd)
    (done : w.slots[j].state = .done → v.stops j)
    (waits : w.slots[j].state ≠ .done → w.slots[j].state ≠ .empty → w.slots[j].stage = .waiting → ¬ v.stops j) :
    v.limited w j runs := by
  rcases h.2 with same | ⟨sd, running, queued, up, kept, how⟩
  · refine ⟨by rw [same], fun _ state => ⟨by rwa [same], by rw [same]⟩, fun was => ?_, fun was now => ?_,
      fun stopped stands waiting => .inl ?_, fun now sd => ?_⟩
    · exact ⟨done, fun _ => by rw [same, was]⟩
    · rw [same] at now
      exact absurd now was
    · rw [same] at waits ⊢
      by_contra playing
      exact waits playing stands waiting stopped
    · rw [same] at now
      rw [h.1]
      exact free now sd
  · have stays : w.slots[j].state ≠ .done := by rw [up]; nofun
    have stands : w.slots[j].state ≠ .empty := by rw [up]; nofun
    refine ⟨kept, fun stage _ => ⟨stays, ?_⟩, fun was => absurd queued (free was sd), fun _ now => absurd now stays,
      fun stopped _ waiting => .inr ⟨up, ?_, sd, running, queued⟩, fun now => absurd now stays⟩
    · rcases how with ⟨-, rises⟩ | ⟨waiting, -⟩
      · rw [rises]
      · exact absurd waiting stage
    · rcases how with ⟨begun, -⟩ | ⟨-, started⟩
      · exact absurd waiting begun
      · exact started

/-- A slot that the limit no longer stops leaves DONE. -/
theorem limited_leaves (same : w.slots[j] = v.slots[j]) (was : v.slots[j].state = .done) (free : ¬ v.stops j) (dest : Side) :
    v.limited (w.moveTurn j (some dest) .queued) j runs := by
  have slot : (w.moveTurn j (some dest) .queued).slots[j] = { v.slots[j] with state := .queued } := by
    rw [slots_moveTurn, if_pos rfl, same]
  refine ⟨by rw [slot]; rfl, fun _ state => absurd was state, fun _ => ?_, fun state => absurd was state,
    fun stopped => absurd stopped free, fun now => ?_⟩
  · rw [slot]
    exact ⟨nofun, fun stopped => absurd stopped free⟩
  · rw [slot] at now
    cases now

/-- A slot that the limit stops enters DONE. -/
theorem limited_enters (same : w.slots[j] = v.slots[j]) (was : v.slots[j].state ≠ .done)
    (waiting : v.slots[j].stage = .waiting) (stopped : v.stops j) : v.limited (w.moveTurn j none .done) j runs := by
  have slot : (w.moveTurn j none .done).slots[j] = { v.slots[j] with state := .done } := by
    rw [slots_moveTurn, if_pos rfl, same]
  refine ⟨by rw [slot]; rfl, fun stage => absurd waiting stage, fun now => absurd now was, fun _ _ => stopped,
    fun _ _ _ => .inl (by rw [slot]), fun _ sd => ?_⟩
  rw [queue_moveTurn]
  simp

/-- The others do not move with a slot's turn. -/
theorem ruledAt_moveTurn (v : TurnUnit) {i j : Fin 12} (other : j ≠ i) (dest : Option Side) (st : SlotState)
    (runs : Side → Bool) : v.ruledAt (v.moveTurn i dest st) j runs := by
  refine ⟨fun sd => ?_, .inl ?_⟩
  · rw [queue_moveTurn, List.mem_append, List.mem_filter]
    split <;> simp [other]
  · rw [slots_moveTurn, if_neg other]

end Sys2Proof.Machine
end

section
/-! PROOFS. SET PAIR SETTINGS (R83, R80): the limit acts on the slots of the pair in their order. -/

namespace Sys2Proof.Machine

variable {s t : State} {v : TurnUnit} {p : Fin 8} {i j : Fin 12} {q : Port} {games base percent cap : Option Nat}

/-! ## One step -/

/-- The state in which a slot has gone to a side or to none, and the head rules have followed on a side or on none. -/
def State.limitMoved (s : State) (p : Fin 8) (i : Fin 12) (dest : Option Side) (st : SlotState) (sd : Option Side) : State :=
  ((s.dropSnapshots p).updTurn p fun v => v.moveTurn i dest st).headRulesAt p sd

theorem limitSlot_cases (s : State) (p : Fin 8) (i : Fin 12) :
    (s.limitSlot p i = s ∧ ((s.slot p i).state = .done → (s.turn p).stops i) ∧
        ((s.slot p i).state ≠ .done → (s.slot p i).state ≠ .empty → (s.slot p i).stage = .waiting → ¬ (s.turn p).stops i)) ∨
      ((s.slot p i).state = .done ∧ ¬ (s.turn p).stops i ∧
        ∃ sd, s.limitSlot p i = s.limitMoved p i (some sd) .queued (some sd)) ∨
      ((s.slot p i).state ≠ .done ∧ (s.slot p i).stage = .waiting ∧ (s.turn p).stops i ∧
        ∃ sd, s.limitSlot p i = s.limitMoved p i none .done sd) := by
  have stops : (s.turn p).stops i ↔ limitReached (s.turn p).settings.games (s.turn p).slots[i].finished = true := Iff.rfl
  rw [State.limitSlot, State.slot, stops]
  split
  next done =>
    split
    next reached => exact .inl ⟨rfl, fun _ => reached, fun playing => absurd done playing⟩
    next free => exact .inr (.inl ⟨done, free, _, rfl⟩)
  next empty =>
    have unfinished : (s.turn p).slots[i].state ≠ .done := by rw [empty]; nofun
    exact .inl ⟨rfl, fun done => absurd done unfinished, fun _ stands => absurd empty stands⟩
  next done empty =>
    split
    next both => exact .inr (.inr ⟨done, both.2, both.1, _, rfl⟩)
    next stays => exact .inl ⟨rfl, fun d => absurd d done, fun _ _ waiting stopped => stays ⟨stopped, waiting⟩⟩

/-! ## The rest of the list -/

/-- The limit of `v` has acted on the slots outside `todo`; those of `todo` have only been under head rules. -/
structure State.limits (s t : State) (p : Fin 8) (v : TurnUnit) (todo : List (Fin 12)) : Prop where
  paired : s.paired t p
  settings : (t.turn p).settings = v.settings
  acted : ∀ j, j ∉ todo → v.limited (t.turn p) j (s.runs p)
  waits : ∀ j, j ∈ todo → v.ruledAt (t.turn p) j (s.runs p)

theorem runs_of_paired (h : s.paired t p) (sd : Side) (runs : t.runs p sd = true) : s.runs p sd = true :=
  h.slows.stops _ (pairOf_laneAt ..) runs

theorem finished_of_lasting {x y : Slot} (same : x.lasting = y.lasting) : x.finished = y.finished :=
  congrArg (fun z => z.2.2.2.1) same

theorem stops_congr {w : TurnUnit} (settings : w.settings = v.settings) (same : w.slots[j].lasting = v.slots[j].lasting) :
    w.stops j ↔ v.stops j := by
  rw [TurnUnit.stops, TurnUnit.stops, settings, finished_of_lasting same]

theorem lasting_of_ruledAt {w : TurnUnit} {runs : Side → Bool} (h : v.ruledAt w j runs) :
    w.slots[j].lasting = v.slots[j].lasting := by
  rcases h.2 with same | ⟨-, -, -, -, kept, -⟩
  · rw [same]
  · exact kept

/-- A slot that waits has not risen under head rules. -/
theorem slot_of_ruledAt_waiting {w : TurnUnit} {runs : Side → Bool} (h : v.ruledAt w j runs)
    (waiting : w.slots[j].stage = .waiting) : w.slots[j] = v.slots[j] := by
  rcases h.2 with same | ⟨-, -, -, -, -, ⟨begun, rises⟩ | ⟨-, started⟩⟩
  · exact same
  · rw [rises] at waiting
    exact absurd waiting begun
  · exact nomatch waiting.symm.trans started

theorem slot_of_ruledAt_done {w : TurnUnit} {runs : Side → Bool} (h : v.ruledAt w j runs)
    (done : w.slots[j].state = .done) : w.slots[j] = v.slots[j] := by
  rcases h.2 with same | ⟨-, -, -, up, -⟩
  · exact same
  · exact nomatch done.symm.trans up

/-- A slot's move, with the head rules that follow, keeps what the limit has done to the others. -/
theorem limits_limitMoved {todo : List (Fin 12)} (h : s.limits t p v (i :: todo)) (fresh : i ∉ todo) (dest : Option Side)
    (st : SlotState) (sd : Option Side) (own : v.limited ((t.turn p).moveTurn i dest st) i (s.runs p)) :
    s.limits (t.limitMoved p i dest st sd) p v todo := by
  have dropped : (t.dropSnapshots p).turn p = t.turn p := by rw [State.turn, pair_dropSnapshots]; rfl
  have before : s.paired ((t.dropSnapshots p).updTurn p fun w => w.moveTurn i dest st) p :=
    paired_updTurn (paired_dropSnapshots h.paired) _
  have moved : ((t.dropSnapshots p).updTurn p fun w => w.moveTurn i dest st).turn p = (t.turn p).moveTurn i dest st := by
    rw [turn_updTurn_same, dropped]
  have settled := settlesTo_headRulesAt ((t.dropSnapshots p).updTurn p fun w => w.moveTurn i dest st) p sd
  have ruled := ruledAt_headRulesAt ((t.dropSnapshots p).updTurn p fun w => w.moveTurn i dest st) p sd
  rw [moved] at settled
  simp only [moved] at ruled
  refine ⟨paired_headRulesAt before sd, ?_, fun j acted => ?_, fun j waits => ?_⟩
  · rw [← h.settings, ← (mode_moveTurn (t.turn p) i dest st).2]
    exact settled.settings
  · by_cases same : j = i
    · subst same
      exact limited_ruledAt own (ruled j)
    · have was := h.acted j (by simp [same, acted])
      exact limited_ruledAt (limited_ruledAt was (ruledAt_moveTurn _ same dest st (s.runs p))) (ruled j)
  · have other : j ≠ i := fun same => fresh (same ▸ waits)
    have was := h.waits j (List.mem_cons_of_mem _ waits)
    exact ruledAt_trans (ruledAt_trans was (ruledAt_moveTurn _ other dest st (s.runs p)) fun _ => id) (ruled j)
      fun sd => runs_of_paired before sd

theorem limits_limitSlot {todo : List (Fin 12)} (h : s.limits t p v (i :: todo)) (fresh : i ∉ todo)
    (free : v.slots[i].state = .done → ∀ sd, i ∉ v.queue sd) : s.limits (t.limitSlot p i) p v todo := by
  have ruled := h.waits i List.mem_cons_self
  have stops := stops_congr h.settings (lasting_of_ruledAt ruled)
  rcases limitSlot_cases t p i with ⟨stays, done, waits⟩ | ⟨done, goes, sd, moved⟩ | ⟨playing, waiting, stopped, sd, moved⟩
  · rw [stays]
    refine ⟨h.paired, h.settings, fun j acted => ?_, fun j waits => h.waits j (List.mem_cons_of_mem _ waits)⟩
    by_cases same : j = i
    · subst same
      exact limited_stays ruled free (fun d => stops.mp (done d)) fun a b c stopped => waits a b c (stops.mpr stopped)
    · exact h.acted j (by simp [same, acted])
  · have same := slot_of_ruledAt_done ruled done
    rw [moved]
    exact limits_limitMoved h fresh _ _ _ (limited_leaves same (same ▸ done) (fun d => goes (stops.mpr d)) sd)
  · have same := slot_of_ruledAt_waiting ruled waiting
    rw [moved]
    exact limits_limitMoved h fresh _ _ _
      (limited_enters same (fun d => playing ((congrArg Slot.state same).trans d)) (same ▸ waiting) (stops.mp stopped))

theorem limits_foldl {todo : List (Fin 12)} (nodup : todo.Nodup) (h : s.limits t p v todo)
    (free : ∀ i : Fin 12, v.slots[i].state = .done → ∀ sd, i ∉ v.queue sd) :
    s.limits (todo.foldl (fun s i => s.limitSlot p i) t) p v [] := by
  induction todo generalizing t with
  | nil => exact h
  | cons i todo ih =>
    obtain ⟨fresh, nodup⟩ := List.nodup_cons.mp nodup
    exact ih nodup (limits_limitSlot h fresh (free i))

/-! ## The settings -/

theorem lanes_ext (h : ∀ l, t.lane l = s.lane l) : t.lanes = s.lanes := Vector.ext fun l bound => h ⟨l, bound⟩

section
variable (s p games base percent cap)

/-- The state in which a pair's settings are written and its console is told. -/
def State.settingsWritten : State :=
  (s.updTurn p fun v => { v with settings := v.settings.write games base percent cap }).flagConsole p .turnChanged

/-- The Turn Unit of a pair with its settings written. -/
def TurnUnit.settingsWritten (v : TurnUnit) : TurnUnit := { v with settings := v.settings.write games base percent cap }

theorem writePairSettings_eq : s.writePairSettings p games base percent cap =
    if games.isSome then allSlots.foldl (fun s i => s.limitSlot p i) (s.settingsWritten p games base percent cap)
    else s.settingsWritten p games base percent cap := rfl

theorem turn_settingsWritten : (s.settingsWritten p games base percent cap).turn p =
    TurnUnit.settingsWritten games base percent cap (s.turn p) := by
  rw [State.settingsWritten, turn_flagConsole, turn_updTurn_same]
  rfl

theorem lane_settingsWritten (l : Fin 16) : (s.settingsWritten p games base percent cap).lane l = s.lane l :=
  (lane_flagConsole ..).trans (lane_updTurn ..)

theorem paired_settingsWritten : s.paired (s.settingsWritten p games base percent cap) p where
  line w := (line_flagConsole ..).trans (line_updTurn ..)
  pool := (pool_flagConsole ..).trans (pool_updTurn ..)
  told := flagged_setEvent_same _ (.console p) 2
  far l _ := lane_settingsWritten ..
  pairs w other := by rw [State.settingsWritten, pair_flagConsole, pairOther_updTurn _ _ _ _ other]
  slows := slows_of_session ((chip_flagConsole ..).trans (chip_updTurn ..)) (by rw [State.settingsWritten, ret_flagConsole, ret_updTurn])
    fun l => by rw [State.session, lane_settingsWritten, State.session]

/-- A series limit that is given acts on every slot. -/
theorem limits_writePairSettings (given : games.isSome = true)
    (free : ∀ i, (s.slot p i).state = .done → ∀ sd, i ∉ (s.turn p).queue sd) :
    s.limits (s.writePairSettings p games base percent cap) p (TurnUnit.settingsWritten games base percent cap (s.turn p)) [] := by
  rw [writePairSettings_eq, if_pos given]
  have ready : s.limits (s.settingsWritten p games base percent cap) p
      (TurnUnit.settingsWritten games base percent cap (s.turn p)) allSlots :=
    ⟨paired_settingsWritten .., by rw [turn_settingsWritten], fun j out => absurd (List.mem_finRange j) out, fun j _ => by
      rw [turn_settingsWritten]
      exact ⟨fun _ => Iff.rfl, .inl rfl⟩⟩
  exact limits_foldl (List.nodup_finRange 12) ready free

theorem paired_writePairSettings (free : ∀ i, (s.slot p i).state = .done → ∀ sd, i ∉ (s.turn p).queue sd) :
    s.paired (s.writePairSettings p games base percent cap) p := by
  by_cases given : games.isSome = true
  · exact (limits_writePairSettings s p games base percent cap given free).paired
  · rw [writePairSettings_eq, if_neg given]
    exact paired_settingsWritten ..

end

theorem settings_writePairSettings (free : ∀ i, (s.slot p i).state = .done → ∀ sd, i ∉ (s.turn p).queue sd) :
    ((s.writePairSettings p games base percent cap).turn p).settings =
      (s.turn p).settings.write games base percent cap := by
  by_cases given : games.isSome = true
  · exact (limits_writePairSettings s p games base percent cap given free).settings
  · rw [writePairSettings_eq, if_neg given, turn_settingsWritten]
    rfl

/-- The limit given, or none: what is true of every slot. -/
theorem slot_writePairSettings (free : ∀ i, (s.slot p i).state = .done → ∀ sd, i ∉ (s.turn p).queue sd) (i : Fin 12) :
    ((s.writePairSettings p games base percent cap).slot p i).lasting = (s.slot p i).lasting ∧
      ((s.slot p i).stage ≠ .waiting → (s.slot p i).state ≠ .done →
        ((s.writePairSettings p games base percent cap).slot p i).state ≠ .done ∧
          ((s.writePairSettings p games base percent cap).slot p i).stage = (s.slot p i).stage) := by
  by_cases given : games.isSome = true
  · have acted := (limits_writePairSettings s p games base percent cap given free).acted i List.not_mem_nil
    exact ⟨acted.lasting, acted.underWay⟩
  · have same : (s.writePairSettings p games base percent cap).slot p i = s.slot p i := by
      rw [writePairSettings_eq, if_neg given, State.slot, turn_settingsWritten]
      rfl
    rw [same]
    exact ⟨rfl, fun _ state => ⟨state, rfl⟩⟩

theorem limitReached_iff {n finished : Nat} : limitReached n finished = true ↔ n ≠ 0 ∧ n ≤ finished := by
  simp [limitReached]

theorem stops_settingsWritten (n : Nat) (i : Fin 12) :
    (TurnUnit.settingsWritten (some n) base percent cap (s.turn p)).stops i ↔ n ≠ 0 ∧ n ≤ (s.slot p i).finished :=
  limitReached_iff

/-! ## The request -/

theorem optOut_within {x : Option Nat} {top : Nat} (fits : ∀ n, x = some n → n ≤ top) : optOut (· ≤ top) x = false :=
  optOut_eq_false.mpr fun n there => decide_eq_true (fits n there)

theorem exec_setPairSettings (able : s.canServe q) (notMechanic : q ≠ .mc) (owns : ownsPair q p)
    (console : q.isConsole = true → base = none ∧ percent = none ∧ cap = none) (fewGames : ∀ n, games = some n → n ≤ 9)
    (lowBase : ∀ n, base = some n → n ≤ 300) (lowPercent : ∀ n, percent = some n → n ≤ 100)
    (lowCap : ∀ n, cap = some n → n ≤ 300) :
    exec (.setPairSettings q (pairNo p) games base percent cap) s =
      .next ((s.writePairSettings p games base percent cap).replying q 0x26 .ok []) := by
  have allowed : handicapFromConsole q base percent cap = false := by
    unfold handicapFromConsole
    by_cases isConsole : q.isConsole = true
    · obtain ⟨rfl, rfl, rfl⟩ := console isConsole
      simp
    · simp [isConsole]
  have served := exec_ok (i := .setPairSettings q (pairNo p) games base percent cap) (s := s) rfl able.1 rfl (by
    rw [beq_eq_false_iff_ne.mpr notMechanic, outsidePair_of_owns owns, allowed, inPairs_pairNo, optOut_within fewGames,
      optOut_within lowBase, optOut_within lowPercent, optOut_within lowCap, able.2]
    rfl)
  rwa [pairIx_pairNo] at served

/-- Settles O43, by what the new limit has done to the slots of the list before each of its steps. -/
theorem pairSettingsActOnSlots : Obligations.PairSettingsActOnSlots := by
  unfold Obligations.PairSettingsActOnSlots
  intro p games base percent cap q s able notMechanic owns console fewGames lowBase lowPercent lowCap apart
  have free : ∀ i, (s.slot p i).state = .done → ∀ sd, i ∉ (s.turn p).queue sd := fun i done sd => by
    cases sd with
    | odd => exact (apart i done).1
    | even => exact (apart i done).2
  have frames := paired_writePairSettings s p games base percent cap free
  have each := slot_writePairSettings (games := games) (base := base) (percent := percent) (cap := cap) free
  have slot (i : Fin 12) : ((s.writePairSettings p games base percent cap).replying q 0x26 .ok []).slot p i =
      (s.writePairSettings p games base percent cap).slot p i := by rw [State.slot, turn_replying]; rfl
  have given (n : Nat) (some : games = some n) := limits_writePairSettings s p games base percent cap (by rw [some]; rfl) free
  refine ⟨_, exec_setPairSettings able notMechanic owns console fewGames lowBase lowPercent lowCap,
    answers_replying frames.line _ _ _ _, (chip_replying ..).trans frames.slows.chip, (pool_replying ..).trans frames.pool,
    flagged_replying frames.told _ _ _ _, ?_, fun i => ?_, fun i => ?_, fun i n limit done => ?_,
    fun i n limit playing done => ?_, fun i n limit some reached stands waiting => ?_, fun limit => ?_, fun l far => ?_,
    fun w other => ?_, sameReturnButIdle_replying frames.slows _ _ _ _⟩
  · rw [turn_replying, settings_writePairSettings free]
    rfl
  · rw [slot]
    exact ⟨finished_of_lasting (each i).1, congrArg Prod.fst (each i).1⟩
  · rw [slot]
    exact (each i).2
  · have acted := (given n limit).acted i List.not_mem_nil
    subst limit
    rw [slot, ← stops_settingsWritten (base := base) (percent := percent) (cap := cap)]
    exact acted.leaves done
  · have acted := (given n limit).acted i List.not_mem_nil
    subst limit
    rw [slot] at done
    rw [← stops_settingsWritten (base := base) (percent := percent) (cap := cap)]
    exact acted.enters playing done
  · have acted := (given n limit).acted i List.not_mem_nil
    subst limit
    rw [slot, turn_replying]
    rcases acted.waits ((stops_settingsWritten n i).mpr ⟨some, reached⟩) stands waiting with
      done | ⟨up, started, sd, running, queued⟩
    · exact .inl ⟨done, acted.out done .odd, acted.out done .even⟩
    · refine .inr ⟨up, started, laneAt p sd, pairOf_laneAt .., running, ?_⟩
      rw [sideOf_laneAt]
      exact queued
  · subst limit
    have unlimited : s.writePairSettings p none base percent cap = s.settingsWritten p none base percent cap := rfl
    rw [unlimited, turn_replying, turn_settingsWritten]
    refine ⟨lanes_ext fun l => (lane_replying ..).trans (lane_settingsWritten ..), ?_, ?_, rfl⟩
    · rw [directory_replying, State.settingsWritten, directory_flagConsole, directory_updTurn]
    · rw [ret_replying, State.settingsWritten, ret_flagConsole, ret_updTurn]
  · rw [lane_replying, frames.far l far]
  · rw [pair_replying, frames.pairs w (by simpa using other)]

end Sys2Proof.Machine
end

section
/-! SUPPORT. A slot whose game starts (R75, R104, R105, R133), and the head that a lane's head rules find (R72, R73). -/

namespace Sys2Proof.Machine

variable {s t u : State} {l : Fin 16} {i j : Fin 12} {d : Directory} {st : PairSettings} {x : Slot} {number : Nat}

/-! ## The slot of a game that starts -/

/-- No enabled range entry covers the number of a RANGE slot: its average is to be renewed. -/
def Directory.uncovered (d : Directory) (x : Slot) (number : Nat) : Prop :=
  x.source = .range ∧ x.bowler = some number ∧ d.cover number = none

theorem misses_iff : d.misses x = true ↔ ∃ number, d.uncovered x number := by
  unfold Directory.misses Directory.uncovered
  rw [Bool.and_eq_true, beq_iff_eq, Option.any_eq_true]
  simp only [Option.isNone_iff_eq_none]
  exact ⟨fun ⟨range, number, bowler, missing⟩ => ⟨number, range, bowler, missing⟩,
    fun ⟨number, range, bowler, missing⟩ => ⟨range, number, bowler, missing⟩⟩

/-- What of a slot a game start may write. -/
theorem launched_eq (d : Directory) (st : PairSettings) (x : Slot) :
    Slot.launched d st { x with state := .up } =
      { x with
        state := .up, game := some (nextGame x.game), stage := .started, frame := 1, ball := 1
        sheet := some (Sheet.new (nextGame x.game))
        handicap := (Slot.launched d st { x with state := .up }).handicap
        source := (Slot.launched d st { x with state := .up }).source
        fetch := (Slot.launched d st { x with state := .up }).fetch } := by
  unfold Slot.launched Slot.renewed
  split <;> rfl

theorem launched_uncovered (h : d.uncovered x number) (st : PairSettings) :
    (Slot.launched d st { x with state := .up }).source = .pending ∧
      (Slot.launched d st { x with state := .up }).handicap = .pending ∧
      (Slot.launched d st { x with state := .up }).fetch = if d.fetch.length < 16 then .requested else .deferred := by
  have misses : d.misses (Slot.begun { x with state := .up }) = true := misses_iff.mpr ⟨number, h⟩
  have renewed : Slot.renewed d (Slot.begun { x with state := .up }) =
      { Slot.begun { x with state := .up } with
        source := .pending, fetch := if d.fetch.length < 16 then .requested else .deferred } := if_pos misses
  rw [Slot.launched, renewed]
  exact ⟨rfl, rfl, rfl⟩

theorem renewedFor_uncovered (h : d.uncovered x number) :
    d.renewedFor (Slot.begun { x with state := .up }) =
      if d.fetch.length < 16 then { d with fetch := d.fetch ++ [number] } else d := by
  have misses : d.misses (Slot.begun { x with state := .up }) = true := misses_iff.mpr ⟨number, h⟩
  have bowler : (Slot.begun { x with state := .up }).bowler.getD 0 = number := congrArg (·.getD 0) h.2.1
  rw [Directory.renewedFor, bowler]
  simp only [misses, true_and]

/-- The average of a slot that is not renewed. -/
theorem launched_covered (h : ∀ number, ¬ d.uncovered x number) (st : PairSettings) :
    Slot.launched d st { x with state := .up } =
        { Slot.begun { x with state := .up } with handicap := x.handicapBy d st } ∧
      d.renewedFor (Slot.begun { x with state := .up }) = d := by
  have covered : ¬ d.misses (Slot.begun { x with state := .up }) = true := fun misses =>
    (misses_iff.mp misses).elim fun number missing => h number missing
  have renewed : Slot.renewed d (Slot.begun { x with state := .up }) = Slot.begun { x with state := .up } := if_neg covered
  rw [Slot.launched, renewed, Directory.renewedFor, if_neg fun both => covered both.1]
  exact ⟨rfl, rfl⟩

/-- The handicap of a slot that is not renewed is that of its source. -/
theorem handicap_launched_covered (h : ∀ number, ¬ d.uncovered x number) {given : Handicap} (sourced : x.handicapBy d st = given) :
    (Slot.launched d st { x with state := .up }).handicap = given := by
  rw [(launched_covered h st).1]
  exact sourced

theorem covered_of_source (other : x.source ≠ .range) (number : Nat) : ¬ d.uncovered x number := fun h => other h.1

theorem handicap_launched_none (source : x.source = .none) :
    (Slot.launched d st { x with state := .up }).handicap = .value 0 :=
  handicap_launched_covered (covered_of_source (by rw [source]; nofun)) (by rw [Slot.handicapBy, source])

theorem handicap_launched_pending (source : x.source = .pending) :
    (Slot.launched d st { x with state := .up }).handicap = .pending :=
  handicap_launched_covered (covered_of_source (by rw [source]; nofun)) (by rw [Slot.handicapBy, source])

theorem handicap_launched_entry (source : x.source = .entry) (bowler : x.bowler = some number) {k : Fin 112}
    (found : d.find number = some k) :
    (Slot.launched d st { x with state := .up }).handicap =
      .value (entryHandicap d.entries[k].average d.entries[k].override st) :=
  handicap_launched_covered (covered_of_source (by rw [source]; nofun)) (by
    rw [Slot.handicapBy, source, bowler]
    dsimp only [Option.getD_some]
    rw [found])

theorem handicap_launched_range (source : x.source = .range) (bowler : x.bowler = some number) {k : Fin 8}
    (covers : d.cover number = some k) :
    (Slot.launched d st { x with state := .up }).handicap = .value (computedHandicap d.ranges[k].average st) := by
  refine handicap_launched_covered (fun n missing => ?_) (by
    rw [Slot.handicapBy, source, bowler]
    dsimp only [Option.getD_some]
    rw [covers])
  obtain ⟨-, bowler', uncovers⟩ := missing
  obtain rfl := Option.some.inj (bowler.symm.trans bowler')
  exact nomatch covers.symm.trans uncovers

/-! ## The head that is found -/

/-- A lane's queue written in another order. -/
def State.ordered (s : State) (l : Fin 16) (q : List (Fin 12)) : State :=
  s.updTurn (pairOf l) fun v => v.setQueue (sideOf l) q

theorem turn_ordered (s : State) (l : Fin 16) (q : List (Fin 12)) :
    (s.ordered l q).turn (pairOf l) = (s.turn (pairOf l)).setQueue (sideOf l) q := turn_updTurn_same ..

theorem lane_ordered (s : State) (l k : Fin 16) (q : List (Fin 12)) : (s.ordered l q).lane k = s.lane k := lane_updTurn ..

theorem directory_ordered (s : State) (l : Fin 16) (q : List (Fin 12)) : (s.ordered l q).directory = s.directory :=
  directory_updTurn ..

theorem slot_ordered (s : State) (l : Fin 16) (q : List (Fin 12)) (j : Fin 12) :
    (s.ordered l q).slot (pairOf l) j = s.slot (pairOf l) j := by
  rw [State.slot, turn_ordered, slots_setQueue]
  rfl

theorem headRules_eq (runs : s.running l = true) (clear : s.upSlot l = none) :
    s.headRules l =
      (let q := passAway (fun i => (s.slot (pairOf l) i).away) ((s.turn (pairOf l)).queue (sideOf l))
       match q with
       | [] => s.ordered l q
       | i :: _ => if (s.slot (pairOf l) i).away then s.ordered l q else (s.ordered l q).raiseHead l i) := by
  have idle : ((s.turn (pairOf l)).upSlot (sideOf l)).isSome = false := Option.isSome_eq_false_iff.mpr (Option.isNone_iff_eq_none.mpr clear)
  simp only [State.headRules, runs, idle]
  rfl

theorem passAway_all {away : Fin 12 → Bool} {q : List (Fin 12)} (all : ∀ i ∈ q, away i = true) : passAway away q = q := by
  rw [passAway, List.dropWhile_eq_nil_iff.mpr all]
  rfl

theorem passAway_front {away : Fin 12 → Bool} {front rest : List (Fin 12)} (gone : ∀ j ∈ front, away j = true)
    (present : away i = false) : passAway away (front ++ i :: rest) = i :: rest ++ front := by
  have back : (front ++ i :: rest).dropWhile away = i :: rest := by
    rw [List.dropWhile_append_of_pos gone, List.dropWhile_cons_of_neg (by simp [present])]
  have taken : (front ++ i :: rest).takeWhile away = front := by
    rw [List.takeWhile_append_of_pos gone, List.takeWhile_cons_of_neg (by simp [present]), List.append_nil]
  rw [passAway, back, taken]
  rfl

/-- A queue of away slots is written as it was. -/
theorem headRules_stalled (runs : s.running l = true) (clear : s.upSlot l = none)
    (all : ∀ i ∈ (s.turn (pairOf l)).queue (sideOf l), (s.slot (pairOf l) i).away = true) :
    s.headRules l = s.ordered l ((s.turn (pairOf l)).queue (sideOf l)) := by
  rw [headRules_eq runs clear, passAway_all (away := fun i => (s.slot (pairOf l) i).away) all]
  dsimp only
  split
  next empty => rw [empty]
  next i rest queue => rw [if_pos (all i (by rw [queue]; exact List.mem_cons_self)), queue]

theorem headRules_head {front rest : List (Fin 12)} (runs : s.running l = true) (clear : s.upSlot l = none)
    (queue : (s.turn (pairOf l)).queue (sideOf l) = front ++ i :: rest)
    (gone : ∀ j ∈ front, (s.slot (pairOf l) j).away = true) (present : (s.slot (pairOf l) i).away = false) :
    s.headRules l = (s.ordered l (i :: rest ++ front)).raiseHead l i := by
  rw [headRules_eq runs clear, queue,
    passAway_front (away := fun i => (s.slot (pairOf l) i).away) gone present]
  dsimp only [List.cons_append]
  rw [present]
  rfl

theorem headRules_same (idle : s.running l = false ∨ s.upSlot l ≠ none) : s.headRules l = s := by
  simp only [State.headRules]
  by_cases runs : s.running l = true
  · have up : ((s.turn (pairOf l)).upSlot (sideOf l)).isSome = true :=
      Option.isSome_iff_ne_none.mpr (idle.resolve_left (by simp [runs]))
    simp [runs, up]
  · simp [runs]

end Sys2Proof.Machine
end

section
/-! PROOFS. The head rules settle the head (R72 to R75, R79, R159, R160). -/

namespace Sys2Proof.Machine

variable {s t u : State} {l : Fin 16} {i j : Fin 12} {d : Directory} {x : Slot} {m : Meter} {price : Nat}
  {q : List (Fin 12)}

/-! ## Starting lanes and numbers -/

theorem homeSide_eq (i : Fin 12) : homeSide i = if i.val < 6 then .odd else .even := rfl

theorem startSide_odd {mode : PairMode} (game : Nat) (odd : game % 2 = 1) (i : Fin 12) : startSide mode i game = homeSide i := by
  cases mode with
  | opened => rfl
  | alternate => exact if_pos odd

theorem startSide_even (game : Nat) (even : game % 2 = 0) (i : Fin 12) : startSide .alternate i game = (homeSide i).other :=
  if_neg (by omega)

theorem startSide_tables (i : Fin 12) (game : Nat) :
    (i.val < 6 → startSide .opened i game = .odd ∧ (game % 2 = 1 → startSide .alternate i game = .odd) ∧
      (game % 2 = 0 → startSide .alternate i game = .even)) ∧
    (6 ≤ i.val → startSide .opened i game = .even ∧ (game % 2 = 1 → startSide .alternate i game = .even) ∧
      (game % 2 = 0 → startSide .alternate i game = .odd)) := by
  constructor
  · intro low
    have home : homeSide i = .odd := if_pos low
    exact ⟨home, fun odd => (startSide_odd game odd i).trans home, fun even => by rw [startSide_even game even, home]; rfl⟩
  · intro high
    have home : homeSide i = .even := if_neg (Nat.not_lt.mpr high)
    exact ⟨home, fun odd => (startSide_odd game odd i).trans home, fun even => by rw [startSide_even game even, home]; rfl⟩

theorem nextGame_of_ne {game : Nat} (last : game ≠ 99) : nextGame (some game) = game + 1 := if_neg last

theorem limitReached_of_ne {game : Nat} (limited : game ≠ 0) (finished : Nat) :
    limitReached game finished = decide (game ≤ finished) := by
  simp [limitReached, limited]

/-! ## The charge -/

/-- A meter that has counted a game. -/
def Meter.counted (m : Meter) : Meter := { m with games := min (m.games + 1) 65535 }

/-- A meter that has counted a game and its charge. -/
def Meter.chargedFor (m : Meter) (price : Nat) : Meter :=
  { m.counted with
    charged := min (m.charged + price) 9999999, saturated := m.saturated || decide (9999999 < m.charged + price) }

/-- A meter that has granted a game. -/
def Meter.granted (m : Meter) (price : Nat) : Meter :=
  if m.kind = .time then m.counted
  else if m.mode = .tab then m.chargedFor price
  else { m.chargedFor price with balance := m.balance - price }

theorem chargedFor_eq (m : Meter) (price : Nat) :
    { m.addCharge price with games := bump16 (m.addCharge price).games } = m.chargedFor price := by
  by_cases beyond : 9999999 < m.charged + price
  · have top : min (m.charged + price) 9999999 = 9999999 := Nat.min_eq_right beyond.le
    rw [addCharge_beyond beyond, Meter.chargedFor, top, decide_eq_true beyond, Bool.or_true]
    rfl
  · have low : min (m.charged + price) 9999999 = m.charged + price := Nat.min_eq_left (Nat.not_lt.mp beyond)
    rw [addCharge_within (Nat.not_lt.mp beyond), Meter.chargedFor, low, decide_eq_false beyond, Bool.or_false]
    rfl

/-- A TIME session, a TAB session, or a balance that suffices grants the charge. -/
theorem askGame_granted (grants : m.kind = .time ∨ m.mode = .tab ∨ price ≤ m.balance) :
    m.askGame price = some (m.granted price) := by
  cases kind : m.kind with
  | time =>
    rw [askGame_time kind, Meter.granted, if_pos kind]
    rfl
  | games =>
    have counts : m.askGame price = (m.charge price).map fun m => { m with games := bump16 m.games } := by
      rw [Meter.askGame, kind]
    have untimed : ¬ m.kind = .time := by rw [kind]; nofun
    rw [counts, Meter.granted, if_neg untimed]
    cases mode : m.mode with
    | tab =>
      rw [if_pos rfl, Meter.charge, mode, ← chargedFor_eq]
      rfl
    | prepaid =>
      have afford : price ≤ m.balance :=
        (grants.resolve_left untimed).resolve_left (by rw [mode]; nofun)
      rw [if_neg nofun, charge_paid mode afford, Option.map_some, chargedFor_eq]
      rfl

theorem askGame_declined (kind : m.kind = .games) (mode : m.mode = .prepaid) (lacks : m.balance < price) :
    m.askGame price = none := by
  have counts : m.askGame price = (m.charge price).map fun m => { m with games := bump16 m.games } := by
    rw [Meter.askGame, kind]
  rw [counts, charge_unpaid mode lacks]
  rfl

/-! ## The head that rises -/

theorem practice_becomeUp (s : State) (l : Fin 16) (i : Fin 12) : ((s.becomeUp l i).lane l).sup.practice = 1 := by
  rw [State.becomeUp, State.resetPractice, State.modSup, lane_modLane, if_pos rfl]

theorem raiseHead_underWay (underWay : (u.slot (pairOf l) i).stage ≠ .waiting) : u.raiseHead l i = u.becomeUp l i := by
  unfold State.raiseHead
  split
  · rfl
  · rfl
  next waits => exact absurd waits underWay

theorem raiseHead_waiting (waits : (u.slot (pairOf l) i).stage = .waiting) :
    u.raiseHead l i =
      if u.session l = .opened then
        if (u.turn (pairOf l)).paid (sideOf l) then
          ((u.updTurn (pairOf l) fun t => t.setPaid (sideOf l) false).becomeUp l i).startGame l i
        else u.askGame l i
      else u := by
  rw [State.raiseHead, waits]

/-- What a game start on a lane finds before the slot becomes UP: the Turn Unit `v` with no paid start mark, and the
lane's meter as the charge has left it. -/
structure State.readies (s u : State) (l : Fin 16) (q : List (Fin 12)) (meter : Option Meter) : Prop where
  slots : (u.turn (pairOf l)).slots = (s.turn (pairOf l)).slots
  settings : (u.turn (pairOf l)).settings = (s.turn (pairOf l)).settings
  queue : (u.turn (pairOf l)).queue (sideOf l) = q
  unpaid : (u.turn (pairOf l)).paid (sideOf l) = false
  directory : u.directory = s.directory
  session : u.session l = s.session l
  snapshot : (u.lane l).snapshot = (s.lane l).snapshot
  meter : (u.lane l).meter = meter

/-- The slot of a game start. -/
theorem slot_launch (h : s.readies u l q meter) (j : Fin 12) :
    ((u.becomeUp l i).startGame l i).slot (pairOf l) j =
      if j = i then Slot.launched s.directory (s.turn (pairOf l)).settings { s.slot (pairOf l) j with state := .up }
      else s.slot (pairOf l) j := by
  rw [State.slot, turn_launch rfl h.directory, slots_modSlot, h.slots, h.settings]
  rfl

theorem directory_launch (h : s.readies u l q meter) :
    ((u.becomeUp l i).startGame l i).directory =
      s.directory.renewedFor (Slot.begun { s.slot (pairOf l) i with state := .up }) := by
  have up : (u.becomeUp l i).slot (pairOf l) i = { s.slot (pairOf l) i with state := .up } := by
    rw [State.slot, turn_becomeUp, slots_modSlot, if_pos rfl, h.slots]
    rfl
  rw [(startGame_parts ..).2, up, directory_becomeUp, h.directory]

theorem queue_launch (h : s.readies u l q meter) :
    (((u.becomeUp l i).startGame l i).turn (pairOf l)).queue (sideOf l) = q ∧
      (((u.becomeUp l i).startGame l i).turn (pairOf l)).paid (sideOf l) = false := by
  rw [turn_launch rfl rfl, queue_modSlot, h.queue]
  refine ⟨rfl, ?_⟩
  have kept (v : TurnUnit) (f : Slot → Slot) (sd : Side) : (v.modSlot i f).paid sd = v.paid sd := by cases sd <;> rfl
  rw [kept, h.unpaid]

theorem lane_launch (h : s.readies u l q meter) :
    (((u.becomeUp l i).startGame l i).lane l).sup.practice = 1 ∧
      ((u.becomeUp l i).startGame l i).session l = s.session l ∧
      (((u.becomeUp l i).startGame l i).lane l).snapshot =
        ((s.lane l).snapshot.map fun n => { n with gameStarted := true }) ∧
      (((u.becomeUp l i).startGame l i).lane l).meter = meter := by
  refine ⟨?_, ?_, ?_, ?_⟩
  · rw [sup_startGame, practice_becomeUp]
  · rw [session_startGame, session_becomeUp, h.session]
  · rw [snapshot_launch, h.snapshot]
    rfl
  · rw [meter_startGame, meter_becomeUp, h.meter]

theorem readies_ordered_paid (s : State) (l : Fin 16) (q : List (Fin 12)) :
    s.readies ((s.ordered l q).updTurn (pairOf l) fun v => v.setPaid (sideOf l) false) l q (s.lane l).meter where
  slots := by rw [turn_updTurn_same, turn_ordered, slots_setPaid, slots_setQueue]
  settings := by
    rw [turn_updTurn_same, turn_ordered]
    cases sideOf l <;> rfl
  queue := by
    rw [turn_updTurn_same, turn_ordered]
    cases sideOf l <;> rfl
  unpaid := by rw [turn_updTurn_same, paid_setPaid_same]
  directory := by rw [directory_updTurn, directory_ordered]
  session := by rw [State.session, lane_updTurn, lane_ordered]; rfl
  snapshot := by rw [lane_updTurn, lane_ordered]
  meter := by rw [lane_updTurn, lane_ordered]

theorem readies_ordered_granted (unpaid : (s.turn (pairOf l)).paid (sideOf l) = false) (there : (s.lane l).meter = some m)
    (new : Meter) (q : List (Fin 12)) : s.readies ((s.ordered l q).setMeter l new) l q (some new) where
  slots := by rw [turn_setMeter, turn_ordered, slots_setQueue]
  settings := by rw [turn_setMeter, turn_ordered, (mode_setQueue ..).2]
  queue := by rw [turn_setMeter, turn_ordered, queue_setQueue_same]
  unpaid := by rw [turn_setMeter, turn_ordered, paid_setQueue, unpaid]
  directory := by rw [directory_setMeter, directory_ordered]
  session := by rw [State.session, lane_setMeter, lane_ordered]; rfl
  snapshot := by rw [lane_setMeter, lane_ordered]
  meter := meter_setMeter (by rw [lane_ordered, there]) new

/-- The state from which the game of a head starts whose charge is granted or paid already. -/
theorem raiseHead_starts (waits : (s.slot (pairOf l) i).stage = .waiting) (isOpen : s.session l = .opened)
    (grants : (s.turn (pairOf l)).paid (sideOf l) = true ∨
      ∃ m, (s.lane l).meter = some m ∧ (m.kind = .time ∨ m.mode = .tab ∨ (s.priceOf l).game ≤ m.balance)) :
    ∃ u meter, (s.ordered l q).raiseHead l i = (u.becomeUp l i).startGame l i ∧ s.readies u l q meter ∧
      ((s.turn (pairOf l)).paid (sideOf l) = true → meter = (s.lane l).meter) ∧
      ∀ m, (s.turn (pairOf l)).paid (sideOf l) = false → (s.lane l).meter = some m →
        meter = some (m.granted (s.priceOf l).game) := by
  have isOpen' : (s.ordered l q).session l = .opened := by rwa [State.session, lane_ordered]
  have paid : ((s.ordered l q).turn (pairOf l)).paid (sideOf l) = (s.turn (pairOf l)).paid (sideOf l) := by
    rw [turn_ordered, paid_setQueue]
  rw [raiseHead_waiting (by rwa [slot_ordered]), if_pos isOpen', paid]
  cases marked : (s.turn (pairOf l)).paid (sideOf l) with
  | true => exact ⟨_, _, rfl, readies_ordered_paid s l q, fun _ => rfl, nofun⟩
  | false =>
    obtain ⟨m, there, grants⟩ := grants.resolve_left (by simp [marked])
    have price : (s.ordered l q).priceOf l = s.priceOf l :=
      priceOf_congr (chip_updTurn ..) (by rw [lane_ordered])
    have asked : (s.ordered l q).askGame l i =
        (((s.ordered l q).setMeter l (m.granted (s.priceOf l).game)).becomeUp l i).startGame l i := by
      rw [State.askGame, lane_ordered, there, price]
      dsimp only
      rw [askGame_granted grants]
    refine ⟨_, _, asked, readies_ordered_granted marked there _ q, nofun, fun n _ there' => ?_⟩
    obtain rfl := Option.some.inj (there.symm.trans there')
    rfl

/-- A head whose charge is declined. -/
theorem raiseHead_declined (waits : (s.slot (pairOf l) i).stage = .waiting) (isOpen : s.session l = .opened)
    (unpaid : (s.turn (pairOf l)).paid (sideOf l) = false) (there : (s.lane l).meter = some m) (kind : m.kind = .games)
    (mode : m.mode = .prepaid) (lacks : m.balance < (s.priceOf l).game) (back : s.billing.back ≠ 0) :
    (s.ordered l q).raiseHead l i = ((s.ordered l q).setMeter l (m.decline .game s.billing.back)).enterClosing l := by
  have isOpen' : (s.ordered l q).session l = .opened := by rwa [State.session, lane_ordered]
  have paid : ((s.ordered l q).turn (pairOf l)).paid (sideOf l) = false := by rw [turn_ordered, paid_setQueue, unpaid]
  have price : (s.ordered l q).priceOf l = s.priceOf l := priceOf_congr (chip_updTurn ..) (by rw [lane_ordered])
  have billing : (s.ordered l q).billing = s.billing := billing_of_chip (chip_updTurn ..)
  have meter : ((((s.ordered l q).setMeter l (m.decline .game s.billing.back)).enterClosing l).lane l).meter =
      some (m.decline .game s.billing.back) := by
    rw [lane_enterClosing]
    exact meter_setMeter (by rw [lane_ordered, there]) _
  rw [raiseHead_waiting (by rwa [slot_ordered]), if_pos isOpen', paid, if_neg nofun, State.askGame, lane_ordered, there, price]
  dsimp only
  rw [askGame_declined kind mode lacks, billing]
  exact zeroBackGrace_counting meter fun _ => back

/-! ## The obligation -/

/-- The head rules, where no game starts. -/
theorem headRules_standing {front rest : List (Fin 12)} (runs : s.running l = true) (clear : s.upSlot l = none)
    (queue : (s.turn (pairOf l)).queue (sideOf l) = front ++ i :: rest)
    (gone : ∀ j ∈ front, (s.slot (pairOf l) j).away = true) (present : (s.slot (pairOf l) i).away = false) :
    ((s.slot (pairOf l) i).stage ≠ .waiting →
      ((s.headRules l).turn (pairOf l)).queue (sideOf l) = i :: rest ++ front ∧
        (s.headRules l).slot (pairOf l) i = { s.slot (pairOf l) i with state := .up } ∧
        ((s.headRules l).lane l).sup.practice = 1 ∧ ((s.headRules l).lane l).meter = (s.lane l).meter ∧
        (s.headRules l).session l = s.session l) ∧
    ((s.slot (pairOf l) i).stage = .waiting → s.session l = .closing →
      ((s.headRules l).turn (pairOf l)).queue (sideOf l) = i :: rest ++ front ∧
        (s.headRules l).slot (pairOf l) i = s.slot (pairOf l) i ∧ (s.headRules l).lanes = s.lanes) := by
  rw [headRules_head runs clear queue gone present]
  refine ⟨fun underWay => ?_, fun waits closing => ?_⟩
  · have turn : ((s.ordered l (i :: rest ++ front)).becomeUp l i).turn (pairOf l) = _ := turn_becomeUp ..
    rw [raiseHead_underWay (by rwa [slot_ordered]), practice_becomeUp, meter_becomeUp, session_becomeUp, State.slot, turn,
      queue_modSlot, turn_ordered, queue_setQueue_same, slots_modSlot, if_pos rfl, slots_setQueue, State.session, lane_ordered]
    exact ⟨rfl, rfl, rfl, rfl, rfl⟩
  · have shut : (s.ordered l (i :: rest ++ front)).session l ≠ .opened := by
      rw [State.session, lane_ordered]
      intro opened
      exact nomatch closing.symm.trans opened
    rw [raiseHead_waiting (by rwa [slot_ordered]), if_neg shut, turn_ordered, queue_setQueue_same, slot_ordered]
    exact ⟨rfl, rfl, lanes_ext fun k => lane_ordered ..⟩

/-- An update that writes a Turn Unit as it was. -/
theorem pairs_updTurn_same {p : Fin 8} {f : TurnUnit → TurnUnit} (same : f (s.turn p) = s.turn p) :
    (s.updTurn p f).pairs = s.pairs := by
  refine pairs_ext fun w => ?_
  by_cases own : w = p
  · subst own
    have turn : ((s.updTurn w f).pair w).turn = (s.pair w).turn := (turn_updTurn_same ..).trans same
    have ret : ((s.updTurn w f).pair w).ret = (s.pair w).ret := ret_updTurn ..
    have motor := motor_updTurn s w f w
    generalize (s.updTurn w f).pair w = a at *
    generalize s.pair w = b at *
    cases a
    cases b
    simp_all
  · exact pairOther_updTurn _ _ _ _ own

/-- What the average and the handicap become of a slot whose game starts. -/
theorem average_launched (x : Slot) (d : Directory) (st : PairSettings) :
    let y := Slot.launched d st { x with state := .up }
    let after := d.renewedFor (Slot.begun { x with state := .up })
    (∀ number, d.uncovered x number →
      y.source = .pending ∧ y.handicap = .pending ∧
        (d.fetch.length < 16 → y.fetch = .requested ∧ after = { d with fetch := d.fetch ++ [number] }) ∧
        (16 ≤ d.fetch.length → y.fetch = .deferred ∧ after = d)) ∧
    ((∀ number, ¬ d.uncovered x number) → y.source = x.source ∧ y.fetch = x.fetch ∧ after = d) ∧
    (x.source = .none → y.handicap = .value 0) ∧ (x.source = .pending → y.handicap = .pending) ∧
    (∀ number k, x.source = .entry → x.bowler = some number → d.find number = some k →
      y.handicap = .value (entryHandicap d.entries[k].average d.entries[k].override st)) ∧
    ∀ number k, x.source = .range → x.bowler = some number → d.cover number = some k →
      y.handicap = .value (computedHandicap d.ranges[k].average st) := by
  refine ⟨fun number h => ?_, fun h => ?_, handicap_launched_none, handicap_launched_pending,
    fun number k source bowler => handicap_launched_entry source bowler,
    fun number k source bowler => handicap_launched_range source bowler⟩
  · obtain ⟨source, handicap, fetch⟩ := launched_uncovered h st
    refine ⟨source, handicap, fun room => ?_, fun full => ?_⟩
    · exact ⟨by rw [fetch, if_pos room], by rw [renewedFor_uncovered h, if_pos room]⟩
    · exact ⟨by rw [fetch, if_neg (Nat.not_lt.mpr full)], by rw [renewedFor_uncovered h, if_neg (Nat.not_lt.mpr full)]⟩
  · obtain ⟨slot, directory⟩ := launched_covered h st
    rw [slot]
    exact ⟨rfl, rfl, directory⟩

/-- Settles O44, by the head that the head rules find, and by what a game start writes. -/
theorem headRulesSettleTheHead : Obligations.HeadRulesSettleTheHead := by
  unfold Obligations.HeadRulesSettleTheHead
  refine ⟨fun i game => ⟨(startSide_tables i game).1, (startSide_tables i game).2, rfl, rfl, nextGame_of_ne,
    fun finished => ⟨rfl, fun limited => limitReached_of_ne limited finished⟩⟩, fun l s => ⟨fun frozen =>
      headRules_same (.inl frozen), fun up => headRules_same (.inr up), fun runs clear all => ?_,
      fun front i rest runs clear queue gone present => ⟨(headRules_standing runs clear queue gone present).1,
        (headRules_standing runs clear queue gone present).2, fun waits isOpen grants => ?_,
        fun m waits isOpen unpaid there kind mode lacks back => ?_⟩⟩⟩
  · rw [headRules_stalled runs clear all]
    exact pairs_updTurn_same (by cases sideOf l <;> rfl)
  · obtain ⟨u, meter, starts, ready, paid, charged⟩ := raiseHead_starts (q := i :: rest ++ front) waits isOpen grants
    obtain ⟨queued, unpaid⟩ := queue_launch (i := i) ready
    obtain ⟨practice, session, snapshot, metered⟩ := lane_launch (i := i) ready
    have own := slot_launch (i := i) ready i
    rw [if_pos rfl] at own
    have directory := directory_launch (i := i) ready
    rw [headRules_head runs clear queue gone present, starts]
    dsimp only
    rw [own, directory, launched_eq, metered]
    refine ⟨queued, unpaid, rfl, rfl, rfl, rfl, rfl, rfl, practice, session.trans isOpen, snapshot,
      fun j other => (slot_launch ready j).trans (if_neg other), ⟨rfl, average_launched ..⟩, paid, fun m none there => ?_⟩
    exact charged m none there
  · rw [headRules_head runs clear queue gone present, raiseHead_declined waits isOpen unpaid there kind mode lacks back]
    have turn : (((s.ordered l (i :: rest ++ front)).setMeter l (m.decline .game s.billing.back)).enterClosing l).turn
        (pairOf l) = (s.turn (pairOf l)).setQueue (sideOf l) (i :: rest ++ front) := by
      rw [turn_enterClosing, turn_setMeter, turn_ordered]
    refine ⟨?_, flagged_enterClosing_dk .., ?_, ?_⟩
    · rw [State.session, lane_enterClosing]
      rfl
    · rw [State.slot, turn, slots_setQueue]
      rfl
    · rw [lane_enterClosing]
      exact meter_setMeter (by rw [lane_ordered, there]) _

end Sys2Proof.Machine
end

section
/-! SUPPORT. The resolution of frames (R98, R99): the attempt goes from the oldest unresolved frame on, and stops at the
first that it cannot score. -/

namespace Sys2Proof.Machine

variable {f g : FrameRec} {frames later : List FrameRec} {start k n b : Nat}

/-! ## One frame -/

/-- A frame with its score and its cumulative. -/
def FrameRec.resolved (f : FrameRec) : Bool := f.score.isSome && f.cumulative.isSome

/-- A frame as a resolution leaves it that reaches it with the cumulative before it, if it does not stop there. -/
def FrameRec.settle (f : FrameRec) (start : Nat) (later : List FrameRec) : Option FrameRec :=
  if f.resolved then some f
  else (frameScore f later).map fun n => { f with score := some n, cumulative := some (start + n) }

theorem settle_of_resolved (h : f.resolved = true) (start : Nat) (later : List FrameRec) : f.settle start later = some f :=
  if_pos h

theorem settle_of_score (h : f.resolved = false) (score : frameScore f later = some n) (start : Nat) :
    f.settle start later = some { f with score := some n, cumulative := some (start + n) } := by
  rw [FrameRec.settle, h, score]
  rfl

theorem settle_of_none (h : f.resolved = false) (score : frameScore f later = none) (start : Nat) :
    f.settle start later = none := by
  rw [FrameRec.settle, h, score]
  rfl

theorem resolved_iff : f.resolved = true ↔ ∃ n c, f.score = some n ∧ f.cumulative = some c := by
  rw [FrameRec.resolved, Bool.and_eq_true, Option.isSome_iff_exists, Option.isSome_iff_exists]
  exact ⟨fun ⟨⟨n, score⟩, c, sum⟩ => ⟨n, c, score, sum⟩, fun ⟨n, c, score, sum⟩ => ⟨⟨n, score⟩, c, sum⟩⟩

theorem resolved_of_settle (h : f.settle start later = some g) : g.resolved = true := by
  unfold FrameRec.settle at h
  split at h
  next resolved => exact Option.some.inj h ▸ resolved
  next =>
    obtain ⟨n, -, rfl⟩ := Option.map_eq_some_iff.mp h
    rfl

/-- A settled frame differs in its score and its cumulative. -/
theorem kind_of_settle (h : f.settle start later = some g) : g.kind = f.kind := by
  unfold FrameRec.settle at h
  split at h
  next => exact Option.some.inj h ▸ rfl
  next =>
    obtain ⟨n, -, rfl⟩ := Option.map_eq_some_iff.mp h
    rfl

/-- A frame that the attempt reaches is settled, and the attempt goes on with its cumulative, or it stops there. -/
theorem resolveFrom_cons (start : Nat) (f : FrameRec) (later : List FrameRec) :
    resolveFrom start (f :: later) =
      ((f.settle start later).map fun g => g :: resolveFrom (g.cumulative.getD 0) later).getD (f :: later) := by
  rw [resolveFrom]
  split
  next n c score sum =>
    rw [settle_of_resolved (resolved_iff.mpr ⟨n, c, score, sum⟩), Option.map_some, Option.getD_some, sum]
    rfl
  next unresolved =>
    have open_ : f.resolved = false := by
      rw [← Bool.not_eq_true, resolved_iff]
      rintro ⟨n, c, score, sum⟩
      exact unresolved n c score sum
    split
    next n score =>
      rw [settle_of_score open_ score]
      rfl
    next score =>
      rw [settle_of_none open_ score]
      rfl

theorem resolveFrom_settled (h : f.settle start later = some g) :
    resolveFrom start (f :: later) = g :: resolveFrom (g.cumulative.getD 0) later := by
  rw [resolveFrom_cons, h]
  rfl

theorem resolveFrom_stopped (h : f.settle start later = none) : resolveFrom start (f :: later) = f :: later := by
  rw [resolveFrom_cons, h]
  rfl

/-! ## The frames by their place -/

theorem length_resolveFrom (start : Nat) (frames : List FrameRec) : (resolveFrom start frames).length = frames.length := by
  induction frames generalizing start with
  | nil => rfl
  | cons f later ih =>
    cases settled : f.settle start later with
    | none => rw [resolveFrom_stopped settled]
    | some g => rw [resolveFrom_settled settled, List.length_cons, List.length_cons, ih]

/-- A frame that settles as it is, or not at all, stands as it was. -/
theorem resolveFrom_stands (start : Nat) (there : frames[k]? = some f)
    (stands : ∀ start g, f.settle start (frames.drop (k + 1)) = some g → g = f) :
    (resolveFrom start frames)[k]? = some f := by
  induction frames generalizing start k with
  | nil => cases there
  | cons x later ih =>
    cases settled : x.settle start later with
    | none => rwa [resolveFrom_stopped settled]
    | some g =>
      rw [resolveFrom_settled settled]
      cases k with
      | zero =>
        obtain rfl : x = f := Option.some.inj there
        exact congrArg some (stands start g settled)
      | succ k => exact ih _ there stands

/-- What follows a frame that is left unresolved stands as it was. -/
theorem resolveFrom_after (start : Nat) (stops : ((resolveFrom start frames).take k).all FrameRec.resolved = false) :
    (resolveFrom start frames)[k]? = frames[k]? := by
  induction frames generalizing start k with
  | nil => rfl
  | cons x later ih =>
    cases settled : x.settle start later with
    | none => rw [resolveFrom_stopped settled]
    | some g =>
      rw [resolveFrom_settled settled] at stops ⊢
      cases k with
      | zero => cases stops
      | succ k =>
        rw [List.take_succ_cons, List.all_cons, resolved_of_settle settled, Bool.true_and] at stops
        exact ih _ stops

/-- The cumulative before a place. -/
def cumulativeBefore (start : Nat) (frames : List FrameRec) (k : Nat) : Option Nat :=
  if k = 0 then some start else (frames[k - 1]?).bind FrameRec.cumulative

/-- An unresolved frame that the attempt reaches and can score. -/
theorem resolveFrom_scores (start : Nat) (there : frames[k]? = some f)
    (reached : ((resolveFrom start frames).take k).all FrameRec.resolved = true) (unresolved : f.resolved = false)
    (score : frameScore f (frames.drop (k + 1)) = some n)
    (before : cumulativeBefore start (resolveFrom start frames) k = some b) :
    (resolveFrom start frames)[k]? = some { f with score := some n, cumulative := some (b + n) } := by
  induction frames generalizing start k with
  | nil => cases there
  | cons x later ih =>
    cases k with
    | zero =>
      obtain rfl : x = f := Option.some.inj there
      obtain rfl : start = b := Option.some.inj before
      have settled : x.settle start later = _ := settle_of_score unresolved score start
      rw [resolveFrom_settled settled]
      rfl
    | succ k =>
      cases settled : x.settle start later with
      | none =>
        have stays : x.resolved = true := by
          rw [resolveFrom_stopped settled, List.take_succ_cons, List.all_cons, Bool.and_eq_true] at reached
          exact reached.1
        exact nomatch settled.symm.trans (settle_of_resolved stays start later)
      | some g =>
        rw [resolveFrom_settled settled] at reached before ⊢
        rw [List.take_succ_cons, List.all_cons, Bool.and_eq_true] at reached
        refine ih _ there reached.2 score ?_
        obtain ⟨m, c, -, sum⟩ := resolved_iff.mp (resolved_of_settle settled)
        rw [sum, Option.getD_some]
        rw [sum, Option.getD_some] at before
        cases k with
        | zero => exact sum.symm.trans before
        | succ k => exact before

/-! ## Cumulatives that rise (R99) -/

/-- The cumulatives of the frames from number `i` on rise from `start`, at most 30 for each frame, and none is found
beyond an unresolved frame. -/
def risesFrom (start i : Nat) : List FrameRec → Prop
  | [] => True
  | f :: later =>
    (∀ c, f.cumulative = some c → start ≤ c ∧ c ≤ 30 * (i + 1)) ∧
      if f.resolved then risesFrom (f.cumulative.getD 0) (i + 1) later else ∀ g ∈ later, g.cumulative = none

/-- The same by places. -/
theorem risesFrom_iff (start i : Nat) (list : List FrameRec) : risesFrom start i list ↔
    ∀ k c, (list[k]?).bind FrameRec.cumulative = some c →
      start ≤ c ∧ c ≤ 30 * (i + k + 1) ∧
        ∀ j, j < k → ∃ b, (list[j]?).bind FrameRec.cumulative = some b ∧
          ((list[j]?).bind FrameRec.score).isSome = true ∧ b ≤ c := by
  induction list generalizing start i with
  | nil => exact ⟨fun _ k c none => (by cases none), fun _ => trivial⟩
  | cons f later ih =>
    constructor
    · rintro ⟨first, rest⟩ k c there
      cases k with
      | zero =>
        obtain ⟨low, high⟩ := first c there
        exact ⟨low, high, fun j none => absurd none (Nat.not_lt_zero j)⟩
      | succ k =>
        split at rest
        next resolved =>
          obtain ⟨m, c₀, score, sum⟩ := resolved_iff.mp resolved
          rw [sum, Option.getD_some] at rest
          obtain ⟨low, high, under⟩ := (ih c₀ (i + 1)).mp rest k c there
          refine ⟨(first c₀ sum).1.trans low, by omega, fun j less => ?_⟩
          cases j with
          | zero => exact ⟨c₀, sum, Option.isSome_iff_exists.mpr ⟨m, score⟩, low⟩
          | succ j => exact under j (by omega)
        next =>
          obtain ⟨g, placed, sum⟩ := Option.bind_eq_some_iff.mp there
          exact nomatch (rest g (List.mem_of_getElem? placed)).symm.trans sum
    · intro all
      refine ⟨fun c sum => ?_, ?_⟩
      · obtain ⟨low, high, -⟩ := all 0 c sum
        exact ⟨low, high⟩
      · split
        next resolved =>
          obtain ⟨m, c₀, score, sum⟩ := resolved_iff.mp resolved
          rw [sum, Option.getD_some, ih]
          intro k c there
          obtain ⟨-, high, under⟩ := all (k + 1) c there
          obtain ⟨b, sum', -, low⟩ := under 0 (Nat.succ_pos k)
          obtain rfl : c₀ = b := Option.some.inj (sum.symm.trans sum')
          exact ⟨low, by omega, fun j less => under (j + 1) (by omega)⟩
        next unresolved =>
          intro g member
          by_contra some
          obtain ⟨c, sum⟩ := Option.ne_none_iff_exists'.mp some
          obtain ⟨k, placed⟩ := List.getElem?_of_mem member
          obtain ⟨-, -, under⟩ := all (k + 1) c (Option.bind_eq_some_iff.mpr ⟨g, placed, sum⟩)
          obtain ⟨b, sum', score, -⟩ := under 0 (Nat.succ_pos k)
          obtain ⟨m, score⟩ := Option.isSome_iff_exists.mp score
          exact unresolved (resolved_iff.mpr ⟨m, b, score, sum'⟩)

/-- Frames that count as a game's: three balls at most, of ten pins at most. -/
def FrameRec.counts (f : FrameRec) : Prop := f.balls.length ≤ 3 ∧ ∀ b ∈ f.balls, b.down ≤ 10

theorem frame_sum_le (h : f.counts) : f.sum ≤ 30 := by
  have each : ∀ x ∈ f.balls.map BallEntry.down, x ≤ 10 := fun x there => by
    obtain ⟨b, member, rfl⟩ := List.mem_map.mp there
    exact h.2 b member
  have total := List.sum_le_card_nsmul _ 10 each
  rw [List.length_map, smul_eq_mul] at total
  have balls := h.1
  have sum : f.sum = (f.balls.map BallEntry.down).sum := rfl
  omega

theorem nextBalls_le (h : ∀ f ∈ later, f.counts) : ∀ x ∈ nextBalls later, x ≤ 10 := by
  intro x there
  obtain ⟨f, member, ball⟩ := List.mem_flatMap.mp there
  obtain ⟨b, thrown, rfl⟩ := List.mem_map.mp ball
  exact (h f member).2 b thrown

theorem frameScore_le (own : f.counts) (h : ∀ f ∈ later, f.counts) (score : frameScore f later = some n) : n ≤ 30 := by
  have sum := frame_sum_le own
  have next := nextBalls_le h
  unfold frameScore at score
  split at score
  · split at score
    · cases score
    · exact Option.some.inj score ▸ sum
  · split at score
    next a b rest _ balls =>
      rw [balls] at next
      have first := next a (by simp)
      have second := next b (by simp)
      obtain rfl := Option.some.inj score
      omega
    next a rest _ balls =>
      rw [balls] at next
      have first := next a (by simp)
      obtain rfl := Option.some.inj score
      omega
    · exact Option.some.inj score ▸ sum
    · cases score

theorem risesFrom_of_none (h : ∀ f ∈ frames, f.cumulative = none) (start i : Nat) : risesFrom start i frames := by
  cases frames with
  | nil => trivial
  | cons f later =>
    have own := h f List.mem_cons_self
    have open_ : ¬ f.resolved = true := fun resolved => by
      obtain ⟨-, c, -, sum⟩ := resolved_iff.mp resolved
      exact nomatch own.symm.trans sum
    have sumless (c : Nat) (sum : f.cumulative = some c) : start ≤ c ∧ c ≤ 30 * (i + 1) := nomatch own.symm.trans sum
    refine ⟨sumless, ?_⟩
    rw [if_neg open_]
    exact fun g member => h g (List.mem_cons_of_mem _ member)

theorem risesFrom_resolveFrom {i : Nat} (counts : ∀ f ∈ frames, f.counts) (low : start ≤ 30 * i)
    (rises : risesFrom start i frames) : risesFrom start i (resolveFrom start frames) := by
  induction frames generalizing start i with
  | nil => trivial
  | cons f later ih =>
    obtain ⟨own, others⟩ := List.forall_mem_cons.mp counts
    obtain ⟨first, rest⟩ := rises
    cases resolved : f.resolved with
    | true =>
      obtain ⟨n, c, score, sum⟩ := resolved_iff.mp resolved
      rw [if_pos resolved, sum, Option.getD_some] at rest
      rw [resolveFrom_settled (settle_of_resolved resolved start later), sum, Option.getD_some]
      refine ⟨first, ?_⟩
      rw [if_pos resolved, sum, Option.getD_some]
      exact ih others (first c sum).2 rest
    | false =>
      rw [resolved, if_neg nofun] at rest
      cases score : frameScore f later with
      | none =>
        rw [resolveFrom_stopped (settle_of_none resolved score start)]
        refine ⟨first, ?_⟩
        rw [resolved, if_neg nofun]
        exact rest
      | some n =>
        have most := frameScore_le own others score
        rw [resolveFrom_settled (settle_of_score resolved score start)]
        refine ⟨fun c sum => ?_, ?_⟩
        · obtain rfl : start + n = c := Option.some.inj sum
          omega
        · exact ih others (by simp only [Option.getD_some]; omega) (risesFrom_of_none rest _ _)

/-! ## Frames that await bonus balls -/

/-- A frame awaits bonus balls. -/
def FrameRec.awaits (f : FrameRec) : Bool := (f.kind == .strike || f.kind == .spare) && f.score.isNone

/-- A frame whose kind is settled, with the balls of its kind. -/
def FrameRec.complete (f : FrameRec) : Prop :=
  (f.kind = .strike ∨ f.kind = .spare ∨ f.kind = .opened) ∧ (if f.kind = .strike then 1 else 2) ≤ f.balls.length

/-- The frames are complete up to one, and incomplete from it on. -/
def playedTo (done : Nat) (frames : List FrameRec) : Prop :=
  (∀ f ∈ frames.take done, f.complete) ∧ ∀ f ∈ frames.drop done, f.kind = .incomplete

theorem awaits_of_incomplete (h : f.kind = .incomplete) : f.awaits = false := by rw [FrameRec.awaits, h]; rfl

theorem awaits_of_resolved (h : f.resolved = true) : f.awaits = false := by
  obtain ⟨n, c, score, -⟩ := resolved_iff.mp h
  rw [FrameRec.awaits, score]
  exact Bool.and_false _

theorem kind_of_awaits (h : f.awaits = true) : f.kind = .strike ∨ f.kind = .spare := by
  simpa using (Bool.and_eq_true_iff.mp h).1

theorem countP_incomplete (h : ∀ f ∈ frames, f.kind = .incomplete) : frames.countP FrameRec.awaits = 0 :=
  List.countP_eq_zero.mpr fun f member => by simp [awaits_of_incomplete (h f member)]

theorem playedTo_cons {done : Nat} (h : playedTo done (f :: later)) :
    (done = 0 ∧ f.kind = .incomplete ∧ ∀ g ∈ later, g.kind = .incomplete) ∨
      ∃ before, done = before + 1 ∧ f.complete ∧ playedTo before later := by
  obtain ⟨full, rest⟩ := h
  cases done with
  | zero => exact .inl ⟨rfl, List.forall_mem_cons.mp rest⟩
  | succ before =>
    rw [List.take_succ_cons, List.forall_mem_cons] at full
    exact .inr ⟨before, rfl, full.1, full.2, rest⟩

/-- Each frame that awaits bonus balls has a ball of its own. -/
theorem countP_le_nextBalls {done : Nat} (h : playedTo done frames) :
    frames.countP FrameRec.awaits ≤ (nextBalls frames).length := by
  induction frames generalizing done with
  | nil => exact Nat.zero_le _
  | cons f later ih =>
    have split : (nextBalls (f :: later)).length = f.balls.length + (nextBalls later).length := by simp [nextBalls]
    rw [split, List.countP_cons]
    rcases playedTo_cons h with ⟨-, own, others⟩ | ⟨before, -, own, played⟩
    · rw [countP_incomplete others, awaits_of_incomplete own]
      simp
    · have rest := ih played
      have ball : 1 ≤ f.balls.length := le_trans (by split <;> omega) own.2
      split <;> omega

/-- A frame at which the attempt stops leaves at most one frame after it that awaits bonus balls. -/
theorem countP_stopped {done : Nat} (h : playedTo done (f :: later)) (score : frameScore f later = none) :
    (f :: later).countP FrameRec.awaits ≤ 2 := by
  rw [List.countP_cons]
  rcases playedTo_cons h with ⟨-, own, others⟩ | ⟨before, -, own, played⟩
  · rw [countP_incomplete others, awaits_of_incomplete own]
    simp
  · have rest := countP_le_nextBalls played
    have few : (nextBalls later).length ≤ 1 := by
      unfold frameScore at score
      split at score
      next last =>
        rw [List.isEmpty_iff.mp last]
        exact Nat.zero_le _
      · split at score
        · cases score
        · cases score
        · cases score
        next opened strike spare =>
          rcases own.1 with kind | kind | kind
          · match balls : nextBalls later with
            | [] => exact Nat.zero_le _
            | [_] => exact Nat.le_refl _
            | a :: b :: rest => exact absurd balls (strike a b rest kind)
          · match balls : nextBalls later with
            | [] => exact Nat.zero_le _
            | a :: rest => exact absurd balls (spare a rest kind)
          · exact absurd kind opened
    split <;> omega

theorem countP_resolveFrom {done : Nat} (h : playedTo done frames) (start : Nat) :
    (resolveFrom start frames).countP FrameRec.awaits ≤ 2 := by
  induction frames generalizing done start with
  | nil => exact Nat.zero_le _
  | cons f later ih =>
    cases settled : f.settle start later with
    | some g =>
      rw [resolveFrom_settled settled, List.countP_cons, awaits_of_resolved (resolved_of_settle settled), if_neg nofun]
      rcases playedTo_cons h with ⟨-, -, others⟩ | ⟨before, -, -, played⟩
      · exact ih (done := 0) ⟨by simp, others⟩ _
      · exact ih played _
    | none =>
      rw [resolveFrom_stopped settled]
      refine countP_stopped h ?_
      cases score : frameScore f later with
      | none => rfl
      | some n =>
        cases resolved : f.resolved with
        | true => exact nomatch settled.symm.trans (settle_of_resolved resolved start later)
        | false => exact nomatch settled.symm.trans (settle_of_score resolved score start)

theorem countAwaiting_resolveFrom {done : Nat} (h : playedTo done frames) : countAwaiting (resolveFrom 0 frames) ≤ 2 :=
  le_trans ((List.take_sublist 9 _).countP_le) (countP_resolveFrom h 0)

end Sys2Proof.Machine
end

section
/-! PROOFS. The tables of a frame sheet: racks, counts, kinds, scores, their resolution and handicaps (R90 to R93, R97 to
R99, R104). -/

namespace Sys2Proof.Machine

variable {f : FrameRec} {frames later : List FrameRec} {a b c : BallEntry} {balls rest : List BallEntry} {tenth : Bool}

/-! ## Racks and counts (R90, R91) -/

theorem isStrike_iff : a.isStrike = true ↔ a.rack = .fresh ∧ a.down = 10 := by
  rw [BallEntry.isStrike, Bool.and_eq_true, beq_iff_eq, beq_iff_eq]

theorem rackOf_foul (tenth : Bool) (foul : a.foul = true) : rackOf tenth [a] = .fresh := by
  rw [rackOf, foul]
  rfl

theorem rackOf_early (fair : a.foul = false) : rackOf false [a] = .standing := by
  rw [rackOf, fair]
  rfl

theorem rackOf_tenth (fair : a.foul = false) :
    rackOf true [a] = if a.rack = .fresh ∧ a.down = 10 then .fresh else .standing := by
  simp only [← isStrike_iff]
  rw [rackOf, fair]
  rfl

theorem rackOf_third_fresh (open_ : ¬ (a.rack = .fresh ∧ a.down = 10)) : rackOf true [a, b] = .fresh := by
  rw [← isStrike_iff, Bool.not_eq_true] at open_
  rw [rackOf, open_]
  rfl

theorem rackOf_third (strike : a.rack = .fresh ∧ a.down = 10) :
    rackOf true [a, b] = if b.foul = true ∨ (b.rack = .fresh ∧ b.down = 10) then .fresh else .standing := by
  have struck : a.isStrike = true := isStrike_iff.mpr strike
  simp only [← isStrike_iff, rackOf, struck]
  cases b.foul <;> cases b.isStrike <;> rfl

/-- The pins available to a ball. -/
theorem pinsAvailable_eq (rack : Rack) (balls : List BallEntry) :
    pinsAvailable rack balls = if rack = .fresh then 10 else 10 - ((balls.map BallEntry.down).getLast?.getD 0) := by
  rw [List.getLast?_map]
  unfold pinsAvailable
  cases rack with
  | fresh => rfl
  | standing => cases balls.getLast? <;> rfl

theorem down_makeEntry_foul {pre after : PinSet} {m : Marks} (foul : m.foul = true) :
    (makeEntry tenth balls pre after m).down = 0 ∧ (makeEntry tenth balls pre after m).senseOdd = m.senseOdd := by
  have none : countDown m.foul pre after = 0 := by rw [foul]; rfl
  simp [makeEntry, none]

theorem down_makeEntry_fair {pre after : PinSet} {m : Marks} (fair : m.foul = false) :
    (makeEntry tenth balls pre after m).down =
        min (pinCount pre - pinCount after) (pinsAvailable (rackOf tenth balls) balls) ∧
      (makeEntry tenth balls pre after m).senseOdd =
        (m.senseOdd || decide (pinsAvailable (rackOf tenth balls) balls < pinCount pre - pinCount after)) := by
  have count : countDown m.foul pre after = pinCount pre - pinCount after := by rw [fair]; rfl
  simp [makeEntry, count]

/-! ## Kinds and scores (R92, R93, R97) -/

theorem kindOf_first : kindOf false [a] = if a.down = 10 then .strike else .incomplete := by
  simp [kindOf, kindOfEarly]

theorem kindOf_second : kindOf false (a :: b :: rest) = if a.down + b.down = 10 then .spare else .opened := by
  simp [kindOf, kindOfEarly]

theorem kindOf_tenth_second : kindOf true [a, b] =
    if (a.rack = .fresh ∧ a.down = 10) ∨ a.down + b.down = 10 then .incomplete else .opened := by
  simp [kindOf, kindOfTenth, isStrike_iff]

theorem kindOf_tenth_third : kindOf true (a :: b :: c :: rest) =
    if a.rack = .fresh ∧ a.down = 10 then .strike else .spare := by
  simp [kindOf, kindOfTenth, isStrike_iff]

theorem frameScore_last (settled : f.kind ≠ .incomplete) : frameScore f [] = some f.sum := if_neg settled

theorem frameScore_incomplete (kind : f.kind = .incomplete) (later : List FrameRec) : frameScore f later = none := by
  unfold frameScore
  rw [kind]
  split
  · rfl
  · rfl

theorem frameScore_opened (more : later ≠ []) (kind : f.kind = .opened) : frameScore f later = some f.sum := by
  rw [frameScore, if_neg (by simpa using more), kind]

theorem frameScore_spare (more : later ≠ []) (kind : f.kind = .spare) :
    frameScore f later = (nextBalls later).head?.map (10 + ·) := by
  rw [frameScore, if_neg (by simpa using more), kind]
  cases nextBalls later <;> rfl

theorem frameScore_strike (more : later ≠ []) (kind : f.kind = .strike) :
    frameScore f later =
      if 2 ≤ (nextBalls later).length then some (10 + (nextBalls later).getD 0 0 + (nextBalls later).getD 1 0) else none := by
  rw [frameScore, if_neg (by simpa using more), kind]
  match nextBalls later with
  | [] => rfl
  | [_] => rfl
  | x :: y :: rest => rw [if_pos (by simp)]; rfl

/-! ## The obligation -/

/-- Racks and counts. -/
theorem rack_tables (a b : BallEntry) :
    (∀ tenth, rackOf tenth [] = .fresh) ∧ (∀ tenth, a.foul = true → rackOf tenth [a] = .fresh) ∧
    (a.foul = false → rackOf false [a] = .standing) ∧
    (a.foul = false → rackOf true [a] = if a.rack = .fresh ∧ a.down = 10 then .fresh else .standing) ∧
    (¬ (a.rack = .fresh ∧ a.down = 10) → rackOf true [a, b] = .fresh) ∧
    (a.rack = .fresh → a.down = 10 →
      rackOf true [a, b] = if b.foul = true ∨ (b.rack = .fresh ∧ b.down = 10) then .fresh else .standing) :=
  ⟨fun _ => rfl, fun tenth => rackOf_foul tenth, rackOf_early, rackOf_tenth, rackOf_third_fresh,
    fun rack down => rackOf_third ⟨rack, down⟩⟩

/-- Scores of a frame by its kind. -/
theorem score_tables (f : FrameRec) (later : List FrameRec) :
    (later = [] → f.kind ≠ .incomplete → frameScore f later = some f.sum) ∧
    (later ≠ [] →
      (f.kind = .opened → frameScore f later = some f.sum) ∧
      (f.kind = .spare → frameScore f later = (nextBalls later).head?.map (10 + ·)) ∧
      (f.kind = .strike →
        frameScore f later =
          if 2 ≤ (nextBalls later).length then some (10 + (nextBalls later).getD 0 0 + (nextBalls later).getD 1 0)
          else none)) ∧
    (f.kind = .incomplete → frameScore f later = none) :=
  ⟨fun last settled => last ▸ frameScore_last settled,
    fun more => ⟨frameScore_opened more, frameScore_spare more, frameScore_strike more⟩,
    fun kind => frameScore_incomplete kind later⟩

/-- A frame among those that a resolution goes through. -/
theorem resolution_tables {k : Nat} (there : frames[k]? = some f) :
    (resolveFrom 0 frames).length = frames.length ∧
    (f.resolved = true → (resolveFrom 0 frames)[k]? = some f) ∧
    (((resolveFrom 0 frames).take k).all FrameRec.resolved = false → (resolveFrom 0 frames)[k]? = some f) ∧
    (frameScore f (frames.drop (k + 1)) = none → (resolveFrom 0 frames)[k]? = some f) ∧
    ∀ n b, ((resolveFrom 0 frames).take k).all FrameRec.resolved = true → f.resolved = false →
      frameScore f (frames.drop (k + 1)) = some n → cumulativeBefore 0 (resolveFrom 0 frames) k = some b →
      (resolveFrom 0 frames)[k]? = some { f with score := some n, cumulative := some (b + n) } := by
  refine ⟨length_resolveFrom 0 frames, fun resolved => ?_, fun stops => ?_, fun unscored => ?_,
    fun n b reached unresolved score before => resolveFrom_scores 0 there reached unresolved score before⟩
  · exact resolveFrom_stands 0 there fun start g settled =>
      (Option.some.inj ((settle_of_resolved resolved ..).symm.trans settled)).symm
  · rw [resolveFrom_after 0 stops, there]
  · refine resolveFrom_stands 0 there fun start g settled => ?_
    cases resolved : f.resolved with
    | true => exact (Option.some.inj ((settle_of_resolved resolved ..).symm.trans settled)).symm
    | false => exact nomatch (settle_of_none resolved unscored start).symm.trans settled

/-- A resolution keeps the cumulatives rising. -/
theorem rising_resolveFrom (counts : ∀ f ∈ frames, f.counts) (rises : risesFrom 0 0 frames) :
    risesFrom 0 0 (resolveFrom 0 frames) := risesFrom_resolveFrom counts (Nat.zero_le _) rises

/-- The rise of cumulatives from the first frame on. -/
theorem risesFrom_zero (list : List FrameRec) : risesFrom 0 0 list ↔
    ∀ k c, (list[k]?).bind FrameRec.cumulative = some c →
      c ≤ 30 * (k + 1) ∧
        ∀ j, j < k → ∃ b, (list[j]?).bind FrameRec.cumulative = some b ∧
          ((list[j]?).bind FrameRec.score).isSome = true ∧ b ≤ c := by
  rw [risesFrom_iff]
  simp only [Nat.zero_le, true_and, Nat.zero_add]

/-- Settles O45, by the tables, and by the resolution that goes from frame to frame. -/
theorem sheetTables : Obligations.SheetTables := by
  unfold Obligations.SheetTables
  refine ⟨rack_tables, fun tenth balls pre after m => ?_, fun a b c rest => ?_, fun f later => score_tables f later,
    fun sh frame pre after m => ⟨rfl, rfl, rfl⟩, fun frames k f there => resolution_tables there, fun frames =>
      ⟨fun counts rises => ?_, fun done complete incomplete => countAwaiting_resolveFrom ⟨complete, incomplete⟩⟩,
    fun average st => ⟨rfl, rfl, fun o => rfl⟩⟩
  · have room := pinsAvailable_eq (rackOf tenth balls) balls
    dsimp only
    have rack : (makeEntry tenth balls pre after m).rack = rackOf tenth balls := rfl
    rw [rack, ← room]
    exact ⟨rfl, rfl, rfl, rfl, rfl, down_makeEntry_foul, down_makeEntry_fair⟩
  · exact ⟨kindOf_first, kindOf_second, rfl, kindOf_tenth_second, kindOf_tenth_third⟩
  · exact (risesFrom_zero _).mp (rising_resolveFrom counts ((risesFrom_zero _).mpr rises))

end Sys2Proof.Machine
end

section
/-! SUPPORT. A ball taken back from the sheet that it was written into (R107, R112, R113). -/

namespace Sys2Proof.Machine

variable {f g : FrameRec} {frames : List FrameRec} {sh : Sheet} {frame k : Nat}

/-! ## What a resolution and a ball leave of each frame -/

/-- A frame that a resolution goes through: as it was, or with a score that it could not have before. -/
theorem resolveFrom_place (start : Nat) (there : frames[k]? = some f) :
    ∃ g, (resolveFrom start frames)[k]? = some g ∧
      (g = f ∨ f.resolved = false ∧ frameScore f (frames.drop (k + 1)) ≠ none ∧
        ∃ n c, g = { f with score := some n, cumulative := some c }) := by
  induction frames generalizing start k with
  | nil => cases there
  | cons x later ih =>
    cases settled : x.settle start later with
    | none => exact ⟨f, by rwa [resolveFrom_stopped settled], .inl rfl⟩
    | some y =>
      rw [resolveFrom_settled settled]
      cases k with
      | zero =>
        obtain rfl : x = f := Option.some.inj there
        refine ⟨y, rfl, ?_⟩
        unfold FrameRec.settle at settled
        split at settled
        next => exact .inl (Option.some.inj settled).symm
        next unresolved =>
          obtain ⟨n, score, same⟩ := Option.map_eq_some_iff.mp settled
          exact .inr ⟨by simpa using unresolved, fun none => (nomatch score.symm.trans none), n, _, same.symm⟩
      | succ k => exact ih _ there

theorem frameAt_eq (there : frames[k]? = some f) : frameAt frames (k + 1) = f := by
  rw [frameAt, Nat.add_sub_cancel, List.getD_eq_getElem?_getD, there]
  rfl

/-- A frame changed by its number. -/
theorem getElem_modFrame (frames : List FrameRec) {n : Nat} (numbered : 1 ≤ n) (change : FrameRec → FrameRec) (k : Nat) :
    (modFrame frames n change)[k]? = frames[k]?.map fun f => if k + 1 = n then change f else f := by
  rw [modFrame, List.getElem?_modify]
  refine congrArg (fun change => Option.map change frames[k]?) (funext fun f => if_congr ?_ rfl rfl)
  omega

/-! ## Frames that take back their kind and scores -/

/-- A frame with the kind and the scores of another. -/
def FrameRec.scoredAs (f g : FrameRec) : FrameRec := { f with kind := g.kind, score := g.score, cumulative := g.cumulative }

theorem getElem_restoreFrame (frames before : List FrameRec) {n : Nat} (numbered : 1 ≤ n) (k : Nat) :
    (restoreFrame frames (priorOf before n))[k]? =
      frames[k]?.map fun f => if k + 1 = n then f.scoredAs (frameAt before n) else f := by
  exact getElem_modFrame frames numbered (fun f => f.scoredAs (frameAt before n)) k

/-- The frames of a list of numbers take back what they were. -/
theorem getElem_restoreFrames (before : List FrameRec) (ns : List Nat) (numbered : ∀ n ∈ ns, 1 ≤ n) (frames : List FrameRec)
    (k : Nat) :
    ((ns.map (priorOf before)).foldl restoreFrame frames)[k]? =
      frames[k]?.map fun f => if k + 1 ∈ ns then f.scoredAs (frameAt before (k + 1)) else f := by
  induction ns generalizing frames with
  | nil => simp
  | cons n ns ih =>
    obtain ⟨head, tail⟩ := List.forall_mem_cons.mp numbered
    rw [List.map_cons, List.foldl_cons, ih tail, getElem_restoreFrame _ _ head, Option.map_map]
    refine congrArg (fun change => Option.map change frames[k]?) (funext fun f => ?_)
    rw [Function.comp_apply]
    by_cases same : k + 1 = n
    · subst same
      rw [if_pos rfl, if_pos List.mem_cons_self]
      split <;> rfl
    · simp [same]

/-- The frames whose scores a ball may have brought, with its own. -/
def priorNumbers (before after : Sheet) (frame : Nat) : List Nat :=
  ((List.range 10).map (· + 1)).filter fun n =>
    n == frame || (n < frame && (frameAt before.frames n).score.isNone && (frameAt after.frames n).score.isSome)

theorem priorFrames_eq (before after : Sheet) (frame : Nat) :
    priorFrames before after frame = (priorNumbers before after frame).map (priorOf before.frames) := rfl

theorem mem_priorNumbers {before after : Sheet} {n : Nat} : n ∈ priorNumbers before after frame ↔
    (1 ≤ n ∧ n ≤ 10) ∧ (n = frame ∨ n < frame ∧ (frameAt before.frames n).score = none ∧
      (frameAt after.frames n).score.isSome = true) := by
  have range : n ∈ (List.range 10).map (· + 1) ↔ 1 ≤ n ∧ n ≤ 10 := by
    rw [List.mem_map]
    exact ⟨fun ⟨m, low, eq⟩ => by have := List.mem_range.mp low; omega,
      fun ⟨low, high⟩ => ⟨n - 1, List.mem_range.mpr (by omega), by omega⟩⟩
  rw [priorNumbers, List.mem_filter, range]
  simp [and_assoc]

/-! ## The ball taken back -/

/-- A frame with one more ball. -/
def FrameRec.withBall (f : FrameRec) (tenth : Bool) (pre after : PinSet) (m : Marks) : FrameRec :=
  { f with
    balls := f.balls ++ [makeEntry tenth f.balls pre after m]
    kind := kindOf tenth (f.balls ++ [makeEntry tenth f.balls pre after m]) }

theorem frames_addBall (sh : Sheet) (frame : Nat) (pre after : PinSet) (m : Marks) :
    (sh.addBall frame pre after m).frames =
      resolveFrom 0 (modFrame sh.frames frame fun f => f.withBall (frame == 10) pre after m) := rfl

theorem frames_takeBack (sh : Sheet) (n : Snapshot) :
    (sh.takeBack n).frames =
      n.prior.foldl restoreFrame (modFrame sh.frames n.frame fun f => { f with balls := f.balls.take (n.ball - 1) }) := rfl

theorem unscored_of_unresolved (whole : f.score.isSome = f.cumulative.isSome) (unresolved : f.resolved = false) :
    f.score = none := by
  rw [FrameRec.resolved, ← whole, Bool.and_self] at unresolved
  exact Option.isSome_eq_false_iff.mp unresolved |> Option.isNone_iff_eq_none.mp

/-- Each frame is as it was before the ball. -/
theorem frame_takeBack {a : Place} {pre after : PinSet} {m : Marks} (there : sh.frames[k]? = some f) (within : k < 10)
    (numbered : 1 ≤ a.frame) (ball : a.ball = (frameAt sh.frames a.frame).balls.length + 1)
    (whole : f.score.isSome = f.cumulative.isSome) (open_ : a.frame < k + 1 → f.kind = .incomplete) :
    ((sh.addBall a.frame pre after m).takeBack
      (takeSnapshot a sh (sh.addBall a.frame pre after m) pre)).frames[k]? = some f := by
  have own : frameAt sh.frames (k + 1) = f := frameAt_eq there
  have written : (modFrame sh.frames a.frame fun f => f.withBall (a.frame == 10) pre after m)[k]? =
      some (if k + 1 = a.frame then f.withBall (a.frame == 10) pre after m else f) := by
    rw [getElem_modFrame _ numbered, there]
    rfl
  obtain ⟨g, resolved, how⟩ := resolveFrom_place 0 written
  rw [← frames_addBall] at resolved
  have now : frameAt (sh.addBall a.frame pre after m).frames (k + 1) = g := frameAt_eq resolved
  have listed (how : k + 1 = a.frame ∨ k + 1 < a.frame ∧ f.score = none ∧ g.score.isSome = true) :
      k + 1 ∈ priorNumbers sh (sh.addBall a.frame pre after m) a.frame :=
    mem_priorNumbers.mpr ⟨⟨Nat.succ_pos k, within⟩, by rwa [own, now]⟩
  rw [frames_takeBack]
  have prior : (takeSnapshot a sh (sh.addBall a.frame pre after m) pre).prior =
      (priorNumbers sh (sh.addBall a.frame pre after m) a.frame).map (priorOf sh.frames) := rfl
  have cut : (takeSnapshot a sh (sh.addBall a.frame pre after m) pre).frame = a.frame ∧
      (takeSnapshot a sh (sh.addBall a.frame pre after m) pre).ball = a.ball := ⟨rfl, rfl⟩
  rw [prior, getElem_restoreFrames _ _ (fun n member => (mem_priorNumbers.mp member).1.1), cut.1, cut.2,
    getElem_modFrame _ numbered, resolved, own]
  by_cases here : k + 1 = a.frame
  · have balls : g.balls = f.balls ++ [makeEntry (a.frame == 10) f.balls pre after m] := by
      rw [if_pos here] at how
      rcases how with same | ⟨-, -, n, c, same⟩
      · rw [same]
        rfl
      · rw [same]
        rfl
    have kept : g.balls.take (a.ball - 1) = f.balls := by
      rw [balls, ball, ← here, own, Nat.add_sub_cancel, List.take_left]
    simp only [Option.map_some, if_pos here]
    rw [if_pos (listed (.inl here)), kept]
    rfl
  · rw [if_neg here] at how
    simp only [Option.map_some, if_neg here]
    rcases how with same | ⟨unresolved, scored, n, c, same⟩
    · rw [same]
      split <;> rfl
    · have unscored := unscored_of_unresolved whole unresolved
      have earlier : k + 1 < a.frame := by
        by_contra later
        exact scored (frameScore_incomplete (open_ (by omega)) _)
      rw [if_pos (listed (.inr ⟨earlier, unscored, by rw [same]; rfl⟩)), same]
      rfl

theorem sheet_ext {x : Sheet} (game : x.game = sh.game) (frames : x.frames = sh.frames) (awaiting : x.awaiting = sh.awaiting) :
    x = sh := by
  cases x
  cases sh
  simp_all

theorem length_takeBack (sh : Sheet) (n : Snapshot) : (sh.takeBack n).frames.length = sh.frames.length := by
  have kept (list : List PriorFrame) (frames : List FrameRec) : (list.foldl restoreFrame frames).length = frames.length := by
    induction list generalizing frames with
    | nil => rfl
    | cons q list ih => rw [List.foldl_cons, ih, restoreFrame, modFrame, List.length_modify]
  rw [frames_takeBack, kept, modFrame, List.length_modify]

/-- A ball taken back from the sheet that it was written into leaves the sheet as it was before. -/
theorem takeBack_addBall {a : Place} (pre after : PinSet) (m : Marks) (ten : sh.frames.length = 10) (numbered : 1 ≤ a.frame)
    (ball : a.ball = (frameAt sh.frames a.frame).balls.length + 1)
    (whole : ∀ f ∈ sh.frames, f.score.isSome = f.cumulative.isSome)
    (open_ : ∀ n, a.frame < n → n ≤ 10 → (frameAt sh.frames n).kind = .incomplete) :
    (sh.addBall a.frame pre after m).takeBack (takeSnapshot a sh (sh.addBall a.frame pre after m) pre) = sh := by
  refine sheet_ext rfl (List.ext_getElem? fun k => ?_) rfl
  cases there : sh.frames[k]? with
  | some f =>
    have within : k < 10 := ten ▸ (List.getElem?_eq_some_iff.mp there).1
    exact frame_takeBack there within numbered ball (whole f (List.mem_of_getElem? there)) fun later =>
      frameAt_eq there ▸ open_ (k + 1) later within
  | none =>
    rw [List.getElem?_eq_none_iff] at there ⊢
    rwa [length_takeBack, frames_addBall, length_resolveFrom, modFrame, List.length_modify]

/-- A sheet takes back its own kinds and scores, and a ball that it does not hold yet: it stands as it was. -/
theorem takeBack_self {n : Snapshot} {prior : List Nat} (numbered : 1 ≤ n.frame)
    (ball : n.ball = (frameAt sh.frames n.frame).balls.length + 1) (own : n.prior = prior.map (priorOf sh.frames))
    (bonus : n.bonus = sh.awaiting) (placed : ∀ k ∈ prior, 1 ≤ k) : sh.takeBack n = sh := by
  refine sheet_ext rfl (List.ext_getElem? fun k => ?_) bonus
  rw [frames_takeBack, own, getElem_restoreFrames _ _ placed, getElem_modFrame _ numbered]
  cases there : sh.frames[k]? with
  | none => rfl
  | some f =>
    have named : frameAt sh.frames (k + 1) = f := frameAt_eq there
    have cut (here : k + 1 = n.frame) : f.balls.take (n.ball - 1) = f.balls := by
      rw [ball, ← here, named, Nat.add_sub_cancel, List.take_length]
    simp only [Option.map_some, named]
    by_cases here : k + 1 = n.frame
    · rw [if_pos here, cut here]
      split <;> rfl
    · rw [if_neg here]
      split <;> rfl

end Sys2Proof.Machine
end

section
/-! PROOFS. REBALL (R115 to R118): the sheet, the place and the queue that it restores, and its demand of the pinsetter. -/

namespace Sys2Proof.Machine

variable {s t : State} {l : Fin 16} {q : Port} {n : Snapshot} {target : PinSet} {j : Fin 12}

/-! ## What a restore demand makes of the pinsetter -/

/-- The Supervisor `u'` has taken a demand for `target` from `u`, at a time and with a cycle timeout. -/
structure Supervisor.demanded (u u' : Supervisor) (target : PinSet) (timeout now : Nat) : Prop where
  delivery : u'.delivery = u.delivery
  last : u'.last = u.last
  practice : u'.practice = u.practice
  full : u.state = .ready ∨ u.state = .handSet → target = fullRack →
    u'.state = .cycling ∧ u'.cycle = some (newCycle .final .reball timeout none)
  set : u.state = .ready ∨ u.state = .handSet → target ≠ fullRack → u'.state = .handSet ∧ u'.handSet = some ⟨target, now⟩
  ready : u.state = .ready → target ≠ fullRack → u'.standing = none
  cycling : u.state = .cycling → u'.state = .cycling ∧ u'.cycle = u.cycle.map fun c => { c with restore := some target }
  warming : u.state = .warming → u'.state = .warming ∧ u'.warmUp = u.warmUp.map fun w => { w with restore := some target }
  fault : u.state = .fault → u'.state = .fault ∧ u'.fault = u.fault.map fun f => { f with replaced := some target }
  dark : u.state = .off ∨ u.state = .lockout → u'.state = u.state ∧ u'.standing = none

theorem sup_startFinal (s : State) (l : Fin 16) (origin : CycleOrigin) :
    ((s.startFinal l origin).lane l).sup =
      { (s.lane l).sup with
        state := .cycling, cycle := some (newCycle .final origin s.timers.cycle none), warmUp := none, handSet := none } :=
  sup_startCycle_same ..

theorem sup_modSup_same (s : State) (l : Fin 16) (f : Supervisor → Supervisor) :
    ((s.modSup l f).lane l).sup = f (s.lane l).sup := by rw [sup_modSup, if_pos rfl]

theorem demanded_restoreDemand (s : State) (l : Fin 16) (target : PinSet) :
    (s.lane l).sup.demanded ((s.restoreDemand l target).lane l).sup target s.timers.cycle s.now := by
  unfold State.restoreDemand
  split
  next state =>
    unfold State.restoreReady
    split
    next full =>
      rw [sup_startFinal]
      constructor <;> simp [state, full]
    next part =>
      rw [sup_enterHandSet]
      constructor <;> simp [state, part]
  next state =>
    split
    next full =>
      rw [sup_startFinal]
      constructor <;> simp [state, full]
    next part =>
      rw [sup_modSup_same]
      constructor <;> simp [state, part]
  next state => rw [sup_modSup_same]; constructor <;> simp [state]
  next state => rw [sup_modSup_same]; constructor <;> simp [state]
  next state => rw [sup_modSup_same]; constructor <;> simp [state]
  next state => rw [sup_modSup_same]; constructor <;> simp [state]
  next state => rw [sup_modSup_same]; constructor <;> simp [state]

/-- A call is raised where a READY lane enters HAND_SET, and nowhere else. -/
theorem pool_restoreDemand (s : State) (l : Fin 16) (target : PinSet) :
    ((s.lane l).sup.state = .ready → target ≠ fullRack →
      (s.restoreDemand l target).pool = (s.raiseCall ⟨laneNo l, .handSet, 2⟩).pool) ∧
    ((s.lane l).sup.state ≠ .ready ∨ target = fullRack → (s.restoreDemand l target).pool = s.pool) := by
  unfold State.restoreDemand
  split
  next state =>
    unfold State.restoreReady
    split
    next full => exact ⟨fun _ part => absurd full part, fun _ => pool_startFinal ..⟩
    next part => exact ⟨fun _ _ => pool_enterHandSet .., fun other => absurd state (other.resolve_right part)⟩
  next state =>
    refine ⟨fun ready => (nomatch state.symm.trans ready), fun _ => ?_⟩
    split
    · exact pool_startFinal ..
    · rfl
  next state => exact ⟨fun ready => (nomatch state.symm.trans ready), fun _ => rfl⟩
  next state => exact ⟨fun ready => (nomatch state.symm.trans ready), fun _ => rfl⟩
  next state => exact ⟨fun ready => (nomatch state.symm.trans ready), fun _ => rfl⟩
  next state => exact ⟨fun ready => (nomatch state.symm.trans ready), fun _ => rfl⟩
  next state => exact ⟨fun ready => (nomatch state.symm.trans ready), fun _ => rfl⟩

theorem flagged_restoreDemand {o : Port} {k : Nat} (h : s.flagged o k) (l : Fin 16) (target : PinSet) :
    (s.restoreDemand l target).flagged o k := by
  have cycles : (s.startFinal l .reball).flagged o k := flagged_updSup h l _
  unfold State.restoreDemand
  split
  · unfold State.restoreReady
    split
    · exact cycles
    · exact flagged_raiseCall (flagged_updSup h l _) _
  · split
    · exact cycles
    · exact h
  · exact h
  · exact h
  · exact h
  · exact h
  · exact h

/-! ## The queue and the sheet -/

/-- Where no slot stands in both queues, no other slot of the lane is UP after its turn is taken back. -/
theorem down_applySnapshot (ended : n.turnEnded = true)
    (apart : ∀ j, j ∈ (s.turn (pairOf l)).queueOdd → j ∉ (s.turn (pairOf l)).queueEven)
    (there : j ∈ ((s.applySnapshot l n).turn (pairOf l)).queue (sideOf l)) (other : j ≠ n.slot) :
    ((s.applySnapshot l n).slot (pairOf l) j).state ≠ .up := by
  generalize held : (s.turn (pairOf l)).modSlot n.slot (fun x => x.takeBack n) = v at *
  have queues (sd : Side) : v.queue sd = (s.turn (pairOf l)).queue sd := by rw [← held, queue_modSlot]
  obtain ⟨st, slot, -, down⟩ := slots_takeBack v (sideOf l) n j
  have state : (v.takeBack (sideOf l) n).slots[j].state = st := by rw [slot]
  have kept (sd : Side) (cleared : j ∈ (v.cleared (sideOf l) n).queue sd) : j ∈ (s.turn (pairOf l)).queue sd := by
    rw [queue_cleared, queues] at cleared
    split at cleared
    · exact List.mem_of_mem_filter cleared
    · exact cleared
  rw [turn_applySnapshot] at there
  rw [State.slot, turn_applySnapshot]
  have turns := turn_replayed_ended (s := s) (l := l) ended
  rw [held] at turns
  rcases turns with same | ⟨-, runs, head⟩
  · rw [same] at there ⊢
    rw [state]
    exact down other there
  · have own := head.other
    rw [other_other] at own
    rw [own] at there
    rcases head.slots j with same | ⟨-, -, queued, -⟩
    · rw [same, state]
      exact down other there
    · rw [queue_takeBack, if_neg (side_ne _)] at queued
      rw [queue_takeBack, if_pos rfl] at there
      have here := kept _ ((List.mem_cons.mp there).resolve_left other)
      have beside := kept _ queued
      cases side : sideOf l with
      | odd =>
        rw [side] at here beside
        exact absurd beside (apart j here)
      | even =>
        rw [side] at here beside
        exact absurd here (apart j beside)

/-- The slot whose turn is taken back stands at the head of the lane's queue. -/
theorem head_applySnapshot (ended : n.turnEnded = true) :
    (((s.applySnapshot l n).turn (pairOf l)).queue (sideOf l)).head? = some n.slot := by
  rw [turn_applySnapshot]
  rcases turn_replayed_ended (s := s) (l := l) ended with same | ⟨-, runs, head⟩
  · rw [same, queue_takeBack, if_pos rfl]
    rfl
  · have own := head.other
    rw [other_other] at own
    rw [own, queue_takeBack, if_pos rfl]
    rfl

/-- A ball that ended no turn: its slot alone moves. -/
theorem applySnapshot_goesOn (goesOn : n.turnEnded = false) :
    ((s.applySnapshot l n).turn (pairOf l)).queueOdd = (s.turn (pairOf l)).queueOdd ∧
      ((s.applySnapshot l n).turn (pairOf l)).queueEven = (s.turn (pairOf l)).queueEven ∧
      (∀ k, k ≠ l → (s.applySnapshot l n).lane k = s.lane k) ∧
      ∀ j, j ≠ n.slot → (s.applySnapshot l n).slot (pairOf l) j = s.slot (pairOf l) j := by
  rw [turn_applySnapshot, turn_replayed_kept goesOn]
  refine ⟨rfl, rfl, fun k other => ?_, fun j other => ?_⟩
  · rw [laneOther_applySnapshot _ _ _ other, State.replayed, if_neg (by simp [goesOn]), lane_rewound]
  · rw [State.slot, turn_applySnapshot, turn_replayed_kept goesOn, slots_modSlot, if_neg other]
    rfl

/-! ## The request -/

theorem alternateConsole_of_owns (owns : ownsPair q (pairOf l)) :
    s.alternateConsole q = (q.isConsole && (s.turn (pairOf l)).mode == .alternate) := by
  cases q with
  | dk => rfl
  | mc => rfl
  | console w =>
    obtain rfl := owns w rfl
    rfl

theorem exec_reball_console (able : s.canServe q) (owns : ownsPair q (pairOf l)) (console : q.isConsole = true)
    (alternate : (s.turn (pairOf l)).mode = .alternate) :
    exec (.reball q (laneNo l)) s = .next (s.replying q 0x29 .denied []) :=
  exec_refused (i := .reball q (laneNo l)) rfl able.1 rfl (by
    rw [alternateConsole_of_owns owns, console, alternate, beq_self_eq_true, Bool.true_and, Bool.or_true]
    rfl) nofun

theorem allowed_of_mode (owns : ownsPair q (pairOf l)) (mode : q = .dk ∨ (s.turn (pairOf l)).mode = .opened) :
    s.alternateConsole q = false := by
  rw [alternateConsole_of_owns owns]
  rcases mode with rfl | opened
  · rfl
  · rw [opened]
    exact Bool.and_false _

theorem exec_reball_barred (able : s.canServe q) (notMechanic : q ≠ .mc) (owns : ownsPair q (pairOf l))
    (mode : q = .dk ∨ (s.turn (pairOf l)).mode = .opened) (barred : reballBarred (s.lane l).snapshot = true) :
    exec (.reball q (laneNo l)) s = .next (s.replying q 0x29 .state []) :=
  exec_refused (i := .reball q (laneNo l)) rfl able.1 rfl (by
    rw [allowed_of_mode owns mode, outsideLane_of_owns owns, beq_eq_false_iff_ne.mpr notMechanic, inLanes_laneNo, able.2,
      laneIx_laneNo, barred]
    rfl) nofun

theorem exec_reball (able : s.canServe q) (notMechanic : q ≠ .mc) (owns : ownsPair q (pairOf l))
    (mode : q = .dk ∨ (s.turn (pairOf l)).mode = .opened) (there : (s.lane l).snapshot = some n)
    (free : n.gameFinished = false ∧ n.gameStarted = false) :
    exec (.reball q (laneNo l)) s =
      .next (((s.applySnapshot l n).restoreDemand l n.pre).replying q 0x29 .ok []) := by
  have passes : reballBarred (s.lane l).snapshot = false := by rw [there, reballBarred, free.1, free.2]; rfl
  have served := exec_ok (i := .reball q (laneNo l)) (s := s) rfl able.1 rfl (by
    rw [allowed_of_mode owns mode, outsideLane_of_owns owns, beq_eq_false_iff_ne.mpr notMechanic, inLanes_laneNo, able.2,
      laneIx_laneNo, passes]
    rfl)
  have applied : s.reball l = (s.applySnapshot l n).restoreDemand l n.pre := by rw [State.reball, there]
  rwa [laneIx_laneNo, applied] at served

/-- What the reballed pinsetter and the pool of calls show against the state before. -/
theorem sup_reball (s : State) (l : Fin 16) (n : Snapshot) :
    ∃ practice, (n.turnEnded = true → practice = 1) ∧
      ({ (s.lane l).sup with practice := practice } : Supervisor).demanded
        ((((s.applySnapshot l n).restoreDemand l n.pre).lane l).sup) n.pre s.timers.cycle s.now ∧
      ((s.lane l).sup.state = .ready → n.pre ≠ fullRack →
        ((s.applySnapshot l n).restoreDemand l n.pre).pool = (s.raiseCall ⟨laneNo l, .handSet, 2⟩).pool) ∧
      ((s.lane l).sup.state ≠ .ready ∨ n.pre = fullRack →
        ((s.applySnapshot l n).restoreDemand l n.pre).pool = s.pool) := by
  have chip : (s.applySnapshot l n).chip = s.chip := chip_applySnapshot ..
  have demanded := demanded_restoreDemand (s.applySnapshot l n) l n.pre
  obtain ⟨called, quiet⟩ := pool_restoreDemand (s.applySnapshot l n) l n.pre
  rw [timers_of_chip chip, now_of_chip chip, lane_applySnapshot] at demanded
  rw [lane_applySnapshot] at called quiet
  rw [pool_raiseCall_congr (pool_applySnapshot ..) (loading_of_chip chip)] at called
  rw [pool_applySnapshot] at quiet
  exact ⟨_, fun ended => by rw [ended]; rfl, demanded, called, quiet⟩

/-- Settles O47, by the frames that a sheet takes back, and by the snapshot applied and its demand. The statement takes the
ball back from the sheet before the ball; `takeBack_addBall` says the same of the sheet after it. -/
theorem reballTakesTheBallBack : Obligations.ReballTakesTheBallBack := by
  unfold Obligations.ReballTakesTheBallBack
  refine ⟨fun sh a pre after m _ numbered _ ball _ _ =>
      takeBack_self (prior := priorNumbers sh (sh.addBall a.frame pre after m) a.frame) numbered ball rfl rfl
        fun n member => (mem_priorNumbers.mp member).1.1,
    fun l q s able notMechanic owns => ⟨exec_reball_console able owns, fun mode late =>
      exec_reball_barred able notMechanic owns mode ?_, fun n mode there finished started =>
        ⟨_, exec_reball able notMechanic owns mode there ⟨finished, started⟩, ?_⟩⟩⟩
  · cases there : (s.lane l).snapshot with
    | none => rfl
    | some n =>
      rw [reballBarred, Bool.or_eq_true]
      exact late n there
  · obtain ⟨practice, counted, demanded, called, quiet⟩ := sup_reball s l n
    obtain ⟨told, turned⟩ := flagged_applySnapshot s l n
    have lane := lane_applySnapshot s l n
    have slot (j : Fin 12) : (((s.applySnapshot l n).restoreDemand l n.pre).replying q 0x29 .ok []).slot (pairOf l) j =
        (s.applySnapshot l n).slot (pairOf l) j := by rw [State.slot, turn_replying, turn_restoreDemand]; rfl
    have turn : (((s.applySnapshot l n).restoreDemand l n.pre).replying q 0x29 .ok []).turn (pairOf l) =
        (s.applySnapshot l n).turn (pairOf l) := by rw [turn_replying, turn_restoreDemand]
    refine ⟨answers_replying (fun o => (line_restoreDemand ..).trans (line_applySnapshot ..)) _ _ _ _,
      (chip_replying ..).trans ((chip_restoreDemand ..).trans (chip_applySnapshot ..)), ?_, ?_, ?_, ?_,
      flagged_replying (flagged_restoreDemand told l n.pre) _ _ _ _,
      flagged_replying (flagged_restoreDemand turned l n.pre) _ _ _ _, fun w other => ?_, fun k far => ?_, ?_, ?_⟩
    · have own := slot_applySnapshot s l n
      simp only [slot, turn, lane_replying]
      rw [own]
      refine ⟨rfl, rfl, rfl, rfl, rfl, rfl, rfl, fun ended => ⟨by rw [ended]; rfl, head_applySnapshot ended, ?_,
        fun apart j there other => down_applySnapshot ended apart there other⟩, fun goesOn => ?_⟩
      · rw [demanded.practice]
        exact counted ended
      · obtain ⟨odd, even, lanes, slots⟩ := applySnapshot_goesOn (s := s) (l := l) goesOn
        refine ⟨by rw [goesOn]; rfl, odd, even, fun k other => ?_, slots⟩
        have other : k ≠ l := by simpa using other
        rw [lane_replying, laneOther_restoreDemand _ _ _ _ other, lanes k other]
    · rw [lane_replying, snapshot_restoreDemand, lane]
    · rw [lane_replying, record_restoreDemand, lane]
    · rw [lane_replying, meter_restoreDemand, lane]
    · rw [pair_replying, pair_restoreDemand, pairOther_applySnapshot s l n (by simpa using other)]
    · have other : k ≠ l := fun e => far (congrArg pairOf e)
      rw [lane_replying, laneOther_restoreDemand _ _ _ _ other, far_applySnapshot s n far]
    · rw [sameRecords_iff, records_of_directory (directory_replying ..), records_of_directory (directory_restoreDemand ..),
        records_applySnapshot]
    · simp only [lane_replying, pool_replying]
      exact ⟨demanded.delivery, demanded.last, fun waits =>
          ⟨fun full => ⟨(demanded.full waits full).1, (demanded.full waits full).2, quiet (.inr full)⟩, demanded.set waits⟩,
        fun ready part => ⟨demanded.ready ready part, called ready part⟩, fun other => quiet (.inl other), demanded.cycling,
        demanded.warming, demanded.fault, demanded.dark⟩

end Sys2Proof.Machine
end

section
/-! SUPPORT. The checks of a correction, and what it makes of a frame's balls (R108, R122 to R125). -/

namespace Sys2Proof.Machine

variable {balls old new : List BallEntry} {a b c : BallEntry} {n k : Nat} {proposed : PinSet} {tenth : Bool}

/-! ## The balls corrected (R108 steps 1 and 2) -/

theorem correctedBalls_eq (numbered : 1 ≤ n) (there : balls[n - 1]? = some b) (proposed : PinSet) :
    correctedBalls balls n proposed =
      balls.take (n - 1) ++ { b with after := proposed }.recount :: (balls.drop n).map (BallEntry.standOn proposed) := by
  obtain ⟨bound, got⟩ := List.getElem?_eq_some_iff.mp there
  rw [correctedBalls, List.drop_eq_getElem_cons bound, correctBalls, got, Nat.sub_add_cancel numbered]

theorem length_correctBalls (proposed : PinSet) (balls : List BallEntry) :
    (correctBalls proposed balls).length = balls.length := by
  cases balls with
  | nil => rfl
  | cons b later => rw [correctBalls, List.length_cons, List.length_map, List.length_cons]

theorem length_correctedBalls (balls : List BallEntry) (n : Nat) (proposed : PinSet) :
    (correctedBalls balls n proposed).length = balls.length := by
  rw [correctedBalls, List.length_append, length_correctBalls, List.length_take, List.length_drop]
  omega

theorem getElem_correctedBalls_before (balls : List BallEntry) (proposed : PinSet) (earlier : k + 1 < n) :
    (correctedBalls balls n proposed)[k]? = balls[k]? := by
  by_cases bound : k < balls.length
  · rw [correctedBalls, List.getElem?_append_left (by rw [List.length_take]; omega), List.getElem?_take_of_lt (by omega)]
  · rw [List.getElem?_eq_none (by rw [length_correctedBalls]; omega), List.getElem?_eq_none (by omega)]

theorem getElem_correctedBalls_own (numbered : 1 ≤ n) (there : balls[n - 1]? = some b) (proposed : PinSet) :
    (correctedBalls balls n proposed)[n - 1]? = some { b with after := proposed }.recount := by
  have front : (balls.take (n - 1)).length = n - 1 := by
    obtain ⟨bound, -⟩ := List.getElem?_eq_some_iff.mp there
    rw [List.length_take]
    omega
  rw [correctedBalls_eq numbered there, List.getElem?_append_right (by omega), front, Nat.sub_self]
  rfl

theorem getElem_correctedBalls_after (numbered : 1 ≤ n) (there : balls[n - 1]? = some b) (later : n ≤ k)
    (ball : balls[k]? = some c) : (correctedBalls balls n proposed)[k]? = some (c.standOn proposed) := by
  have front : (balls.take (n - 1)).length = n - 1 := by
    obtain ⟨bound, -⟩ := List.getElem?_eq_some_iff.mp there
    rw [List.length_take]
    omega
  have place : k - (n - 1) = (k - n) + 1 := by omega
  rw [correctedBalls_eq numbered there, List.getElem?_append_right (by omega), front, place, List.getElem?_cons_succ,
    List.getElem?_map, List.getElem?_drop, Nat.add_sub_cancel' later, ball]
  rfl

/-! ## The shape of a frame (R123) -/

/-- The ball of a place is a strike of its frame. -/
def strikesAt (balls : List BallEntry) (k : Nat) : Prop := ∃ x, balls[k]? = some x ∧ x.rack = .fresh ∧ x.down = 10

/-- Balls 1 and 2 make ten together. -/
def makesTen (balls : List BallEntry) : Prop :=
  ∃ x, balls[0]? = some x ∧ ∃ y, balls[1]? = some y ∧ x.down + y.down = 10

/-- What a correction may not change is changed. -/
def shapeChanges (tenth : Bool) (new balls : List BallEntry) : Prop :=
  ¬ (strikesAt new 0 ↔ strikesAt balls 0) ∨
    tenth = true ∧ strikesAt balls 0 ∧ ¬ (strikesAt new 1 ↔ strikesAt balls 1) ∨
    tenth = true ∧ ¬ strikesAt balls 0 ∧ ¬ (makesTen new ↔ makesTen balls)

theorem strikeAt_iff (balls : List BallEntry) (n : Nat) : strikeAt balls n = true ↔ strikesAt balls (n - 1) := by
  unfold strikeAt strikesAt
  cases balls[n - 1]? with
  | none => simp
  | some x => simp [isStrike_iff]

/-- Balls 1 and 2 make ten together, as the model computes it. -/
def sumsTen (balls : List BallEntry) : Bool :=
  match balls with
  | a :: b :: _ => a.down + b.down == 10
  | _ => false

theorem sumsTen_iff (balls : List BallEntry) : sumsTen balls = true ↔ makesTen balls := by
  unfold sumsTen makesTen
  match balls with
  | [] => simp
  | [_] => simp
  | a :: b :: _ => simp

theorem shapeOf_eq (tenth : Bool) (balls : List BallEntry) :
    shapeOf tenth balls =
      (strikeAt balls 1, tenth && (if strikeAt balls 1 then strikeAt balls 2 else sumsTen balls)) := rfl

theorem shapeOf_ne_iff : (shapeOf tenth new != shapeOf tenth balls) = true ↔ shapeChanges tenth new balls := by
  have first (list : List BallEntry) : strikesAt list 0 ↔ strikeAt list 1 = true := (strikeAt_iff list 1).symm
  have second (list : List BallEntry) : strikesAt list 1 ↔ strikeAt list 2 = true := (strikeAt_iff list 2).symm
  rw [bne_iff_ne, Ne, shapeOf_eq, shapeOf_eq, Prod.mk.injEq, shapeChanges]
  simp only [first, second, ← sumsTen_iff, Bool.coe_iff_coe]
  cases tenth with
  | false => simp
  | true =>
    cases strikeAt balls 1 with
    | true => cases strikeAt new 1 <;> simp
    | false => cases strikeAt new 1 <;> simp

theorem overRack_iff (balls : List BallEntry) : overRack balls = true ↔
    ∃ k, k + 1 < balls.length ∧ ∃ x, balls[k]? = some x ∧ ∃ y, balls[k + 1]? = some y ∧
      y.rack = .standing ∧ 10 < x.down + y.down := by
  induction balls with
  | nil => simp [overRack]
  | cons a rest ih =>
    cases rest with
    | nil => simp [overRack]
    | cons b rest =>
      rw [overRack, Bool.or_eq_true, ih, Bool.and_eq_true, beq_iff_eq, decide_eq_true_eq]
      constructor
      · rintro (⟨standing, many⟩ | ⟨k, bound, pair⟩)
        · exact ⟨0, by simp, a, rfl, b, rfl, standing, many⟩
        · exact ⟨k + 1, Nat.succ_lt_succ bound, pair⟩
      · rintro ⟨k, bound, x, first, y, second, standing, many⟩
        cases k with
        | zero =>
          obtain rfl : a = x := Option.some.inj first
          obtain rfl : b = y := Option.some.inj second
          exact .inl ⟨standing, many⟩
        | succ k => exact .inr ⟨k, Nat.lt_of_succ_lt_succ bound, x, first, y, second, standing, many⟩

/-! ## The checks in their order (R122 to R124) -/

theorem pinsWithin_masked {a b : PinSet} : pinsWithin a b = true ↔ a &&& ~~~b = 0 := beq_iff_eq

/-- A later ball at rack STANDING left a pin outside the proposed set. -/
def conflictsWith (balls : List BallEntry) (n : Nat) (proposed : PinSet) : Prop :=
  ∃ k, n ≤ k ∧ k < balls.length ∧ ∃ c, balls[k]? = some c ∧ c.rack = .standing ∧ c.after &&& ~~~proposed ≠ 0

theorem conflicts_iff : ((balls.drop n).any fun c => c.rack == .standing && !pinsWithin c.after proposed) = true ↔
    conflictsWith balls n proposed := by
  rw [List.any_eq_true]
  constructor
  · rintro ⟨c, member, clash⟩
    obtain ⟨j, placed⟩ := List.getElem?_of_mem member
    rw [List.getElem?_drop] at placed
    obtain ⟨bound, -⟩ := List.getElem?_eq_some_iff.mp placed
    rw [Bool.and_eq_true, beq_iff_eq, Bool.not_eq_true', ← Bool.not_eq_true, pinsWithin_masked] at clash
    exact ⟨n + j, Nat.le_add_right .., bound, c, placed, clash⟩
  · rintro ⟨k, later, bound, c, placed, standing, out⟩
    refine ⟨c, ?_, ?_⟩
    · refine List.mem_of_getElem? (i := k - n) ?_
      rwa [List.getElem?_drop, Nat.add_sub_cancel' later]
    · rw [Bool.and_eq_true, beq_iff_eq, Bool.not_eq_true', ← Bool.not_eq_true, pinsWithin_masked]
      exact ⟨standing, out⟩

theorem correctionRefusal_beyond (beyond : balls.length < n) (tenth : Bool) (proposed : PinSet) :
    correctionRefusal tenth balls n proposed = some .notFound := by
  rw [correctionRefusal, List.drop_eq_nil_of_le (by omega)]

/-- The checks of a ball that is bowled. -/
theorem correctionRefusal_eq (numbered : 1 ≤ n) (there : balls[n - 1]? = some b) (tenth : Bool) (proposed : PinSet) :
    correctionRefusal tenth balls n proposed =
      if !pinsWithin proposed b.pre then some .notSubset
      else if shapeOf tenth (correctedBalls balls n proposed) != shapeOf tenth balls ||
          overRack (correctedBalls balls n proposed) then some .shape
      else if (balls.drop n).any fun c => c.rack == .standing && !pinsWithin c.after proposed then some .conflict
      else none := by
  obtain ⟨bound, got⟩ := List.getElem?_eq_some_iff.mp there
  rw [correctionRefusal, List.drop_eq_getElem_cons bound, got, Nat.sub_add_cancel numbered]

theorem correctionRefusal_cases (numbered : 1 ≤ n) (there : balls[n - 1]? = some b) (tenth : Bool) (proposed : PinSet) :
    let many := overRack (correctedBalls balls n proposed) = true
    let changed := shapeChanges tenth (correctedBalls balls n proposed) balls
    (proposed &&& ~~~b.pre ≠ 0 → correctionRefusal tenth balls n proposed = some .notSubset) ∧
    (proposed &&& ~~~b.pre = 0 →
      (changed ∨ many → correctionRefusal tenth balls n proposed = some .shape) ∧
      (¬ changed → ¬ many → conflictsWith balls n proposed → correctionRefusal tenth balls n proposed = some .conflict) ∧
      (¬ changed → ¬ many → ¬ conflictsWith balls n proposed → correctionRefusal tenth balls n proposed = none)) := by
  rw [correctionRefusal_eq numbered there]
  simp only [← shapeOf_ne_iff, ← conflicts_iff, ← Bool.or_eq_true]
  refine ⟨fun out => ?_, fun within => ?_⟩
  · rw [if_pos (by simpa [← Bool.not_eq_true, pinsWithin_masked] using out)]
  · rw [if_neg (by simpa [pinsWithin_masked] using within)]
    refine ⟨fun shape => if_pos shape, fun same few => ?_, fun same few => ?_⟩
    · rw [if_neg (by simp [same, few])]
      exact fun clash => if_pos clash
    · rw [if_neg (by simp [same, few])]
      exact fun free => if_neg free

/-! ## The entries marked (R108, R125) -/

theorem length_markCorrected (n : Nat) (old new : List BallEntry) : (markCorrected n old new).length = new.length := by
  rw [markCorrected, List.length_map, List.length_range]

theorem getElem_markCorrected (was : old[k]? = some a) (now : new[k]? = some b) (n : Nat) :
    (markCorrected n old new)[k]? = some
      { b with
        corrected := b.corrected || decide (k + 1 = n)
        split := if a.pre = b.pre ∧ a.after = b.after then b.split else isSplit b.foul b.pre b.after } := by
  obtain ⟨bound, -⟩ := List.getElem?_eq_some_iff.mp now
  rw [markCorrected, List.getElem?_map, List.getElem?_range bound, Option.map_some, List.getD_eq_getElem?_getD, now,
    Option.getD_some, was]
  dsimp only
  refine congrArg some ?_
  by_cases own : k + 1 = n
  · rw [if_pos own, decide_eq_true own, Bool.or_true]
    split <;> rfl
  · rw [if_neg own, decide_eq_false own, Bool.or_false]
    split <;> rfl

end Sys2Proof.Machine
end

section
/-! SUPPORT. The game that a correction names, and a correction applied (R109, R120, R122, R125, R126). -/

namespace Sys2Proof.Machine

variable {s t : State} {x : Slot} {c : Correction} {g : NamedGame} {l k : Fin 16} {i j : Fin 12} {n : Fin 64} {p : Fin 8}

/-! ## The game found -/

theorem namedGame_current {sh : Sheet} (stands : x.state ≠ .empty) (sheet : x.sheet = some sh) {game : Nat}
    (named : game = 0 ∨ game = sh.game) : x.namedGame game = some (.current sh) := by
  have named : game = 0 ∨ sh.game = game := named.imp_right Eq.symm
  rw [Slot.namedGame, if_neg stands, sheet]
  exact if_pos named

/-- A game that is not the current one is sought among the retained records. -/
theorem namedGame_retained {game : Nat} (stands : x.state ≠ .empty) (numbered : game ≠ 0)
    (other : ∀ sh, x.sheet = some sh → sh.game ≠ game) : x.namedGame game = x.retainedGame game := by
  rw [Slot.namedGame, if_neg stands]
  split
  next sh sheet => exact if_neg fun named => named.elim numbered (other sh sheet)
  next => exact if_neg numbered

theorem retainedGame_none {game : Nat} (absent : ∀ r ∈ x.retained, r.game ≠ game) : x.retainedGame game = none := by
  have missing : x.retained.findIdx? (·.game == game) = none :=
    List.findIdx?_eq_none_iff.mpr fun r member => by simp [absent r member]
  rw [Slot.retainedGame, missing]
  rfl

theorem retainedGame_first {game m : Nat} {r : GameRecord} (placed : x.retained[m]? = some r) (own : r.game = game)
    (first : ∀ y ∈ x.retained.take m, y.game ≠ game) : x.retainedGame game = some (.retained m r) := by
  obtain ⟨bound, got⟩ := List.getElem?_eq_some_iff.mp placed
  have found : x.retained.findIdx? (·.game == game) = some m := by
    rw [List.findIdx?_eq_some_iff_getElem]
    refine ⟨bound, by rw [got, own]; exact beq_self_eq_true _, fun j earlier => ?_⟩
    have member : x.retained[j] ∈ x.retained.take m := List.mem_take_iff_getElem.mpr ⟨j, by omega, rfl⟩
    simpa using first _ member
  rw [Slot.retainedGame, found, Option.bind_some, placed]
  rfl

theorem namedGame_none {game : Nat} (unsheeted : game = 0 → x.sheet = none)
    (absent : game ≠ 0 → (∀ sh, x.sheet = some sh → sh.game ≠ game) ∧ ∀ r ∈ x.retained, r.game ≠ game) :
    x.namedGame game = none := by
  by_cases empty : x.state = .empty
  · rw [Slot.namedGame, if_pos empty]
  · by_cases current : game = 0
    · rw [Slot.namedGame, if_neg empty, unsheeted current]
      exact if_pos current
    · rw [namedGame_retained empty current (absent current).1, retainedGame_none (absent current).2]

/-! ## The checks in their order (R122) -/

theorem checkCorrection_none (absent : x.namedGame c.game = none) : x.checkCorrection c = .error .notFound := by
  rw [Slot.checkCorrection, absent]

theorem checkCorrection_out (out : c.frame = 0 ∨ 10 < c.frame ∨ c.ball = 0 ∨ 3 < c.ball) :
    x.checkCorrection c = .error .notFound := by
  have fails : (!within 1 10 c.frame || !within 1 3 c.ball) = true := by
    rw [Bool.or_eq_true, Bool.not_eq_true', Bool.not_eq_true', within_eq_false, within_eq_false]
    omega
  rw [Slot.checkCorrection]
  split
  · rfl
  · rw [if_pos fails]

/-- The checks of a ball of a game that is found. -/
theorem checkCorrection_found (found : x.namedGame c.game = some g) (low : 1 ≤ c.frame) (high : c.frame ≤ 10)
    (first : 1 ≤ c.ball) (last : c.ball ≤ 3) :
    (∀ why, correctionRefusal (c.frame == 10) (frameAt g.frames c.frame).balls c.ball c.proposed = some why →
        x.checkCorrection c = .error why) ∧
      (correctionRefusal (c.frame == 10) (frameAt g.frames c.frame).balls c.ball c.proposed = none →
        x.checkCorrection c = .ok g) := by
  have passes : (!within 1 10 c.frame || !within 1 3 c.ball) = false := by
    rw [within_eq_true.mpr ⟨low, high⟩, within_eq_true.mpr ⟨first, last⟩]
    rfl
  have numbered : ¬ (!within 1 10 c.frame || !within 1 3 c.ball) = true := by rw [passes]; nofun
  rw [Slot.checkCorrection, found]
  dsimp only
  rw [if_neg numbered]
  exact ⟨fun why refused => by rw [refused], fun passes => by rw [passes]⟩

/-! ## The game corrected -/

theorem correct_retained {m : Nat} {r : GameRecord} (placed : x.retained[m]? = some r) :
    x.correct c (.retained m r) =
      { x with retained := x.retained.set m (r.correct c.frame c.ball c.proposed) } := by
  have written : x.retained.modify m (fun r => r.correct c.frame c.ball c.proposed) =
      x.retained.set m (r.correct c.frame c.ball c.proposed) := by
    rw [List.modify_eq_set_getElem?, placed]
    rfl
  rw [Slot.correct, written]

theorem scratch_eq (frames : List FrameRec) :
    (frameAt frames 10).cumulative.getD 0 = ((frames[9]?).bind FrameRec.cumulative).getD 0 := by
  rw [frameAt, List.getD_eq_getElem?_getD]
  cases frames[10 - 1]? <;> rfl

theorem state_correct (x : Slot) (c : Correction) (g : NamedGame) : (x.correct c g).state = x.state := by cases g <;> rfl

/-! ## A correction applied (R126) -/

/-- The game corrected, with the slot's snapshots dropped, before a demand for the pins. -/
def State.corrected (s : State) (c : Correction) (g : NamedGame) : State :=
  ((s.updSlot c.pair c.slot fun x => x.correct c g).dropSnapshotsOf c.pair c.slot).flagConsole c.pair .frameChanged

theorem applyCorrected_eq (s : State) (c : Correction) (g : NamedGame) :
    s.applyCorrected c g =
      match (s.slot c.pair c.slot).pinsChange c g, (s.corrected c g).laneOfUp c.pair c.slot with
      | true, some l => (s.corrected c g).restoreDemand l c.proposed
      | _, _ => s.corrected c g := rfl

/-- What is true of the corrected state, with or without a demand for the pins. -/
theorem applyCorrected_elim {motive : State → Prop} (stays : motive (s.corrected c g))
    (demands : ∀ l, motive ((s.corrected c g).restoreDemand l c.proposed)) : motive (s.applyCorrected c g) := by
  rw [applyCorrected_eq]
  split
  · exact demands _
  · exact stays

theorem applyCorrected_still (still : (s.slot c.pair c.slot).pinsChange c g = false) :
    s.applyCorrected c g = s.corrected c g := by
  rw [applyCorrected_eq, still]

theorem applyCorrected_demands (changes : (s.slot c.pair c.slot).pinsChange c g = true)
    (up : (s.corrected c g).laneOfUp c.pair c.slot = some l) :
    s.applyCorrected c g = (s.corrected c g).restoreDemand l c.proposed := by
  rw [applyCorrected_eq, changes, up]

theorem turn_corrected (s : State) (c : Correction) (g : NamedGame) :
    (s.corrected c g).turn c.pair = (s.turn c.pair).modSlot c.slot fun x => x.correct c g := by
  rw [State.corrected, turn_flagConsole, turn_dropSnapshotsOf, turn_updSlot]

theorem lane_corrected (s : State) (c : Correction) (g : NamedGame) (k : Fin 16) :
    (s.corrected c g).lane k =
      if pairOf k = c.pair ∧ (s.lane k).snapshot.any (·.slot == c.slot) = true then { s.lane k with snapshot := none }
      else s.lane k := by
  rw [State.corrected, lane_flagConsole, lane_dropSnapshotsOf, lane_updSlot]

theorem pool_corrected (s : State) (c : Correction) (g : NamedGame) : (s.corrected c g).pool = s.pool := by
  simp [State.corrected]

theorem chip_corrected (s : State) (c : Correction) (g : NamedGame) : (s.corrected c g).chip = s.chip := by
  simp [State.corrected]

theorem flagged_corrected (s : State) (c : Correction) (g : NamedGame) :
    (s.corrected c g).flagged (.console c.pair) 1 := flagged_setEvent_same _ (.console c.pair) 1

theorem pairOther_corrected (s : State) (c : Correction) (g : NamedGame) {w : Fin 8} (other : w ≠ c.pair) :
    (s.corrected c g).pair w = s.pair w := by
  simp [State.corrected, other]

/-- A correction moves no slot up or down. -/
theorem upSlot_corrected (here : pairOf k = c.pair) : (s.corrected c g).upSlot k = s.upSlot k := by
  have state (j : Fin 12) : ((s.turn c.pair).modSlot c.slot fun x => x.correct c g).slots[j].state =
      (s.turn c.pair).slots[j].state := by
    rw [slots_modSlot]
    split
    · exact state_correct ..
    · rfl
  rw [State.upSlot, State.upSlot, here, turn_corrected, TurnUnit.upSlot, TurnUnit.upSlot, queue_modSlot]
  split
  · rfl
  · rw [state]

theorem laneOfUp_corrected (here : pairOf k = c.pair) (up : s.upSlot k = some c.slot)
    (alone : s.upSlot (otherLane k) ≠ some c.slot) : (s.corrected c g).laneOfUp c.pair c.slot = some k := by
  have same (j : Fin 16) (own : pairOf j = c.pair) : (s.corrected c g).upSlot j = s.upSlot j := upSlot_corrected own
  rw [State.laneOfUp]
  rcases (pairOf_eq_iff k c.pair).mp here with odd | even
  · rw [List.find?_cons_of_pos (by rw [← odd, same k here, up]; exact beq_self_eq_true _), odd]
  · have beside : laneAt c.pair .odd = otherLane k := by
      rw [otherLane, here, even, sideOf_laneAt]
      rfl
    rw [List.find?_cons_of_neg (by rw [beside, same _ ((pairOf_otherLane k).trans here)]; simpa using alone),
      List.find?_cons_of_pos (by rw [← even, same k here, up]; exact beq_self_eq_true _), even]

/-! ## The slip -/

/-- A call takes no slip but the head of the reserve free list. -/
theorem slip_raiseCall (out : n ∉ s.pool.reserveFree) (call : Call) : (s.raiseCall call).slip n = s.slip n := by
  unfold State.raiseCall
  split
  · rfl
  · split
    next m rest free =>
      have other : n ≠ m := fun same => out (by rw [free, same]; exact List.mem_cons_self)
      have apart : (m : Nat) ≠ n := fun same => other (Fin.ext same.symm)
      simp [State.slip, SlipPool.postCall, SlipPool.post, SlipPool.modSlip, apart]
    · unfold State.backlogCall
      split
      · rfl
      · split
        · rfl
        · rfl

theorem slip_of_pool (pool : t.pool = s.pool) (n : Fin 64) : t.slip n = s.slip n := by rw [State.slip, pool]; rfl

theorem slip_applyCorrected (out : n ∉ s.pool.reserveFree) (c : Correction) (g : NamedGame) :
    (s.applyCorrected c g).slip n = s.slip n := by
  have corrected : (s.corrected c g).slip n = s.slip n := slip_of_pool (pool_corrected ..) n
  refine applyCorrected_elim (motive := fun t => t.slip n = s.slip n) corrected fun l => ?_
  obtain ⟨called, quiet⟩ := pool_restoreDemand (s.corrected c g) l c.proposed
  by_cases calls : ((s.corrected c g).lane l).sup.state = .ready ∧ c.proposed ≠ fullRack
  · rw [slip_of_pool (called calls.1 calls.2), slip_raiseCall (by rwa [pool_corrected]), corrected]
  · rw [slip_of_pool (quiet ((not_and_or.mp calls).imp_right not_not.mp)), corrected]

end Sys2Proof.Machine
end

section
/-! PROOFS. APPLY CORRECTION (R121 to R126). -/

namespace Sys2Proof.Machine

variable {s : State} {l k : Fin 16} {i : Fin 12} {n : Fin 64} {game frame ball : Nat} {proposed : PinSet} {g : NamedGame}

/-! ## The request -/

/-- A slip that holds a correction of a lane's pair, and has no outcome. -/
structure State.asksCorrection (s : State) (n : Fin 64) (l : Fin 16) (i : Fin 12) (game frame ball : Nat)
    (proposed : PinSet) : Prop where
  held : (s.slip n).state = .held .dk
  body : (s.slip n).body = some (.correction (slotNo i) game frame ball proposed)
  outcome : (s.slip n).outcome = .none
  lane : (s.slip n).lane = laneNo l

section
variable (able : s.canServe .dk) (asks : s.asksCorrection n l i game frame ball proposed)
include asks

theorem correction_eq : (s.slip n).correction = some ⟨pairOf l, i, game, frame, ball, proposed⟩ := by
  have numbered : laneNo l ≠ 0 := Nat.succ_ne_zero _
  rw [Slip.correction, asks.body]
  dsimp only
  rw [asks.lane, if_neg numbered, laneIx_laneNo, slotIx_slotNo]

theorem correctionInFlight_eq : s.correctionInFlight (s.slip n) = (s.slot (pairOf l) i).inFlight := by
  rw [State.correctionInFlight, correction_eq asks]
  rfl

theorem applyCorrection_eq : s.applyCorrection n =
    ⟨(s.decideCorrection n ⟨pairOf l, i, game, frame, ball, proposed⟩).1, .ok,
      (s.decideCorrection n ⟨pairOf l, i, game, frame, ball, proposed⟩).2.bytes⟩ := by
  rw [State.applyCorrection, correction_eq asks]

theorem isCorrection_eq : (s.slip n).isCorrection = true := by rw [Slip.isCorrection, asks.body]

include able

/-- The first checks of APPLY CORRECTION pass. -/
theorem firstRefusal_applyCorrection :
    firstRefusal
      [(Port.dk != .dk, ReplyOutcome.denied), (!inSlips (slipNo n), .range), (s.loading, .busy),
        ((s.slip (slipIx (slipNo n))).state != .held .dk, .state), (!(s.slip (slipIx (slipNo n))).isCorrection, .state),
        ((s.slip (slipIx (slipNo n))).outcome != .none, .state), ((s.slip (slipIx (slipNo n))).lane == 0, .state),
        (s.correctionInFlight (s.slip (slipIx (slipNo n))), .state)] =
      if (s.slot (pairOf l) i).inFlight then some .state else none := by
  have numbered : (laneNo l == 0) = false := beq_eq_false_iff_ne.mpr (Nat.succ_ne_zero _)
  rw [slipIx_slipNo, inSlips_slipNo, able.2, isCorrection_eq asks, correctionInFlight_eq asks, asks.held, asks.outcome,
    asks.lane, numbered]
  simp [firstRefusal_cons, firstRefusal]

theorem exec_applyCorrection_flight (flies : (s.slot (pairOf l) i).inFlight = true) :
    exec (.applyCorrection .dk (slipNo n)) s = .next (s.replying .dk 0x2A .state []) :=
  exec_refused (i := .applyCorrection .dk (slipNo n)) rfl able.1 rfl
    ((firstRefusal_applyCorrection able asks).trans (if_pos flies)) nofun

theorem exec_applyCorrection (landed : (s.slot (pairOf l) i).inFlight = false) :
    exec (.applyCorrection .dk (slipNo n)) s =
      .next ((s.decideCorrection n ⟨pairOf l, i, game, frame, ball, proposed⟩).1.replying .dk 0x2A .ok
        (s.decideCorrection n ⟨pairOf l, i, game, frame, ball, proposed⟩).2.bytes) := by
  have taken := exec_accepted (i := .applyCorrection .dk (slipNo n)) (s := s) rfl able.1 rfl
    ((firstRefusal_applyCorrection able asks).trans (if_neg (by simp [landed]))) (by
      rw [slipIx_slipNo, applyCorrection_eq asks]
      nofun)
  rw [slipIx_slipNo, applyCorrection_eq asks] at taken
  exact taken

end

/-! ## A correction that passes -/

/-- The state after a correction that passes, before its reply. -/
def State.correctionTaken (s : State) (n : Fin 64) (c : Correction) (g : NamedGame) : State :=
  (s.applyCorrected c g).writeOutcome n .applied

variable {c : Correction}

theorem turn_applyCorrected (s : State) (c : Correction) (g : NamedGame) :
    (s.applyCorrected c g).turn c.pair = (s.turn c.pair).modSlot c.slot fun x => x.correct c g :=
  applyCorrected_elim (motive := fun t => t.turn c.pair = (s.turn c.pair).modSlot c.slot fun x => x.correct c g)
    (turn_corrected ..) fun _ => (turn_restoreDemand ..).trans (turn_corrected ..)

theorem pairOther_applyCorrected (s : State) (c : Correction) (g : NamedGame) {w : Fin 8} (other : w ≠ c.pair) :
    (s.applyCorrected c g).pair w = s.pair w :=
  applyCorrected_elim (motive := fun t => t.pair w = s.pair w) (pairOther_corrected s c g other) fun _ =>
    (pair_restoreDemand ..).trans (pairOther_corrected s c g other)

theorem flagged_applyCorrected (s : State) (c : Correction) (g : NamedGame) :
    (s.applyCorrected c g).flagged (.console c.pair) 1 :=
  applyCorrected_elim (motive := fun t => t.flagged (.console c.pair) 1) (flagged_corrected ..) fun l =>
    flagged_restoreDemand (flagged_corrected s c g) l _

theorem snapshot_applyCorrected {m : Snapshot} (here : pairOf k = c.pair) (there : (s.lane k).snapshot = some m)
    (named : m.slot = c.slot) : ((s.applyCorrected c g).lane k).snapshot = none := by
  have dropped : ((s.corrected c g).lane k).snapshot = none := by
    rw [lane_corrected, if_pos ⟨here, by rw [there, Option.any_some, named]; exact beq_self_eq_true _⟩]
  exact applyCorrected_elim (motive := fun t => (t.lane k).snapshot = none) dropped fun _ =>
    (snapshot_restoreDemand ..).trans dropped

theorem lane_correctionTaken (s : State) (n : Fin 64) (c : Correction) (g : NamedGame) (k : Fin 16) :
    (s.correctionTaken n c g).lane k = (s.applyCorrected c g).lane k := lane_writeOutcome ..

theorem slip_correctionTaken (out : n ∉ s.pool.reserveFree) (c : Correction) (g : NamedGame) :
    (s.correctionTaken n c g).slip n = { s.slip n with outcome := .applied } := by
  have written : (s.correctionTaken n c g).slip n = { (s.applyCorrected c g).slip n with outcome := .applied } := by
    simp [State.correctionTaken, State.writeOutcome, State.slip, SlipPool.modSlip]
  rw [written, slip_applyCorrected out]

/-- A correction that changes no pins in front of the bowler: the snapshots of the slot alone are dropped. -/
theorem correctionTaken_still (still : (s.slot c.pair c.slot).pinsChange c g = false) :
    (∀ k, s.sameLaneButSnapshot (s.correctionTaken n c g) k) ∧
      (s.correctionTaken n c g).pool = s.pool.modSlip n fun y => { y with outcome := .applied } := by
  refine ⟨fun k => ?_, ?_⟩
  · rw [sameLaneButSnapshot_iff, lane_correctionTaken, applyCorrected_still still, lane_corrected]
    split <;> rfl
  · rw [State.correctionTaken, State.writeOutcome, pool_modPool, applyCorrected_still still, pool_corrected]

/-- A correction that changes the pins in front of the bowler, on a lane that is READY. -/
theorem correctionTaken_demands (changes : (s.slot c.pair c.slot).pinsChange c g = true) (here : pairOf k = c.pair)
    (up : s.upSlot k = some c.slot) (alone : s.upSlot (otherLane k) ≠ some c.slot) (ready : (s.lane k).sup.state = .ready) :
    (c.proposed ≠ fullRack →
      ((s.correctionTaken n c g).lane k).sup.state = .handSet ∧
        ((s.correctionTaken n c g).lane k).sup.handSet = some ⟨c.proposed, s.now⟩ ∧
        ((s.correctionTaken n c g).lane k).sup.standing = none) ∧
    (c.proposed = fullRack →
      ((s.correctionTaken n c g).lane k).sup.state = .cycling ∧
        ((s.correctionTaken n c g).lane k).sup.cycle = some (newCycle .final .reball s.timers.cycle none)) := by
  have chip : (s.corrected c g).chip = s.chip := chip_corrected ..
  have stays : ((s.corrected c g).lane k).sup.state = .ready := by
    rw [lane_corrected]
    split <;> exact ready
  have demanded := demanded_restoreDemand (s.corrected c g) k c.proposed
  rw [timers_of_chip chip, now_of_chip chip] at demanded
  rw [lane_correctionTaken, applyCorrected_demands changes (laneOfUp_corrected here up alone)]
  refine ⟨fun part => ?_, fun full => demanded.full (.inl stays) full⟩
  obtain ⟨state, set⟩ := demanded.set (.inl stays) part
  exact ⟨state, set, demanded.ready stays part⟩

/-- Settles O48, by the checks in their order, by the entries that a correction rewrites, and by the demand for pins that
follows it. -/
theorem applyCorrectionDecides : Obligations.ApplyCorrectionDecides := by
  unfold Obligations.ApplyCorrectionDecides
  refine ⟨fun tenth balls n proposed => ⟨fun beyond => correctionRefusal_beyond beyond tenth proposed,
      fun b numbered there => ⟨?_, length_correctedBalls balls n proposed, fun k earlier =>
        getElem_correctedBalls_before balls proposed earlier, getElem_correctedBalls_own numbered there proposed,
        fun k c later placed => getElem_correctedBalls_after numbered there later placed⟩⟩,
    fun x c => ⟨fun empty => ?_, fun unsheeted absent => checkCorrection_none (namedGame_none unsheeted absent),
      checkCorrection_out, fun stands low high first last => ⟨fun sh sheet named =>
        checkCorrection_found (namedGame_current stands sheet named) low high first last,
        fun k r placed own earlier other numbered => checkCorrection_found
          ((namedGame_retained stands numbered other).trans (retainedGame_first placed own earlier)) low high first last⟩⟩,
    fun x c => ⟨fun sh => ⟨?_, rfl⟩, fun k r => ⟨rfl, fun placed => ?_⟩⟩,
    fun frames frame ball proposed => ⟨rfl, fun balls numbered bound =>
      ⟨(length_markCorrected ..).trans (length_correctedBalls ..), fun k a b was now => getElem_markCorrected was now ball⟩⟩,
    fun n l i game frame ball proposed s able held body outcome lane out => ?_⟩
  · have many := overRack_iff (correctedBalls balls n proposed)
    have decides := correctionRefusal_cases numbered there tenth proposed
    simp only [many] at decides
    exact decides
  · exact checkCorrection_none (by rw [Slot.namedGame, if_pos empty])
  · simp [Slot.pinsChange, and_assoc]
  · rw [correct_retained placed, GameRecord.correct, scratch_eq]
  · have asks : s.asksCorrection n l i game frame ball proposed := ⟨held, body, outcome, lane⟩
    refine ⟨exec_applyCorrection_flight able asks, fun why landed refused => ?_, fun g landed passes => ?_⟩
    · rw [exec_applyCorrection able asks landed, State.decideCorrection]
      dsimp only
      rw [refused]
      rfl
    · generalize named : (⟨pairOf l, i, game, frame, ball, proposed⟩ : Correction) = c at *
      have pair : c.pair = pairOf l := by rw [← named]
      have slot : c.slot = i := by rw [← named]
      have set : c.proposed = proposed := by rw [← named]
      subst slot set
      have decided : s.decideCorrection n c = (s.correctionTaken n c g, .applied) := by
        rw [State.decideCorrection, pair, passes]
        rfl
      have served := exec_applyCorrection able asks landed
      rw [named, decided] at served
      have turn : ((s.correctionTaken n c g).replying .dk 0x2A .ok (SlipOutcome.bytes .applied)).turn (pairOf l) =
          (s.turn (pairOf l)).modSlot c.slot fun x => x.correct c g := by
        rw [turn_replying, State.correctionTaken, turn_writeOutcome, ← pair, turn_applyCorrected]
      refine ⟨_, served, answers_replying (fun o => (line_writeOutcome ..).trans (line_applyCorrected ..)) _ _ _ _,
        (chip_replying ..).trans ((chip_writeOutcome ..).trans (chip_applyCorrected ..)), slip_correctionTaken out c g, ?_,
        turn.trans (modSlot_congr rfl), fun w => ?_, fun w other => ?_, ?_, ?_, fun k m here there own => ?_, fun k => ⟨?_, ?_⟩,
        fun still => ?_, fun k changes here up alone ready => ?_⟩
      · rw [State.slot, turn, slots_modSlot, if_pos rfl]
        rfl
      · rw [ret_replying, State.correctionTaken, ret_writeOutcome, ret_applyCorrected]
      · have other : w ≠ c.pair := by simpa [pair] using other
        rw [pair_replying, State.correctionTaken, pair_writeOutcome, pairOther_applyCorrected _ _ _ other]
      · rw [directory_replying, State.correctionTaken, directory_writeOutcome, directory_applyCorrected]
      · rw [← pair]
        exact flagged_replying (flagged_applyCorrected s c g) _ _ _ _
      · rw [lane_replying, lane_correctionTaken]
        exact snapshot_applyCorrected (here.trans pair.symm) there own
      · rw [lane_replying, lane_correctionTaken, record_applyCorrected]
      · rw [lane_replying, lane_correctionTaken, meter_applyCorrected]
      · rw [← pair] at still
        obtain ⟨lanes, pool⟩ := correctionTaken_still (n := n) still
        refine ⟨fun k => ?_, (pool_replying ..).trans pool⟩
        rw [State.sameLaneButSnapshot, lane_replying]
        exact lanes k
      · rw [← pair] at changes
        rw [lane_replying]
        exact correctionTaken_demands changes (here.trans pair.symm) up alone ready

end Sys2Proof.Machine
end

section
/-! SUPPORT. A record written to its number's entry, or to a victim (R137, R139). -/

namespace Sys2Proof.Machine

variable {d : Directory} {k o : Fin 112} {number average : Nat} {override : Option Nat} {slotted : Bool}

/-! ## Entries -/

/-- The index that a search finds is the lowest that passes. -/
theorem firstFin_some {n : Nat} {test : Fin n → Bool} {k : Fin n} (found : firstFin n test = some k) :
    test k = true ∧ ∀ j, j < k → test j = false := by
  refine ⟨List.find?_some found, fun j before => ?_⟩
  obtain ⟨-, m, bound, placed, earlier⟩ := List.find?_eq_some_iff_getElem.mp found
  have here : m = k.val := by
    rw [← placed]
    simp
  have fails := earlier j.val (here ▸ before)
  simpa using fails

theorem firstFin_of_exists {n : Nat} {test : Fin n → Bool} (passes : ∃ k, test k = true) :
    ∃ k, firstFin n test = some k := by
  refine Option.ne_none_iff_exists'.mp fun none => ?_
  obtain ⟨k, pass⟩ := passes
  exact nomatch (firstFin_eq_none.mp none k).symm.trans pass

/-- An entry of the Directory. -/
def Directory.entry (d : Directory) (k : Fin 112) : Entry := d.entries[k]

theorem entry_modEntry (d : Directory) (k o : Fin 112) (f : Entry → Entry) :
    (d.modEntry k f).entry o = if o = k then f (d.entry k) else d.entry o := by
  have apart : (k : Nat) = o ↔ o = k := ⟨fun same => Fin.ext same.symm, fun same => by rw [same]⟩
  refine (Vector.getElem_set (xs := d.entries) k.isLt o.isLt).trans (if_congr apart rfl rfl)

theorem entry_clearUsed (d : Directory) (o : Fin 112) :
    d.clearUsed.entry o = { d.entry o with used := (d.entry o).used && (d.entry o).locked } := by
  have mapped : d.clearUsed.entry o = if (d.entry o).locked then d.entry o else { d.entry o with used := false } :=
    Vector.getElem_map ..
  rw [mapped]
  generalize d.entry o = e
  cases e with
  | mk valid number average override used locked => cases locked <;> simp

/-! ## The victim (R139) -/

/-- An entry is invalid: the first such is the victim. -/
theorem victim_invalid (some : ∃ o, (d.entry o).valid = false) :
    d.victim.1 = d ∧ (d.entry d.victim.2).valid = false ∧ ∀ o, o < d.victim.2 → (d.entry o).valid = true := by
  have passes : ∃ o, (!(d.entry o).valid) = true := some.imp fun o invalid => by rw [invalid]; rfl
  obtain ⟨k, found⟩ := firstFin_of_exists passes
  have victim : d.victim = (d, k) := by
    unfold Directory.entry at found
    rw [Directory.victim, found]
  obtain ⟨here, before⟩ := firstFin_some found
  rw [victim]
  exact ⟨rfl, by simpa using here, fun o earlier => by simpa using before o earlier⟩

/-- Every entry is valid. -/
theorem none_invalid (full : ∀ o, (d.entry o).valid = true) : firstFin 112 (fun k => !d.entries[k].valid) = none :=
  firstFin_eq_none.mpr fun o => (congrArg (!·) (full o) :)

/-- Every entry is valid, and one is unlocked with its used mark clear: the first such is the victim. -/
theorem victim_unused (full : ∀ o, (d.entry o).valid = true)
    (some : ∃ o, (d.entry o).locked = false ∧ (d.entry o).used = false) :
    d.victim.1 = d ∧ ((d.entry d.victim.2).locked = false ∧ (d.entry d.victim.2).used = false) ∧
      ∀ o, o < d.victim.2 → (d.entry o).locked = true ∨ (d.entry o).used = true := by
  have passes : ∃ o, (!(d.entry o).locked && !(d.entry o).used) = true :=
    some.imp fun o free => by rw [free.1, free.2]; rfl
  obtain ⟨k, found⟩ := firstFin_of_exists passes
  have victim : d.victim = (d, k) := by
    unfold Directory.entry at found
    rw [Directory.victim, none_invalid full, found]
  obtain ⟨here, before⟩ := firstFin_some found
  rw [victim]
  refine ⟨rfl, by simpa using here, fun o earlier => ?_⟩
  have marked := before o earlier
  rw [Bool.and_eq_false_iff] at marked
  simpa using marked

/-- Every entry is valid, and locked or used: the used marks of the unlocked are cleared, and the first of them is the
victim. -/
theorem victim_used (full : ∀ o, (d.entry o).valid = true ∧ ((d.entry o).locked = true ∨ (d.entry o).used = true))
    (some : ∃ o, (d.entry o).locked = false) :
    d.victim.1 = d.clearUsed ∧ (d.entry d.victim.2).locked = false ∧
      ∀ o, o < d.victim.2 → (d.entry o).locked = true := by
  have noneUnused : firstFin 112 (fun k => !(d.entry k).locked && !(d.entry k).used) = none :=
    firstFin_eq_none.mpr fun o => by
      rcases (full o).2 with locked | used
      · rw [locked]; rfl
      · rw [used]; exact Bool.and_false _
  have passes : ∃ o, (!(d.entry o).locked) = true := some.imp fun o unlocked => by rw [unlocked]; rfl
  obtain ⟨k, found⟩ := firstFin_of_exists passes
  have victim : d.victim = (d.clearUsed, k) := by
    unfold Directory.entry at found noneUnused
    rw [Directory.victim, none_invalid fun o => (full o).1, noneUnused, found]
    rfl
  obtain ⟨here, before⟩ := firstFin_some found
  rw [victim]
  exact ⟨rfl, by simpa using here, fun o earlier => by simpa using before o earlier⟩

/-- The victim choice changes no more than used marks. -/
theorem victim_fst (d : Directory) : d.victim.1 = d ∨ d.victim.1 = d.clearUsed := by
  unfold Directory.victim
  split
  · exact .inl rfl
  · split
    · exact .inl rfl
    · exact .inr rfl

theorem entry_victim (d : Directory) (o : Fin 112) : ∃ used, d.victim.1.entry o = { d.entry o with used := used } := by
  rcases victim_fst d with same | cleared
  · exact ⟨(d.entry o).used, by rw [same]⟩
  · exact ⟨_, by rw [cleared]; exact entry_clearUsed d o⟩

/-! ## The record (R137) -/

/-- The Directory with a record written, its entry locked where the number stands on a roster. -/
def Directory.recorded (d : Directory) (number average : Nat) (override : Option Nat) (slotted : Bool) : Directory :=
  let w := d.write number average override
  if slotted then w.directory.modEntry w.index fun e => { e with locked := true } else w.directory

theorem directory_writeRecord (s : State) (number average : Nat) (override : Option Nat) :
    (s.writeRecord number average override).directory =
      s.directory.recorded number average override (s.findSlot number).isSome := rfl

/-- The entry of a record. -/
def Entry.record (number average : Nat) (override : Option Nat) (locked : Bool) : Entry :=
  ⟨true, number, average, override, true, locked⟩

/-- What the lock leaves of the entries. -/
theorem entry_locked (d : Directory) (number average : Nat) (override : Option Nat) (slotted : Bool) (o : Fin 112) :
    (d.recorded number average override slotted).entry o =
      if o = (d.write number average override).index then
        { (d.write number average override).directory.entry o with
          locked := slotted || ((d.write number average override).directory.entry o).locked }
      else (d.write number average override).directory.entry o := by
  rw [Directory.recorded]
  cases slotted with
  | true =>
    dsimp only
    rw [if_pos rfl, entry_modEntry]
    split
    next own =>
      rw [own]
      rfl
    next => rfl
  | false =>
    dsimp only
    rw [if_neg nofun]
    split <;> rfl

theorem write_known (found : d.find number = some k) :
    d.write number average override =
      ⟨d.modEntry k fun e => { e with average := average, override := override, used := true }, k, false⟩ := by
  rw [Directory.write, found]

theorem write_victim (lost : d.find number = none) :
    d.write number average override =
      ⟨d.victim.1.modEntry d.victim.2 fun _ => .record number average override false, d.victim.2,
        (d.victim.1.entry d.victim.2).valid⟩ := by
  rw [Directory.write, lost]
  rfl

/-- The entry that is found is the first that is valid and holds the number. -/
theorem find_some (found : d.find number = some k) :
    ((d.entry k).valid = true ∧ (d.entry k).number = number) ∧
      ∀ j, j < k → (d.entry j).valid = true → (d.entry j).number ≠ number := by
  have whole : ((d.entry k).valid && (d.entry k).number == number) = true ∧
      ∀ j, j < k → ((d.entry j).valid && (d.entry j).number == number) = false := firstFin_some found
  obtain ⟨here, before⟩ := whole
  rw [Bool.and_eq_true, beq_iff_eq] at here
  refine ⟨here, fun j earlier valid => ?_⟩
  have misses := before j earlier
  rw [valid, Bool.true_and] at misses
  exact beq_eq_false_iff_ne.mp misses

/-- The entry of the record, once it is written. -/
theorem entry_recorded (d : Directory) (number average : Nat) (override : Option Nat) (slotted : Bool) :
    (d.recorded number average override slotted).entry ((d.write number average override).index) =
      .record number average override (slotted || ((d.find number).any fun k => (d.entry k).locked)) := by
  rw [entry_locked, if_pos rfl]
  cases found : d.find number with
  | some k =>
    obtain ⟨⟨valid, holds⟩, -⟩ := find_some found
    rw [write_known found]
    dsimp only
    rw [entry_modEntry, if_pos rfl, Option.any_some, Entry.record, valid, holds]
  | none =>
    rw [write_victim found]
    dsimp only
    rw [entry_modEntry, if_pos rfl]
    rfl

/-- The entries beside the record: those of the Directory that the victim was chosen in. -/
theorem others_recorded_known (found : d.find number = some k) (other : o ≠ k) :
    (d.recorded number average override slotted).entry o = d.entry o := by
  rw [entry_locked, write_known found]
  dsimp only
  rw [if_neg other, entry_modEntry, if_neg other]

theorem others_recorded_victim (lost : d.find number = none) (other : o ≠ d.victim.2) :
    (d.recorded number average override slotted).entry o = d.victim.1.entry o := by
  rw [entry_locked, write_victim lost]
  dsimp only
  rw [if_neg other, entry_modEntry, if_neg other]

/-- No entry before the record holds its number. -/
theorem before_recorded {j : Fin 112} (before : j < (d.write number average override).index)
    (valid : ((d.recorded number average override slotted).entry j).valid = true) :
    ((d.recorded number average override slotted).entry j).number ≠ number := by
  cases found : d.find number with
  | some k =>
    have index : (d.write number average override).index = k := by rw [write_known found]
    rw [index] at before
    rw [others_recorded_known found before.ne] at valid ⊢
    exact (find_some found).2 j before valid
  | none =>
    have index : (d.write number average override).index = d.victim.2 := by rw [write_victim found]
    rw [index] at before
    rw [others_recorded_victim found before.ne] at valid ⊢
    obtain ⟨used, same⟩ := entry_victim d j
    rw [same] at valid ⊢
    exact (find_eq_none d number).mp found j valid

/-- A record that is written is found. -/
theorem find_recorded (d : Directory) (number average : Nat) (override : Option Nat) (slotted : Bool) :
    (d.recorded number average override slotted).find number = some (d.write number average override).index := by
  have entry := entry_recorded d number average override slotted
  exact find_eq_some (congrArg Entry.valid entry :) (congrArg Entry.number entry :) fun j before valid =>
    before_recorded (slotted := slotted) before valid

/-- Beside the entries, the Directory stands as it was. -/
theorem rest_recorded (d : Directory) (number average : Nat) (override : Option Nat) (slotted : Bool) :
    (d.recorded number average override slotted).ranges = d.ranges ∧
      (d.recorded number average override slotted).fetch = d.fetch := by
  have chosen : d.victim.1.ranges = d.ranges ∧ d.victim.1.fetch = d.fetch := by
    rcases victim_fst d with same | cleared
    · rw [same]
      exact ⟨rfl, rfl⟩
    · rw [cleared]
      exact ⟨rfl, rfl⟩
  have written : (d.write number average override).directory.ranges = d.ranges ∧
      (d.write number average override).directory.fetch = d.fetch := by
    cases found : d.find number with
    | some k =>
      rw [write_known found]
      exact ⟨rfl, rfl⟩
    | none =>
      rw [write_victim found]
      exact chosen
  rw [Directory.recorded]
  cases slotted with
  | true => exact written
  | false => exact written

/-- The victim of a number that no entry holds, with the entries beside it (R139). -/
theorem victim_recorded (lost : d.find number = none) :
    let k := (d.write number average override).index
    let e := (d.recorded number average override slotted).entry
    (d.write number average override).victim = (d.entry k).valid ∧
      ((∃ o : Fin 112, (d.entry o).valid = false) →
        (d.entry k).valid = false ∧ (∀ o : Fin 112, o < k → (d.entry o).valid = true) ∧
          ∀ o : Fin 112, o ≠ k → e o = d.entry o) ∧
      ((∀ o : Fin 112, (d.entry o).valid = true) →
        (∃ o : Fin 112, (d.entry o).locked = false ∧ (d.entry o).used = false) →
        ((d.entry k).locked = false ∧ (d.entry k).used = false) ∧
          (∀ o : Fin 112, o < k → (d.entry o).locked = true ∨ (d.entry o).used = true) ∧
          ∀ o : Fin 112, o ≠ k → e o = d.entry o) ∧
      ((∀ o : Fin 112, (d.entry o).valid = true ∧ ((d.entry o).locked = true ∨ (d.entry o).used = true)) →
        (∃ o : Fin 112, (d.entry o).locked = false) →
        (d.entry k).locked = false ∧ (∀ o : Fin 112, o < k → (d.entry o).locked = true) ∧
          ∀ o : Fin 112, o ≠ k →
            e o = { d.entry o with used := (d.entry o).used && (d.entry o).locked }) := by
  have index : (d.write number average override).index = d.victim.2 := by rw [write_victim lost]
  dsimp only
  rw [index]
  refine ⟨?_, fun some => ?_, fun full some => ?_, fun full some => ?_⟩
  · obtain ⟨used, same⟩ := entry_victim d d.victim.2
    rw [write_victim lost]
    dsimp only
    rw [same]
  · obtain ⟨same, here, before⟩ := victim_invalid some
    exact ⟨here, before, fun o other => by rw [others_recorded_victim lost other, same]⟩
  · obtain ⟨same, here, before⟩ := victim_unused full some
    exact ⟨here, before, fun o other => by rw [others_recorded_victim lost other, same]⟩
  · obtain ⟨cleared, here, before⟩ := victim_used full some
    exact ⟨here, before, fun o other => by rw [others_recorded_victim lost other, cleared, entry_clearUsed]⟩

end Sys2Proof.Machine
end

section
/-! PROOFS. The desk's answers about a bowler: SUPPLY, UPDATE and UNKNOWN BOWLER (R106, R137 to R141). -/

namespace Sys2Proof.Machine

variable {s t m : State} {number average : Nat} {override : Option Nat} {p o : Fin 8} {i j : Fin 12} {src : AverageSource}

/-! ## The slot that holds a number -/

theorem bowler_of_findSlot (found : s.findSlot number = some (p, i)) : (s.slot p i).bowler = some number := by
  have holds := List.find?_some found
  simpa using holds

/-- Numbers that take room in the fetch queue move no bowler. -/
theorem findSlot_of_fetches (h : s.fetchesTo t) (number : Nat) : t.findSlot number = s.findSlot number := by
  have bowler (a : Fin 8 × Fin 12) : (t.slot a.1 a.2).bowler = (s.slot a.1 a.2).bowler := by
    rw [butFetch_of_fetchesTo ((h a.1).2 a.2)]
  rw [State.findSlot, State.findSlot]
  simp only [bowler]

/-! ## The number leaves the fetch queue (R134, R135) -/

/-- The records of a Directory: its entries and its range entries. -/
def Directory.shelves (d : Directory) : Vector Entry 112 × Vector RangeEntry 8 := (d.entries, d.ranges)

theorem shelves_fillFetch (s : State) (fuel : Nat) : (s.fillFetch fuel).directory.shelves = s.directory.shelves := by
  induction fuel generalizing s with
  | zero => rfl
  | succ fuel ih =>
    unfold State.fillFetch
    split
    · split
      · rw [ih, directory_updSlot]
        rfl
      · rfl
    · rfl

theorem shelves_leaveFetch (s : State) (number : Nat) : (s.leaveFetch number).directory.shelves = s.directory.shelves := by
  unfold State.leaveFetch
  split
  · rw [shelves_fillFetch]
    rfl
  · rfl

/-- Where no slot is DEFERRED, the number leaves the queue and none joins. -/
theorem fetch_leaveFetch (settled : s.firstDeferred = none) (number : Nat) :
    (s.leaveFetch number).directory.fetch = s.directory.fetch.filter (· != number) := by
  have settled : (s.modDirectory fun d => { d with fetch := d.fetch.filter (· != number) }).firstDeferred = none := settled
  unfold State.leaveFetch
  split
  · rw [State.fillFetch, settled]
    split <;> rfl
  next absent =>
    refine (List.filter_eq_self.mpr fun n member => ?_).symm
    rw [bne_iff_ne]
    rintro rfl
    exact absent member

theorem find_of_shelves {d e : Directory} (same : e.shelves = d.shelves) (number : Nat) : e.find number = d.find number := by
  have entries : e.entries = d.entries := congrArg Prod.fst same
  rw [Directory.find, Directory.find, entries]

/-! ## A slot takes a source (R106, R138, R140) -/

/-- A slot with an average source that the desk has settled. -/
def Slot.settled (x : Slot) (src : AverageSource) : Slot := { x with source := src, fetch := .none }

/-- A slot takes a source, and a handicap that waits for it. -/
def State.sourced (s : State) (p : Fin 8) (i : Fin 12) (src : AverageSource) : State :=
  (s.updSlot p i fun x => x.settled src).settleHandicap p i

/-- A slot that has taken a source, with the handicap that it is given where it waits for one. -/
def Slot.sourced (x : Slot) (src : AverageSource) (given : Handicap) : Slot :=
  { x with
    source := src, fetch := .none
    handicap := if x.stage ≠ .waiting ∧ x.handicap = .pending then given else x.handicap }

theorem turn_sourced (s : State) (p : Fin 8) (i : Fin 12) (src : AverageSource) :
    (s.sourced p i src).turn p =
      (s.turn p).modSlot i fun x =>
        x.sourced src (((s.slot p i).settled src).handicapBy s.directory (s.turn p).settings) := by
  have turn : (s.updSlot p i fun x => x.settled src).turn p = (s.turn p).modSlot i fun x => x.settled src := turn_updSlot ..
  have slot : (s.updSlot p i fun x => x.settled src).slot p i = (s.slot p i).settled src := slot_updSlot_same ..
  have settings : ((s.turn p).modSlot i fun x => x.settled src).settings = (s.turn p).settings := rfl
  rw [State.sourced, State.settleHandicap, slot, handicapOf_eq, slot, turn, directory_updSlot, settings]
  generalize ((s.slot p i).settled src).handicapBy s.directory (s.turn p).settings = given
  split
  next settles =>
    have settles : (s.turn p).slots[i].stage ≠ .waiting ∧ (s.turn p).slots[i].handicap = .pending := settles
    rw [turn_updSlot, turn, modSlot_modSlot]
    refine modSlot_congr ?_
    rw [Slot.sourced, if_pos settles]
    rfl
  next stays =>
    have stays : ¬ ((s.turn p).slots[i].stage ≠ .waiting ∧ (s.turn p).slots[i].handicap = .pending) := stays
    rw [turn]
    refine modSlot_congr ?_
    rw [Slot.sourced, if_neg stays]
    rfl

theorem pairOther_sourced (s : State) (p : Fin 8) (i : Fin 12) (src : AverageSource) (other : o ≠ p) :
    (s.sourced p i src).pair o = s.pair o := by
  rw [State.sourced, pairOther_settleHandicap _ _ _ _ other, pairOther_updSlot _ _ _ _ _ other]

/-- The slot that takes its source, with the handicap that its Directory gives, and the others. -/
theorem slot_sourced (s : State) (p : Fin 8) (i : Fin 12) (src : AverageSource) (o : Fin 8) (j : Fin 12) :
    (s.sourced p i src).slot o j =
      if (o, j) = (p, i) then
        (s.slot p i).sourced src (((s.slot p i).settled src).handicapBy s.directory (s.turn p).settings)
      else s.slot o j := by
  by_cases here : o = p
  · subst here
    rw [State.slot, turn_sourced, slots_modSlot]
    by_cases own : j = i
    · subst own
      rw [if_pos rfl, if_pos rfl]
      rfl
    · rw [if_neg own, if_neg fun same => own (congrArg Prod.snd same)]
      rfl
  · rw [if_neg fun same => here (congrArg Prod.fst same), State.slot, State.turn, pairOther_sourced s p i src here]
    rfl

theorem queues_sourced (s : State) (p : Fin 8) (i : Fin 12) (src : AverageSource) (o : Fin 8) :
    ((s.sourced p i src).turn o).queueOdd = (s.turn o).queueOdd ∧
      ((s.sourced p i src).turn o).queueEven = (s.turn o).queueEven := by
  by_cases here : o = p
  · subst here
    rw [turn_sourced]
    exact ⟨rfl, rfl⟩
  · rw [State.turn, pairOther_sourced s p i src here]
    exact ⟨rfl, rfl⟩

/-! ## The desk's answer settles a source -/

/-- A state in which the slot that holds a number, if one does, has taken a source. -/
def State.answered (m : State) (number : Nat) (src : AverageSource) : State :=
  match m.findSlot number with
  | none => m
  | some (p, i) => m.sourced p i src

theorem resolveEntry_eq (m : State) (number : Nat) : m.resolveEntry number = m.answered number .entry := rfl

theorem unknownNumber_eq (s : State) (number : Nat) :
    s.unknownNumber number = (s.leaveFetch number).answered number .none := rfl

theorem answered_none (absent : m.findSlot number = none) (src : AverageSource) : m.answered number src = m := by
  rw [State.answered, absent]

theorem answered_some (found : m.findSlot number = some (p, i)) (src : AverageSource) :
    m.answered number src = m.sourced p i src := by
  rw [State.answered, found]

/-- Numbers that take the room in the fetch queue leave each queue and each slot, but for its fetch. -/
theorem slots_of_fetches (h : s.fetchesTo m) (o : Fin 8) (j : Fin 12) : s.sameSlotButFetch m o j :=
  butFetch_of_fetchesTo ((h o).2 j)

theorem settings_of_fetches (h : s.fetchesTo m) (o : Fin 8) :
    (m.turn o).settings = (s.turn o).settings ∧ (m.turn o).queueOdd = (s.turn o).queueOdd ∧
      (m.turn o).queueEven = (s.turn o).queueEven := by
  rw [(h o).1]
  exact ⟨rfl, rfl, rfl⟩

theorem queues_answered (h : s.fetchesTo m) (number : Nat) (src : AverageSource) (o : Fin 8) :
    ((m.answered number src).turn o).queueOdd = (s.turn o).queueOdd ∧
      ((m.answered number src).turn o).queueEven = (s.turn o).queueEven := by
  obtain ⟨-, odd, even⟩ := settings_of_fetches h o
  unfold State.answered
  split
  · exact ⟨odd, even⟩
  · obtain ⟨odd', even'⟩ := queues_sourced m _ _ src o
    exact ⟨odd'.trans odd, even'.trans even⟩

/-- What the answer leaves of the slots, where the Directory gives the source a handicap. -/
theorem slots_answered (h : s.fetchesTo m) (found : s.findSlot number = some (p, i)) {given : Handicap}
    (gives : ∀ x : Slot, x.bowler = some number → x.source = src →
      x.handicapBy m.directory (s.turn p).settings = given) :
    (m.answered number src).slot p i = (s.slot p i).sourced src given ∧
      ∀ o k, (o, k) ≠ (p, i) → s.sameSlotButFetch (m.answered number src) o k := by
  have found' : m.findSlot number = some (p, i) := (findSlot_of_fetches h number).trans found
  have slot := slots_of_fetches h p i
  rw [answered_some found']
  refine ⟨?_, fun o k other => ?_⟩
  · rw [slot_sourced, if_pos rfl, (settings_of_fetches h p).1, gives ((m.slot p i).settled src) (bowler_of_findSlot found') rfl, slot]
    rfl
  · have kept := slots_of_fetches h o k
    rw [State.sameSlotButFetch, slot_sourced, if_neg other]
    exact kept

theorem handicapBy_entry {d : Directory} {st : PairSettings} {k : Fin 112} (found : d.find number = some k) (x : Slot)
    (bowler : x.bowler = some number) (source : x.source = .entry) :
    x.handicapBy d st = .value (entryHandicap (d.entry k).average (d.entry k).override st) := by
  rw [Slot.handicapBy, source, bowler]
  dsimp only [Option.getD_some]
  rw [found]
  rfl

theorem handicapBy_none {d : Directory} {st : PairSettings} (x : Slot) (source : x.source = .none) :
    x.handicapBy d st = .value 0 := by
  rw [Slot.handicapBy, source]

/-! ## The requests -/

theorem recordIn_of (low : 1 ≤ number) (high : number ≤ 65534) (small : average ≤ 300)
    (limits : ∀ o, override = some o → o ≤ 300) : recordIn number average override = true := by
  rw [recordIn, (inBowlers_eq_true number).mpr ⟨low, high⟩, decide_eq_true small, optOut_within limits]
  rfl

section
variable (able : s.canServe .dk)
include able

theorem exec_supplyBowler (fits : recordIn number average override = true) :
    exec (.supplyBowler .dk number average override) s =
      .next ((s.supply number average override).replying .dk 0x2B .ok (s.directory.writtenBytes number average override)) := by
  have passes := directoryChecks_passed able.2 fits []
  rw [List.append_nil] at passes
  exact exec_accepted (i := .supplyBowler .dk number average override) rfl able.1 rfl passes nofun

theorem exec_updateBowler_pending (fits : recordIn number average override = true)
    (pending : s.pendingNumber number = true) :
    exec (.updateBowler .dk number average override) s = .next (s.replying .dk 0x2D .state []) :=
  exec_refused (i := .updateBowler .dk number average override) rfl able.1 rfl (by
    rw [directoryChecks_passed able.2 fits, pending]
    rfl) nofun

theorem exec_updateBowler (fits : recordIn number average override = true) (settled : s.pendingNumber number = false) :
    exec (.updateBowler .dk number average override) s =
      .next (((s.writeRecord number average override).resolveEntry number).replying .dk 0x2D .ok
        (s.directory.writtenBytes number average override)) :=
  exec_accepted (i := .updateBowler .dk number average override) rfl able.1 rfl (by
    rw [directoryChecks_passed able.2 fits, settled]
    rfl) nofun

theorem exec_unknownBowler_state (fits : inBowlers number = true) (settled : s.pendingNumber number = false) :
    exec (.unknownBowler .dk number) s = .next (s.replying .dk 0x2C .state []) :=
  exec_refused (i := .unknownBowler .dk number) rfl able.1 rfl (by
    rw [directoryChecks_passed able.2 fits, settled]
    rfl) nofun

theorem exec_unknownBowler (fits : inBowlers number = true) (pending : s.pendingNumber number = true) :
    exec (.unknownBowler .dk number) s = .next ((s.unknownNumber number).replying .dk 0x2C .ok []) :=
  exec_ok (i := .unknownBowler .dk number) rfl able.1 rfl (by
    rw [directoryChecks_passed able.2 fits, pending]
    rfl)

end

theorem pendingNumber_some (found : s.findSlot number = some (p, i)) :
    s.pendingNumber number = ((s.slot p i).source == .pending) := by
  rw [State.pendingNumber, found]

theorem pendingNumber_false (settled : ∀ p i, s.findSlot number = some (p, i) → (s.slot p i).source ≠ .pending) :
    s.pendingNumber number = false := by
  cases found : s.findSlot number with
  | none => rw [State.pendingNumber, found]
  | some a => rw [pendingNumber_some found, beq_eq_false_iff_ne.mpr (settled a.1 a.2 found)]

/-! ## The obligation -/

/-- The states that hold a record once it is written: as it is, or with the number out of the fetch queue. -/
structure State.holdsRecord (s m : State) (number average : Nat) (override : Option Nat) : Prop where
  line : ∀ q, (m.port q).line = (s.port q).line
  chip : m.chip = s.chip
  pool : m.pool = s.pool
  lane : ∀ l, m.lane l = s.lane l
  ret : ∀ p, m.ret p = s.ret p
  fetches : s.fetchesTo m
  shelves : m.directory.shelves =
    (s.directory.recorded number average override (s.findSlot number).isSome).shelves

theorem holdsRecord_writeRecord (s : State) (number average : Nat) (override : Option Nat) :
    s.holdsRecord (s.writeRecord number average override) number average override where
  line _ := line_writeRecord ..
  chip := chip_writeRecord ..
  pool := pool_writeRecord ..
  lane _ := lane_writeRecord ..
  ret _ := ret_writeRecord ..
  fetches := fetches_of_turn fun _ => rfl
  shelves := rfl

theorem holdsRecord_leaveFetch (s : State) (number average : Nat) (override : Option Nat) :
    s.holdsRecord ((s.writeRecord number average override).leaveFetch number) number average override where
  line _ := (line_leaveFetch ..).trans (line_writeRecord ..)
  chip := (chip_leaveFetch ..).trans (chip_writeRecord ..)
  pool := (pool_leaveFetch ..).trans (pool_writeRecord ..)
  lane _ := (lane_leaveFetch ..).trans (lane_writeRecord ..)
  ret _ := (ret_leaveFetch ..).trans (ret_writeRecord ..)
  fetches := fetches_trans (holdsRecord_writeRecord s number average override).fetches (fetches_leaveFetch _ _)
  shelves := shelves_leaveFetch ..

/-- The slots of the section once the record is written and its slot has its source. -/
theorem slots_holdsRecord (h : s.holdsRecord m number average override) (found : s.findSlot number = some (p, i)) :
    (m.resolveEntry number).slot p i =
        (s.slot p i).sourced .entry (.value (entryHandicap average override (s.turn p).settings)) ∧
      ∀ o k, (o, k) ≠ (p, i) → s.sameSlotButFetch (m.resolveEntry number) o k := by
  have written := find_recorded s.directory number average override (s.findSlot number).isSome
  rw [← find_of_shelves h.shelves] at written
  have entry := entry_recorded s.directory number average override (s.findSlot number).isSome
  have same (k : Fin 112) : m.directory.entry k =
      (s.directory.recorded number average override (s.findSlot number).isSome).entry k :=
    congrArg (fun d : Vector Entry 112 × Vector RangeEntry 8 => d.1[k]) h.shelves
  rw [resolveEntry_eq]
  refine slots_answered h.fetches found fun x bowler source => ?_
  rw [handicapBy_entry written x bowler source, same, entry]
  rfl

theorem slots_holdsRecord_absent (h : s.holdsRecord m number average override) (absent : s.findSlot number = none)
    (o : Fin 8) (j : Fin 12) : s.sameSlotButFetch (m.resolveEntry number) o j := by
  rw [resolveEntry_eq, answered_none ((findSlot_of_fetches h.fetches number).trans absent)]
  exact slots_of_fetches h.fetches o j

/-- What the desk's record leaves, and the reply to it. -/
theorem record_answered (h : s.holdsRecord m number average override) (code : Byte) :
    let t := (m.resolveEntry number).replying .dk code .ok (s.directory.writtenBytes number average override)
    let w := s.directory.write number average override
    let d := s.directory
    s.answers t .dk code .ok (byte1 (w.index.val + 1) ++ byteBool w.victim) ∧ t.chip = s.chip ∧ t.pool = s.pool ∧
      t.lanes = s.lanes ∧ (∀ p, t.ret p = s.ret p) ∧ t.directory.ranges = d.ranges ∧
      t.directory.entry w.index = .record number average override
        ((s.findSlot number).isSome || ((d.find number).any fun k => (d.entry k).locked)) ∧
      (∀ j, d.find number = some j → w.index = j ∧ w.victim = false ∧ ∀ o, o ≠ w.index → t.directory.entry o = d.entry o) ∧
      ∀ o, t.directory.entry o = (d.recorded number average override (s.findSlot number).isSome).entry o := by
  have directory : ((m.resolveEntry number).replying .dk code .ok
      (s.directory.writtenBytes number average override)).directory.shelves =
      (s.directory.recorded number average override (s.findSlot number).isSome).shelves := by
    rw [directory_replying, directory_resolveEntry, h.shelves]
  have entry (o : Fin 112) : ((m.resolveEntry number).replying .dk code .ok
      (s.directory.writtenBytes number average override)).directory.entry o =
      (s.directory.recorded number average override (s.findSlot number).isSome).entry o :=
    congrArg (fun d : Vector Entry 112 × Vector RangeEntry 8 => d.1[o]) directory
  refine ⟨answers_replying (fun q => (line_resolveEntry ..).trans (h.line q)) _ _ _ _,
    (chip_replying ..).trans ((chip_resolveEntry ..).trans h.chip),
    (pool_replying ..).trans ((pool_resolveEntry ..).trans h.pool),
    lanes_ext fun l => (lane_replying ..).trans ((lane_resolveEntry ..).trans (h.lane l)),
    fun p => (ret_replying ..).trans ((ret_resolveEntry ..).trans (h.ret p)),
    (congrArg Prod.snd directory).trans (rest_recorded ..).1, (entry _).trans (entry_recorded ..), fun j found => ?_, entry⟩
  have written := write_known (average := average) (override := override) found
  refine ⟨by rw [written], by rw [written], fun o other => ?_⟩
  rw [written] at other
  rw [entry, others_recorded_known found other]

/-- The fetch queue once a record is written (R134, R141). -/
theorem fetch_updateBowler (s : State) (number average : Nat) (override : Option Nat) :
    ((s.writeRecord number average override).resolveEntry number).directory.fetch = s.directory.fetch := by
  rw [directory_resolveEntry, directory_writeRecord, (rest_recorded ..).2]

theorem fetch_supply (settled : s.firstDeferred = none) (number average : Nat) (override : Option Nat) :
    (s.supply number average override).directory.fetch = s.directory.fetch.filter (· != number) := by
  have settled : (s.writeRecord number average override).firstDeferred = none := settled
  rw [State.supply, directory_resolveEntry, fetch_leaveFetch settled, directory_writeRecord, (rest_recorded ..).2]

/-- SUPPLY BOWLER and UPDATE BOWLER, by the state in which the record stands and the slot waits for its source. -/
theorem exec_record (able : s.canServe .dk) (fits : recordIn number average override = true) {code : Byte} {i : Instr}
    (request : (i, code) ∈ [(Instr.supplyBowler .dk number average override, (0x2B : Byte)),
      (.updateBowler .dk number average override, 0x2D)])
    (settled : code = 0x2D → s.pendingNumber number = false) :
    ∃ m, s.holdsRecord m number average override ∧
      exec i s =
        .next ((m.resolveEntry number).replying .dk code .ok (s.directory.writtenBytes number average override)) ∧
      (code = 0x2D → (m.resolveEntry number).directory.fetch = s.directory.fetch) ∧
      (code = 0x2B → s.firstDeferred = none →
        (m.resolveEntry number).directory.fetch = s.directory.fetch.filter (· != number)) := by
  rw [List.mem_cons, List.mem_singleton, Prod.mk.injEq, Prod.mk.injEq] at request
  rcases request with ⟨rfl, rfl⟩ | ⟨rfl, rfl⟩
  · exact ⟨_, holdsRecord_leaveFetch s number average override, exec_supplyBowler able fits, nofun,
      fun _ deferred => fetch_supply deferred number average override⟩
  · exact ⟨_, holdsRecord_writeRecord s number average override, exec_updateBowler able fits (settled rfl),
      fun _ => fetch_updateBowler s number average override, nofun⟩

/-- The slot of a number that the desk does not know. -/
theorem unknown_answered (found : s.findSlot number = some (p, i)) :
    (s.unknownNumber number).slot p i = (s.slot p i).sourced .none (.value 0) ∧
      ∀ o k, (o, k) ≠ (p, i) → s.sameSlotButFetch (s.unknownNumber number) o k := by
  rw [unknownNumber_eq]
  exact slots_answered (fetches_leaveFetch s number) found fun x _ source => handicapBy_none x source

theorem directory_unknownNumber (s : State) (number : Nat) :
    (s.unknownNumber number).directory = (s.leaveFetch number).directory := by
  rw [unknownNumber_eq]
  unfold State.answered
  split
  · rfl
  · rw [State.sourced, directory_settleHandicap, directory_updSlot]

theorem slot_replying_eq (t : State) (code : Byte) (results : List Byte) (o : Fin 8) (j : Fin 12) :
    (t.replying .dk code .ok results).slot o j = t.slot o j := by
  rw [State.slot, turn_replying]
  rfl

theorem sameSlotButFetch_replying (h : s.sameSlotButFetch t o j) (code : Byte) (results : List Byte) :
    s.sameSlotButFetch (t.replying .dk code .ok results) o j := by
  rw [State.sameSlotButFetch, slot_replying_eq]
  exact h

/-- Settles O49, by the record that the Directory holds, and by the slot that its number is found in. -/
theorem deskAnswersTheDirectory : Obligations.DeskAnswersTheDirectory := by
  unfold Obligations.DeskAnswersTheDirectory
  refine ⟨fun number average override code i s able low high small limits request => ?_,
    fun number s able low high => ⟨fun settled => ?_, fun p i found pending => ?_⟩⟩
  · have fits := recordIn_of low high small limits
    refine ⟨fun update pending => ?_, fun settled => ?_⟩
    · subst update
      rw [List.mem_cons, List.mem_singleton, Prod.mk.injEq, Prod.mk.injEq] at request
      obtain ⟨rfl, -⟩ := request.resolve_left fun supply => nomatch supply.2
      exact exec_updateBowler_pending able fits pending
    · obtain ⟨m, holds, served, update, supply⟩ := exec_record able fits request settled
      obtain ⟨answered, chip, pool, lanes, ret, ranges, entry, known, others⟩ := record_answered holds code
      refine ⟨_, _, _, served, answered, chip, pool, lanes, ret, ranges, ⟨entry, known, fun lost => ?_⟩, fun updates => ?_,
        fun supplies deferred => ?_, fun absent p j => ?_, fun p j found => ?_, fun p => ?_⟩
      · obtain ⟨victim, invalid, unused, used⟩ := victim_recorded (average := average) (override := override)
          (slotted := (s.findSlot number).isSome) lost
        refine ⟨victim, fun some => ?_, fun full some => ?_, fun full some => ?_⟩
        · obtain ⟨here, before, beside⟩ := invalid some
          exact ⟨here, before, fun o other => (others o).trans (beside o other)⟩
        · obtain ⟨here, before, beside⟩ := unused full some
          exact ⟨here, before, fun o other => (others o).trans (beside o other)⟩
        · obtain ⟨here, before, beside⟩ := used full some
          exact ⟨here, before, fun o other => (others o).trans (beside o other)⟩
      · rw [directory_replying, update updates]
      · rw [directory_replying, supply supplies deferred]
      · exact sameSlotButFetch_replying (slots_holdsRecord_absent holds absent p j) _ _
      · obtain ⟨own, beside⟩ := slots_holdsRecord holds found
        rw [slot_replying_eq]
        exact ⟨own, fun o k other => sameSlotButFetch_replying (beside o k other) _ _⟩
      · rw [turn_replying]
        exact queues_answered holds.fetches number .entry p
  · exact exec_unknownBowler_state able ((inBowlers_eq_true number).mpr ⟨low, high⟩) (pendingNumber_false settled)
  · have waits : s.pendingNumber number = true := by rw [pendingNumber_some found, pending]; rfl
    obtain ⟨own, beside⟩ := unknown_answered found
    have shelves : ((s.unknownNumber number).replying .dk 0x2C .ok []).directory.shelves = s.directory.shelves := by
      rw [directory_replying, directory_unknownNumber, shelves_leaveFetch]
    refine ⟨_, exec_unknownBowler able ((inBowlers_eq_true number).mpr ⟨low, high⟩) waits,
      answers_replying (fun q => line_unknownNumber ..) _ _ _ _, (chip_replying ..).trans (chip_unknownNumber ..),
      (pool_replying ..).trans (pool_unknownNumber ..),
      lanes_ext fun l => (lane_replying ..).trans (lane_unknownNumber ..),
      fun o => (ret_replying ..).trans (ret_unknownNumber ..), congrArg Prod.fst shelves, congrArg Prod.snd shelves,
      fun deferred => ?_, ?_, fun o k other => sameSlotButFetch_replying (beside o k other) _ _⟩
    · rw [directory_replying, directory_unknownNumber, fetch_leaveFetch deferred]
    · rw [slot_replying_eq, own]
      rfl

end Sys2Proof.Machine
end
